-- ==== Sys2Proof/Word.lean ====
section
/-! DEFINITION. The word types of the WL-9200 and the sparse table that holds every indexed array of its state. -/

namespace Sys2Proof

/-- One byte. -/
abbrev Byte := BitVec 8
/-- A 16-bit field. -/
abbrev W16 := BitVec 16
/-- A register of BAR0 (00_scope, Registers and fields). -/
abbrev W32 := BitVec 32
/-- A general register of a context (Table 3.1). -/
abbrev W64 := BitVec 64

/-- A sparse table with natural keys: what every key not listed holds is `d`. Canonical form: keys rising,
no listed entry equal to `d` (`Table.wf`), so equal tables are equal data. -/
structure Table (α : Type) (d : α) where
  cells : List (Nat × α)
  deriving DecidableEq, Repr

namespace Table

variable {α : Type} {d : α}

/-- The table that holds `d` everywhere. -/
def empty : Table α d := ⟨[]⟩

/-- Lookup in a list of cells. -/
def look (d : α) : List (Nat × α) → Nat → α
  | [], _ => d
  | (i, a) :: t, k => if i = k then a else look d t k

/-- The value at key `k`. -/
def get (m : Table α d) (k : Nat) : α := look d m.cells k

/-- Removal of key `k` from a list of cells. -/
def dropKey : List (Nat × α) → Nat → List (Nat × α)
  | [], _ => []
  | (i, a) :: t, k => if i = k then dropKey t k else (i, a) :: dropKey t k

/-- Insertion of a cell at its place in a rising list. -/
def insertKey : List (Nat × α) → Nat → α → List (Nat × α)
  | [], k, v => [(k, v)]
  | (i, a) :: t, k, v => if k < i then (k, v) :: (i, a) :: t else if k = i then (k, v) :: t else (i, a) :: insertKey t k v

/-- Write of `v` at key `k`; writing `d` removes the entry. -/
def set [DecidableEq α] (m : Table α d) (k : Nat) (v : α) : Table α d :=
  if v = d then ⟨dropKey m.cells k⟩ else ⟨insertKey m.cells k v⟩

/-- Change of the value at key `k`. -/
def modify [DecidableEq α] (m : Table α d) (k : Nat) (f : α → α) : Table α d := m.set k (f (m.get k))

/-- Keys strictly rising. -/
def rising : List (Nat × α) → Bool
  | [] => true
  | [_] => true
  | (i, _) :: (j, b) :: t => decide (i < j) && rising ((j, b) :: t)

/-- The canonical form of a table. -/
def wf [DecidableEq α] (m : Table α d) : Bool :=
  rising m.cells && m.cells.all (fun c => decide (c.2 ≠ d))

end Table

/-- A natural number as a word of the width wanted. -/
abbrev toW32 (n : Nat) : W32 := BitVec.ofNat 32 n
/-- A natural number as a 64-bit word. -/
abbrev toW64 (n : Nat) : W64 := BitVec.ofNat 64 n

/-- Field [hi:lo] of a word, as a number. -/
def fieldOf {w : Nat} (v : BitVec w) (hi lo : Nat) : Nat := (v.toNat >>> lo) % 2 ^ (hi + 1 - lo)

/-- One bit of a word. -/
def bitOf {w : Nat} (v : BitVec w) (i : Nat) : Bool := v.getLsbD i

/-- A bit as the numbers 0 and 1. -/
def b2n (b : Bool) : Nat := if b then 1 else 0

end Sys2Proof
end

