-- ==== Sys2Proof/Syntax.lean ====
section
/-! DEFINITION. The commands of the block: one constructor of `Instr` for each row of spec/opcode_table.json, with the
operands that the sender of the command supplies. -/

namespace Sys2Proof

/-- The two PCI Express ports (02_host_queues, The two endpoints). -/
inductive PortId where
  | a | b
  deriving DecidableEq, Repr

/-- The access paths of registers (R99, R420): the two ports; the I2C and JTAG paths, which name the port whose copies
they reach (R414, Table 18.5); the fuse setting block and the boot-flash overlay. -/
inductive Path where
  | port (p : PortId)
  | i2c (p : PortId)
  | jtag (p : PortId)
  | fuse
  | overlay
  deriving DecidableEq, Repr

/-- The address space of a host access: the registers of BAR0, or the MSI-X table of BAR2 (R45). -/
inductive Bar where
  | bar0 | bar2
  deriving DecidableEq, Repr

/-- Host memory cells that the host has placed and the device now reads: address and byte. -/
abbrev HostWrites := List (Nat × Byte)

/-- Causes of a port loss (R24). -/
inductive LossCause where
  | perst | linkDown | refclk | hotReset | flr | d3hot
  deriving DecidableEq, Repr

/-- Error classes (Table 13.1). -/
inductive EClass where
  | c0 | c1 | c2 | c3 | c4 | c5
  deriving DecidableEq, Repr

/-- A unit: origin code of Table 4.1 and instance (R282). -/
structure UnitId where
  origin : Nat
  inst : Nat
  deriving DecidableEq, Repr

/-- How an instruction that took time ends at its finish (R95): its work is done, or the cause outside the device that
stops it, as a status; or FORMAT has read its primer back, each unit of copy 0 and then of copy 1 good on so many tracks (R209). -/
inductive FinishCause where
  | done
  | failed (status : W16)
  | checked (good : List Nat)
  deriving DecidableEq, Repr

/-- A microthread's way to a malformed word: the context, and the level of the condition and the stop signal at each word before it (R370, R371). -/
structure MicroRun where
  ctx : Nat
  seen : List (Bool × Bool)
  deriving DecidableEq, Repr

/-- The frame of a cascade message (R335): what its MSG block gives (source, destination, sequence, carried stamp, payload length), the CRC and the
sequence of its END block, and the direction it travels in. -/
structure MsgHead where
  src : Nat
  dst : Nat
  seq : Nat
  stampT : Nat
  stampO : BitVec 8
  len : Nat
  crc : W32
  endSeq : Nat
  clockwise : Bool
  deriving DecidableEq, Repr

/-- The two cascade ports (R331). -/
inductive CasPort where
  | c0 | c1
  deriving DecidableEq, Repr

/-- Set-wide operations carried by SET_OP (R343, R348): their start with its argument and the mode, k and m in force (opcode 0: the mode
alone, R339), a member's commit or failure, and stripe reports: a forme assembled, or its parity accepted. -/
inductive SetOp where
  | start (opcode : Nat) (arg : W64) (mode : Nat) (k : Nat) (m : Nat)
  | committed (opcode : Nat)
  | failed (opcode : Nat) (status : W16)
  | stripe (number : Nat) (accepted : Bool)
  deriving DecidableEq, Repr

/-- The units of the write and restore paths that request and hold pool buffers (Tables 5.2 and 5.5). -/
inductive BufUnit where
  | compressor | decompressor | cipher | forme | restore | directory | cascade | recovery
  | verify | encoder | distributor | rewrite | l3 | index
  deriving DecidableEq, Repr

/-- The outcome of a compressor lane's work on a block (R127, R129): a frame, or a stop because it would not be smaller. -/
inductive FrameResult where
  | frame (bytes : List Byte)
  | notSmaller
  deriving DecidableEq, Repr

/-- The verdict of a verify lane (R128): pass, or mismatch at a byte offset (0x7F_FFFF for a decode, length or checksum failure). -/
inductive Verdict where
  | pass
  | mismatch (offset : Nat)
  deriving DecidableEq, Repr

/-- A command of the block: one constructor for each row of spec/opcode_table.json. -/
inductive Instr where
  -- Host queues (02_host_queues)
  | sqTailDoorbell (p : PortId) (qid : BitVec 9) (value : W32)
  | cqHeadDoorbell (p : PortId) (qid : BitVec 9) (value : W32)
  | queueCreate (path : Path)
  | queueDelete (path : Path)
  | sqeFetch (mem : HostWrites)
  | contextDispatch (c : Nat)
  | programLineArrive (e : Nat) (mem : HostWrites) (ok : Bool)
  | completionPost (p : PortId) (qid : Nat)
  | coalesceTimeout (p : PortId) (v : Nat)
  | vectorUnmask (p : PortId) (v : Nat)
  | noticePost
  | portLoss (p : PortId) (cause : LossCause)
  | portLinkUp (p : PortId) (flit : Bool) (speed : Nat) (width : Nat)
  | busMasterEnable (p : PortId) (on : Bool)
  | queueMemoryError (p : PortId) (qid : Nat) (cqWrite : Bool)
  -- Register, branch and wait instructions (Table 3.5), issued by context c
  | add (c : Nat)
  | sub (c : Nat)
  | and (c : Nat)
  | or (c : Nat)
  | xor (c : Nat)
  | shl (c : Nat)
  | shr (c : Nat)
  | sar (c : Nat)
  | mul (c : Nat)
  | addi (c : Nat)
  | movi (c : Nat)
  | cmp (c : Nat)
  | cmpi (c : Nat)
  | andi (c : Nat)
  | b (c : Nat)
  | call (c : Nat)
  | ret (c : Nat)
  | br (c : Nat)
  | wait (c : Nat)
  | waitExpire (c : Nat)
  | end_ (c : Nat)
  -- Device instructions (Tables 3.6 to 3.12), issued by context c
  | ld (c : Nat) (mem : HostWrites) (ok : Bool)
  | st (c : Nat) (ok : Bool)
  | dseek (c : Nat)
  | put (c : Nat)
  | patch (c : Nat)
  | get (c : Nat)
  | delete (c : Nat)
  | stat (c : Nat)
  | compress (c : Nat)
  | decompress (c : Nat)
  | format (c : Nat)
  | load (c : Nat)
  | unload (c : Nat)
  | locate (c : Nat)
  | seal (c : Nat)
  | flush (c : Nat)
  | migrate (c : Nat)
  | keyImport (c : Nat) (mem : HostWrites) (ok : Bool)
  | keyLoad (c : Nat) (mem : HostWrites) (ok : Bool)
  | keySave (c : Nat) (ok : Bool)
  | keyErase (c : Nat)
  | keyEraseNow (c : Nat)
  | bufAlloc (c : Nat)
  | bufShare (c : Nat)
  | bufFree (c : Nat)
  | abort (c : Nat)
  | fence (c : Nat)
  | maintEnter (c : Nat)
  | maintExit (c : Nat)
  | movePos (c : Nat)
  | moveVel (c : Nat)
  | moveStop (c : Nat)
  | headSeek (c : Nat)
  | thread (c : Nat)
  | unthread (c : Nat)
  | snap (c : Nat)
  | qstat (c : Nat)
  | instructionFinish (c : Nat) (cause : FinishCause)
  | writeCommit (c : Nat)
  | indexLookup (c : Nat)
  | indexRebuild (path : Path)
  | indexRebuildDone (micros16 : Nat)
  -- Buffer pools (05_buffer_pools)
  | carveApply (path : Path)
  | bufferRequest (u : BufUnit) (size : Nat) (spill : Bool)
  | bufferRelease (u : BufUnit) (buf : Nat)
  -- Ingest and compression (06_ingest_compression)
  | ingestDataArrive (c : Nat) (n : Nat) (mem : HostWrites) (ok : Bool)
  | fifoDrainStart (p : PortId) (f : Nat)
  | compressBlockStart (lane : Nat)
  | blockCompressed (lane : Nat) (r : FrameResult)
  | verifyVerdict (lane : Nat) (v : Verdict)
  | blockReleaseToCipher
  | restoreBlockDecode (c : Nat) (k : Nat) (lane : Nat) (ok : Bool)
  | restoreBlockRetry (c : Nat) (k : Nat) (lane : Nat) (ok : Bool)
  -- Cipher complex (07_cipher_keys)
  | blockJoinRecord
  | recordIdleClose (slot : Nat)
  | recordTagDone (pipe : Nat)
  | ivLogEnable (path : Path) (value : W32)
  | restoreRecordCheck (c : Nat) (k : Nat) (tagOk : Bool)
  | revocationDone (slot : Nat)
  | rngHealthFail
  -- Formes, sheaves and proof (08, 09)
  | formeAssemble
  | writeRunStart
  | proofLagMeasure (found : Option Nat)
  | formePositionSend
  | proofRowResult (copy : Nat) (row : Nat) (mark : Option Nat)
  | proofVerdict (copy : Nat)
  | stepEval
  | runIdleStop
  | endRun (path : Path)
  | resume (path : Path)
  | sheafTurn
  | readTurnEnd
  -- Restoring (10_restore_directory)
  | formeDecode (sheaf position slot : Nat) (marks : List (Nat × Nat))
  | l3RecoveryDone (groupBase : Nat) (ok : Bool) (others : List (Nat × List (Nat × List Byte)))
  | cartridgePresent
  | cartridgeLoss
  -- Head links (11_head_links)
  | linkEnable (path : Path) (value : W32)
  | linkRetry (path : Path) (t : Nat)
  | linkSignalDetect (t : Nat)
  | linkAdaptDone (t : Nat)
  | linkAlignLock (t : Nat)
  | link (t : Nat) (blk : BitVec 256)
  | linkTrainTimeout (t : Nat)
  | linkReadyDeadline (t : Nat)
  | linkLoss (t : Nat)
  | statusTimeout (t : Nat)
  | symbolBlockRx (t : Nat) (block : BitVec 256)
  | pes (t : Nat) (blk : BitVec 256)
  | status (t : Nat) (blk : BitVec 256)
  | chsetWrite (path : Path) (value : W32)
  -- Transport control (12_transport_control)
  | sampleTimerEdge (codes : List (BitVec 16))
  | saturationFault (slot : Nat)
  | profileComplete
  | headLock
  | headSeekTimeout
  | pesFault (source : Nat)
  | sensorRailFault (port : Nat) (channel : Nat)
  | encoderFault
  | discreteInputChange (n : Nat) (levels : List Bool)
  | chatterFault (n : Nat)
  | stuckFault (n : Nat)
  | estopGate
  | tcArm (path : Path)
  | brakeRelease
  | tcSafe (path : Path)
  | stopHoldExpire
  | driveDisable
  | faultClear (path : Path) (value : W32)
  | slotCommit (path : Path) (slot : Nat)
  | tcTimerWrite (path : Path) (value : W32)
  -- Errors and recovery (13_errors_recovery)
  | errorRaise (cls : EClass) (u : UnitId) (category : Nat) (d0 : W64) (d1 : W64)
  | unitFault (u : UnitId)
  | recoveryStart
  | recoveryResume (u : UnitId)
  | returnTestDone (pass : Bool)
  | c4Timeout
  | recordRelease (path : Path) (seq : W32)
  | lossRecordRelease (path : Path) (index : W32)
  | snapshotRelease (path : Path) (viaEr : Bool)
  -- Memory integrity (14_memory_integrity)
  | bufferUncorrectable (word : Nat)
  | mergeApply (stack : Nat)
  | rowRepairDone (word : Nat)
  | laneRepair (stack : Nat) (channel : Nat) (k : Nat)
  | winnowLapEnd (tenths : Nat)
  | winnowLapLate
  | repairBurn (path : Path)
  | logClearAll (path : Path)
  | logClearEntry (path : Path) (entry : BitVec 5)
  | flipArm (path : Path)
  | onchipMemoryError (group : Nat) (u : UnitId) (detail : Nat)
  | refreshStepDown
  -- Housekeeping (15_thermal_power)
  | hkRoundEnd (codes : List (BitVec 12)) (speeds : List W16) (avs : Option (Nat × Nat))
  | throttleGraceEnd
  | throttleRateWrite (path : Path) (value : W32)
  | drainHalt
  | drainLimitExpire
  | hardTrip
  | refclkLoss
  -- Cascade (16_cascade)
  | discoveryTimeout
  | join (cp : CasPort) (blk : BitVec 256)
  | echo (cp : CasPort) (reply : Bool) (t : W64)
  | memberAdmit (m : Nat) (masterCount : Nat) (masterEpoch : Nat)
  | cascadeJoin (path : Path)
  | cascadeLeave (path : Path)
  | timeSend
  | time (h : MsgHead) (count : Nat) (horizon : Nat)
  | epoch (h : MsgHead) (value : Nat)
  | forward (h : MsgHead) (sqe : BitVec 512) (arrivalT : Nat) (arrivalO : BitVec 8) (dqn : Nat)
  | result (h : MsgHead) (cqe : BitVec 256)
  | dmaRd (h : MsgHead) (addr : Nat) (len : Nat)
  | dmaData (h : MsgHead) (data : List Byte) (ok : Bool)
  | dmaWr (h : MsgHead) (addr : Nat) (data : List Byte)
  | lendReq (h : MsgHead) (pool : Nat)
  | lendGrant (h : MsgHead) (pool : Nat) (buf : Nat)
  | lendFree (h : MsgHead) (buf : Nat)
  | bufRd (h : MsgHead) (buf : Nat) (off : Nat) (len : Nat)
  | bufWr (h : MsgHead) (buf : Nat) (off : Nat) (data : List Byte)
  | abortDecide (h : MsgHead) (cid : W16) (dqn : Nat)
  | setOp (h : MsgHead) (op : SetOp)
  | loss (h : MsgHead) (member : Nat)
  | ack (cp : CasPort) (seq : Nat) (negative : Bool)
  | stripe (cp : CasPort) (stream : Nat) (number : Nat) (symbols : List (BitVec 10))
  | stripeLagExpire (number : Nat)
  | memberLoss (m : Nat)
  -- Fuses and debug unlock (17_fuses_security)
  | settingBurn (path : Path)
  | controlFuseBurn (path : Path)
  | fuseBurnDone (readBackOk : Bool)
  | tamper (source : Nat)
  | debugRequest (path : Path) (level : Nat)
  | debugVerify (path : Path)
  | debugLevelClear (path : Path)
  -- Engines, microcode, snapshots and JTAG (18_engines_microcode_debug)
  | patchLoadStart (path : Path) (mem : HostWrites) (ok : Bool)
  | patchLoadCancel (path : Path)
  | clusterQuiesced (cl : Nat)
  | microwordMalformed (run : MicroRun)
  | engineSleep (e : Nat)
  | engineWake (e : Nat)
  | snapIn
  | domainLatchSupply (domain : Nat)
  | snapshotLatched
  | dbgReg (data : W64)
  | dbgSnap (domain : BitVec 7)
  | dbgScan
  | dbgPatch (data : BitVec 185)
  -- Reset and start-up (19_startup)
  | pwrResetAssert
  | warmResetAssert
  | pwrResetRelease (cascId : BitVec 3) (i2cAddr : Bool)
  | warmResetRelease
  | fuseLoadDone (cells : HostWrites)
  | initFillDone
  | bistDone (failed : BitVec 13) (units : List UnitId)
  | bootFlashDone (flash : Option HostWrites)
  | ready
  | latchedLoRead (path : Path) (addr : W32)
  | i2cRead (offset : W32)
  | registerWrite (path : Path) (bar : Bar) (addr : W32) (value : W32)
  -- Late rows
  | quadratureEdge (takeUp : Bool) (a : Bool) (b : Bool)
  | pageRangeSegmentArrive (c : Nat) (mem : HostWrites) (ok : Bool)
  | bufferCorrection (word : Nat) (winnow : Bool)
  | interfaceCalibrationTimeout (stack : Nat)
  | hopLoss (cp : CasPort) (lanesLeft : Nat)
  | jtagInstruction (code : BitVec 8)
  | supplyRamp (vioUp : Bool) (coreUp : Bool)
  | stampStallEnd (u : Nat)
  deriving DecidableEq, Repr

end Sys2Proof
end

