-- ==== Sys2Proof/Decode.lean ====
section
/-! DEFINITION. Decoding of table words: spec/opcode_table.json gives the commands of this block no bits. -/

namespace Sys2Proof

/-- The command that a word of `nbits` bits spells by the table's bits. No row of the table gives bits, so no word spells
one. -/
def decodeTableWord (_nbits _w : Nat) : Option Instr := none

end Sys2Proof
end

