-- ==== Sys2Proof/Config.lean ====
section
/-! DEFINITION. What spec/ leaves open, and what the model does not compute: free values and uninterpreted functions.
None has a body, so no statement can rest on a value of one. -/

namespace Sys2Proof

/-- The lag of the count a stamping unit sees behind the true count (R81 bounds it by 4 ticks), by draw. Log entry 4. -/
opaque Config.stampLag : Nat → Nat

/-- A byte the true random number generator gives (R145, R147, R368), by draw. Log entry 5. -/
opaque Config.randomByte : Nat → BitVec 8

/-- The acceleration a profile goes for in a base period, within the limits of R266, by draw. Log entry 8. -/
opaque Config.profileAcc : Nat → Int

/-- Whether a quotient that is not exact is rounded up where spec/ gives no rounding, by draw. Log entry 29. -/
opaque Config.roundUp : Nat → Bool

/-- A reel's velocity in rev/s as W32, from its latched counts, the counts per revolution and TC_TIMER.div (Table 12.2 names it; no rule
says over how many periods it is taken). Log entry 30. -/
opaque Config.reelRate : List Int → Nat → Nat → Int

/-- Whether channel A leads channel B in forward motion (R272 leaves the phase order open). Log entry 32. -/
opaque Config.encALeads : Bool

/-- A byte of a domain's snapshot content that spec/ does not lay out (R381), by draw. Log entry 9. -/
opaque Config.snapByte : Nat → BitVec 8

/-- What the share token of a grant is mixed with (R110 says what a token names, not its value). Log entry 13. -/
opaque Config.tokenMix : BitVec 64

/-- The millivolts of an ADC code on a housekeeping channel (Table 15.1 gives no scale). Log entry 16. -/
opaque Config.adcMv : Nat → Nat → Nat

/-- The die temperature in 1/16 °C of a diode code under the offset and slope of the identity record (R317). Log entry 16. -/
opaque Config.diodeTemp : Nat → Nat → Nat → Int

/-- What a word of the device region of the buffer holds: 1 a version record, 5 a spine entry, 2 directory entries that a checkpoint covers,
3 directory entries no checkpoint covers, 4 an L3 accumulator, anything else nothing (Table 14.3 gives no layout). Log entry 35. -/
opaque Config.deviceHolds : Nat → Nat

/-- Which cells of byte `i` an interrupted or failed burn has burned (R360, R363), by draw. Log entry 36. -/
opaque Config.partBurn : Nat → Nat → BitVec 8

/-- Class of a public JTAG instruction code: 1 for EXTEST, EXTEST_PULSE, EXTEST_TRAIN, CLAMP and HIGHZ, 2 for IDCODE, anything else for the codes that are
always accepted (Table 17.8; no code is given). Log entry 37. -/
opaque Config.jtagClass : BitVec 8 → Nat

/-- The level of a GPIO pin that another chip drives, by time in ticks and pin. Log entry 41. -/
opaque Config.pinLevel : Nat → Nat → Bool

/-- The primer document in ROM (R208, Table 9.21): its length less one, and its characters; spec/ gives their order of topics, not their wording. Log
entry 42. -/
opaque Config.primerLength : Nat
opaque Config.primerByte : Nat → Byte

/-- The microcode ROM of a stepping (R369), where an opcode's microcode begins, and its stop handler (R371); no listing is given. Log entry 141. -/
opaque Config.romWord : Nat → Nat → BitVec 160
opaque Config.microEntry : Nat → Nat
opaque Config.stopHandler : Nat

/-- A value that spec/ leaves open and no other constant covers, by draw. Log entry 10. -/
opaque Config.freeNat : Nat → Nat

end Sys2Proof
end

