-- ==== Sys2Proof/Machine/RegTable.lean ====
section
/-! DEFINITION. The register map: every register of BAR0 with its fields, their access types and reset values, taken
from the register tables of spec/ (Tables 1.7 to 20.12), and the generic field rules (R5, R9, R418). -/

namespace Sys2Proof.Machine

/-- Access types (Table 0.4). -/
inductive Acc where
  | ro | rw | w1c | wo | rwl
  deriving DecidableEq, Repr

/-- One field of a register: bits [hi:lo], its access type and its reset value. -/
structure FieldDesc where
  hi : Nat
  lo : Nat
  acc : Acc
  rst : Nat
  deriving DecidableEq, Repr

/-- One register, or one array of registers: offset of the first, and two levels of count and stride. -/
structure RegDesc where
  base : Nat
  c1 : Nat
  s1 : Nat
  c2 : Nat
  s2 : Nat
  fields : List FieldDesc
  deriving DecidableEq, Repr

/-- A row of the register map: one register, or an array of `c1` × `c2` registers. -/
def mkReg (base c1 s1 c2 s2 : Nat) (fields : List FieldDesc) : RegDesc := ⟨base, c1, s1, c2, s2, fields⟩

/-- A field of a row. -/
def fd (hi lo : Nat) (acc : Acc) (rst : Nat) : FieldDesc := ⟨hi, lo, acc, rst⟩

namespace Reg

/-- GL_ID (Table 1.7). -/
abbrev GL_ID : Nat := 0x00000000
/-- GL_PACE (Table 1.8). -/
abbrev GL_PACE : Nat := 0x00000040
/-- GL_ISLSEL (Table 1.9). -/
abbrev GL_ISLSEL : Nat := 0x00000044
/-- GL_ISLSPD (Table 1.10). -/
abbrev GL_ISLSPD : Nat := 0x00000048
/-- GL_BOOT (Table 19.4). -/
abbrev GL_BOOT : Nat := 0x00000080
/-- GL_GPIO (Table 20.12). -/
abbrev GL_GPIO : Nat := 0x000000A0
/-- ST_NOW_LO (Table 4.6). -/
abbrev ST_NOW_LO : Nat := 0x00010000
/-- ST_NOW_HI (Table 4.7). -/
abbrev ST_NOW_HI : Nat := 0x00010004
/-- ST_ID (Table 4.8). -/
abbrev ST_ID : Nat := 0x00010008
/-- ST_SESSION (Table 4.9). -/
abbrev ST_SESSION : Nat := 0x0001000C
/-- ST_LEAD (Table 4.10). -/
abbrev ST_LEAD : Nat := 0x00010010
/-- QM_QSEL (02 QM registers). -/
abbrev QM_QSEL : Nat := 0x00020000
/-- QM_SQBASE_LO (02 QM registers). -/
abbrev QM_SQBASE_LO : Nat := 0x00020004
/-- QM_SQBASE_HI (02 QM registers). -/
abbrev QM_SQBASE_HI : Nat := 0x00020008
/-- QM_CQBASE_LO (02 QM registers). -/
abbrev QM_CQBASE_LO : Nat := 0x0002000C
/-- QM_CQBASE_HI (02 QM registers). -/
abbrev QM_CQBASE_HI : Nat := 0x00020010
/-- QM_QCFG (02 QM registers). -/
abbrev QM_QCFG : Nat := 0x00020014
/-- QM_QCTL (02 QM registers). -/
abbrev QM_QCTL : Nat := 0x00020018
/-- QM_QSTAT (02 QM registers). -/
abbrev QM_QSTAT : Nat := 0x0002001C
/-- QM_ARB (02 QM registers). -/
abbrev QM_ARB : Nat := 0x00020040
/-- QM_VSEL (02 QM registers). -/
abbrev QM_VSEL : Nat := 0x00020050
/-- QM_VCOAL (02 QM registers). -/
abbrev QM_VCOAL : Nat := 0x00020054
/-- QM_NOTICE (02 QM registers). -/
abbrev QM_NOTICE : Nat := 0x00020060
/-- QM_DBERR (02 QM registers). -/
abbrev QM_DBERR : Nat := 0x00020070
/-- QM_PORT (02 QM registers). -/
abbrev QM_PORT : Nat := 0x00020080
/-- DB_SQT (Table 2.6). -/
abbrev DB_SQT : Nat := 0x00100000
/-- DB_CQH (Table 2.6). -/
abbrev DB_CQH : Nat := 0x00100008
/-- BP_CTL (Table 5.6). -/
abbrev BP_CTL : Nat := 0x00200000
/-- BP_CARVE0 (Table 5.7). -/
abbrev BP_CARVE0 : Nat := 0x00200010
/-- BP_CARVE1 (Table 5.7). -/
abbrev BP_CARVE1 : Nat := 0x00200014
/-- BP_CARVE2 (Table 5.7). -/
abbrev BP_CARVE2 : Nat := 0x00200018
/-- BP_CARVE3 (Table 5.7). -/
abbrev BP_CARVE3 : Nat := 0x0020001C
/-- BP_CARVE4 (Table 5.7). -/
abbrev BP_CARVE4 : Nat := 0x00200020
/-- BP_CARVE5 (Table 5.7). -/
abbrev BP_CARVE5 : Nat := 0x00200024
/-- BP_RESV0 (Table 5.8). -/
abbrev BP_RESV0 : Nat := 0x00200030
/-- BP_RESV1 (Table 5.8). -/
abbrev BP_RESV1 : Nat := 0x00200034
/-- BP_RESV2 (Table 5.8). -/
abbrev BP_RESV2 : Nat := 0x00200038
/-- BP_RESV3 (Table 5.8). -/
abbrev BP_RESV3 : Nat := 0x0020003C
/-- BP_RESV4 (Table 5.8). -/
abbrev BP_RESV4 : Nat := 0x00200040
/-- BP_RESV5 (Table 5.8). -/
abbrev BP_RESV5 : Nat := 0x00200044
/-- BP_FREE (Table 5.9). -/
abbrev BP_FREE : Nat := 0x00200050
/-- BP_QSEL (Table 5.10). -/
abbrev BP_QSEL : Nat := 0x00200080
/-- BP_QLIMIT (Table 5.11). -/
abbrev BP_QLIMIT : Nat := 0x00200084
/-- BP_QUSED (Table 5.12). -/
abbrev BP_QUSED : Nat := 0x00200088
/-- BP_EVENTS (Table 5.13). -/
abbrev BP_EVENTS : Nat := 0x002000A0
/-- BP_IXCTL (Table 5.14). -/
abbrev BP_IXCTL : Nat := 0x002000C0
/-- BP_IXSALT (Table 5.15). -/
abbrev BP_IXSALT : Nat := 0x002000C4
/-- BP_IXOBJ (Table 5.16). -/
abbrev BP_IXOBJ : Nat := 0x002000C8
/-- BP_IXVER (Table 5.17). -/
abbrev BP_IXVER : Nat := 0x002000CC
/-- BP_IXTIME (Table 5.18). -/
abbrev BP_IXTIME : Nat := 0x002000D0
/-- BP_QMAP (Table 5.19). -/
abbrev BP_QMAP : Nat := 0x00201000
/-- CM_CTL (Table 6.6). -/
abbrev CM_CTL : Nat := 0x00300000
/-- CM_FIFOCFG (Table 6.7). -/
abbrev CM_FIFOCFG : Nat := 0x00300004
/-- CM_FIFOSTAT (Table 6.8). -/
abbrev CM_FIFOSTAT : Nat := 0x00300008
/-- CM_CLANES (Table 6.9). -/
abbrev CM_CLANES : Nat := 0x00300010
/-- CM_DLANES (Table 6.9). -/
abbrev CM_DLANES : Nat := 0x00300014
/-- CM_LSEL (Table 6.10). -/
abbrev CM_LSEL : Nat := 0x00300018
/-- CM_LFAULT (Table 6.11). -/
abbrev CM_LFAULT : Nat := 0x0030001C
/-- CM_VFAIL (Table 6.12). -/
abbrev CM_VFAIL : Nat := 0x00300020
/-- CM_VFAILOFF (Table 6.13). -/
abbrev CM_VFAILOFF : Nat := 0x00300024
/-- CM_CNTSEL (Table 6.14). -/
abbrev CM_CNTSEL : Nat := 0x00300030
/-- CM_CNT_LO (Table 6.15). -/
abbrev CM_CNT_LO : Nat := 0x00300034
/-- CM_CNT_HI (Table 6.15). -/
abbrev CM_CNT_HI : Nat := 0x00300038
/-- CX_CTL (07 CX registers). -/
abbrev CX_CTL : Nat := 0x00400000
/-- CX_SLOTSEL (07 CX registers). -/
abbrev CX_SLOTSEL : Nat := 0x00400010
/-- CX_SLOTSTAT (07 CX registers). -/
abbrev CX_SLOTSTAT : Nat := 0x00400014
/-- CX_SLOTKID_LO (07 CX registers). -/
abbrev CX_SLOTKID_LO : Nat := 0x00400018
/-- CX_SLOTKID_HI (07 CX registers). -/
abbrev CX_SLOTKID_HI : Nat := 0x0040001C
/-- CX_SLOTCTR_LO (07 CX registers). -/
abbrev CX_SLOTCTR_LO : Nat := 0x00400020
/-- CX_SLOTCTR_HI (07 CX registers). -/
abbrev CX_SLOTCTR_HI : Nat := 0x00400024
/-- CX_SLOTPFX (07 CX registers). -/
abbrev CX_SLOTPFX : Nat := 0x00400028
/-- CX_IVLBASE_LO (07 CX registers). -/
abbrev CX_IVLBASE_LO : Nat := 0x00400040
/-- CX_IVLBASE_HI (07 CX registers). -/
abbrev CX_IVLBASE_HI : Nat := 0x00400044
/-- CX_IVLCTL (07 CX registers). -/
abbrev CX_IVLCTL : Nat := 0x00400048
/-- CX_IVLTAIL (07 CX registers). -/
abbrev CX_IVLTAIL : Nat := 0x0040004C
/-- CX_IVLHEAD (07 CX registers). -/
abbrev CX_IVLHEAD : Nat := 0x00400050
/-- CX_IVLLOST (07 CX registers). -/
abbrev CX_IVLLOST : Nat := 0x00400054
/-- CX_PIPES (07 CX registers). -/
abbrev CX_PIPES : Nat := 0x00400060
/-- CX_AUTHFAIL (07 CX registers). -/
abbrev CX_AUTHFAIL : Nat := 0x00400068
/-- CX_IMPPUB (07 CX registers). -/
abbrev CX_IMPPUB : Nat := 0x00400100
/-- FM_CTL (Table 8.8). -/
abbrev FM_CTL : Nat := 0x00500000
/-- FM_FOLIO_LO (Table 8.9). -/
abbrev FM_FOLIO_LO : Nat := 0x00500010
/-- FM_FOLIO_HI (Table 8.9). -/
abbrev FM_FOLIO_HI : Nat := 0x00500014
/-- FM_GROUP (Table 8.10). -/
abbrev FM_GROUP : Nat := 0x00500018
/-- FM_GBASE_LO (Table 8.11). -/
abbrev FM_GBASE_LO : Nat := 0x0050001C
/-- FM_GBASE_HI (Table 8.11). -/
abbrev FM_GBASE_HI : Nat := 0x00500020
/-- FM_L3CFG (Table 8.12). -/
abbrev FM_L3CFG : Nat := 0x00500040
/-- FM_ENC (Table 8.13). -/
abbrev FM_ENC : Nat := 0x00500050
/-- FM_CNTSEL (Table 8.14). -/
abbrev FM_CNTSEL : Nat := 0x00500060
/-- FM_CNT_LO (Table 8.15). -/
abbrev FM_CNT_LO : Nat := 0x00500064
/-- FM_CNT_HI (Table 8.15). -/
abbrev FM_CNT_HI : Nat := 0x00500068
/-- SH_CTL (Table 9.7). -/
abbrev SH_CTL : Nat := 0x00600000
/-- SH_STAT (Table 9.8). -/
abbrev SH_STAT : Nat := 0x00600004
/-- SH_POS (Table 9.9). -/
abbrev SH_POS : Nat := 0x00600008
/-- SH_GEOM (Table 9.9). -/
abbrev SH_GEOM : Nat := 0x0060000C
/-- SH_PROOFCFG (Table 9.10). -/
abbrev SH_PROOFCFG : Nat := 0x00600010
/-- SH_RWCFG (Table 9.11). -/
abbrev SH_RWCFG : Nat := 0x00600014
/-- SH_TRKCFG (Table 9.12). -/
abbrev SH_TRKCFG : Nat := 0x00600018
/-- SH_SPDCFG (Table 9.13). -/
abbrev SH_SPDCFG : Nat := 0x00600020
/-- SH_FILLCFG (Table 9.14). -/
abbrev SH_FILLCFG : Nat := 0x00600024
/-- SH_RUNCFG (Table 9.15). -/
abbrev SH_RUNCFG : Nat := 0x00600028
/-- SH_SPEED (Table 9.16). -/
abbrev SH_SPEED : Nat := 0x00600030
/-- SH_FILL (Table 9.17). -/
abbrev SH_FILL : Nat := 0x00600034
/-- SH_EOMCFG (Table 9.18). -/
abbrev SH_EOMCFG : Nat := 0x00600038
/-- SH_TRKSEL (Table 9.19). -/
abbrev SH_TRKSEL : Nat := 0x00600040
/-- SH_TRKSTAT (Table 9.20). -/
abbrev SH_TRKSTAT : Nat := 0x00600044
/-- SH_PRIMER (Table 9.21). -/
abbrev SH_PRIMER : Nat := 0x00600048
/-- SH_PRIMERCRC (Table 9.21). -/
abbrev SH_PRIMERCRC : Nat := 0x0060004C
/-- SH_CNTSEL (Table 9.22). -/
abbrev SH_CNTSEL : Nat := 0x00600060
/-- SH_CNT_LO (Table 9.23). -/
abbrev SH_CNT_LO : Nat := 0x00600064
/-- SH_CNT_HI (Table 9.23). -/
abbrev SH_CNT_HI : Nat := 0x00600068
/-- HL_CTL (Table 11.8). -/
abbrev HL_CTL : Nat := 0x00700000
/-- HL_RETRY0 (Table 11.9). -/
abbrev HL_RETRY0 : Nat := 0x00700004
/-- HL_CFG (Table 11.10). -/
abbrev HL_CFG : Nat := 0x00700008
/-- HL_UP (Table 11.11). -/
abbrev HL_UP : Nat := 0x0070000C
/-- HL_LSEL (Table 11.12). -/
abbrev HL_LSEL : Nat := 0x00700010
/-- HL_LSTAT (Table 11.13). -/
abbrev HL_LSTAT : Nat := 0x00700014
/-- HL_TXEQ (Table 11.14). -/
abbrev HL_TXEQ : Nat := 0x00700018
/-- HL_CHSET (Table 11.15). -/
abbrev HL_CHSET : Nat := 0x0070001C
/-- HL_CNTSEL (Table 11.16). -/
abbrev HL_CNTSEL : Nat := 0x00700060
/-- HL_CNT_LO (Table 11.17). -/
abbrev HL_CNT_LO : Nat := 0x00700064
/-- HL_CNT_HI (Table 11.17). -/
abbrev HL_CNT_HI : Nat := 0x00700068
/-- TC_CTL (Table 12.6). -/
abbrev TC_CTL : Nat := 0x00800000
/-- TC_STAT (Table 12.7). -/
abbrev TC_STAT : Nat := 0x00800004
/-- TC_TIMER (Table 12.8). -/
abbrev TC_TIMER : Nat := 0x00800008
/-- TC_FAULT (Table 12.9). -/
abbrev TC_FAULT : Nat := 0x0080000C
/-- TC_REACT (Table 12.10). -/
abbrev TC_REACT : Nat := 0x00800010
/-- TC_PROF (Table 12.11). -/
abbrev TC_PROF : Nat := 0x00800020
/-- TC_POS (Table 12.12). -/
abbrev TC_POS : Nat := 0x00800024
/-- TC_VEL (Table 12.12). -/
abbrev TC_VEL : Nat := 0x00800028
/-- TC_REELK (Table 12.13). -/
abbrev TC_REELK : Nat := 0x00800030
/-- TC_RADIUS (Table 12.13). -/
abbrev TC_RADIUS : Nat := 0x00800034
/-- TC_RADBND (Table 12.14). -/
abbrev TC_RADBND : Nat := 0x00800038
/-- TC_SPDBND (Table 12.14). -/
abbrev TC_SPDBND : Nat := 0x0080003C
/-- TC_ENCCFG (Table 12.15). -/
abbrev TC_ENCCFG : Nat := 0x00800040
/-- TC_ENCS (Table 12.15). -/
abbrev TC_ENCS : Nat := 0x00800044
/-- TC_ENCT (Table 12.15). -/
abbrev TC_ENCT : Nat := 0x00800048
/-- TC_ENCERR (Table 12.15). -/
abbrev TC_ENCERR : Nat := 0x0080004C
/-- TC_DINCFG (Table 12.16). -/
abbrev TC_DINCFG : Nat := 0x00800050
/-- TC_DINCFG3 (Table 12.16). -/
abbrev TC_DINCFG3 : Nat := 0x0080005C
/-- TC_DINSTAT (Table 12.17). -/
abbrev TC_DINSTAT : Nat := 0x00800060
/-- TC_LEADCFG (Table 12.17). -/
abbrev TC_LEADCFG : Nat := 0x00800064
/-- TC_SPCFG (Table 12.18). -/
abbrev TC_SPCFG : Nat := 0x00800070
/-- TC_DPCFG (Table 12.18). -/
abbrev TC_DPCFG : Nat := 0x00800078
/-- TC_BRKCFG (Table 12.19). -/
abbrev TC_BRKCFG : Nat := 0x00800080
/-- TC_PESCFG (Table 12.19). -/
abbrev TC_PESCFG : Nat := 0x00800084
/-- TC_HEADBASE (Table 12.20). -/
abbrev TC_HEADBASE : Nat := 0x00800088
/-- TC_HEADPITCH (Table 12.20). -/
abbrev TC_HEADPITCH : Nat := 0x0080008C
/-- TC_HEADCFG (Table 12.19). -/
abbrev TC_HEADCFG : Nat := 0x00800090
/-- TC_SCFG (Table 12.21). -/
abbrev TC_SCFG : Nat := 0x00801000
/-- TC_SROUTE (Table 12.22). -/
abbrev TC_SROUTE : Nat := 0x00801004
/-- TC_SSCALE (Table 12.23). -/
abbrev TC_SSCALE : Nat := 0x00801008
/-- TC_SUMAX (Table 12.23). -/
abbrev TC_SUMAX : Nat := 0x0080100C
/-- TC_SUMIN (Table 12.23). -/
abbrev TC_SUMIN : Nat := 0x00801010
/-- TC_SSATLIM (Table 12.24). -/
abbrev TC_SSATLIM : Nat := 0x00801014
/-- TC_SSATCNT (Table 12.24). -/
abbrev TC_SSATCNT : Nat := 0x00801018
/-- TC_SMAN (Table 12.23). -/
abbrev TC_SMAN : Nat := 0x0080101C
/-- TC_SSETPT (Table 12.23). -/
abbrev TC_SSETPT : Nat := 0x00801020
/-- TC_SLUTSCALE (Table 12.23). -/
abbrev TC_SLUTSCALE : Nat := 0x00801024
/-- TC_SSTAT (Table 12.25). -/
abbrev TC_SSTAT : Nat := 0x00801028
/-- TC_SOUT (Table 12.23). -/
abbrev TC_SOUT : Nat := 0x0080102C
/-- TC_SINT (Table 12.23). -/
abbrev TC_SINT : Nat := 0x00801030
/-- TC_SLUT (Table 12.26). -/
abbrev TC_SLUT : Nat := 0x00801080
/-- TC_SNOTCH1B0 (Table 12.23). -/
abbrev TC_SNOTCH1B0 : Nat := 0x00801100
/-- TC_SNOTCH1 (Table 12.23). -/
abbrev TC_SNOTCH1 : Nat := 0x00801104
/-- TC_SNOTCH2B0 (Table 12.23). -/
abbrev TC_SNOTCH2B0 : Nat := 0x00801120
/-- TC_SNOTCH2 (Table 12.23). -/
abbrev TC_SNOTCH2 : Nat := 0x00801124
/-- TC_SCOEF (Table 12.23). -/
abbrev TC_SCOEF : Nat := 0x00801200
/-- ER_CTL (13 ER registers). -/
abbrev ER_CTL : Nat := 0x00900000
/-- ER_CFG (13 ER registers). -/
abbrev ER_CFG : Nat := 0x00900004
/-- ER_STAT (13 ER registers). -/
abbrev ER_STAT : Nat := 0x00900008
/-- ER_EPOCH (13 ER registers). -/
abbrev ER_EPOCH : Nat := 0x0090000C
/-- ER_EPOCHX (13 ER registers). -/
abbrev ER_EPOCHX : Nat := 0x00900010
/-- ER_SEQ (13 ER registers). -/
abbrev ER_SEQ : Nat := 0x00900014
/-- ER_RSEL (13 ER registers). -/
abbrev ER_RSEL : Nat := 0x00900018
/-- ER_RSTAT (13 ER registers). -/
abbrev ER_RSTAT : Nat := 0x0090001C
/-- ER_REL (13 ER registers). -/
abbrev ER_REL : Nat := 0x00900020
/-- ER_LOGSTAT (13 ER registers). -/
abbrev ER_LOGSTAT : Nat := 0x00900024
/-- ER_SNAP (13 ER registers). -/
abbrev ER_SNAP : Nat := 0x00900028
/-- ER_RDATA (13 ER registers). -/
abbrev ER_RDATA : Nat := 0x00900040
/-- ER_LSEL (13 ER registers). -/
abbrev ER_LSEL : Nat := 0x00900080
/-- ER_LSTAT (13 ER registers). -/
abbrev ER_LSTAT : Nat := 0x00900084
/-- ER_LREL (13 ER registers). -/
abbrev ER_LREL : Nat := 0x00900088
/-- ER_LDATA (13 ER registers). -/
abbrev ER_LDATA : Nat := 0x009000C0
/-- ER_PEND (13 ER registers). -/
abbrev ER_PEND : Nat := 0x00900100
/-- MI_CTL (Table 14.5). -/
abbrev MI_CTL : Nat := 0x00A00000
/-- MI_STAT (Table 14.6). -/
abbrev MI_STAT : Nat := 0x00A00004
/-- MI_CFG (Table 14.7). -/
abbrev MI_CFG : Nat := 0x00A00008
/-- MI_CECNT (Table 14.8). -/
abbrev MI_CECNT : Nat := 0x00A00010
/-- MI_UECNT (Table 14.8). -/
abbrev MI_UECNT : Nat := 0x00A00020
/-- MI_LOGSTAT (Table 14.9). -/
abbrev MI_LOGSTAT : Nat := 0x00A00030
/-- MI_LOGSEL (Table 14.9). -/
abbrev MI_LOGSEL : Nat := 0x00A00034
/-- MI_LOGADDR (Table 14.10). -/
abbrev MI_LOGADDR : Nat := 0x00A00038
/-- MI_LOGINFO (Table 14.10). -/
abbrev MI_LOGINFO : Nat := 0x00A0003C
/-- MI_LOGTIME (Table 14.10). -/
abbrev MI_LOGTIME : Nat := 0x00A00040
/-- MI_LOGCLR (Table 14.11). -/
abbrev MI_LOGCLR : Nat := 0x00A00044
/-- MI_WINCFG (Table 14.12). -/
abbrev MI_WINCFG : Nat := 0x00A00050
/-- MI_WINLAP (Table 14.12). -/
abbrev MI_WINLAP : Nat := 0x00A00054
/-- MI_WINPOS (Table 14.12). -/
abbrev MI_WINPOS : Nat := 0x00A00058
/-- MI_WINCOR (Table 14.12). -/
abbrev MI_WINCOR : Nat := 0x00A0005C
/-- MI_REPSTAT (Table 14.13). -/
abbrev MI_REPSTAT : Nat := 0x00A00060
/-- MI_REPCTL (Table 14.13). -/
abbrev MI_REPCTL : Nat := 0x00A00064
/-- MI_RETIRED (Table 14.13). -/
abbrev MI_RETIRED : Nat := 0x00A00068
/-- MI_FLIP0 (Table 14.14). -/
abbrev MI_FLIP0 : Nat := 0x00A00070
/-- MI_FLIP1 (Table 14.14). -/
abbrev MI_FLIP1 : Nat := 0x00A00074
/-- MI_FLIP2 (Table 14.14). -/
abbrev MI_FLIP2 : Nat := 0x00A00078
/-- MI_FLIPCTL (Table 14.14). -/
abbrev MI_FLIPCTL : Nat := 0x00A0007C
/-- MI_BIST (Table 14.15). -/
abbrev MI_BIST : Nat := 0x00A00080
/-- HK_CTL (Table 15.4). -/
abbrev HK_CTL : Nat := 0x00B00000
/-- HK_STAT (Table 15.5). -/
abbrev HK_STAT : Nat := 0x00B00004
/-- HK_TEMP (Table 15.6). -/
abbrev HK_TEMP : Nat := 0x00B00008
/-- HK_BANDTHR (Table 15.7). -/
abbrev HK_BANDTHR : Nat := 0x00B0000C
/-- HK_THRCFG (Table 15.8). -/
abbrev HK_THRCFG : Nat := 0x00B00010
/-- HK_THRRATE (Table 15.9). -/
abbrev HK_THRRATE : Nat := 0x00B00014
/-- HK_AVSCFG (Table 15.10). -/
abbrev HK_AVSCFG : Nat := 0x00B00018
/-- HK_AVSLIM (Table 15.11). -/
abbrev HK_AVSLIM : Nat := 0x00B0001C
/-- HK_AVS (Table 15.12). -/
abbrev HK_AVS : Nat := 0x00B00020
/-- HK_PWR (Table 15.13). -/
abbrev HK_PWR : Nat := 0x00B00024
/-- HK_CHSEL (Table 15.14). -/
abbrev HK_CHSEL : Nat := 0x00B00030
/-- HK_CHDATA (Table 15.14). -/
abbrev HK_CHDATA : Nat := 0x00B00034
/-- HK_AINLIM (Table 15.15). -/
abbrev HK_AINLIM : Nat := 0x00B00040
/-- HK_DRAIN (Table 15.16). -/
abbrev HK_DRAIN : Nat := 0x00B00060
/-- CS_CTL (Table 16.4). -/
abbrev CS_CTL : Nat := 0x00C00000
/-- CS_STAT (Table 16.5). -/
abbrev CS_STAT : Nat := 0x00C00004
/-- CS_MODE (Table 16.6). -/
abbrev CS_MODE : Nat := 0x00C00008
/-- CS_CFG (Table 16.7). -/
abbrev CS_CFG : Nat := 0x00C0000C
/-- CS_OFFSET (Table 16.8). -/
abbrev CS_OFFSET : Nat := 0x00C00010
/-- CS_LEND (Table 16.9). -/
abbrev CS_LEND : Nat := 0x00C00014
/-- CS_LANES (Table 16.9). -/
abbrev CS_LANES : Nat := 0x00C00018
/-- CS_CNTSEL (Table 16.10). -/
abbrev CS_CNTSEL : Nat := 0x00C00060
/-- CS_CNT_LO (Table 16.11). -/
abbrev CS_CNT_LO : Nat := 0x00C00064
/-- CS_CNT_HI (Table 16.11). -/
abbrev CS_CNT_HI : Nat := 0x00C00068
/-- FU_CTL (Table 17.9). -/
abbrev FU_CTL : Nat := 0x00D00000
/-- FU_STAT (Table 17.10). -/
abbrev FU_STAT : Nat := 0x00D00004
/-- FU_ADDR (Table 17.11). -/
abbrev FU_ADDR : Nat := 0x00D00008
/-- FU_DATA (Table 17.11). -/
abbrev FU_DATA : Nat := 0x00D0000C
/-- FU_DBG (Table 17.12). -/
abbrev FU_DBG : Nat := 0x00D00010
/-- FU_TAMPER (Table 17.13). -/
abbrev FU_TAMPER : Nat := 0x00D00014
/-- FU_CHAL (Table 17.14). -/
abbrev FU_CHAL : Nat := 0x00D00100
/-- FU_RESP (Table 17.14). -/
abbrev FU_RESP : Nat := 0x00D00200
/-- FU_STAGE (Table 17.14). -/
abbrev FU_STAGE : Nat := 0x00D01000
/-- EN_CTL (Table 18.6). -/
abbrev EN_CTL : Nat := 0x00E00000
/-- EN_SLEEP (Table 18.6). -/
abbrev EN_SLEEP : Nat := 0x00E00004
/-- EN_AWAKE (Table 18.6). -/
abbrev EN_AWAKE : Nat := 0x00E00008
/-- EN_PADDR_LO (Table 18.7). -/
abbrev EN_PADDR_LO : Nat := 0x00E00010
/-- EN_PADDR_HI (Table 18.7). -/
abbrev EN_PADDR_HI : Nat := 0x00E00014
/-- EN_PCTL (Table 18.7). -/
abbrev EN_PCTL : Nat := 0x00E00018
/-- EN_PSTAT (Table 18.7). -/
abbrev EN_PSTAT : Nat := 0x00E0001C
/-- EN_CSEL (Table 18.8). -/
abbrev EN_CSEL : Nat := 0x00E00020
/-- EN_CSTAT (Table 18.8). -/
abbrev EN_CSTAT : Nat := 0x00E00024
/-- EN_CVER (Table 18.8). -/
abbrev EN_CVER : Nat := 0x00E00028
/-- EN_MATCH (Table 18.9). -/
abbrev EN_MATCH : Nat := 0x00E00100
/-- SN_CTL (Table 18.10). -/
abbrev SN_CTL : Nat := 0x00F00000
/-- SN_STAT (Table 18.10). -/
abbrev SN_STAT : Nat := 0x00F00004
/-- SN_TARGET_LO (Table 18.11). -/
abbrev SN_TARGET_LO : Nat := 0x00F00008
/-- SN_TARGET_HI (Table 18.11). -/
abbrev SN_TARGET_HI : Nat := 0x00F0000C
/-- SN_SPREAD (Table 18.11). -/
abbrev SN_SPREAD : Nat := 0x00F00010
/-- SN_DSEL (Table 18.11). -/
abbrev SN_DSEL : Nat := 0x00F00020
/-- SN_DATA (Table 18.12). -/
abbrev SN_DATA : Nat := 0x00F00100

end Reg

/-- The registers of block GL. -/
def regsGL : List RegDesc :=
  [
    mkReg Reg.GL_ID 1 0x0 1 0 [fd 31 28 .ro 0, fd 27 24 .ro 0, fd 15 0 .ro 0x9200],
    mkReg Reg.GL_PACE 1 0x0 1 0 [fd 31 31 .ro 0, fd 30 30 .ro 0, fd 29 24 .ro 0, fd 15 0 .ro 0],
    mkReg Reg.GL_ISLSEL 1 0x0 1 0 [fd 5 0 .rw 0],
    mkReg Reg.GL_ISLSPD 1 0x0 1 0 [fd 31 31 .ro 0, fd 15 0 .ro 0],
    mkReg Reg.GL_BOOT 1 0x0 1 0 [fd 31 28 .ro 1, fd 27 27 .ro 0, fd 26 26 .ro 0, fd 25 25 .ro 0, fd 24 24 .ro 0, fd 23 20 .ro 0, fd 15 0 .ro 0],
    mkReg Reg.GL_GPIO 1 0x0 1 0 [fd 31 24 .rw 0, fd 23 16 .rw 0, fd 15 8 .ro 0]]

/-- The registers of block ST. -/
def regsST : List RegDesc :=
  [
    mkReg Reg.ST_NOW_LO 1 0x0 1 0 [fd 31 0 .ro 0],
    mkReg Reg.ST_NOW_HI 1 0x0 1 0 [fd 31 0 .ro 0],
    mkReg Reg.ST_ID 1 0x0 1 0 [fd 31 31 .ro 0, fd 30 30 .ro 0, fd 2 0 .ro 0],
    mkReg Reg.ST_SESSION 1 0x0 1 0 [fd 31 31 .ro 0, fd 15 0 .ro 0],
    mkReg Reg.ST_LEAD 1 0x0 1 0 [fd 31 31 .w1c 0, fd 20 16 .ro 0, fd 6 0 .w1c 0]]

/-- The registers of block QM. -/
def regsQM : List RegDesc :=
  [
    mkReg Reg.QM_QSEL 1 0x0 1 0 [fd 8 0 .rw 0],
    mkReg Reg.QM_SQBASE_LO 1 0x0 1 0 [fd 31 0 .rw 0],
    mkReg Reg.QM_SQBASE_HI 1 0x0 1 0 [fd 31 0 .rw 0],
    mkReg Reg.QM_CQBASE_LO 1 0x0 1 0 [fd 31 0 .rw 0],
    mkReg Reg.QM_CQBASE_HI 1 0x0 1 0 [fd 31 0 .rw 0],
    mkReg Reg.QM_QCFG 1 0x0 1 0 [fd 31 31 .rw 0, fd 25 16 .rw 0, fd 5 4 .rw 0, fd 3 0 .rw 0],
    mkReg Reg.QM_QCTL 1 0x0 1 0 [fd 1 0 .wo 0],
    mkReg Reg.QM_QSTAT 1 0x0 1 0 [fd 31 30 .ro 0, fd 29 27 .ro 0, fd 26 24 .ro 0, fd 13 0 .ro 0],
    mkReg Reg.QM_ARB 1 0x0 1 0 [fd 26 24 .rw 7, fd 23 16 .rw 4, fd 15 8 .rw 8, fd 7 0 .rw 0x10],
    mkReg Reg.QM_VSEL 1 0x0 1 0 [fd 9 0 .rw 0],
    mkReg Reg.QM_VCOAL 1 0x0 1 0 [fd 23 8 .rw 0, fd 7 0 .rw 0],
    mkReg Reg.QM_NOTICE 1 0x0 1 0 [fd 31 31 .w1c 0, fd 6 0 .ro 0]] ++
  [
    mkReg Reg.QM_DBERR 1 0x0 1 0 [fd 31 31 .w1c 0, fd 30 30 .ro 0, fd 24 16 .ro 0, fd 13 0 .ro 0],
    mkReg Reg.QM_PORT 1 0x0 1 0 [fd 31 31 .ro 0, fd 30 30 .ro 0, fd 27 24 .ro 0, fd 20 16 .ro 0, fd 15 0 .w1c 0]]

/-- The registers of block DB. -/
def regsDB : List RegDesc :=
  [
    mkReg Reg.DB_SQT 512 0x10 1 0 [fd 13 0 .rw 0],
    mkReg Reg.DB_CQH 512 0x10 1 0 [fd 13 0 .rw 0]]

/-- The registers of block BP. -/
def regsBP : List RegDesc :=
  [
    mkReg Reg.BP_CTL 1 0x0 1 0 [fd 31 31 .rwl 0, fd 30 30 .wo 0, fd 29 27 .ro 0, fd 26 26 .rwl 1],
    mkReg Reg.BP_CARVE0 1 0x0 1 0 [fd 25 0 .rwl 0x400000],
    mkReg Reg.BP_CARVE1 1 0x0 1 0 [fd 25 0 .rwl 0x100000],
    mkReg Reg.BP_CARVE2 1 0x0 1 0 [fd 25 0 .rwl 0x20000],
    mkReg Reg.BP_CARVE3 1 0x0 1 0 [fd 25 0 .rwl 0x8000],
    mkReg Reg.BP_CARVE4 1 0x0 1 0 [fd 25 0 .rwl 0x2000],
    mkReg Reg.BP_CARVE5 1 0x0 1 0 [fd 25 0 .rwl 0x1B00],
    mkReg Reg.BP_RESV0 1 0x0 1 0 [fd 25 0 .rwl 0x1000],
    mkReg Reg.BP_RESV1 1 0x0 1 0 [fd 25 0 .rwl 0x200],
    mkReg Reg.BP_RESV2 1 0x0 1 0 [fd 25 0 .rwl 0x400],
    mkReg Reg.BP_RESV3 1 0x0 1 0 [fd 25 0 .rwl 0x200],
    mkReg Reg.BP_RESV4 1 0x0 1 0 [fd 25 0 .rwl 0x100]] ++
  [
    mkReg Reg.BP_RESV5 1 0x0 1 0 [fd 25 0 .rwl 0x100],
    mkReg Reg.BP_FREE 6 0x4 1 0 [fd 31 31 .ro 0, fd 25 0 .ro 0],
    mkReg Reg.BP_QSEL 1 0x0 1 0 [fd 5 0 .rw 0],
    mkReg Reg.BP_QLIMIT 1 0x0 1 0 [fd 26 0 .rwl 0x4000000],
    mkReg Reg.BP_QUSED 1 0x0 1 0 [fd 26 0 .ro 0],
    mkReg Reg.BP_EVENTS 1 0x0 1 0 [fd 31 24 .w1c 0, fd 23 16 .w1c 0, fd 15 8 .w1c 0, fd 7 0 .w1c 0],
    mkReg Reg.BP_IXCTL 1 0x0 1 0 [fd 31 31 .ro 0, fd 30 28 .ro 0, fd 0 0 .wo 0],
    mkReg Reg.BP_IXSALT 1 0x0 1 0 [fd 31 0 .rwl 0],
    mkReg Reg.BP_IXOBJ 1 0x0 1 0 [fd 22 0 .ro 0],
    mkReg Reg.BP_IXVER 1 0x0 1 0 [fd 24 0 .ro 0],
    mkReg Reg.BP_IXTIME 1 0x0 1 0 [fd 31 16 .ro 0, fd 15 0 .ro 0],
    mkReg Reg.BP_QMAP 1024 0x4 1 0 [fd 5 0 .rwl 0]]

/-- The registers of block CM. -/
def regsCM : List RegDesc :=
  [
    mkReg Reg.CM_CTL 1 0x0 1 0 [fd 31 31 .rwl 0, fd 30 29 .rwl 2, fd 3 0 .rwl 3],
    mkReg Reg.CM_FIFOCFG 1 0x0 1 0 [fd 19 16 .rwl 8, fd 9 0 .rwl 0x10],
    mkReg Reg.CM_FIFOSTAT 1 0x0 1 0 [fd 21 16 .ro 0, fd 5 0 .ro 0],
    mkReg Reg.CM_CLANES 1 0x0 1 0 [fd 31 0 .ro 0xFFFFFFFF],
    mkReg Reg.CM_DLANES 1 0x0 1 0 [fd 31 0 .ro 0xFFFFFFFF],
    mkReg Reg.CM_LSEL 1 0x0 1 0 [fd 5 0 .rw 0],
    mkReg Reg.CM_LFAULT 1 0x0 1 0 [fd 31 31 .ro 0, fd 7 0 .ro 0],
    mkReg Reg.CM_VFAIL 1 0x0 1 0 [fd 31 31 .w1c 0, fd 30 30 .ro 0, fd 20 16 .ro 0, fd 12 8 .ro 0],
    mkReg Reg.CM_VFAILOFF 1 0x0 1 0 [fd 22 0 .ro 0],
    mkReg Reg.CM_CNTSEL 1 0x0 1 0 [fd 3 0 .rw 0],
    mkReg Reg.CM_CNT_LO 1 0x0 1 0 [fd 31 0 .ro 0],
    mkReg Reg.CM_CNT_HI 1 0x0 1 0 [fd 31 0 .ro 0]]

/-- The registers of block CX. -/
def regsCX : List RegDesc :=
  [
    mkReg Reg.CX_CTL 1 0x0 1 0 [fd 31 31 .rwl 0, fd 14 8 .rwl 0x10, fd 7 0 .rwl 0xA],
    mkReg Reg.CX_SLOTSEL 1 0x0 1 0 [fd 9 0 .rw 0],
    mkReg Reg.CX_SLOTSTAT 1 0x0 1 0 [fd 31 30 .ro 0, fd 29 28 .ro 0, fd 23 0 .ro 0],
    mkReg Reg.CX_SLOTKID_LO 1 0x0 1 0 [fd 31 0 .ro 0],
    mkReg Reg.CX_SLOTKID_HI 1 0x0 1 0 [fd 31 0 .ro 0],
    mkReg Reg.CX_SLOTCTR_LO 1 0x0 1 0 [fd 31 0 .ro 0],
    mkReg Reg.CX_SLOTCTR_HI 1 0x0 1 0 [fd 31 0 .ro 0],
    mkReg Reg.CX_SLOTPFX 1 0x0 1 0 [fd 31 0 .ro 0],
    mkReg Reg.CX_IVLBASE_LO 1 0x0 1 0 [fd 31 0 .rw 0],
    mkReg Reg.CX_IVLBASE_HI 1 0x0 1 0 [fd 31 0 .rw 0],
    mkReg Reg.CX_IVLCTL 1 0x0 1 0 [fd 31 31 .rw 0, fd 30 30 .rw 0, fd 3 0 .rw 0],
    mkReg Reg.CX_IVLTAIL 1 0x0 1 0 [fd 14 0 .ro 0]] ++
  [
    mkReg Reg.CX_IVLHEAD 1 0x0 1 0 [fd 14 0 .rw 0],
    mkReg Reg.CX_IVLLOST 1 0x0 1 0 [fd 31 0 .w1c 0],
    mkReg Reg.CX_PIPES 1 0x0 1 0 [fd 31 31 .ro 0, fd 15 0 .ro 0xFFFF],
    mkReg Reg.CX_AUTHFAIL 1 0x0 1 0 [fd 31 16 .w1c 0, fd 15 0 .w1c 0],
    mkReg Reg.CX_IMPPUB 24 0x4 1 0 [fd 31 0 .ro 0]]

/-- The registers of block FM. -/
def regsFM : List RegDesc :=
  [
    mkReg Reg.FM_CTL 1 0x0 1 0 [fd 31 31 .rwl 0],
    mkReg Reg.FM_FOLIO_LO 1 0x0 1 0 [fd 31 0 .ro 0],
    mkReg Reg.FM_FOLIO_HI 1 0x0 1 0 [fd 31 0 .ro 0],
    mkReg Reg.FM_GROUP 1 0x0 1 0 [fd 31 31 .ro 0, fd 9 8 .ro 0, fd 5 0 .ro 0],
    mkReg Reg.FM_GBASE_LO 1 0x0 1 0 [fd 31 0 .ro 0],
    mkReg Reg.FM_GBASE_HI 1 0x0 1 0 [fd 31 0 .ro 0],
    mkReg Reg.FM_L3CFG 1 0x0 1 0 [fd 5 0 .rwl 0x20],
    mkReg Reg.FM_ENC 1 0x0 1 0 [fd 19 16 .ro 0xF, fd 15 0 .ro 0xFFFF],
    mkReg Reg.FM_CNTSEL 1 0x0 1 0 [fd 3 0 .rw 0],
    mkReg Reg.FM_CNT_LO 1 0x0 1 0 [fd 31 0 .ro 0],
    mkReg Reg.FM_CNT_HI 1 0x0 1 0 [fd 31 0 .ro 0]]

/-- The registers of block SH. -/
def regsSH : List RegDesc :=
  [
    mkReg Reg.SH_CTL 1 0x0 1 0 [fd 31 31 .rwl 0, fd 30 30 .wo 0, fd 29 29 .wo 0],
    mkReg Reg.SH_STAT 1 0x0 1 0 [fd 31 29 .ro 0, fd 28 28 .ro 0, fd 27 27 .ro 0, fd 23 16 .ro 0xFF, fd 7 0 .ro 0],
    mkReg Reg.SH_POS 1 0x0 1 0 [fd 31 31 .ro 0, fd 24 0 .ro 0],
    mkReg Reg.SH_GEOM 1 0x0 1 0 [fd 31 31 .ro 0, fd 24 0 .ro 0],
    mkReg Reg.SH_PROOFCFG 1 0x0 1 0 [fd 28 24 .rwl 0xC, fd 21 16 .ro 0, fd 11 0 .rwl 0x9C4],
    mkReg Reg.SH_RWCFG 1 0x0 1 0 [fd 27 24 .rwl 4, fd 23 20 .rwl 2, fd 15 0 .rwl 0x19A],
    mkReg Reg.SH_TRKCFG 1 0x0 1 0 [fd 19 16 .rwl 3, fd 15 0 .rwl 0x40],
    mkReg Reg.SH_SPDCFG 1 0x0 1 0 [fd 31 28 .rwl 0xF, fd 27 24 .rwl 0, fd 23 20 .rwl 1, fd 15 8 .rwl 0x19, fd 7 0 .rwl 0x14],
    mkReg Reg.SH_FILLCFG 1 0x0 1 0 [fd 31 24 .rwl 0xA0, fd 23 16 .rwl 0x40, fd 15 8 .rwl 8, fd 7 0 .rwl 4],
    mkReg Reg.SH_RUNCFG 1 0x0 1 0 [fd 31 24 .rwl 0x14, fd 23 16 .rwl 8, fd 15 0 .rwl 0x3E8],
    mkReg Reg.SH_SPEED 1 0x0 1 0 [fd 31 28 .ro 0, fd 27 24 .ro 0, fd 17 0 .ro 0],
    mkReg Reg.SH_FILL 1 0x0 1 0 [fd 31 24 .ro 0, fd 18 0 .ro 0]] ++
  [
    mkReg Reg.SH_EOMCFG 1 0x0 1 0 [fd 31 24 .rwl 0x10, fd 22 0 .ro 0],
    mkReg Reg.SH_TRKSEL 1 0x0 1 0 [fd 6 0 .rw 0],
    mkReg Reg.SH_TRKSTAT 1 0x0 1 0 [fd 31 31 .ro 0, fd 27 24 .ro 0, fd 15 0 .ro 0],
    mkReg Reg.SH_PRIMER 1 0x0 1 0 [fd 31 24 .ro 1, fd 16 0 .ro 0],
    mkReg Reg.SH_PRIMERCRC 1 0x0 1 0 [fd 31 0 .ro 0],
    mkReg Reg.SH_CNTSEL 1 0x0 1 0 [fd 3 0 .rw 0],
    mkReg Reg.SH_CNT_LO 1 0x0 1 0 [fd 31 0 .ro 0],
    mkReg Reg.SH_CNT_HI 1 0x0 1 0 [fd 31 0 .ro 0]]

/-- The registers of block HL. -/
def regsHL : List RegDesc :=
  [
    mkReg Reg.HL_CTL 1 0x0 1 0 [fd 31 31 .rwl 0, fd 30 16 .wo 0, fd 15 0 .rwl 0xFFFF],
    mkReg Reg.HL_RETRY0 1 0x0 1 0 [fd 0 0 .wo 0],
    mkReg Reg.HL_CFG 1 0x0 1 0 [fd 15 8 .rwl 0x14, fd 3 0 .rwl 3],
    mkReg Reg.HL_UP 1 0x0 1 0 [fd 31 16 .ro 0, fd 15 0 .ro 0],
    mkReg Reg.HL_LSEL 1 0x0 1 0 [fd 3 0 .rw 0],
    mkReg Reg.HL_LSTAT 1 0x0 1 0 [fd 31 29 .ro 0, fd 28 28 .w1c 0, fd 27 24 .ro 0, fd 23 16 .ro 0, fd 15 0 .ro 0],
    mkReg Reg.HL_TXEQ 1 0x0 1 0 [fd 29 24 .rwl 0, fd 23 18 .rwl 4, fd 17 12 .rwl 0x34, fd 11 6 .rwl 4, fd 5 0 .rwl 0],
    mkReg Reg.HL_CHSET 1 0x0 1 0 [fd 31 24 .rwl 0x80, fd 19 16 .rwl 0, fd 15 8 .rwl 0x40, fd 1 0 .rwl 3],
    mkReg Reg.HL_CNTSEL 1 0x0 1 0 [fd 3 0 .rw 0],
    mkReg Reg.HL_CNT_LO 1 0x0 1 0 [fd 31 0 .ro 0],
    mkReg Reg.HL_CNT_HI 1 0x0 1 0 [fd 31 0 .ro 0]]

/-- The registers of block TC. -/
def regsTC : List RegDesc :=
  [
    mkReg Reg.TC_CTL 1 0x0 1 0 [fd 31 31 .rwl 0, fd 30 30 .wo 0, fd 29 29 .wo 0],
    mkReg Reg.TC_STAT 1 0x0 1 0 [fd 31 30 .ro 0, fd 29 27 .ro 0, fd 26 24 .ro 0, fd 23 23 .ro 0, fd 22 22 .ro 0, fd 21 21 .ro 0, fd 20 20 .ro 0, fd 19 19 .ro 0, fd 18 16 .ro 0, fd 3 0 .ro 0],
    mkReg Reg.TC_TIMER 1 0x0 1 0 [fd 12 0 .rwl 0x4E2],
    mkReg Reg.TC_FAULT 1 0x0 1 0 [fd 18 11 .w1c 0, fd 10 0 .w1c 0],
    mkReg Reg.TC_REACT 1 0x0 1 0 [fd 14 12 .rwl 2, fd 11 9 .rwl 2, fd 8 6 .rwl 2, fd 5 3 .rwl 2, fd 2 0 .rwl 3],
    mkReg Reg.TC_PROF 1 0x0 1 0 [fd 31 24 .rwl 0xC8, fd 23 16 .rwl 0x14, fd 15 8 .rwl 0x64, fd 7 0 .rwl 5],
    mkReg Reg.TC_POS 1 0x0 1 0 [fd 31 0 .ro 0],
    mkReg Reg.TC_VEL 1 0x0 1 0 [fd 15 0 .ro 0],
    mkReg Reg.TC_REELK 1 0x0 1 0 [fd 23 0 .rwl 0],
    mkReg Reg.TC_RADIUS 1 0x0 1 0 [fd 31 16 .ro 0, fd 15 0 .ro 0],
    mkReg Reg.TC_RADBND 1 0x0 1 0 [fd 29 20 .rwl 0x1C2, fd 19 10 .rwl 0x15E, fd 9 0 .rwl 0xFA],
    mkReg Reg.TC_SPDBND 1 0x0 1 0 [fd 11 8 .rwl 0xC, fd 7 4 .rwl 8, fd 3 0 .rwl 4]] ++
  [
    mkReg Reg.TC_ENCCFG 1 0x0 1 0 [fd 31 16 .rwl 0x2000, fd 15 8 .rwl 0xFA, fd 7 0 .rwl 4],
    mkReg Reg.TC_ENCS 1 0x0 1 0 [fd 31 0 .ro 0],
    mkReg Reg.TC_ENCT 1 0x0 1 0 [fd 31 0 .ro 0],
    mkReg Reg.TC_ENCERR 1 0x0 1 0 [fd 31 16 .w1c 0, fd 15 0 .w1c 0],
    mkReg Reg.TC_DINCFG 3 0x4 1 0 [fd 31 31 .rwl 1, fd 30 27 .rwl 7, fd 26 23 .rwl 5, fd 22 16 .rwl 0x10, fd 15 8 .rwl 0xA, fd 7 0 .rwl 0],
    mkReg Reg.TC_DINCFG3 1 0x0 1 0 [fd 31 31 .ro 0, fd 30 27 .rwl 7, fd 26 23 .rwl 5, fd 22 16 .rwl 0x10, fd 15 8 .rwl 0xA, fd 7 0 .rwl 0],
    mkReg Reg.TC_DINSTAT 1 0x0 1 0 [fd 7 4 .ro 0, fd 3 0 .ro 0],
    mkReg Reg.TC_LEADCFG 1 0x0 1 0 [fd 15 0 .rwl 0x64],
    mkReg Reg.TC_SPCFG 2 0x4 1 0 [fd 31 30 .rwl 3, fd 29 29 .rwl 0, fd 23 16 .rwl 0x32, fd 15 8 .rwl 2, fd 7 0 .rwl 0x10],
    mkReg Reg.TC_DPCFG 2 0x4 1 0 [fd 31 30 .rwl 3, fd 29 29 .rwl 0, fd 15 8 .rwl 2],
    mkReg Reg.TC_BRKCFG 1 0x0 1 0 [fd 15 8 .rwl 0x32, fd 7 0 .rwl 0x32],
    mkReg Reg.TC_PESCFG 1 0x0 1 0 [fd 31 16 .rwl 0xFFFF, fd 15 8 .rwl 0x40, fd 3 0 .rwl 4]] ++
  [
    mkReg Reg.TC_HEADBASE 1 0x0 1 0 [fd 31 0 .rwl 0],
    mkReg Reg.TC_HEADPITCH 1 0x0 1 0 [fd 31 0 .rwl 0],
    mkReg Reg.TC_HEADCFG 1 0x0 1 0 [fd 31 16 .rwl 0xC8, fd 15 0 .rwl 0x40],
    mkReg Reg.TC_SCFG 8 0x400 1 0 [fd 31 31 .wo 0, fd 18 16 .rwl 2, fd 8 8 .rwl 0, fd 5 4 .rwl 0, fd 1 0 .rwl 0],
    mkReg Reg.TC_SROUTE 8 0x400 1 0 [fd 28 24 .rwl 0, fd 20 16 .rwl 0, fd 12 8 .rwl 0],
    mkReg Reg.TC_SSCALE 8 0x400 1 0 [fd 31 0 .rwl 0x1000000],
    mkReg Reg.TC_SUMAX 8 0x400 1 0 [fd 31 0 .rwl 0x1000000],
    mkReg Reg.TC_SUMIN 8 0x400 1 0 [fd 31 0 .rwl 0xFF000000],
    mkReg Reg.TC_SSATLIM 8 0x400 1 0 [fd 23 0 .rwl 0x1F400],
    mkReg Reg.TC_SSATCNT 8 0x400 1 0 [fd 23 0 .ro 0],
    mkReg Reg.TC_SMAN 8 0x400 1 0 [fd 31 0 .rwl 0],
    mkReg Reg.TC_SSETPT 8 0x400 1 0 [fd 31 0 .rwl 0]] ++
  [
    mkReg Reg.TC_SLUTSCALE 8 0x400 1 0 [fd 31 0 .rwl 0x3F000],
    mkReg Reg.TC_SSTAT 8 0x400 1 0 [fd 31 31 .ro 0, fd 30 30 .w1c 0, fd 29 29 .ro 0, fd 28 28 .ro 0, fd 9 8 .ro 0, fd 3 0 .ro 0],
    mkReg Reg.TC_SOUT 8 0x400 1 0 [fd 31 0 .ro 0],
    mkReg Reg.TC_SINT 8 0x400 1 0 [fd 31 0 .ro 0],
    mkReg Reg.TC_SLUT 8 0x400 32 4 [fd 31 16 .rwl 0x1000, fd 15 0 .rwl 0x1000],
    mkReg Reg.TC_SNOTCH1B0 8 0x400 1 0 [fd 31 0 .rwl 0x1000000],
    mkReg Reg.TC_SNOTCH1 8 0x400 4 4 [fd 31 0 .rwl 0],
    mkReg Reg.TC_SNOTCH2B0 8 0x400 1 0 [fd 31 0 .rwl 0x1000000],
    mkReg Reg.TC_SNOTCH2 8 0x400 4 4 [fd 31 0 .rwl 0],
    mkReg Reg.TC_SCOEF 8 0x400 64 4 [fd 31 0 .rwl 0]]

/-- The registers of block ER. -/
def regsER : List RegDesc :=
  [
    mkReg Reg.ER_CTL 1 0x0 1 0 [fd 31 31 .rwl 0, fd 30 30 .wo 0],
    mkReg Reg.ER_CFG 1 0x0 1 0 [fd 31 16 .rwl 0x1388, fd 3 0 .rwl 3],
    mkReg Reg.ER_STAT 1 0x0 1 0 [fd 31 29 .ro 0, fd 28 28 .ro 0, fd 27 27 .ro 0, fd 20 16 .ro 0, fd 12 8 .ro 0, fd 4 0 .ro 0],
    mkReg Reg.ER_EPOCH 1 0x0 1 0 [fd 31 0 .ro 0],
    mkReg Reg.ER_EPOCHX 1 0x0 1 0 [fd 15 0 .ro 0],
    mkReg Reg.ER_SEQ 1 0x0 1 0 [fd 31 0 .ro 0],
    mkReg Reg.ER_RSEL 1 0x0 1 0 [fd 31 0 .rw 0],
    mkReg Reg.ER_RSTAT 1 0x0 1 0 [fd 31 31 .ro 0, fd 30 30 .ro 0],
    mkReg Reg.ER_REL 1 0x0 1 0 [fd 31 0 .wo 0],
    mkReg Reg.ER_LOGSTAT 1 0x0 1 0 [fd 31 31 .w1c 0, fd 24 16 .ro 0, fd 15 0 .w1c 0],
    mkReg Reg.ER_SNAP 1 0x0 1 0 [fd 31 31 .ro 0, fd 30 0 .ro 0],
    mkReg Reg.ER_RDATA 16 0x4 1 0 [fd 31 0 .ro 0]] ++
  [
    mkReg Reg.ER_LSEL 1 0x0 1 0 [fd 5 0 .rw 0],
    mkReg Reg.ER_LSTAT 1 0x0 1 0 [fd 31 31 .ro 0, fd 30 30 .ro 0, fd 6 0 .ro 0],
    mkReg Reg.ER_LREL 1 0x0 1 0 [fd 5 0 .wo 0],
    mkReg Reg.ER_LDATA 16 0x4 1 0 [fd 31 0 .ro 0],
    mkReg Reg.ER_PEND 16 0x4 1 0 [fd 31 31 .ro 0, fd 30 30 .ro 0, fd 29 29 .ro 0, fd 26 24 .ro 0, fd 20 16 .ro 0, fd 15 0 .ro 0]]

/-- The registers of block MI. -/
def regsMI : List RegDesc :=
  [
    mkReg Reg.MI_CTL 1 0x0 1 0 [fd 31 31 .rwl 0, fd 30 30 .rwl 1],
    mkReg Reg.MI_STAT 1 0x0 1 0 [fd 31 31 .ro 1, fd 30 30 .ro 0, fd 29 29 .ro 0, fd 25 24 .ro 0],
    mkReg Reg.MI_CFG 1 0x0 1 0 [fd 15 8 .rwl 8, fd 7 0 .rwl 4],
    mkReg Reg.MI_CECNT 4 0x4 1 0 [fd 31 0 .w1c 0],
    mkReg Reg.MI_UECNT 1 0x0 1 0 [fd 31 24 .w1c 0, fd 23 16 .w1c 0, fd 15 8 .w1c 0, fd 7 0 .w1c 0],
    mkReg Reg.MI_LOGSTAT 1 0x0 1 0 [fd 15 8 .w1c 0, fd 5 0 .ro 0],
    mkReg Reg.MI_LOGSEL 1 0x0 1 0 [fd 4 0 .rw 0],
    mkReg Reg.MI_LOGADDR 1 0x0 1 0 [fd 31 0 .ro 0],
    mkReg Reg.MI_LOGINFO 1 0x0 1 0 [fd 31 31 .ro 0, fd 30 29 .ro 0, fd 28 21 .ro 0, fd 20 14 .ro 0x7F, fd 13 7 .ro 0x7F, fd 5 0 .ro 0],
    mkReg Reg.MI_LOGTIME 1 0x0 1 0 [fd 31 0 .ro 0],
    mkReg Reg.MI_LOGCLR 1 0x0 1 0 [fd 31 31 .wo 0, fd 4 0 .wo 0],
    mkReg Reg.MI_WINCFG 1 0x0 1 0 [fd 31 16 .rwl 0x258, fd 7 0 .rwl 4]] ++
  [
    mkReg Reg.MI_WINLAP 1 0x0 1 0 [fd 31 16 .ro 0, fd 15 0 .ro 0],
    mkReg Reg.MI_WINPOS 1 0x0 1 0 [fd 31 31 .w1c 0, fd 9 0 .ro 0],
    mkReg Reg.MI_WINCOR 1 0x0 1 0 [fd 31 0 .ro 0],
    mkReg Reg.MI_REPSTAT 1 0x0 1 0 [fd 31 24 .ro 0, fd 23 12 .ro 0, fd 11 0 .ro 0],
    mkReg Reg.MI_REPCTL 1 0x0 1 0 [fd 31 31 .wo 0, fd 30 28 .ro 0, fd 10 0 .ro 0],
    mkReg Reg.MI_RETIRED 1 0x0 1 0 [fd 15 0 .ro 0],
    mkReg Reg.MI_FLIP0 1 0x0 1 0 [fd 31 0 .rw 0],
    mkReg Reg.MI_FLIP1 1 0x0 1 0 [fd 31 0 .rw 0],
    mkReg Reg.MI_FLIP2 1 0x0 1 0 [fd 15 0 .rw 0],
    mkReg Reg.MI_FLIPCTL 1 0x0 1 0 [fd 31 31 .rw 0, fd 30 30 .w1c 0],
    mkReg Reg.MI_BIST 1 0x0 1 0 [fd 12 0 .ro 0]]

/-- The registers of block HK. -/
def regsHK : List RegDesc :=
  [
    mkReg Reg.HK_CTL 1 0x0 1 0 [fd 31 31 .rwl 0, fd 30 30 .rwl 1, fd 29 29 .rwl 1],
    mkReg Reg.HK_STAT 1 0x0 1 0 [fd 31 29 .ro 0, fd 28 27 .ro 0, fd 26 26 .ro 0, fd 25 25 .ro 0, fd 24 24 .ro 0, fd 23 23 .ro 0, fd 22 22 .w1c 0, fd 15 12 .ro 0, fd 11 0 .ro 0],
    mkReg Reg.HK_TEMP 1 0x0 1 0 [fd 31 31 .ro 0, fd 30 30 .ro 0, fd 15 0 .ro 0],
    mkReg Reg.HK_BANDTHR 1 0x0 1 0 [fd 31 24 .rwl 0x69, fd 23 16 .rwl 0x5F, fd 15 8 .rwl 0x55, fd 7 0 .rwl 0x46],
    mkReg Reg.HK_THRCFG 1 0x0 1 0 [fd 31 20 .rwl 0x1F4, fd 19 12 .rwl 0x64, fd 11 8 .rwl 8, fd 7 0 .rwl 0xA],
    mkReg Reg.HK_THRRATE 1 0x0 1 0 [fd 17 0 .rwl 0x1C138],
    mkReg Reg.HK_AVSCFG 1 0x0 1 0 [fd 31 28 .rwl 0, fd 27 24 .rwl 5, fd 15 8 .rwl 0x20, fd 7 0 .rwl 8],
    mkReg Reg.HK_AVSLIM 1 0x0 1 0 [fd 31 16 .rwl 0x384, fd 15 0 .rwl 0x258],
    mkReg Reg.HK_AVS 1 0x0 1 0 [fd 31 31 .ro 0, fd 30 30 .ro 0, fd 15 0 .ro 0],
    mkReg Reg.HK_PWR 1 0x0 1 0 [fd 31 16 .rwl 0, fd 15 0 .ro 0],
    mkReg Reg.HK_CHSEL 1 0x0 1 0 [fd 4 0 .rw 0],
    mkReg Reg.HK_CHDATA 1 0x0 1 0 [fd 31 31 .ro 0, fd 30 30 .ro 0, fd 27 16 .ro 0, fd 15 0 .ro 0]] ++
  [
    mkReg Reg.HK_AINLIM 8 0x4 1 0 [fd 27 16 .rwl 0xFFF, fd 11 0 .rwl 0],
    mkReg Reg.HK_DRAIN 1 0x0 1 0 [fd 31 28 .rwl 7, fd 15 0 .rwl 0x384]]

/-- The registers of block CS. -/
def regsCS : List RegDesc :=
  [
    mkReg Reg.CS_CTL 1 0x0 1 0 [fd 31 31 .rwl 0, fd 30 30 .wo 0, fd 29 29 .wo 0],
    mkReg Reg.CS_STAT 1 0x0 1 0 [fd 31 29 .ro 0, fd 28 28 .ro 0, fd 27 27 .ro 0, fd 26 26 .ro 0, fd 25 25 .ro 0, fd 23 20 .ro 0, fd 15 8 .ro 0, fd 2 0 .ro 0],
    mkReg Reg.CS_MODE 1 0x0 1 0 [fd 31 30 .rwl 0, fd 9 8 .rwl 1, fd 2 0 .rwl 0],
    mkReg Reg.CS_CFG 1 0x0 1 0 [fd 31 16 .rwl 0x64, fd 15 8 .rwl 0xA],
    mkReg Reg.CS_OFFSET 1 0x0 1 0 [fd 31 16 .ro 0, fd 15 8 .w1c 0, fd 7 0 .ro 0],
    mkReg Reg.CS_LEND 1 0x0 1 0 [fd 31 16 .rwl 0x40, fd 15 0 .ro 0],
    mkReg Reg.CS_LANES 1 0x0 1 0 [fd 31 16 .ro 0, fd 7 4 .ro 0, fd 3 0 .ro 0],
    mkReg Reg.CS_CNTSEL 1 0x0 1 0 [fd 3 0 .rw 0],
    mkReg Reg.CS_CNT_LO 1 0x0 1 0 [fd 31 0 .ro 0],
    mkReg Reg.CS_CNT_HI 1 0x0 1 0 [fd 31 0 .ro 0]]

/-- The registers of block FU. -/
def regsFU : List RegDesc :=
  [
    mkReg Reg.FU_CTL 1 0x0 1 0 [fd 31 31 .rwl 0, fd 30 30 .wo 0, fd 29 28 .rw 0],
    mkReg Reg.FU_STAT 1 0x0 1 0 [fd 31 31 .ro 0, fd 30 30 .ro 0, fd 29 29 .ro 0, fd 28 26 .ro 0, fd 25 24 .ro 0, fd 23 20 .ro 0, fd 19 19 .ro 0, fd 18 12 .ro 0, fd 11 11 .ro 0, fd 7 0 .ro 0],
    mkReg Reg.FU_ADDR 1 0x0 1 0 [fd 10 0 .rw 0],
    mkReg Reg.FU_DATA 1 0x0 1 0 [fd 31 0 .ro 0],
    mkReg Reg.FU_DBG 1 0x0 1 0 [fd 31 30 .ro 0, fd 29 28 .rw 0, fd 27 27 .ro 0, fd 26 26 .wo 0, fd 25 24 .ro 0, fd 23 23 .ro 0, fd 22 22 .ro 0],
    mkReg Reg.FU_TAMPER 1 0x0 1 0 [fd 31 31 .rwl 0, fd 30 30 .rwl 0, fd 29 27 .rwl 0],
    mkReg Reg.FU_CHAL 16 0x4 1 0 [fd 31 0 .ro 0],
    mkReg Reg.FU_RESP 64 0x4 1 0 [fd 31 0 .wo 0],
    mkReg Reg.FU_STAGE 256 0x4 1 0 [fd 31 0 .rw 0]]

/-- The registers of block EN. -/
def regsEN : List RegDesc :=
  [
    mkReg Reg.EN_CTL 1 0x0 1 0 [fd 31 31 .rwl 0],
    mkReg Reg.EN_SLEEP 1 0x0 1 0 [fd 31 31 .rwl 1, fd 15 0 .rwl 0x64],
    mkReg Reg.EN_AWAKE 1 0x0 1 0 [fd 31 0 .ro 0xFFFFFFFF],
    mkReg Reg.EN_PADDR_LO 1 0x0 1 0 [fd 31 0 .rw 0],
    mkReg Reg.EN_PADDR_HI 1 0x0 1 0 [fd 31 0 .rw 0],
    mkReg Reg.EN_PCTL 1 0x0 1 0 [fd 31 31 .wo 0, fd 30 30 .wo 0, fd 29 29 .rw 0],
    mkReg Reg.EN_PSTAT 1 0x0 1 0 [fd 31 31 .ro 0, fd 30 27 .ro 0, fd 26 23 .ro 0],
    mkReg Reg.EN_CSEL 1 0x0 1 0 [fd 1 0 .rw 0],
    mkReg Reg.EN_CSTAT 1 0x0 1 0 [fd 31 31 .ro 0, fd 30 30 .ro 0, fd 29 29 .ro 0, fd 15 6 .ro 0, fd 5 0 .ro 0],
    mkReg Reg.EN_CVER 1 0x0 1 0 [fd 31 0 .ro 0],
    mkReg Reg.EN_MATCH 32 0x4 1 0 [fd 31 31 .ro 0, fd 24 16 .ro 0, fd 13 0 .ro 0]]

/-- The registers of block SN. -/
def regsSN : List RegDesc :=
  [
    mkReg Reg.SN_CTL 1 0x0 1 0 [fd 31 31 .rwl 0, fd 30 30 .wo 0, fd 29 29 .rwl 0, fd 28 28 .rwl 1],
    mkReg Reg.SN_STAT 1 0x0 1 0 [fd 31 31 .ro 0, fd 30 30 .ro 0, fd 29 29 .ro 0, fd 28 27 .ro 0, fd 7 0 .w1c 0],
    mkReg Reg.SN_TARGET_LO 1 0x0 1 0 [fd 31 0 .ro 0],
    mkReg Reg.SN_TARGET_HI 1 0x0 1 0 [fd 31 0 .ro 0],
    mkReg Reg.SN_SPREAD 1 0x0 1 0 [fd 22 16 .ro 0, fd 5 0 .ro 0],
    mkReg Reg.SN_DSEL 1 0x0 1 0 [fd 6 0 .rw 0],
    mkReg Reg.SN_DATA 64 0x4 1 0 [fd 31 0 .ro 0]]

/-- The register map of Table 1.1 by block index (bits [25:16] of the offset, Table 1.1). -/
def regBlock (blk : Nat) : List RegDesc :=
  if blk = 0x0 then regsGL else
  if blk = 0x1 then regsST else
  if blk = 0x2 then regsQM else
  if blk = 0x10 then regsDB else
  if blk = 0x20 then regsBP else
  if blk = 0x30 then regsCM else
  if blk = 0x40 then regsCX else
  if blk = 0x50 then regsFM else
  if blk = 0x60 then regsSH else
  if blk = 0x70 then regsHL else
  if blk = 0x80 then regsTC else
  if blk = 0x90 then regsER else
  if blk = 0xA0 then regsMI else
  if blk = 0xB0 then regsHK else
  if blk = 0xC0 then regsCS else
  if blk = 0xD0 then regsFU else
  if blk = 0xE0 then regsEN else
  if blk = 0xF0 then regsSN else
  []

end Sys2Proof.Machine
end

