-- ==== Sys2Proof/Machine/State.lean ====
section
/-! DEFINITION. The state of the WL-9200 as plain data: every register, queue, buffer, counter, mode and pin that spec/
gives the device, and the queue of waiting commands. -/

namespace Sys2Proof.Machine

/-- A stamp T:O (R8): tick count and origin. -/
structure Stamp where
  t : Nat
  o : BitVec 8
  deriving DecidableEq, Repr

/-- The stamp before all others. -/
def Stamp.zero : Stamp := ⟨0, 0⟩

/-! ### Clock, ports and queues -/

/-- The stamp service (R81 to R84): count, epoch flags, and per unit code of Table 4.1 one more than the T of its last stamp; `ahead` is by how many ticks a member's count
still has to fall back to its master's (R337). -/
structure Clock where
  now : Nat
  running : Bool
  adopted : Bool
  member : BitVec 3
  last : Table Nat 0
  stalls : List (Nat × Nat)
  leadUnit : Nat
  ahead : Nat
  deriving DecidableEq, Repr

/-- One MSI-X vector (R45, R46): table entry, pending bit, unsignalled entries with the time of the first, messages sent. -/
structure Vec where
  addr : W64
  data : W32
  masked : Bool
  pending : Bool
  unsignalled : Nat
  firstAt : Nat
  sent : Nat
  deriving DecidableEq, Repr

/-- A vector at reset: masked, as MSI-X entries are. -/
def Vec.reset : Vec := ⟨0, 0, true, false, 0, 0, 0⟩

/-- Notice kinds (Table 2.8). -/
inductive NoticeKind where
  | throttleRequest | throttleEnd | lossNotice | errorRecord | drainShutdown | epochChange
  deriving DecidableEq, Repr

/-- An asynchronous notice (R48): kind, result and the stamp of the event it reports. -/
structure Notice where
  kind : NoticeKind
  result : W64
  stamp : Stamp
  deriving DecidableEq, Repr

/-- The configuration fields of an endpoint that the host sets (Tables 2.1 and 2.2): base addresses, maximum payload and read request size in
bytes, 10-bit tags, relaxed ordering, ECRC generation and checking; the AER status words and header log; and D3hot. -/
structure PciCfg where
  bar0 : W64
  bar2 : W64
  payload : Nat
  readReq : Nat
  tags10 : Bool
  relaxed : Bool
  ecrcGen : Bool
  ecrcCheck : Bool
  aerUncorr : W32
  aerCorr : W32
  header : List W32
  d3hot : Bool
  deriving DecidableEq, Repr

/-- The fields at reset, as PCI Express gives them (log entry 132). -/
def PciCfg.reset : PciCfg := ⟨0, 0, 128, 512, false, true, false, false, 0, 0, [], false⟩

/-- One PCI Express port (R20, R21, R23, R24, R45, R49): configuration, link fields, Bus Master Enable, held notices, MSI-X vectors. -/
structure Port where
  cfg : PciCfg
  linkUp : Bool
  flit : Bool
  speed : Nat
  width : Nat
  busMaster : Bool
  held : List Notice
  vecs : Table Vec Vec.reset
  deriving DecidableEq, Repr

/-- States of a queue pair (QM_QSTAT.state). -/
inductive PairState where
  | disabled | active | deleting | error
  deriving DecidableEq, Repr

/-- One queue pair (R25 to R41): the parts that are not register fields. -/
structure Pair where
  st : PairState
  createResult : Nat
  errorCause : Nat
  sqHead : Nat
  sqTail : Nat
  cqHead : Nat
  cqTail : Nat
  phase : Bool
  deriving DecidableEq, Repr

/-- A disabled pair. -/
def Pair.reset : Pair := ⟨.disabled, 0, 0, 0, 0, 0, 0, false⟩

/-- A submission entry (Table 2.3). -/
structure Sqe where
  cid : W16
  kind : Byte
  flags : Byte
  vh : W32
  word : W64
  g0 : W64
  g1 : W64
  g2 : W64
  g3 : W64
  desc : W64
  len : W64
  deriving DecidableEq, Repr

/-- What a commit decides (R95): status, info byte, result and completion stamp of the CQE. -/
structure Completion where
  status : W16
  info : Byte
  result : W64
  stamp : Stamp
  deriving DecidableEq, Repr

/-- An outstanding command (R94 to R97): its entry, arrival stamp, context, and its commit latch `done`.
`fwdTo`/`fwdFrom` name the cascade member it was forwarded to or came from (R340); `orphan` marks one whose port was lost, so
that its completion is counted and not written (R24). -/
structure Cmd where
  id : Nat
  port : PortId
  qid : Nat
  sqe : Sqe
  arrival : Stamp
  ctx : Option Nat
  done : Option Completion
  fwdTo : Option Nat
  fwdFrom : Option Nat
  orphan : Bool
  deriving DecidableEq, Repr

/-- The arbiter (R42): remaining credit of HIGH, MEDIUM and LOW, and the queue last served of each class. -/
structure Arb where
  credHigh : Nat
  credMed : Nat
  credLow : Nat
  lastServed : Table Nat 1023
  nextCmd : Nat
  tokens : Int
  tokenAt : Nat
  pacing : Bool
  deriving DecidableEq, Repr

/-! ### Engines and contexts -/

/-- The page range list walk of a command (R32, R33): ranges found so far, next segment with its room in entries. -/
structure Walk where
  ranges : List (Nat × Nat)
  next : Nat
  room : Nat
  started : Bool
  deriving DecidableEq, Repr

/-- A walk not yet begun. -/
def Walk.none : Walk := ⟨[], 0, 4096, false⟩

/-- Directory entries (Table 10.3, Table of R347), with whether the checkpoint naming each is recorded. -/
inductive DirEntry where
  | extent (flags : Nat) (obj : W64) (off : Nat) (recOff : Nat) (ctOff : Nat) (len : Nat) (sess : Nat) (stampAt : Stamp) (size : Nat)
  | delete (obj : W64) (sess : Nat) (stampAt : Stamp)
  | marker (obj : W64) (off : Nat) (len : Nat) (sess : Nat) (stampAt : Stamp)
  | locator (base : Nat) (sheaf : Nat) (position : Nat) (slot : Nat) (k : Nat) (recordBase : Nat) (directoryBase : Nat)
  | stripe (role : Nat) (k : Nat) (m : Nat) (number : Nat) (base : Nat)
  deriving DecidableEq, Repr

/-- Where bytes [off, off + len) of a read's object come from (R87, R220): a buffered version, an extent on tape, or zero. -/
inductive Source where
  | version (w : Nat) (off : Nat) (len : Nat)
  | extent (e : DirEntry) (off : Nat) (len : Nat)
  | gap (off : Nat) (len : Nat)
  deriving DecidableEq, Repr

/-- A read of an object (GET, STAT, LOCATE, R87 to R89, R227): what it asks for, its stamp, and how far it has come. `delivered` is the
number of bytes it gives, `recsOk` the sources whose record's tag has passed, `ahead` the blocks delivered ahead of it, `todo` the blocks that
wait for a decompressor lane, numbered as in RESTORE_BLOCK_DECODE. -/
structure ReadOp where
  opcode : Nat
  obj : W64
  off : Nat
  want : Nat
  slot : Nat
  stampAt : Stamp
  resolved : Bool
  size : Nat
  plan : List Source
  delivered : Nat
  dest : Nat
  recsOk : List Nat
  ahead : List Nat
  todo : List Nat
  retry : List (Nat × Nat)
  rawSeen : Bool
  deriving DecidableEq, Repr

/-- What a device instruction that takes time is doing in its context (R53, R57). -/
inductive Flight where
  | write (w : Nat)
  | existence (opcode : Nat)
  | read (r : ReadOp)
  | compress (cap : Nat) (size : Nat) (need : Nat) (taken : Nat)
  | decompress (cap : Nat) (need : Nat) (taken : Nat) (got : List Byte)
  | format (volumeId : Option W64) (stage : Nat)
  | load (stage : Nat) (aim : Nat)
  | unload (stage : Nat) (stampAt : Stamp)
  | seal (flushed : Bool) (stampAt : Stamp)
  | flush (stampAt : Stamp)
  | migrate (target : W32) (stampAt : Stamp)
  | erase (slot : Nat) (gone : Bool)
  | eraseNow (slot : Nat) (count : Nat) (gone : Bool)
  | abortWait (target : Nat)
  | fence (invalidate : Bool) (stampAt : Stamp)
  | move
  | seek
  | thread
  | unthread
  deriving DecidableEq, Repr

/-- What a context is doing (R64, Table 18.4). -/
inductive Run where
  | free
  | ready
  | waitTill (t : Nat)
  | line (addr : Nat)
  | flight (f : Flight)
  deriving DecidableEq, Repr

/-- A microthread between instruction boundaries (R369): its micro-address and return stack, top first. -/
structure Micro where
  pc : Nat
  stack : List Nat
  deriving DecidableEq, Repr

/-- One context (Table 3.1), the word it is at, its microthread at the boundary before that word, and its command; `owalk` walks the output list of COMPRESS and DECOMPRESS. `info` is the
stored-raw flag so far (R139), `keep` that its instruction is issued again with the stamp it had (R288), `at_` the line its present word came
from (R60). -/
structure Ctx where
  cmd : Option Nat
  g : Table W64 0
  z : Bool
  n : Bool
  c : Bool
  v : Bool
  h : Table (Option Nat) none
  pc : Nat
  dc : Nat
  vh : W32
  ir : W64
  issue : Stamp
  run : Run
  walk : Walk
  owalk : Walk
  info : Bool
  keep : Bool
  at_ : Option Nat
  micro : Micro
  deriving DecidableEq, Repr

/-- A context that runs nothing. -/
def Ctx.reset : Ctx :=
  ⟨none, Table.empty, false, false, false, false, Table.empty, 0, 0, 0, 0, Stamp.zero, .free, Walk.none, Walk.none, false, false, none, ⟨0, []⟩⟩

/-- One line of an instruction cache (R60): port (0 and 1, and 2 + 2 × member + port for the host memory behind another
member of the ring), line address, 128 bytes. Lists are in order of use, latest first. -/
structure Line where
  port : Nat
  addr : Nat
  bytes : List Byte
  deriving DecidableEq, Repr

/-- One engine's cache, the lines being read with whether each is a prefetch, its sleep with the epoch recorded (R378), and the context
whose turn was last (R64), and when a context of it last became free. -/
structure Engine where
  lines : List Line
  reading : List (Nat × Nat × Bool)
  asleep : Option Nat
  turn : Nat
  idleFrom : Nat
  deriving DecidableEq, Repr

/-- An awake engine with an empty cache; the first turn is context 0's. -/
def Engine.reset : Engine := ⟨[], [], none, 7, 0⟩

/-! ### Buffer pools and version index -/

/-- Holders of a buffer (R109, Table 5.5). -/
inductive Holder where
  | ctx (c : Nat)
  | unit (u : BufUnit)
  | reader (c : Nat)
  | pool
  deriving DecidableEq, Repr

/-- A granted buffer (R103, R109, R110): requester charged, holders, finisher, generation of its grant, share token mode. -/
structure Buf where
  requester : Nat
  holders : List Holder
  finisher : Holder
  gen : Nat
  passOnAttach : Bool
  shared : Bool
  closed : Bool
  signalled : Bool
  deriving DecidableEq, Repr

/-- An internal request waiting on its pools (R105). `tag` names the work it is for (empty for a request of BUFFER_REQUEST) and `share` who
will hold the buffer, its finisher last. -/
structure Waiter where
  unit : BufUnit
  requester : Nat
  pools : List Nat
  stamp : Stamp
  tag : List Nat
  share : List Holder
  deriving DecidableEq, Repr

/-- The buffer pool manager (R100 to R112). Buffer keys are pool × 2^26 + number. `ready` are grants that waiting work of the write or restore
path has been given and not yet taken up: unit, work, buffer. -/
structure Pools where
  carve : Table Nat 0
  reserve : Table Nat 0
  bufs : Table (Option Buf) none
  retiredBufs : List Nat
  used : Table Nat 0
  waiters : List Waiter
  ready : List (BufUnit × List Nat × Nat)
  gens : Nat
  deriving DecidableEq, Repr

/-- The kinds of a write (R87). -/
inductive WKind where
  | put | patch | delete
  deriving DecidableEq, Repr

/-- A write: an intent until it commits, then a version of the index (R88, R113 to R117, R155 to R159, R205, R221). `bufs`
are its galley buffers by block; `passed` and `durables` the blocks that have passed verify and those that are durable;
`cover` is the first byte it covers (the start of the gap for a PATCH); `beaten` is the stamp of the latest write that has superseded any of its
bytes (R115); `indexed` is one more than the number of the checkpoint that
names it, 0 for none. -/
structure Write where
  id : Nat
  cmd : Nat
  ctx : Option Nat
  group : Nat
  vh : W32
  obj : W64
  kind : WKind
  off : Nat
  len : Nat
  cover : Nat
  slot : Nat
  keyId : W64
  blockSize : Nat
  byRequest : Bool
  arrival : Stamp
  data : List Byte
  bufs : List (Nat × Nat)
  passed : List Nat
  durables : List Nat
  commit : Option Stamp
  sizeAfter : Nat
  durable : Bool
  withdrawn : Bool
  hold : Bool
  beaten : Option Stamp
  pinned : Bool
  indexed : Nat
  deriving DecidableEq, Repr

/-- A read registered against its object (R88, R89). -/
structure RegRead where
  ctx : Nat
  obj : W64
  stampAt : Stamp
  deriving DecidableEq, Repr

/-- The place of an object in the object table (R116): its bucket, and its way, none for an entry of the overflow area. -/
structure Place where
  vh : W32
  obj : W64
  bucket : Nat
  way : Option Nat
  deriving DecidableEq, Repr

/-- The version index (R115 to R121): the object table in force or being filled, and the objects of the spine in the order of their first
intents. -/
structure Index where
  writes : List Write
  reads : List RegRead
  nextWrite : Nat
  rebuilding : Bool
  saltInForce : W32
  table : List Place
  spine : List (W32 × W64 × Nat)
  deriving DecidableEq, Repr

/-! ### Ingest, compression, cipher -/

/-- An ingest FIFO carrying a unit (R122 to R124): `cut` is the number of held bytes at which its drain may start, as CM_FIFOCFG had it when the
unit started; `buf` is the staging buffer of a COMPRESS unit (R137). -/
structure Fifo where
  ctx : Nat
  unit : Nat
  bytes : List Byte
  complete : Bool
  draining : Bool
  cut : Nat
  buf : Option Nat
  deriving DecidableEq, Repr

/-- Progress of a block (R126 to R132): Table 6.3 names the outcomes. -/
inductive BlockSt where
  | ready
  | compressing (lane : Nat)
  | framed (lane : Nat) (frame : List Byte)
  | verifying (lane : Nat) (dlane : Nat) (frame : List Byte)
  | outcome (body : List Byte) (raw : Bool) (cause : Nat)
  | passed (body : List Byte) (raw : Bool) (cause : Nat)
  | joined (record : Nat)
  deriving DecidableEq, Repr

/-- A compression block (R125): of a write, or of a COMPRESS running in a context; its buffers of requester 48 are the staging buffer of a
COMPRESS block (`src`) and the one of its frame (`out`). -/
structure Block where
  write : Option Nat
  ctx : Option Nat
  k : Nat
  data : List Byte
  st : BlockSt
  src : Option Nat
  out : Option Nat
  deriving DecidableEq, Repr

/-- The compression complex: blocks, FIFOs by port × 32 + number, mismatch counts of compressor lanes 0 to 31 and
decompressor lanes 32 to 63, and for each decompression island 0 to 3 the length of its present run of starts, verify above 0 and
restore below (R18); keys 8 to 11 mark compression islands verified on their own decompression island (R128). -/
structure Compression where
  fifos : Table (Option Fifo) none
  blocks : List Block
  mismatches : Table Nat 0
  runs : Table Int 0
  deriving DecidableEq, Repr

/-- States of a key slot (Table 7.6). -/
inductive SlotState where
  | empty | loaded | draining | revoking
  deriving DecidableEq, Repr

/-- A key slot (R145, R153 to R158). -/
structure Slot where
  st : SlotState
  key : BitVec 256
  keyId : W64
  usage : BitVec 2
  gen : Nat
  counter : Nat
  pfx : W32
  pins : Nat
  deriving DecidableEq, Repr

/-- An empty slot, key zeroed. -/
def Slot.reset : Slot := ⟨.empty, 0, 0, 0, 0, 0, 0, 0⟩

/-- Progress of a cipher record (R141, R142, R178). -/
inductive RecSt where
  | open
  | waiting
  | inPipe (p : Nat)
  | tagged
  | placed (off : Nat)
  deriving DecidableEq, Repr

/-- A cipher record (R142, R143): the blocks that joined it in order (write, index, ciphertext offset), when the last joined,
its plaintext and buffer, and once closed its stamp and IV; once tagged its 80 + L bytes. -/
structure Rec where
  id : Nat
  slot : Nat
  keyId : W64
  blocks : List (Nat × Nat × Nat)
  joinedAt : Nat
  buf : Option Nat
  plain : List Byte
  stamp : Stamp
  pfx : W32
  counter : Nat
  body : List Byte
  logged : Bool
  st : RecSt
  deriving DecidableEq, Repr

/-- The cipher complex (R141 to R148): key slots, records in the order they opened, those that have left for the tape with their IV log entry
still to be written, and whether the keys of island 40 have been zeroed (R365, R366). -/
structure Cipher where
  slots : Table Slot Slot.reset
  recs : List Rec
  unlogged : List Rec
  nextRec : Nat
  keysZero : Bool
  deriving DecidableEq, Repr

/-! ### Formes, sheaf scheduler -/

/-- Kinds of formes (Table 8.4). -/
inductive FKind where
  | data | directory | parity | colophon | filler
  deriving DecidableEq, Repr

/-- A forme held by the device (R166, R176, R183): header fields, payload in use, the parity bits of header byte 511 (`lead`) and the ledger of a
parity forme, the L2 encoder that has it until it is first sent, its buffer, the place (sheaf, position, slot) of its accepted copy, rewrite
count, copies in the present sheaf, sheaves in a row that used them up with the last of them, and whether it waits for its first copy. -/
structure Forme where
  folio : Nat
  kind : FKind
  flags : Byte
  member : Nat
  groupBase : Nat
  payload : List Byte
  lead : Nat
  streamOff : Nat
  firstRec : Nat
  stamp : Stamp
  lastCkpt : Nat
  ledger : List Byte
  enc : Nat
  buf : Option Nat
  accepted : Option (Nat × Nat × Nat)
  rewrite : Nat
  copies : Nat
  fullSheaves : Nat
  fullIn : Option Nat
  queued : Bool
  deriving DecidableEq, Repr

/-- The open L3 group (R179 to R182): base folio, folios of its members, size in force, and the accumulator: the four parity spans so far. -/
structure Group where
  base : Nat
  members : List Nat
  size : Nat
  recordBase : Nat
  directoryBase : Nat
  encoder : Nat
  acc : List (List Nat)
  deriving DecidableEq, Repr

/-- A closed group waiting for coverage (R183): its folios, close cause and the stream offsets of its ledger. -/
structure Closed where
  base : Nat
  k : Nat
  cause : Nat
  stamp : Stamp
  recordBase : Nat
  directoryBase : Nat
  deriving DecidableEq, Repr

/-- A checkpoint (R217, R218): number, base or delta, its entries, the folios of its formes, what it covers, and the accepted place of its first
forme. -/
structure Ckpt where
  number : Nat
  isBase : Bool
  session : Nat
  entries : List DirEntry
  firstFolio : Nat
  lastFolio : Nat
  recordLen : Nat
  request : Stamp
  recorded : Bool
  place : Nat × Nat × Nat
  deriving DecidableEq, Repr

/-- The forme assembler: next folio is of the volume; held formes, open group, closed groups, pending checkpoints, the
payload of the open data forme, streams not yet placed (R175, R178 to R182). -/
structure Formes where
  held : List Forme
  group : Option Group
  closed : List Closed
  ckpts : List Ckpt
  openPayload : List Byte
  openFirst : Option Nat
  deriving DecidableEq, Repr

/-- Run states of the sheaf scheduler (SH_STAT.run). -/
inductive RunSt where
  | idle | starting | streaming | stopping | turning | halted | full
  deriving DecidableEq, Repr

/-- A forme copy sent to the tape and not yet judged (R194 to R197): rows that failed and rows that have a result. -/
structure Copy where
  id : Nat
  folio : Nat
  filler : Bool
  rewrite : Nat
  sheaf : Nat
  position : Nat
  slot : Nat
  rows : List Nat
  bad : Bool
  deriving DecidableEq, Repr

/-- A rewrite due (R196). -/
structure Rewrite where
  folio : Nat
  rejectedAt : Nat
  rejectedSlot : Nat
  due : Nat
  deriving DecidableEq, Repr

/-- Proof failures of a track (R200): positions of failed rows within the trailing window, sheaves in a row, retired. -/
structure Track where
  fails : List Nat
  sheaves : Nat
  retired : Bool
  persistent : Bool
  deriving DecidableEq, Repr

/-- A track in service. -/
def Track.reset : Track := ⟨[], 0, false, false⟩

/-- A colophon attempt at the end of data or in the ring, with the end position of the accepted attempt; `moved` tells how far the motion to the
ring entry is: 0 the tape is to rewind, 1 it rewinds, 2 it runs (R211). -/
structure ColAttempt where
  folio : Nat
  sealed : Bool
  attempt : Nat
  ring : Bool
  ids : List Nat
  accepted : Nat
  position : Nat
  endPos : Nat
  moved : Nat
  deriving DecidableEq, Repr

/-- The sheaf scheduler (R193 to R206, R227). `count` counts forme positions sent, `rewrites` and `copyLog` the positions of
rewrites and copies within the trailing window; `outs` are the outcomes of blocks (time, stored and input bytes) for q; `carry` are the folios that are
written first in this sheaf, `deferred` those for the next; `tail` the fillers still to be sent before the run stops; `resumeDue` that writing
resumes after the read turn; `sweepRev` and `aim` the direction of the sweep and the read it serves; `draining` the limit of drain-shutdown, `served` that the earliest read of the turn has been served. -/
structure Sheaf where
  run : RunSt
  sheaf : Nat
  pos : Nat
  lag : Nat
  slotsOff : List Nat
  copies : List Copy
  nextCopy : Nat
  due : List Rewrite
  carry : List Nat
  deferred : List Nat
  haltFolio : Option Nat
  tracks : Table Track Track.reset
  rewrites : List Nat
  copyLog : List Nat
  overBudget : Bool
  count : Nat
  tail : Nat
  draining : Nat
  step : Nat
  want : Nat
  down : Nat
  rIn : Rat
  demand : Nat
  inBytes : Nat
  outs : List (Nat × Nat × Nat)
  resumeDue : Bool
  readTurn : Bool
  turnReads : List (Nat × Nat)
  served : Bool
  sweepRev : Bool
  aim : Option Nat
  waitTape : List (Nat × Nat)
  colophon : Option ColAttempt
  deriving DecidableEq, Repr

/-! ### Volume and medium -/

/-- The loaded volume (R212 to R226). `entries` is the directory cache, `fresh` the entries that no checkpoint names yet, `deltas`
and `deltaEntries` what has been recorded since the last base, `lastLocator` the last place of a sheaf given a locator. -/
structure Volume where
  handle : W32
  volumeId : W64
  session : Nat
  sealed : Bool
  len : Nat
  positions : Nat
  blockCode : Nat
  nextFolio : Nat
  nativeUsed : Nat
  recordLen : Nat
  coveredLen : Nat
  directoryLen : Nat
  ckptNumber : Nat
  lastCkpt : Option Ckpt
  deltas : Nat
  deltaEntries : Nat
  entries : List DirEntry
  fresh : List DirEntry
  lastLocator : Nat
  deriving DecidableEq, Repr

/-- A colophon (Table 9.6). -/
structure Colophon where
  sealed : Bool
  session : Nat
  volumeId : W64
  nextFolio : Nat
  endSheaf : Nat
  endPos : Nat
  recordLen : Nat
  directoryLen : Nat
  nativeUsed : Nat
  ckptFolio : Nat
  ckptPlace : Nat × Nat × Nat
  blockCode : Nat
  len : Nat
  deriving DecidableEq, Repr

/-- A forme copy on the tape: place, volume, the forme it carries, and the header it carries it with. -/
structure OnTape where
  sheaf : Nat
  position : Nat
  slot : Nat
  volumeId : W64
  forme : Forme
  header : List Byte
  deriving DecidableEq, Repr

/-- A cartridge: length in mm, the units of its primer (Table 9.4 without preamble, sync and postamble), and the forme copies on its tape, those
of the colophon ring among them. -/
structure Cart where
  len : Nat
  primer : List (List Byte)
  formes : List OnTape
  threaded : Bool
  deriving DecidableEq, Repr, Inhabited

/-- Volume states (R65, Table 10.1). -/
inductive VolState where
  | empty | present | opened | sealed
  deriving DecidableEq, Repr

/-- Modes (R65). -/
inductive Mode where
  | normal | maint | drain
  deriving DecidableEq, Repr

/-- The volume side of the device (R212, R213, R229 to R231): state, loaded volume, cartridge, loads since reset, formes
decoded for reads, copies that a LOAD has read, readings of a group that L3 could not recover, and covered directory entries that are being
reloaded from tape (R222). -/
structure Vol where
  st : VolState
  loaded : Option Volume
  cart : Option Cart
  loads : Nat
  decoded : List Forme
  scan : List OnTape
  rereads : Table Nat 0
  reload : List DirEntry
  formatting : Bool
  firstDone : Bool
  deriving DecidableEq, Repr

/-! ### Head links -/

/-- Link states (Table 11.6). -/
inductive LinkSt where
  | disabled | detect | adapt | align | config | active | repair | failed
  deriving DecidableEq, Repr

/-- A head-channel command (Table 11.4): opcode, channel mask, arguments. -/
structure LinkCmd where
  op : Nat
  mask : Byte
  a : W32
  b : W32
  deriving DecidableEq, Repr

/-- One head link (R236 to R250). Faults, partner and stale live here; `fromRepair` marks training after a loss, `epochAt` is the epoch
recorded at REPAIR, `kept` whether it was found equal at CONFIG; `withheld` the channels whose FIFO reported 4,095 (R243); `rxSeq` and `rx`
the last sequence and the symbols received of each channel; `tx` the symbol blocks last sent, `txRest` and `txSeq` each channel's symbols not yet
in a block and its next sequence (R237); `ctl` the control blocks sent since the last TICK (R240), `waited` the ticks since the command sent (R241). -/
structure Link where
  st : LinkSt
  stale : Bool
  attempts : Nat
  faults : Byte
  partner : W16
  fromRepair : Bool
  epochAt : Option Nat
  kept : Option Bool
  tag : Nat
  queue : List LinkCmd
  sent : Option LinkCmd
  tickSeq : Nat
  silent : Nat
  armed : Byte
  reading : Byte
  underrun : Byte
  withheld : Byte
  fill : List Nat
  rxSeq : Table (Option Nat) none
  rx : Table (List (BitVec 11)) []
  tx : List (BitVec 256)
  txRest : Table (List Nat) []
  txSeq : Table Nat 0
  ctl : List (BitVec 256)
  waited : Nat
  deriving DecidableEq, Repr

/-- A link at reset. -/
def Link.reset : Link :=
  ⟨.disabled, false, 0, 0, 0, false, none, none, 0, [], none, 0, 0, 0, 0, 0, 0, [], Table.empty, Table.empty, [], Table.empty, Table.empty, [], 0⟩

/-! ### Transport -/

/-- Engine states (R278). -/
inductive TcState where
  | safe | releasing | run | stopping
  deriving DecidableEq, Repr

/-- Reactions in rising severity (R276). -/
inductive React where
  | log | hold | stop | quickstop | safe
  deriving DecidableEq, Repr

/-- Modes of a loop slot (TC_SnCFG.mode). -/
inductive SlotMode where
  | off | manual | auto
  deriving DecidableEq, Repr

/-- One loop slot (R255 to R265). Numbers are W32: value × 2^24. `held` is a HOLD of another fault, `heldPes` that of a PES fault (R269). -/
structure Servo where
  mode : SlotMode
  pendingCommit : Bool
  commitAsked : Bool
  i : Int
  yPrev : Int
  spPrev : Int
  fresh : Bool
  satPrev : Int
  satCount : Nat
  satRaised : Bool
  e : Int
  g : Int
  dy : Int
  dsp : Int
  u0 : Int
  n1a : Int
  n1b : Int
  n2a : Int
  n2b : Int
  region : Nat
  out : Int
  held : Bool
  heldPes : Bool
  missing : Bool
  deriving DecidableEq, Repr

/-- A slot in OFF. -/
def Servo.reset : Servo :=
  ⟨.off, false, false, 0, 0, 0, true, 0, 0, false, 0, 0, 0, 0, 0, 0, 0, 0, 0, 0, 0, false, false, false⟩

/-- What asked for a profile (R267). -/
inductive Asker where
  | none
  | insn (c : Nat)
  | scheduler
  | runStart
  | turn
  | stopFor
  deriving DecidableEq, Repr

/-- The profile generator (R266): kind 0 none, 1 velocity, 2 position; setpoints in W32 m/s, m/s² and mm. -/
structure Profile where
  kind : Nat
  step : Nat
  reverse : Bool
  toZero : Bool
  target : Int
  vel : Int
  acc : Int
  pos : Int
  tolCount : Nat
  quick : Bool
  asker : Asker
  deriving DecidableEq, Repr

/-- One discrete input (R273, R274): raw level, filtered active, whether a stuck fault of its present level has been raised, the last samples (16 at
most, the newest last), when the raw level changed in the last 255 ms, and since when the filtered level stands. -/
structure Din where
  raw : Bool
  active : Bool
  stuck : Bool
  window : List Bool
  flips : List Nat
  since : Nat
  deriving DecidableEq, Repr

/-- The transport control engine (R251 to R279). `edges` counts base edges from the arm; `force` holds the slot registers in force
(R264); `codes` are the outputs computed and `shifted` those at the DACs; `rails` counts samples at a rail by channel, and marks under
channel + 8 those whose fault is raised; `encAB` the filtered encoder inputs; `winS` and `winT` the last 1,025 latched counts; `errAt` when the
count errors of the last millisecond fell; radii are in µm, positions in 1/(100 × 2^24) µm, other numbers W32; `seeking` that a head seek
is under way, `headSheaf` and `locked` the sheaf the head was last sent to and whether it is locked there; `relatch` the TC_FAULT bits to set again at the next edge (R277). -/
structure Tc where
  st : TcState
  reaction : React
  driveEn : Bool
  brakeN : Bool
  estopGate : Bool
  edges : Nat
  servos : Table Servo Servo.reset
  force : Table (Option W32) none
  codes : Table (BitVec 16) 0
  shifted : Table (BitVec 16) 0
  sensors : Table (BitVec 16) 0
  rails : Table Nat 0
  encS : Int
  encT : Int
  encAB : Nat
  winS : List Int
  winT : List Int
  latchS : Int
  latchT : Int
  errAt : List Nat
  rS : Nat
  rT : Nat
  velS : Int
  velT : Int
  vel : Int
  posW : Int
  posValid : Bool
  rbandS : Nat
  rbandT : Nat
  sband : Nat
  profile : Profile
  din : Table Din ⟨false, false, false, [], [], 0⟩
  pes : Table (Option Int) none
  pesMean0 : Option Int
  pesMean1 : Option Int
  miss0 : Nat
  miss1 : Nat
  pesRaised0 : Bool
  pesRaised1 : Bool
  seeking : Bool
  headSet : Int
  headSheaf : Nat
  locked : Bool
  lockCount : Nat
  seekFor : Option Nat
  stopHold : Nat
  tick : Nat
  relatch : Nat
  deriving DecidableEq, Repr

/-! ### Errors, memory integrity, housekeeping -/

/-- An error record (Table 13.2). -/
structure ErrRec where
  stamp : Stamp
  adopted : Bool
  session : Nat
  cls : EClass
  origin : Nat
  domain : Nat
  flags : Byte
  inst : Nat
  status : W16
  dqn : Nat
  cid : W16
  category : Nat
  seq : Nat
  epoch : Nat
  d0 : W64
  d1 : W64
  related : Nat
  d2 : W32
  pinned : Bool
  deriving DecidableEq, Repr

/-- A loss record (Table 13.4). `form` is the session and the adopted flag that its own stamp was issued under, `sess` the session of the stamps of
the writes (R84). -/
structure LossRec where
  first : Stamp
  last : Stamp
  sess : Nat
  form : Nat × Bool
  vh : W32
  writes : Nat
  cause : Nat
  member : Nat
  merged : Bool
  seq : Nat
  stampAt : Stamp
  deriving DecidableEq, Repr

/-- State of a pending-list entry (R286, R290). -/
inductive PendSt where
  | waiting | active | parked
  deriving DecidableEq, Repr

/-- An entry of the pending list (R287, R290): class, unit, record, epoch recorded when the unit went down, failed return tests, whether it was preempted
and so stands at the head of its class, and when its recovery began. -/
structure Pend where
  cls : EClass
  unit : UnitId
  seq : Nat
  st : PendSt
  epochAt : Nat
  stamp : Stamp
  tries : Nat
  head : Bool
  began : Nat
  deriving DecidableEq, Repr

/-- The error and recovery unit (R281 to R297). `epoch` is the 48-bit extended count. -/
structure Errors where
  log : List ErrRec
  seq : Nat
  losses : Table (Option LossRec) none
  newestLoss : Nat
  pend : List Pend
  epoch : Nat
  fenced : List UnitId
  halted : Bool
  failed : Bool
  mute : Bool
  snapSeq : Option Nat
  deriving DecidableEq, Repr

/-- Sources of a correction (Table 14.10). -/
inductive CorrSource where
  | read | winnow | merge
  deriving DecidableEq, Repr

/-- An entry of the correction log (R301). -/
structure Corr where
  word : Nat
  source : CorrSource
  count : Nat
  pos0 : Nat
  pos1 : Nat
  t : Nat
  deriving DecidableEq, Repr

/-- A merge buffer entry (R305): word, byte mask, new bytes. -/
structure Merge where
  word : Nat
  mask : BitVec 8
  bytes : W64
  deriving DecidableEq, Repr

/-- A row repair (R309): stack, channel, row (address bits 37:17), spare row, and whether the fuses hold it. -/
structure RowRep where
  stack : Nat
  channel : Nat
  row : Nat
  spare : Nat
  burned : Bool
  hard : Bool
  deriving DecidableEq, Repr

/-- A lane repair (R309): stack, channel, stored bit, and whether the fuses hold it. -/
structure LaneRep where
  stack : Nat
  channel : Nat
  k : Nat
  burned : Bool
  deriving DecidableEq, Repr

/-- The memory integrity unit (R298 to R315): stored words by word index, poison, correction log, merge buffer, repairs, and
winnow's present lap: the corrections it made, when it began and whether it has been found late. -/
structure MemInt where
  words : Table (BitVec 80) 0
  poison : List Nat
  log : Table (Option Corr) none
  merges : List Merge
  rows : List RowRep
  lanes : List LaneRep
  retired : List (Nat × Nat × Nat)
  lapCorr : Nat
  lapBegan : Nat
  lapLate : Bool
  initBusy : Bool
  bistDone : Bool
  refresh : Nat
  deriving DecidableEq, Repr

/-- A housekeeping channel's result of the last round (Table 15.14). -/
structure Chan where
  code : BitVec 12
  value : W16
  out : Bool
  deriving DecidableEq, Repr

/-- Housekeeping (R316 to R330): rounds, channels, band, throttle, voltage, drain-shutdown and trip. -/
structure Hk where
  rounds : Nat
  chans : Table Chan ⟨0, 0, false⟩
  speeds : Table W16 0
  badRounds : Table Nat 0
  reading : Int
  lastReading : Int
  diodeFault : Bool
  tripBlanked : Bool
  belowGrade : Bool
  band : Nat
  level1 : Bool
  grace : Bool
  graceFrom : Nat
  level2 : Bool
  duty : Nat
  overPower : Nat
  v : Nat
  vCap : Option Nat
  avsFault : Bool
  vcoreW : Nat
  drain : Bool
  drainDone : Bool
  drainFailed : Bool
  tripped : Bool
  calRounds : Nat
  calibrated : Bool
  commanded : Bool
  calm : Nat
  refreshWait : Option Nat
  deriving DecidableEq, Repr

/-! ### Cascade, fuses, engines' microcode, snapshots, start-up, pins -/

/-- States of membership (CS_STAT.state). -/
inductive CasState where
  | standalone | discovering | joining | member | master
  deriving DecidableEq, Repr

/-- A cascade hop (R333, R351): link state, lanes in use, partner index once JOIN is seen, its delay and echoes measured, the 257-bit blocks sent since
the last TIME_SEND with the header in bit 256, and each stream's next sequence (R334). -/
structure Hop where
  st : LinkSt
  lanes : Nat
  partner : Option Nat
  echoes : Nat
  delay : Nat
  tx : List (BitVec 257)
  seqs : Table Nat 0
  deriving DecidableEq, Repr

/-- A hop at reset. -/
def Hop.reset : Hop := ⟨.disabled, 0, none, 0, 0, [], Table.empty⟩

/-- Message kinds (Table 16.2). -/
inductive MsgKind where
  | time | epoch | forward | result | dmaRd | dmaData | dmaWr | lendReq | lendGrant | lendFree | bufRd | bufWr
  | abortDecide | setOp | loss
  deriving DecidableEq, Repr

/-- A message sent and not yet acknowledged (R335). -/
structure Msg where
  kind : MsgKind
  src : Nat
  dst : Nat
  seq : Nat
  stamp : Stamp
  clockwise : Bool
  payload : List Byte
  deriving DecidableEq, Repr

/-- A parity stream in progress (R345): stream 1 P0 or 2 P1, stripe, symbols, whether they are this member's own term, and their buffer. -/
structure Partial where
  stream : Nat
  number : Nat
  symbols : List (BitVec 10)
  own : Bool
  buf : Option Nat
  deriving DecidableEq, Repr

/-- The cascade controller (R331 to R353). `asks` are the host-memory reads sent to other members and not yet answered:
member, port, address, length. `lentBufs` are buffers lent (member, buffer), `borrowed` those borrowed (member, buffer), `lendAsks` the
requests out to a lender (context, pool, member) (R342). `stripeFolios` are the folios of this member's data formes by stripe number (R344),
`stripesDone` the stripes reported by others, or on a parity member to others, `coverage` the parity formes accepted (stripe, member), `discoverAt` when discovery
began, `busy` the members whose last JOIN said that they hold a volume or command, `former` those that were in the ring and are lost. -/
structure Cascade where
  st : CasState
  size : Nat
  present : List Nat
  c0 : Hop
  c1 : Hop
  modeInForce : Nat
  mInForce : Nat
  kInForce : Nat
  modePending : Bool
  offset : Int
  misaligned : Nat
  txSeq : Table Nat 0
  rxSeq : Table Nat 0
  acks : Table (Option (Nat × Bool)) none
  unacked : List Msg
  asks : List (Nat × Nat × Nat × Nat)
  horizons : Table Nat 0
  memberEpochs : Table Nat 0
  lentBufs : List (Nat × Nat)
  borrowed : List (Nat × Nat)
  lendAsks : List (Nat × Nat × Nat)
  partials : List Partial
  stripesDone : List Nat
  stripeFolios : List Nat
  setPending : List (Nat × Nat)
  coverage : List (Nat × Nat)
  discoverAt : Nat
  busy : List Nat
  former : List Nat
  deriving DecidableEq, Repr

/-- A fuse burn (R360, R361). -/
inductive Burn where
  | setting (g : Nat) (bytes : List Byte)
  | control (bits : BitVec 3)
  | repair (rows : List RowRep) (lanes : List LaneRep)
  deriving DecidableEq, Repr

/-- The fuse array (R354 to R368): burned cells and their shadow by byte offset, burns, debug unlock. -/
structure Fuses where
  cells : Table Byte 0
  shadow : Table Byte 0
  loadDone : Bool
  keyOk : Bool
  burn : Option Burn
  waiting : List (Path × W32)
  activeGen : Nat
  genValid : Bool
  challenge : Option (List Byte)
  wanted : Nat
  level : Nat
  failures : Nat
  keysOff : Bool
  deriving DecidableEq, Repr

/-- A match register (R372). -/
structure Match where
  enable : Bool
  rom : Nat
  patch : Nat
  deriving DecidableEq, Repr

/-- An engine cluster's patch state (R372 to R377). -/
structure Cluster where
  matches_ : Table Match ⟨false, 0, 0⟩
  patch : Table (BitVec 160) 0
  words : Nat
  version : W32
  quiescing : Bool
  unsigned : Bool
  deriving DecidableEq, Repr

/-- A cluster that runs ROM microcode only. -/
def Cluster.reset : Cluster := ⟨Table.empty, Table.empty, 0, 0, false, false⟩

/-- The patch loader and clusters (R374 to R377, R386). -/
structure Patches where
  clusters : Table Cluster Cluster.reset
  staged : List Byte
  todo : List Nat
  busy : Bool
  retained : Option (List Byte)
  jtagWaiting : List (BitVec 185)
  deriving DecidableEq, Repr

/-- A domain's latch in a snapshot: stamp, supplied boundary, epoch, and the bytes of its record that hold its stamp (0 to 15) and its own
content (24 to 255). -/
structure Latch where
  stamp : Stamp
  supplied : Bool
  epoch : Nat
  content : List Byte
  deriving DecidableEq, Repr

/-- The snapshot network (R379 to R383). Source 1 SNAP, 2 error, 3 SNAP_IN_N. -/
structure Snap where
  held : Bool
  armed : Bool
  prior : Bool
  source : Nat
  target : Nat
  latches : Table (Option Latch) none
  spread : Nat
  lastDomain : Nat
  releaseAsked : Bool
  deriving DecidableEq, Repr

/-- A register write held during start-up (R394); `qid` is the pair that QM_QSEL selected when it was written. -/
structure HeldWrite where
  path : Path
  bar : Bar
  addr : Nat
  value : W32
  qid : Nat
  deriving DecidableEq, Repr

/-- Start-up (R387 to R395): reset inputs, the steps done, the count at reset release, held writes and operations. -/
structure Boot where
  pwrLow : Bool
  warmLow : Bool
  stage : Nat
  flashPresent : Bool
  overlayApplied : Bool
  patchLoaded : Bool
  failed : Bool
  failedStage : Nat
  bootDone : Bool
  fillDone : Bool
  discoveryDone : Bool
  ready : Bool
  began : Int
  frozen : Option Nat
  heldWrites : List HeldWrite
  heldOps : List HeldWrite
  deriving DecidableEq, Repr

/-- Supplies, straps and pins that no other unit holds (R405, R407, R416), and the JTAG instruction and capture registers. -/
structure Pins where
  vioUp : Bool
  coreUp : Bool
  cascId : BitVec 3
  i2cAddr : Bool
  snapOutLow : Bool
  jtag : BitVec 8
  jtagCapture : List Byte
  i2cOut : W32
  loOut : W32
  jtagOut : W32
  deriving DecidableEq, Repr

/-- The device. `hostA` and `hostB` are the host memories behind the ports, `hostR` what is known of those behind other members
(key 2 × member + port). `regs` holds every register field whose home is the register itself, keyed by BAR0 offset plus
2^26 × bank for the copies of a port, pair, vector, requester or link (none: at its reset value); `heldZeros` are zero fills of host memory that wait for a port's Bus Master Enable (R23); `w1c` the bits and
counts of W1C fields under the same keys; `cnts` holds the 64-bit
event counters; `shadow` the latched HI halves of R99; `draws` counts the free values taken so far (the model's own). -/
@[ext] structure Dev where
  clk : Clock
  pa : Port
  pb : Port
  hostA : Table Byte 0
  hostB : Table Byte 0
  hostR : Table (Table Byte 0) Table.empty
  pairs : Table Pair Pair.reset
  arb : Arb
  cmds : List Cmd
  notices : List Notice
  heldZeros : List (Nat × List (Nat × Nat))
  regs : Table (Option W32) none
  w1c : Table W32 0
  cnts : Table Nat 0
  shadow : Table W32 0
  ctxs : Table Ctx Ctx.reset
  engines : Table Engine Engine.reset
  mode : Mode
  pools : Pools
  idx : Index
  cm : Compression
  cx : Cipher
  fm : Formes
  sh : Sheaf
  vol : Vol
  links : Table Link Link.reset
  tc : Tc
  er : Errors
  mi : MemInt
  hk : Hk
  cs : Cascade
  fu : Fuses
  en : Patches
  sn : Snap
  boot : Boot
  pins : Pins
  draws : Nat
  deriving DecidableEq, Repr

/-! ### Reset -/

/-- Clock at reset: count 0, not running while reset is asserted (R81). -/
def Clock.reset : Clock := ⟨0, false, false, 0, Table.empty, [], 0, 0⟩

/-- A port at reset: no link. -/
def Port.reset : Port := ⟨PciCfg.reset, false, false, 0, 0, false, [], Table.empty⟩

/-- The arbiter at reset: credits spent, so that they reload; the scan starts at queue 0 (log entry 14). -/
def Arb.reset : Arb := ⟨0, 0, 0, Table.empty, 0, 0, 0, false⟩

/-- The default carve and reserves (Table 5.1). -/
def Pools.reset : Pools :=
  { carve := ⟨[(0, 4194304), (1, 1048576), (2, 131072), (3, 32768), (4, 8192), (5, 6912)]⟩
    reserve := ⟨[(0, 4096), (1, 512), (2, 1024), (3, 512), (4, 256), (5, 256)]⟩
    bufs := Table.empty, retiredBufs := [], used := Table.empty, waiters := [], ready := [], gens := 0 }

def Index.reset : Index := ⟨[], [], 0, false, 0, [], []⟩
def Compression.reset : Compression := ⟨Table.empty, [], Table.empty, Table.empty⟩
def Cipher.reset : Cipher := ⟨Table.empty, [], [], 0, false⟩
def Formes.reset : Formes := ⟨[], none, [], [], [], none⟩

/-- The scheduler at reset: idle. -/
def Sheaf.reset : Sheaf :=
  { run := .idle, sheaf := 0, pos := 0, lag := 0, slotsOff := [], copies := [], nextCopy := 0, due := [], carry := [], deferred := []
    haltFolio := none, tracks := Table.empty, rewrites := [], copyLog := [], overBudget := false, count := 0, tail := 0
    draining := 0, step := 0, want := 0, down := 0, rIn := 0, demand := 0, inBytes := 0, outs := [], resumeDue := false, readTurn := false
    turnReads := [], served := false, sweepRev := false, aim := none, waitTape := [], colophon := none }

def Vol.reset : Vol := ⟨.empty, none, none, 0, [], [], Table.empty, [], false, false⟩

/-- No profile. -/
def Profile.reset : Profile := ⟨0, 0, false, false, 0, 0, 0, 0, 0, false, .none⟩

/-- The engine starts SAFE: drive off, brake applied (R278). -/
def Tc.reset : Tc :=
  { st := .safe, reaction := .log, driveEn := false, brakeN := false, estopGate := false, edges := 0, servos := Table.empty
    force := Table.empty, codes := Table.empty, shifted := Table.empty, sensors := Table.empty, rails := Table.empty, encS := 0
    encT := 0, encAB := 0, winS := [], winT := [], latchS := 0, latchT := 0, errAt := [], rS := 0, rT := 0, velS := 0, velT := 0
    vel := 0, posW := 0, posValid := false, rbandS := 0, rbandT := 0, sband := 0, profile := Profile.reset, din := Table.empty
    pes := Table.empty, pesMean0 := none, pesMean1 := none, miss0 := 0, miss1 := 0, pesRaised0 := false
    pesRaised1 := false, seeking := false, headSet := 0, headSheaf := 0, locked := false, lockCount := 0, seekFor := none, stopHold := 0, tick := 0
    relatch := 0 }

def Errors.reset : Errors := ⟨[], 0, Table.empty, 0, [], 0, [], false, false, false, none⟩
def MemInt.reset : MemInt := ⟨Table.empty, [], Table.empty, [], [], [], [], 0, 0, false, true, false, 0⟩

/-- Housekeeping at reset: VCORE at the regulator's boot voltage of 0.75 V (R320). -/
def Hk.reset : Hk :=
  { rounds := 0, chans := Table.empty, speeds := Table.empty, badRounds := Table.empty, reading := 0, lastReading := 0
    diodeFault := false, tripBlanked := false, belowGrade := false, band := 0, level1 := false, grace := false, graceFrom := 0, level2 := false
    duty := 0, overPower := 0, v := 750, vCap := none, avsFault := false, vcoreW := 0, drain := false, drainDone := false, drainFailed := false
    tripped := false, calRounds := 0, calibrated := false, commanded := false, calm := 0, refreshWait := none }

def Cascade.reset : Cascade :=
  { st := .standalone, size := 0, present := [], c0 := Hop.reset, c1 := Hop.reset, modeInForce := 0, mInForce := 0, kInForce := 0
    modePending := false, offset := 0, misaligned := 0, txSeq := Table.empty, rxSeq := Table.empty, acks := Table.empty
    unacked := [], asks := [], horizons := Table.empty, memberEpochs := Table.empty, lentBufs := [], borrowed := [], lendAsks := []
    partials := [], stripesDone := [], stripeFolios := [], setPending := [], coverage := [], discoverAt := 0, busy := [], former := [] }

def Fuses.reset : Fuses := ⟨Table.empty, Table.empty, false, false, none, [], 0, false, none, 0, 0, 0, false⟩
def Patches.reset : Patches := ⟨Table.empty, [], [], false, none, []⟩
def Snap.reset : Snap := ⟨false, false, false, 0, 0, Table.empty, 0, 0, false⟩

/-- Start-up at reset: PWR_RESET_N held low, stage 1 (Table 19.4). -/
def Boot.reset : Boot :=
  { pwrLow := true, warmLow := false, stage := 1, flashPresent := false, overlayApplied := false
    patchLoaded := false, failed := false, failedStage := 0, bootDone := false, fillDone := false
    discoveryDone := false, ready := false, began := 0, frozen := none, heldWrites := [], heldOps := [] }

/-- Supplies up (log entry 15). -/
def Pins.reset : Pins := ⟨true, true, 0, false, false, 0, [], 0, 0, 0⟩

/-- The device held in power reset. -/
def Dev.reset : Dev :=
  { clk := Clock.reset, pa := Port.reset, pb := Port.reset, hostA := Table.empty, hostB := Table.empty, hostR := Table.empty
    pairs := Table.empty, arb := Arb.reset, cmds := [], notices := [], heldZeros := [], regs := Table.empty, w1c := Table.empty, cnts := Table.empty
    shadow := Table.empty, ctxs := Table.empty, engines := Table.empty, mode := .normal, pools := Pools.reset, idx := Index.reset
    cm := Compression.reset, cx := Cipher.reset, fm := Formes.reset, sh := Sheaf.reset, vol := Vol.reset, links := Table.empty
    tc := Tc.reset, er := Errors.reset, mi := MemInt.reset, hk := Hk.reset, cs := Cascade.reset, fu := Fuses.reset
    en := Patches.reset, sn := Snap.reset, boot := Boot.reset, pins := Pins.reset, draws := 0 }

/-- The state: the device, and the commands waiting, first in, first out. -/
structure State where
  dev : Dev
  pending : List Instr
  deriving DecidableEq, Repr

/-- The state at reset: the device held in power reset with its supplies up, no command waiting (log entry 15). -/
def State.reset : State := ⟨Dev.reset, []⟩

/-- Why the machine stops. Safe: no command of the table raises it, the device reports every error through statuses,
records and notices. -/
inductive Fault where
  /-- The stamp count has reached 2^64, which 00_scope (Stamps) says does not come about in service; raised by `step` when
  the queue is empty. Safe: the machine stops where the spec says no run goes. -/
  | countExhausted
  deriving DecidableEq, Repr

/-- Why a command has no meaning. -/
inductive Refusal where
  /-- The command of this mnemonic is not modelled; raised by `exec`. Safe: nothing is claimed about it. -/
  | notModelled (mnemonic : String)
  deriving DecidableEq, Repr

end Sys2Proof.Machine
end

