-- ==== Sys2Proof/Machine/Ops.lean ====
section
/-! DEFINITION. The named operations over the state: guards, stamps, host memory, registers, counters and notices. -/

namespace Sys2Proof.Machine

/-- What a meaning answers. -/
abbrev Out := Host.Outcome State Fault Refusal

/-! ### Changes of one part -/

def Dev.onClk (d : Dev) (f : Clock → Clock) : Dev := { d with clk := f d.clk }
def Dev.onArb (d : Dev) (f : Arb → Arb) : Dev := { d with arb := f d.arb }
def Dev.onPools (d : Dev) (f : Pools → Pools) : Dev := { d with pools := f d.pools }
def Dev.onIdx (d : Dev) (f : Index → Index) : Dev := { d with idx := f d.idx }
def Dev.onCm (d : Dev) (f : Compression → Compression) : Dev := { d with cm := f d.cm }
def Dev.onCx (d : Dev) (f : Cipher → Cipher) : Dev := { d with cx := f d.cx }
def Dev.onFm (d : Dev) (f : Formes → Formes) : Dev := { d with fm := f d.fm }
def Dev.onSh (d : Dev) (f : Sheaf → Sheaf) : Dev := { d with sh := f d.sh }
def Dev.onVol (d : Dev) (f : Vol → Vol) : Dev := { d with vol := f d.vol }
def Dev.onTc (d : Dev) (f : Tc → Tc) : Dev := { d with tc := f d.tc }
def Dev.onEr (d : Dev) (f : Errors → Errors) : Dev := { d with er := f d.er }
def Dev.onMi (d : Dev) (f : MemInt → MemInt) : Dev := { d with mi := f d.mi }
def Dev.onHk (d : Dev) (f : Hk → Hk) : Dev := { d with hk := f d.hk }
def Dev.onCs (d : Dev) (f : Cascade → Cascade) : Dev := { d with cs := f d.cs }
def Dev.onFu (d : Dev) (f : Fuses → Fuses) : Dev := { d with fu := f d.fu }
def Dev.onEn (d : Dev) (f : Patches → Patches) : Dev := { d with en := f d.en }
def Dev.onSn (d : Dev) (f : Snap → Snap) : Dev := { d with sn := f d.sn }
def Dev.onBoot (d : Dev) (f : Boot → Boot) : Dev := { d with boot := f d.boot }
def Dev.onPins (d : Dev) (f : Pins → Pins) : Dev := { d with pins := f d.pins }

/-- Change of one context. -/
def Dev.onCtx (d : Dev) (c : Nat) (f : Ctx → Ctx) : Dev := { d with ctxs := d.ctxs.modify c f }
/-- Change of one link. -/
def Dev.onLink (d : Dev) (t : Nat) (f : Link → Link) : Dev := { d with links := d.links.modify t f }
/-- The sixteen links. -/
def allLinks : List Nat := List.range 16
/-- A link in electrical idle, out of service. -/
def Link.off (l : Link) (st : LinkSt) : Link :=
  { l with st := st, queue := [], sent := none, silent := 0, armed := 0, reading := 0, tx := [], txRest := Table.empty, ctl := [], waited := 0 }
/-- Change of one queue pair. -/
def Dev.onPair (d : Dev) (q : Nat) (f : Pair → Pair) : Dev := { d with pairs := d.pairs.modify q f }

/-! ### Ports -/

/-- A port's number (R25). -/
def portNo : PortId → Nat
  | .a => 0
  | .b => 1

/-- The port of a number. -/
def portOf (n : Nat) : PortId := if n = 0 then .a else .b

/-- A port's state. -/
def Dev.port (d : Dev) : PortId → Port
  | .a => d.pa
  | .b => d.pb

/-- Change of a port. -/
def Dev.onPort (d : Dev) (p : PortId) (f : Port → Port) : Dev :=
  match p with
  | .a => { d with pa := f d.pa }
  | .b => { d with pb := f d.pb }

/-- Device queue number (R25). -/
def dqn (p : PortId) (qid : Nat) : Nat := 512 * portNo p + qid

/-! ### Host memory -/

/-- The host memory behind a port. -/
def Dev.host (d : Dev) : PortId → Table Byte 0
  | .a => d.hostA
  | .b => d.hostB

/-- Change of the host memory behind a port. -/
def Dev.onHost (d : Dev) (p : PortId) (f : Table Byte 0 → Table Byte 0) : Dev :=
  match p with
  | .a => { d with hostA := f d.hostA }
  | .b => { d with hostB := f d.hostB }

/-- The cells of a table after the host places bytes. -/
def placeCells (m : Table Byte 0) : HostWrites → Table Byte 0
  | [] => m
  | (a, b) :: t => placeCells (m.set (a % 2 ^ 64) b) t

/-- Host memory after the host has placed bytes (`HostWrites` of a command). -/
def Dev.place (d : Dev) (p : PortId) (w : HostWrites) : Dev := d.onHost p (fun m => placeCells m w)

/-- `n` bytes of a table from address `a`. -/
def readBytes (m : Table Byte 0) (a : Nat) : Nat → List Byte
  | 0 => []
  | n + 1 => m.get a :: readBytes m (a + 1) n

/-- A table after writing bytes from address `a`. -/
def writeBytes (m : Table Byte 0) (a : Nat) : List Byte → Table Byte 0
  | [] => m
  | b :: t => writeBytes (m.set a b) (a + 1) t

/-- `n` bytes of host memory. -/
def Dev.hostRead (d : Dev) (p : PortId) (a n : Nat) : List Byte := readBytes (d.host p) a n

/-- Host memory after a write of the device. -/
def Dev.hostWrite (d : Dev) (p : PortId) (a : Nat) (bs : List Byte) : Dev := d.onHost p (fun m => writeBytes m a bs)

/-- The little-endian number of a list of bytes (R6). -/
def leNat : List Byte → Nat
  | [] => 0
  | b :: t => b.toNat + 256 * leNat t

/-- `n` bytes of a number, least significant first (R6). -/
def leBytes : Nat → Nat → List Byte
  | 0, _ => []
  | n + 1, v => BitVec.ofNat 8 v :: leBytes n (v / 256)

/-- `n` bytes of a number, most significant first (R6, structures of the medium). -/
def beBytes (n v : Nat) : List Byte := (leBytes n v).reverse

/-- The big-endian number of a list of bytes. -/
def beNat (bs : List Byte) : Nat := leNat bs.reverse

/-- `n` zero bytes. -/
def zeros (n : Nat) : List Byte := List.replicate n 0

/-- Whether bytes are all zero. -/
def allZero (bs : List Byte) : Bool := bs.all (fun b => b == 0)

/-- Bytes [a, a + n) of a list, zero past its end. -/
def sliceBytes (bs : List Byte) (a n : Nat) : List Byte :=
  let s := (bs.drop a).take n
  s ++ zeros (n - s.length)

/-! ### Guards -/

/-- Neither reset is asserted, the supplies are up (R405) and no hard trip stands (R327). -/
def Dev.alive (d : Dev) : Bool :=
  !d.boot.pwrLow && !d.boot.warmLow && d.pins.vioUp && d.pins.coreUp && !d.hk.tripped

/-- Alive, and no C5 stands (R289). -/
def Dev.working (d : Dev) : Bool := d.alive && !d.er.failed

/-- A change of the device alone: the queue of commands is kept. -/
def State.onDev (s : State) (f : Dev → Dev) : State := { s with dev := f s.dev }

/-- A command that always has its effect. -/
def State.always (s : State) (f : Dev → Dev) : Out := .next (s.onDev f)

/-- A command that has its effect while a condition of the device holds, and none otherwise (log entry 2). -/
def State.whenDev (s : State) (g : Dev → Bool) (f : Dev → Dev) : Out := .next (if g s.dev then s.onDev f else s)

/-- A command that has its effect out of reset. -/
def State.live (s : State) (f : Dev → Dev) : Out := s.whenDev Dev.alive f

/-- A command that has its effect while the device works. -/
def State.work (s : State) (f : Dev → Dev) : Out := s.whenDev Dev.working f

/-- A command of the data path: it has its effect while the device works and no C4 halts it (R288). -/
def State.flow (s : State) (f : Dev → Dev) : Out := s.whenDev (fun d => d.working && !d.er.halted) f

/-- Apply a change when a condition holds. -/
def Dev.when (d : Dev) (b : Bool) (f : Dev → Dev) : Dev := if b then f d else d

/-- Apply a change for each element of a list, in order. -/
def Dev.each {α : Type} (d : Dev) (l : List α) (f : Dev → α → Dev) : Dev := l.foldl f d

/-! ### Registers that hold what was written -/

/-- The value a list of fields gives at reset. -/
def resetWord : List FieldDesc → Nat
  | [] => 0
  | f :: t => f.rst * 2 ^ f.lo + resetWord t

/-- Whether an offset is one of a row's registers. -/
def RegDesc.covers (r : RegDesc) (a : Nat) : Bool :=
  decide (r.base ≤ a) &&
    (let o := a - r.base
     if r.c1 ≤ 1 then
       if r.c2 ≤ 1 then decide (o = 0) else decide (o % r.s2 = 0) && decide (o / r.s2 < r.c2)
     else
       let i := o / r.s1
       let j := o % r.s1
       decide (i < r.c1) &&
         (if r.c2 ≤ 1 then decide (j = 0) else decide (j % r.s2 = 0) && decide (j / r.s2 < r.c2)))

/-- The row of the register map that decodes an offset (R9). -/
def findReg (a : Nat) : Option RegDesc := (regBlock (a / 65536 % 1024)).find? (fun r => r.covers a)

/-- The value of the register at an offset right after reset. -/
def resetReg (a : Nat) : W32 :=
  match findReg a with
  | some r => toW32 (resetWord r.fields)
  | none => 0

/-- The key of a register's copy: its offset and its bank (port, pair, vector, requester or link). -/
def regKey (a bank : Nat) : Nat := a + bank * 2 ^ 26

/-- What a register holds in its written fields. -/
def Dev.regB (d : Dev) (a bank : Nat) : W32 :=
  match d.regs.get (regKey a bank) with
  | some v => v
  | none => resetReg a

/-- What an unbanked register holds. -/
def Dev.reg (d : Dev) (a : Nat) : W32 := d.regB a 0

/-- A 64-bit address held in two registers. -/
def Dev.addrB (d : Dev) (lo bank : Nat) : Nat := (d.regB lo bank).toNat + (d.regB (lo + 4) bank).toNat * 2 ^ 32

/-- Field [hi:lo] of an unbanked register. -/
def Dev.rf (d : Dev) (a hi lo : Nat) : Nat := fieldOf (d.reg a) hi lo

/-- Field [hi:lo] of a banked register. -/
def Dev.rfB (d : Dev) (a bank hi lo : Nat) : Nat := fieldOf (d.regB a bank) hi lo

/-- Store of a register's written fields; the value at reset is not listed. -/
def Dev.setRegB (d : Dev) (a bank : Nat) (v : W32) : Dev :=
  { d with regs := d.regs.set (regKey a bank) (if v = resetReg a then none else some v) }

/-- Store of an unbanked register. -/
def Dev.setReg (d : Dev) (a : Nat) (v : W32) : Dev := d.setRegB a 0 v

/-- A word with field [hi:lo] replaced. -/
def putField (v : W32) (hi lo x : Nat) : W32 :=
  let m := 2 ^ (hi + 1 - lo)
  toW32 (v.toNat - fieldOf v hi lo * 2 ^ lo + x % m * 2 ^ lo)

/-- Change of a field of an unbanked register. -/
def Dev.setRf (d : Dev) (a hi lo x : Nat) : Dev := d.setReg a (putField (d.reg a) hi lo x)

/-- GL_ID.stepping, from the identity record of the fuses (R355). -/
def Dev.stepping (d : Dev) : Nat := (d.fu.shadow.get 5).toNat % 16

/-! ### W1C fields -/

/-- The W1C bits and counts of a register. -/
def Dev.w1cB (d : Dev) (a bank : Nat) : W32 := d.w1c.get (regKey a bank)

/-- Field of W1C bits. -/
def Dev.w1f (d : Dev) (a bank hi lo : Nat) : Nat := fieldOf (d.w1cB a bank) hi lo

/-- Store of a field of W1C bits. -/
def Dev.setW1f (d : Dev) (a bank hi lo x : Nat) : Dev :=
  { d with w1c := d.w1c.set (regKey a bank) (putField (d.w1cB a bank) hi lo x) }

/-- Setting of one W1C bit. -/
def Dev.setW1 (d : Dev) (a bank bit : Nat) : Dev := d.setW1f a bank bit bit 1

/-- One more in a counting W1C field, which saturates. -/
def Dev.bumpW1 (d : Dev) (a bank hi lo : Nat) : Dev :=
  d.setW1f a bank hi lo (min (d.w1f a bank hi lo + 1) (2 ^ (hi + 1 - lo) - 1))

/-! ### Event counters -/

/-- The key of a 64-bit event counter: block number, sub-unit and counter index. -/
def cntKey (blk sub i : Nat) : Nat := blk * 65536 + sub * 16 + i

/-- The value of an event counter. -/
def Dev.cnt (d : Dev) (blk sub i : Nat) : Nat := d.cnts.get (cntKey blk sub i)

/-- Addition to an event counter of 64 bits. -/
def Dev.count (d : Dev) (blk sub i n : Nat) : Dev :=
  { d with cnts := d.cnts.modify (cntKey blk sub i) (fun v => (v + n) % 2 ^ 64) }

/-! ### Time, stamps and free values -/

/-- Ticks of a microsecond (R8). -/
def usTicks : Nat := 1024
/-- Ticks of a millisecond. -/
def msTicks : Nat := 1024000

/-- The count is at least `t`: time has come to the due time of an event (log entry 3). -/
def Dev.advanceTo (d : Dev) (t : Nat) : Dev :=
  if d.clk.running then d.onClk (fun c => { c with now := max c.now t }) else d

/-- The count `n` ticks of REFCLK on; a member's count that runs ahead of its master's adds nothing for one in every 64 (R337). -/
def Dev.advanceBy (d : Dev) (n : Nat) : Dev :=
  let back := min d.clk.ahead (n / 64)
  (d.advanceTo (d.clk.now + n - back)).onClk (fun c => { c with ahead := c.ahead - back })

/-- The count a unit sees (R81). -/
def Dev.seen (d : Dev) : Nat := d.clk.now - min (Config.stampLag d.draws) 4

/-- The next stamp of a unit (R82), no earlier than `after` (0 where the work carries no stamp). -/
def Dev.nextT (d : Dev) (u after : Nat) : Nat := max (max d.seen (d.clk.last.get u)) after

/-- The origin byte of a unit's stamps (R8). -/
def Dev.origin (d : Dev) (u : Nat) : BitVec 8 := BitVec.ofNat 8 (d.clk.member.toNat * 32 + u)

/-- Largest lead recorded (ST_LEAD). -/
def Dev.noteLead (d : Dev) (u lead : Nat) : Dev :=
  if d.w1f Reg.ST_LEAD 0 6 0 < min lead 64 then
    (d.setW1f Reg.ST_LEAD 0 6 0 (min lead 64)).onClk (fun c => { c with leadUnit := u })
  else d

/-- A unit whose stamp would be more than 64 ticks ahead stalls until the count catches up (R82): its event then happens at the count it waits for,
and the stall stands until STAMP_STALL_END ends it (log entry 129). -/
def Dev.noteStall (d : Dev) (u t : Nat) : Dev :=
  if d.clk.now + 64 < t then
    ((d.setW1 Reg.ST_LEAD 0 31).advanceTo (t - 64)).onClk (fun c => { c with stalls := c.stalls ++ [(u, t - 64)] })
  else d

/-- Issue of a stamp by unit `u` (R82). -/
def Dev.stamp (d : Dev) (u : Nat) (after : Nat := 0) : Stamp × Dev :=
  let t := d.nextT u after
  let d1 := d.onClk (fun c => { c with last := c.last.set u (t + 1) })
  (⟨t, d.origin u⟩, ((({ d1 with draws := d1.draws + 1 }).noteLead u (t - d.clk.now)).noteStall u t))

/-- The T that work carrying a stamp gives to `Dev.stamp`. -/
def Stamp.after (s : Stamp) : Nat := s.t + 1

/-- Order of stamps (R8). -/
def Stamp.lt (a b : Stamp) : Bool := decide (a.t < b.t) || (decide (a.t = b.t) && decide (a.o.toNat < b.o.toNat))

/-- Order of stamps, or equal. -/
def Stamp.le (a b : Stamp) : Bool := a == b || a.lt b

/-- Whether a unit can issue no stamp any more that sorts before one: its horizon has passed it (R36, R88). -/
def Dev.unitPast (d : Dev) (u : Nat) (s : Stamp) : Bool :=
  let t := max (d.clk.now - 4) (d.clk.last.get u)
  s.lt ⟨t, d.origin u⟩

/-- The session number of stamps (R84). -/
def Dev.session (d : Dev) : Nat :=
  if d.vol.formatting then 1 else match d.vol.loaded with
    | some v => v.session
    | none => 0

/-- The 16-byte form of a stamp in host memory (Table 0.5, R84). -/
def Dev.stampBytes (d : Dev) (s : Stamp) : List Byte :=
  leBytes 8 s.t ++ [s.o, BitVec.ofNat 8 (b2n d.clk.adopted)] ++ leBytes 2 d.session ++ zeros 4

/-- `n` random bytes (log entry 5). -/
def Dev.randoms (d : Dev) : Nat → List Byte × Dev
  | 0 => ([], d)
  | n + 1 =>
    let r := ({ d with draws := d.draws + 1 }).randoms n
    (Config.randomByte d.draws :: r.1, r.2)

/-! ### Notices (R48, R49) -/

/-- A notice waits to be posted; an EPOCH_CHANGE replaces an earlier one that waits (R293). -/
def Dev.notice (d : Dev) (k : NoticeKind) (result : W64) (s : Stamp) : Dev :=
  let keep := if k = .epochChange then d.notices.filter (fun n => decide (n.kind ≠ .epochChange)) else d.notices
  { d with notices := keep ++ [⟨k, result, s⟩] }

/-! ### Fences and units in service -/

/-- Whether a unit is fenced. -/
def Dev.isFenced (d : Dev) (u : UnitId) : Bool := d.er.fenced.contains u

/-- A unit goes out of service. -/
def Dev.fence (d : Dev) (u : UnitId) : Dev :=
  if d.isFenced u then d else d.onEr (fun e => { e with fenced := e.fenced ++ [u] })

/-- A unit returns to service. -/
def Dev.unfence (d : Dev) (u : UnitId) : Dev := d.onEr (fun e => { e with fenced := e.fenced.filter (fun x => decide (x ≠ u)) })

/-- Instances of a unit kind (R282, Table 13.8) that share the work of one unit. -/
def kindMates (u : UnitId) : List Nat :=
  if 3 ≤ u.origin ∧ u.origin ≤ 6 then (if u.inst = 0xFFFF then [] else List.range 32) else
  if u.origin = 9 ∨ u.origin = 0xA then List.range 32 else
  if u.origin = 0xB then (if u.inst < 16 then List.range 16 else [u.inst]) else
  if u.origin = 0xC then (if u.inst < 16 then List.range 16 else if u.inst < 20 then (List.range 4).map (· + 16) else [u.inst]) else
  if u.origin = 0xD then List.range 16 else
  if u.origin = 0xE then List.range 128 else
  if u.origin = 0xF then
    (if u.inst < 16 then List.range 16 else if u.inst < 18 then [16, 17] else [18, 19]) else
  if u.origin = 0x10 then List.range 8 else
  if u.origin = 0x11 then (if u.inst < 16 then List.range 16 else [u.inst]) else
  if u.origin = 0x13 then List.range 4 else
  if u.origin = 0x15 then (if u.inst < 8 then List.range 8 else [u.inst]) else
  [u.inst]

/-- The unit of a mate: engines carry the origin code of their cluster. -/
def mateUnit (u : UnitId) (i : Nat) : UnitId :=
  if 3 ≤ u.origin ∧ u.origin ≤ 6 then ⟨3 + i / 8, i⟩ else ⟨u.origin, i⟩

/-- Whether another unit of the same kind is in service. -/
def Dev.hasMate (d : Dev) (u : UnitId) : Bool :=
  if 3 ≤ u.origin ∧ u.origin ≤ 6 ∧ u.inst = 0xFFFF then
    (List.range 4).any (fun c => decide (c + 3 ≠ u.origin) && !d.isFenced ⟨c + 3, 0xFFFF⟩)
  else (kindMates u).any (fun i => decide (i ≠ u.inst) && !d.isFenced (mateUnit u i))

/-- In-service bits of a kind of `n` units with origin `o` from instance `base`. -/
def Dev.inService (d : Dev) (o base : Nat) : Nat → Nat
  | 0 => 0
  | n + 1 => d.inService o base n + (if d.isFenced ⟨o, base + n⟩ then 0 else 2 ^ n)

end Sys2Proof.Machine
end

