-- ==== Sys2Proof/Machine/Codes.lean ====
section
/-! DEFINITION. Codes that spec/ defines by formula: the DEC-TED code of buffer words (R298 to R300), CRC-32C (R168) and
XXH64 (RFC 8878, R127). -/

namespace Sys2Proof.Machine

/-! ### GF(2^7) and the buffer word (R298, R299) -/

/-- Multiplication by β in GF(2^7) with x^7 + x^3 + 1. -/
def gf7x (a : Nat) : Nat := if a / 64 % 2 = 1 then (a * 2 % 128) ^^^ 9 else a * 2 % 128

/-- β^j. -/
def beta : Nat → Nat
  | 0 => 1
  | j + 1 => gf7x (beta j)

/-- Product in GF(2^7), over the lowest `k` bits of the second factor. -/
def gf7mulAux (a b : Nat) : Nat → Nat
  | 0 => 0
  | k + 1 => gf7x (gf7mulAux a (b / 2) k) ^^^ (if b % 2 = 1 then a else 0)

/-- Product in GF(2^7). -/
def gf7mul (a b : Nat) : Nat := gf7mulAux a b 7

/-- Code position of a stored bit (Table 14.1). -/
def bchPos (i : Nat) : Nat := if i < 64 then 14 + i else i - 64

/-- Stored bit of a code position. -/
def bchBit (j : Nat) : Nat := if j < 14 then 64 + j else j - 14

/-- Sum of `f` over the set bits among the lowest `n`. -/
def bchSum (f : Nat → Nat) (v : BitVec 80) : Nat → Nat
  | 0 => 0
  | n + 1 => bchSum f v n ^^^ (if v.getLsbD n then f n else 0)

/-- Syndromes S1 and S3 and the parity P of a stored word (R299). -/
def bchS1 (v : BitVec 80) : Nat := bchSum (fun i => beta (bchPos i)) v 78
def bchS3 (v : BitVec 80) : Nat := bchSum (fun i => beta (3 * bchPos i % 127)) v 78
def bchP (v : BitVec 80) : Nat := bchSum (fun _ => 1) v 79

/-- One step of the remainder by the generator, the product of the minimal polynomials of β and β^3:
x^14 + x^9 + x^8 + x^6 + x^5 + x^4 + x^2 + x + 1. -/
def bchStep (r : Nat) (bit : Bool) : Nat :=
  let s := r * 2 % 16384
  if (r / 8192 % 2 == 1) != bit then s ^^^ 0x0377 else s

/-- Check bits of 64 data bits, most significant first (R299). -/
def bchRem (d : W64) : Nat → Nat → Nat
  | 0, r => r
  | n + 1, r => bchRem d n (bchStep r (d.getLsbD n))

/-- The codeword of a data word, spare lane zero (R298, R299). -/
def bchEncode (d : W64) : BitVec 80 :=
  let w := BitVec.ofNat 80 (d.toNat + bchRem d 64 0 * 2 ^ 64)
  if bchP w = 1 then w ^^^ BitVec.ofNat 80 (2 ^ 78) else w

/-- Outcomes of a read (Table 14.2): the stored bits corrected, or uncorrectable. -/
inductive BchOut where
  | clean
  | fixed (bits : List Nat)
  | bad
  deriving DecidableEq, Repr

/-- The exponent of a field element. -/
def gf7log (x : Nat) : Option Nat := (List.range 127).find? (fun j => beta j == x)

/-- Positions up to 77 that are roots of x^2 + S1 x + (S3 ÷ S1 + S1^2), written without the division. -/
def bchRoots (s1 s3 : Nat) : List Nat :=
  (List.range 78).filter (fun j =>
    let x := beta j
    gf7mul s1 (gf7mul x x) ^^^ gf7mul (gf7mul s1 s1) x ^^^ s3 ^^^ gf7mul s1 (gf7mul s1 s1) == 0)

/-- Decoding of syndromes (Table 14.2). -/
def bchDecide (p s1 s3 : Nat) : BchOut :=
  let cube := gf7mul s1 (gf7mul s1 s1)
  if s1 = 0 ∧ s3 = 0 then (if p = 0 then .clean else .fixed [78]) else
  if s1 = 0 then .bad else
  if s3 = cube then
    (match gf7log s1 with
     | some j => if j < 78 then .fixed (if p = 1 then [bchBit j] else [bchBit j, 78]) else .bad
     | none => .bad)
  else if p = 0 then
    (match bchRoots s1 s3 with
     | [a, b] => .fixed [min (bchBit a) (bchBit b), max (bchBit a) (bchBit b)]
     | _ => .bad)
  else .bad

/-- A read decodes its word (R300). -/
def bchDecode (v : BitVec 80) : BchOut := bchDecide (bchP v) (bchS1 v) (bchS3 v)

/-- A word with stored bits flipped. -/
def flipBits (v : BitVec 80) (bits : List Nat) : BitVec 80 := bits.foldl (fun v i => v ^^^ BitVec.ofNat 80 (2 ^ i)) v

/-- The word a read delivers, corrected; none where it is uncorrectable. -/
def bchFix (v : BitVec 80) : Option (BitVec 80) :=
  match bchDecode v with
  | .clean => some v
  | .fixed bits => some (flipBits v bits)
  | .bad => none

/-- The data bits of a stored word. -/
def bchData (v : BitVec 80) : W64 := v.extractLsb' 0 64

/-- The syndrome as detail word 1 carries it (R301). -/
def bchSyndrome (v : BitVec 80) : Nat := bchS1 v + bchS3 v * 2 ^ 8 + bchP v * 2 ^ 16

/-! ### CRC-32C (R168) -/

/-- One bit of the reflected CRC-32C. -/
def crcBit (c : Nat) : Nat := if c % 2 = 1 then (c / 2) ^^^ 0x82F63B78 else c / 2

/-- One byte of CRC-32C. -/
def crcByte (c : Nat) (b : Byte) : Nat :=
  crcBit (crcBit (crcBit (crcBit (crcBit (crcBit (crcBit (crcBit (c ^^^ b.toNat))))))))

/-- CRC-32C of bytes: initial value and final exclusive-or of all ones. -/
def crc32c (bs : List Byte) : Nat := (bs.foldl crcByte 0xFFFFFFFF) ^^^ 0xFFFFFFFF

/-! ### XXH64, seed 0 -/

abbrev xxP1 : W64 := 0x9E3779B185EBCA87
abbrev xxP2 : W64 := 0xC2B2AE3D27D4EB4F
abbrev xxP3 : W64 := 0x165667B19E3779F9
abbrev xxP4 : W64 := 0x85EBCA77C2B2AE63
abbrev xxP5 : W64 := 0x27D4EB2F165667C5

/-- One accumulator round. -/
def xxRound (acc inp : W64) : W64 := (acc + inp * xxP2).rotateLeft 31 * xxP1

/-- The 64-bit little-endian word at the head of a list. -/
def xxWord (bs : List Byte) : W64 := toW64 (leNat (bs.take 8))

/-- Stripes of 32 bytes over four accumulators, at most `k` of them. -/
def xxStripes : Nat → List Byte → W64 × W64 × W64 × W64 → (W64 × W64 × W64 × W64) × List Byte
  | 0, bs, a => (a, bs)
  | k + 1, bs, (a, b, c, d) =>
    if bs.length < 32 then ((a, b, c, d), bs) else
    xxStripes k (bs.drop 32) (xxRound a (xxWord bs), xxRound b (xxWord (bs.drop 8)), xxRound c (xxWord (bs.drop 16)),
      xxRound d (xxWord (bs.drop 24)))

/-- Merge of an accumulator. -/
def xxMerge (h a : W64) : W64 := (h ^^^ xxRound 0 a) * xxP1 + xxP4

/-- The tail shorter than a stripe: words of 8, then of 4, then bytes. -/
def xxTail : Nat → List Byte → W64 → W64
  | 0, _, h => h
  | k + 1, bs, h =>
    if 8 ≤ bs.length then xxTail k (bs.drop 8) ((h ^^^ xxRound 0 (xxWord bs)).rotateLeft 27 * xxP1 + xxP4) else
    if 4 ≤ bs.length then xxTail k (bs.drop 4) ((h ^^^ (toW64 (leNat (bs.take 4)) * xxP1)).rotateLeft 23 * xxP2 + xxP3) else
    match bs with
    | [] => h
    | b :: t => xxTail k t ((h ^^^ (toW64 b.toNat * xxP5)).rotateLeft 11 * xxP1)

/-- Final mixing. -/
def xxFinal (h : W64) : W64 :=
  let h1 := (h ^^^ (h >>> 33)) * xxP2
  let h2 := (h1 ^^^ (h1 >>> 29)) * xxP3
  h2 ^^^ (h2 >>> 32)

/-- XXH64 of bytes, seed 0. -/
def xxh64 (bs : List Byte) : W64 :=
  if bs.length < 32 then xxFinal (xxTail 64 bs (xxP5 + toW64 bs.length)) else
    let r := xxStripes bs.length bs (xxP1 + xxP2, xxP2, 0, 0 - xxP1)
    let (a, b, c, d) := r.1
    let h := xxMerge (xxMerge (xxMerge (xxMerge (a.rotateLeft 1 + b.rotateLeft 7 + c.rotateLeft 12 + d.rotateLeft 18) a) b) c) d
    xxFinal (xxTail 64 r.2 (h + toW64 bs.length))

end Sys2Proof.Machine
end

