-- ==== Sys2Proof/Machine/Lists.lean ====
section
/-! DEFINITION. Where a command's data lies in host memory: the fields of an instruction word and the registers of a context (03_ritriard_programs),
the memory a command acts on (R340), page range lists (R32, R33), and the destinations that a C5 leaves undefined (R289). -/

namespace Sys2Proof.Machine

/-! ### Words and registers (R51, Table 3.1) -/

/-- The fields of an instruction word (Table 3.2). -/
def wOp (w : W64) : Nat := fieldOf w 63 56
def wD (w : W64) : Nat := fieldOf w 55 52
def wA (w : W64) : Nat := fieldOf w 51 48
def wB (w : W64) : Nat := fieldOf w 47 44
def wMod (w : W64) : Nat := fieldOf w 43 40
def wImm (w : W64) : Nat := fieldOf w 39 0

/-- General register k of a context. -/
def Ctx.r (x : Ctx) (k : Nat) : W64 := x.g.get k

/-- Write of a general register. -/
def Ctx.setR (x : Ctx) (k : Nat) (v : W64) : Ctx := { x with g := x.g.set k v }

/-- Operands named by the fields of the present word. -/
def Ctx.ga (x : Ctx) : W64 := x.r (wA x.ir)
def Ctx.gb (x : Ctx) : W64 := x.r (wB x.ir)
def Ctx.gd (x : Ctx) : W64 := x.r (wD x.ir)

/-- Initial value of a general register (R51). -/
def Sqe.initReg (q : Sqe) (k : Nat) : W64 :=
  if k = 0 then q.g0 else if k = 1 then q.g1 else if k = 2 then q.g2 else if k = 3 then q.g3
  else if k = 15 then 0xFFFFFFFFFFFFFFFF else 0

/-! ### The memory of a command (R340) -/

/-- An outstanding command by its number. -/
def Dev.cmd (d : Dev) (id : Nat) : Option Cmd := d.cmds.find? (fun c => decide (c.id = id))

/-- The command of a context. -/
def Dev.cmdOf (d : Dev) (c : Nat) : Option Cmd := (d.ctxs.get c).cmd.bind d.cmd

/-- The port a context's command came on. -/
def Dev.portOfCtx (d : Dev) (c : Nat) : PortId :=
  match d.cmdOf c with
  | some m => m.port
  | none => .a

/-- Host memory after bytes are written over ranges. -/
def writeRanges (m : Table Byte 0) : List (Nat × Nat) → List Byte → Table Byte 0
  | [], _ => m
  | (a, n) :: t, bs => writeRanges (writeBytes m a (bs.take n)) t (bs.drop n)

/-- The member a context's command was forwarded from, if any. -/
def Dev.remoteOf (d : Dev) (c : Nat) : Option Nat := (d.cmdOf c).bind (fun m => m.fwdFrom)

/-- The number of the host memory a context's command acts on: 0 and 1 for the ports, 2 + 2 × member + port otherwise. -/
def Dev.memNo (d : Dev) (c : Nat) : Nat :=
  match d.remoteOf c with
  | some m => 2 + 2 * m + portNo (d.portOfCtx c)
  | none => portNo (d.portOfCtx c)

/-- A host memory by number. -/
def Dev.memAt (d : Dev) (n : Nat) : Table Byte 0 := if n < 2 then d.host (portOf n) else d.hostR.get (n - 2)

/-- Change of a host memory by number. -/
def Dev.onMemAt (d : Dev) (n : Nat) (f : Table Byte 0 → Table Byte 0) : Dev :=
  if n < 2 then d.onHost (portOf n) f else { d with hostR := d.hostR.modify (n - 2) f }

/-- The host memory of a context's command. -/
def Dev.mem (d : Dev) (c : Nat) : Table Byte 0 := d.memAt (d.memNo c)

/-- Whether the device may make requests for a context's command now (R23). -/
def Dev.mayRequest (d : Dev) (c : Nat) : Bool :=
  (d.remoteOf c).isSome || ((d.port (d.portOfCtx c)).busMaster && (d.port (d.portOfCtx c)).linkUp)

/-- The number of the host memory a command acts on. -/
def Cmd.memNo (m : Cmd) : Nat :=
  match m.fwdFrom with
  | some f => 2 + 2 * f + portNo m.port
  | none => portNo m.port

/-! ### Page range lists (R32, R33) -/

/-- What one entry of a list does to a walk. -/
inductive WalkStep where
  | more (w : Walk)
  | segment (w : Walk)
  | complete (w : Walk)
  | fault
  deriving DecidableEq, Repr

/-- Bytes a walk has found. -/
def Walk.total (w : Walk) : Nat := w.ranges.foldl (fun a r => a + r.2) 0

/-- Reading one entry of a list that describes `len` bytes (R32, R33, Table 2.4). -/
def Walk.entry (w : Walk) (bs : List Byte) (len : Nat) : WalkStep :=
  let addr := leNat (sliceBytes bs 0 8)
  let n := leNat (sliceBytes bs 8 4)
  let fl := leNat (sliceBytes bs 12 4)
  if 1 < fl then .fault
  else if fl = 1 then
    if n % 16 ≠ 0 ∨ n < 16 ∨ 65536 < n ∨ addr % 16 ≠ 0 then .fault
    else .segment { w with next := addr, room := n / 16 }
  else if n = 0 ∨ len < w.total + n then .fault
  else if w.total + n = len then .complete { w with ranges := w.ranges ++ [(addr, n)], next := w.next + 16, room := w.room - 1 }
  else if w.room ≤ 1 then .fault
  else .more { w with ranges := w.ranges ++ [(addr, n)], next := w.next + 16, room := w.room - 1 }

/-- Reading entries of one segment until it ends, the list is complete, or a fault. -/
def Walk.run (m : Table Byte 0) (len : Nat) : Nat → Walk → WalkStep
  | 0, w => .more w
  | k + 1, w =>
    match w.entry (readBytes m w.next 16) len with
    | .more w2 => Walk.run m len k w2
    | r => r

/-- Reading segments until the list is complete or `k` entries have been read. -/
def Walk.runAll (m : Table Byte 0) (len : Nat) : Nat → Walk → Walk
  | 0, w => w
  | k + 1, w =>
    if w.total = len then w else
    match w.entry (readBytes m w.next 16) len with
    | .more w2 => Walk.runAll m len k w2
    | .segment w2 => Walk.runAll m len k w2
    | .complete w2 => w2
    | .fault => w

/-- The host ranges of bytes [start, start + len) of a list. -/
def subRanges : List (Nat × Nat) → Nat → Nat → List (Nat × Nat)
  | [], _, _ => []
  | (a, n) :: t, start, len =>
    if len = 0 then [] else
    if n ≤ start then subRanges t (start - n) len
    else
      let k := min (n - start) len
      (a + start, k) :: subRanges t 0 (len - k)

/-- The host memory bytes of ranges. -/
def readRanges (m : Table Byte 0) : List (Nat × Nat) → List Byte
  | [] => []
  | (a, n) :: t => readBytes m a n ++ readRanges m t

/-- A walk begins at the head of a list. -/
def Walk.start (a : Nat) : Walk := ⟨[], a, 4096, true⟩

/-- The data length of a context's command. -/
def Dev.dataLen (d : Dev) (c : Nat) : Nat :=
  match d.cmdOf c with
  | some m => m.sqe.len.toNat
  | none => 0

/-- The walk of a context's data list, begun at its descriptor. -/
def Dev.dataWalk (d : Dev) (c : Nat) : Walk :=
  let x := d.ctxs.get c
  if x.walk.started then x.walk else
  match d.cmdOf c with
  | some m => Walk.start m.sqe.desc.toNat
  | none => x.walk

/-- Entries a walk may still read: bounded by the bytes host memory lists (a list without end ends there, log entry 12). -/
def Dev.walkFuel (d : Dev) (c : Nat) : Nat := (d.mem c).cells.length + 16

/-- The ranges of bytes [start, start + len) of a context's data, the list read on as far as it is needed. -/
def Dev.dataRanges (d : Dev) (c start len : Nat) : List (Nat × Nat) :=
  subRanges ((d.dataWalk c).runAll (d.mem c) (d.dataLen c) (d.walkFuel c)).ranges start len

/-- The list that a context walks next: the one of its data, then, for COMPRESS and DECOMPRESS, the output list at ga of gb bytes. -/
def Dev.outputWalk (d : Dev) (c : Nat) : Walk :=
  let x := d.ctxs.get c
  if x.owalk.started then x.owalk else Walk.start x.ga.toNat

/-- The host ranges of the first `n` bytes of a context's output list. -/
def Dev.outRanges (d : Dev) (c n : Nat) : List (Nat × Nat) :=
  subRanges ((d.outputWalk c).runAll (d.mem c) (d.ctxs.get c).gb.toNat (d.walkFuel c)).ranges 0 n

/-! ### Destinations at a C5 (R289) -/

/-- The host ranges of the destination of a command that has not reached its commit point (R74, R138): of an inline GET, COMPRESS or DECOMPRESS, and
of the one a program is at. -/
def Dev.destOf (d : Dev) (m : Cmd) : List (Nat × Nat) :=
  let t := d.memAt m.memNo
  let list := fun (a len : Nat) => ((Walk.start a).runAll t len (t.cells.length + 16)).ranges
  let w := m.sqe.word
  if m.sqe.kind = 1 then
    if wOp w = 0x42 then subRanges (list m.sqe.desc.toNat m.sqe.len.toNat) 0 (m.sqe.initReg (wD w)).toNat
    else if wOp w = 0x48 ∨ wOp w = 0x49 then list (m.sqe.initReg (wA w)).toNat (m.sqe.initReg (wB w)).toNat
    else []
  else match m.ctx with
    | none => []
    | some c =>
      match (d.ctxs.get c).run with
      | .flight (.read r) => if r.opcode = 0x42 then d.dataRanges c r.dest r.want else []
      | .flight (.compress _ _ _ _) => d.outRanges c (d.ctxs.get c).gb.toNat
      | .flight (.decompress _ _ _ _) => d.outRanges c (d.ctxs.get c).gb.toNat
      | _ => []

/-- The destination bytes of a command that a C5 ends are undefined (R289): free values, log entry 125. -/
def Dev.undefine (d : Dev) (m : Cmd) : Dev :=
  let rs := d.destOf m
  let n := (rs.map Prod.snd).sum
  if m.fwdFrom.isSome || ((d.port m.port).busMaster && (d.port m.port).linkUp) then
    { d.onMemAt m.memNo (fun t => writeRanges t rs ((List.range n).map (fun i => BitVec.ofNat 8 (Config.freeNat (d.draws + i))))) with
      draws := d.draws + n }
  else d

end Sys2Proof.Machine
end

