-- ==== Sys2Proof/Machine/Events.lean ====
section
/-! DEFINITION. Error records, loss records, the event log, snapshots armed by errors, and the five classes of error
(13_errors_recovery; R362, R363; R379). -/

namespace Sys2Proof.Machine

/-! ### Status codes (Table 2.7 and the tables that add to it) -/

namespace St

abbrev ok : W16 := 0x0000
abbrev aborted : W16 := 0x0101
abbrev poolEmpty : W16 := 0x0201
abbrev quotaExceeded : W16 := 0x0202
abbrev bufferHeld : W16 := 0x0203
abbrev authFailed : W16 := 0x0301
abbrev keySlotBusy : W16 := 0x0302
abbrev keyRevoked : W16 := 0x0303
abbrev unwrapFailed : W16 := 0x0304
abbrev verifyFail : W16 := 0x0401
abbrev outputFull : W16 := 0x0402
abbrev mediumUnrecovered : W16 := 0x0501
abbrev endOfData : W16 := 0x0502
abbrev volumeFull : W16 := 0x0503
abbrev transportFault : W16 := 0x0601
abbrev noCartridge : W16 := 0x0602
abbrev moveSuperseded : W16 := 0x0603
abbrev memberLost : W16 := 0x0701
abbrev thermalRefused : W16 := 0x0801
abbrev illegalInstruction : W16 := 0x0901
abbrev programFault : W16 := 0x0902
abbrev staleEpoch : W16 := 0x0A01
abbrev deviceFailed : W16 := 0x0A02

end St

/-! ### Error records (R283, R284, R419) -/

/-- What a unit reports. `after` is the carried stamp of R82. -/
structure Report where
  cls : EClass
  unit : UnitId
  cat : Nat
  d0 : W64 := 0
  d1 : W64 := 0
  d2 : W32 := 0
  status : W16 := 0
  dqn : Nat := 0xFFFF
  cid : W16 := 0
  domain : Option Nat := none
  flags : Byte := 0
  related : Nat := 0xFFFFFFFF
  after : Nat := 0
  deriving DecidableEq, Repr

/-- The class number of Table 13.1. -/
def classNo : EClass → Nat
  | .c0 => 0
  | .c1 => 1
  | .c2 => 2
  | .c3 => 3
  | .c4 => 4
  | .c5 => 5

/-- Timing domain of a record (Table 13.8). -/
def domainOf (u : UnitId) (cat : Nat) : Nat :=
  let o := u.origin
  let i := u.inst
  if o = 0 then 76 else
  if o = 1 ∨ o = 2 then (if cat = 0x10 then 47 + o else 44) else
  if 3 ≤ o ∧ o ≤ 6 then (if i = 0xFFFF then 8 * (o - 3) else i) else
  if o = 7 then 45 else
  if o = 8 then 46 else
  if o = 9 then 32 + i / 8 else
  if o = 0xA then 36 + i / 8 else
  if o = 0xB then (if i < 16 then 40 + i / 8 else 40) else
  if o = 0xC then (if i < 16 then 42 + i / 8 else if i < 20 then 42 + (i - 16) / 2 else 42) else
  if o = 0xD then 42 + i / 8 else
  if o = 0xE then 42 + i / 64 else
  if o = 0xF then (if i < 16 then 42 + i / 8 else if i < 18 then 26 + i else 24 + i) else
  if o = 0x10 then 74 else
  if o = 0x11 then (if i = 0xFFFF then 66 else 50 + i) else
  if o = 0x12 then 47 else
  if o = 0x13 then 70 + i else
  if o = 0x14 then 75 else
  if o = 0x15 then 69 else 75

/-- Removal of the oldest record that is not pinned. -/
def dropUnpinned : List ErrRec → List ErrRec
  | [] => []
  | r :: t => if r.pinned then r :: dropUnpinned t else t

/-- Number of pinned records. -/
def Errors.pinnedCount (e : Errors) : Nat := (e.log.filter (fun r => r.pinned)).length

/-- Room for one record more: the oldest unpinned record goes once 512 are held (R284). -/
def Dev.logRoom (d : Dev) : Dev :=
  if 512 ≤ d.er.log.length then
    (d.onEr (fun e => { e with log := dropUnpinned e.log })).bumpW1 Reg.ER_LOGSTAT 0 15 0
  else d

/-- The record of a report, as it is entered with a stamp (Table 13.2). -/
def Dev.recordOf (d : Dev) (r : Report) (s : Stamp) (pin snap : Bool) : ErrRec :=
  { stamp := s, adopted := d.clk.adopted, session := d.session, cls := r.cls, origin := r.unit.origin
    domain := (match r.domain with
      | some x => x
      | none => domainOf r.unit r.cat)
    flags := r.flags ||| BitVec.ofNat 8 (4 * b2n pin + 8 * b2n snap)
    inst := r.unit.inst, status := r.status, dqn := r.dqn, cid := r.cid, category := r.cat, seq := d.er.seq
    epoch := d.er.epoch % 2 ^ 32, d0 := r.d0, d1 := r.d1, related := r.related, d2 := r.d2, pinned := pin }

/-- A report enters the log (R283, R284): its sequence number, stamp and the device. -/
def Dev.log (d : Dev) (r : Report) (snap : Bool := false) : Nat × Stamp × Dev :=
  let sd := d.stamp r.unit.origin r.after
  let d1 := sd.2.logRoom
  let high := decide (3 ≤ classNo r.cls)
  let pin := high && decide (d1.er.pinnedCount < 256)
  let d2 := if high && !pin then d1.setW1 Reg.ER_LOGSTAT 0 31 else d1
  (d2.er.seq, sd.1,
    d2.onEr (fun e => { e with log := e.log ++ [d2.recordOf r sd.1 pin snap], seq := (e.seq + 1) % 2 ^ 32 }))

/-- A report that is recorded and nothing more (classes C0 to C2). -/
def Dev.note (d : Dev) (r : Report) : Dev := (d.log r).2.2

/-- A C0 event. -/
def Dev.c0 (d : Dev) (u : UnitId) (cat : Nat) (d0 : W64 := 0) (d1 : W64 := 0) : Dev :=
  d.note { cls := .c0, unit := u, cat := cat, d0 := d0, d1 := d1 }

/-- The origin that owns a register's block (R420). -/
def blockOrigin (a : Nat) (p : PortId) : Nat :=
  let b := a / 65536 % 1024
  if b = 0 ∨ b = 0xB0 then 0x14 else
  if b = 1 ∨ b = 0xF0 then 0 else
  if b = 2 ∨ b = 0x10 then 1 + portNo p else
  if b = 0x20 then 7 else
  if b = 0x30 then 9 else
  if b = 0x40 then 0xB else
  if b = 0x50 then 0xC else
  if b = 0x60 then 0xE else
  if b = 0x70 then 0x11 else
  if b = 0x80 then 0x10 else
  if b = 0x90 then 0x12 else
  if b = 0xA0 then 0x13 else
  if b = 0xC0 then 0x15 else
  if b = 0xD0 then 0x16 else
  if b = 0xE0 then 3 else 1 + portNo p

/-- The port whose copies an access path reaches (R25). -/
def pathPort : Path → PortId
  | .port p => p
  | .i2c p => p
  | .jtag p => p
  | .fuse => .a
  | .overlay => .a

/-- The instance and domain that name an access path in a record (R420); the I2C path makes no write. -/
def pathInst : Path → Nat × Nat
  | .port .a => (0, 48)
  | .port .b => (1, 49)
  | .i2c _ => (2, 79)
  | .jtag _ => (3, 77)
  | .fuse => (4, 75)
  | .overlay => (5, 78)

/-- A C0 event of a register write (R420): category 0x02, offset and value. -/
def Dev.regEvent (d : Dev) (path : Path) (a : Nat) (v : W32) : Dev :=
  let o := if (findReg a).isNone then (match path with
      | .port p => 1 + portNo p
      | _ => 1) else blockOrigin a (pathPort path)
  d.note { cls := .c0, unit := ⟨o, (pathInst path).1⟩, cat := 2, d0 := toW64 a, d1 := toW64 v.toNat
           domain := some (pathInst path).2 }

/-! ### Snapshots armed by an error (R291, R379, R380) -/

/-- The snapshot network is armed: target 256 ticks on. -/
def Dev.armSnap (d0 : Dev) (source t : Nat) : Dev :=
  let d := (d0.stamp 0 t).2
  { (d.onSn (fun s => { s with held := true, armed := true, prior := false, source := source, target := t + 256
                               latches := Table.empty, spread := 0, lastDomain := 0, releaseAsked := false }))
    with pins := { d.pins with snapOutLow := d.rf Reg.SN_CTL 28 28 == 1 } }

/-! ### The event log (R362, R363) -/

/-- One step of the CRC-7 with polynomial x^7 + x^3 + 1. -/
def crc7Step (c : Nat) (b : Bool) : Nat :=
  let c2 := c * 2 % 128
  if (c / 64 % 2 == 1) != b then c2 ^^^ 9 else c2

/-- CRC-7 of the lowest `n` bits of a number, most significant first, initial value 0. -/
def crc7 (v : Nat) : Nat → Nat → Nat
  | 0, c => c
  | n + 1, c => crc7 v n (crc7Step c (v.testBit n))

/-- An event-log entry (Table 17.5). -/
def eventEntry (cause detail t epoch : Nat) : Nat :=
  let body := cause * 2 ^ 48 + detail % 256 * 2 ^ 40 + (t / 2 ^ 22 % 2 ^ 32) * 2 ^ 8 + epoch % 256
  2 ^ 63 + crc7 body 56 0 * 2 ^ 56 + body

/-- Entry `i` of the event log in a table of fuse bytes. -/
def logEntry (m : Table Byte 0) (i : Nat) : Nat := leNat (readBytes m (0x1D80 + 8 * i) 8)

/-- Entries used: those with any bit burned. -/
def logUsed (m : Table Byte 0) : List Nat := (List.range 64).filter (fun i => logEntry m i != 0)

/-- The lowest entry not used, if any. -/
def logFree (m : Table Byte 0) : Option Nat := (List.range 64).find? (fun i => logEntry m i == 0)

/-- Burn of bytes into the array: a cell once burned stays burned (17_fuses_security); the shadow follows (log entry 31). -/
def Fuses.burnBytes (f : Fuses) (a : Nat) (bs : List Byte) : Fuses :=
  let orBytes (m : Table Byte 0) : Table Byte 0 :=
    writeBytes m a ((readBytes m a bs.length).zipWith (fun x y => x ||| y) bs)
  { f with cells := orBytes f.cells, shadow := orBytes f.shadow }

/-- Burn of an event-log entry (R363): stamped by the fuse array; with all 64 used a C0 event is recorded instead. -/
def Dev.burnEvent (d : Dev) (cause detail : Nat) : Dev :=
  match logFree d.fu.cells with
  | none => d.c0 ⟨0x16, 0xFFFF⟩ 0x0E
  | some i =>
    let sd := d.stamp 0x16
    sd.2.onFu (fun f => f.burnBytes (0x1D80 + 8 * i) (leBytes 8 (eventEntry cause detail sd.1.t d.er.epoch)))

/-! ### Loss records (R285) -/

/-- Lost writes: the arrival stamps of the first and last, how many, and the volume handle of the first. -/
def earliest (s : Stamp) (l : List Write) : Stamp := l.foldl (fun a w => if w.arrival.lt a then w.arrival else a) s
def latest (s : Stamp) (l : List Write) : Stamp := l.foldl (fun a w => if a.lt w.arrival then w.arrival else a) s

/-- A loss is recorded and its notice raised (R285, Table 13.4); with all 64 in use the newest is widened. -/
def Dev.loss (d : Dev) (cause member seq : Nat) (ws : List Write) : Dev :=
  match ws with
  | [] => d
  | w :: rest =>
    let sd := d.stamp 0x12
    let f := earliest w.arrival rest
    let l := latest w.arrival rest
    let n := min ws.length 0xFFFFFFFF
    match (List.range 64).find? (fun i => (d.er.losses.get i).isNone) with
    | some i =>
      let rec' : LossRec := { first := f, last := l, sess := d.session, form := (d.session, d.clk.adopted), vh := w.vh, writes := n, cause := cause, member := member
                              merged := false, seq := seq, stampAt := sd.1 }
      (sd.2.onEr (fun e => { e with losses := e.losses.set i (some rec'), newestLoss := i })).notice
        .lossNotice (toW64 i) sd.1
    | none =>
      let i := d.er.newestLoss
      (sd.2.onEr (fun e => { e with losses := e.losses.modify i (fun r => r.map (fun r =>
        { r with first := (if f.lt r.first then f else r.first), last := (if r.last.lt l then l else r.last)
                 form := (d.session, d.clk.adopted), writes := min (r.writes + n) 0xFFFFFFFF, merged := true, stampAt := sd.1 })) })).notice
        .lossNotice (toW64 i) sd.1

/-- Completed writes that are not yet durable (R90). -/
def Dev.undurable (d : Dev) : List Write := d.idx.writes.filter (fun w => w.commit.isSome && !w.durable && !w.withdrawn)

/-! ### Commit latches (R95, R96) -/

/-- The commit latch of a command: the first to arrive takes effect. -/
def Dev.latch (d : Dev) (id : Nat) (k : Completion) : Dev :=
  { d with cmds := d.cmds.map (fun c => if c.id = id ∧ c.done.isNone then { c with done := some k } else c) }

/-- The queue manager's unit code for a port (Table 4.1). -/
def qmUnit (p : PortId) : Nat := 1 + portNo p

/-! ### C5 (R289, R395) -/

/-- The SAFE reaction on the engine itself (R276, R278): drive codes 0, TC_POS no longer valid. The brake is applied and the drive put off at
the next base edge (`Tc.unpower`). -/
def Tc.toSafe (t : Tc) : Tc :=
  { t with st := .safe, reaction := .safe, codes := Table.empty, posValid := false, stopHold := 0, seeking := false, seekFor := none, locked := false
           profile := { t.profile with kind := 0, vel := 0, acc := 0, asker := .none } }

/-- TX_DRIVE_EN and TX_BRAKE_N go low. -/
def Tc.unpower (t : Tc) : Tc := { t with driveEn := false, brakeN := false }

/-- Every command without a commit point ends with S_DEVICE_FAILED, in the order the commands arrived, its destination bytes undefined. -/
def Dev.failAll (d : Dev) : Dev :=
  d.each (d.cmds.filter (fun c => c.done.isNone)) (fun d c =>
    let sd := d.stamp (qmUnit c.port) c.arrival.after
    (sd.2.latch c.id ⟨St.deviceFailed, 0, 0, sd.1⟩).undefine c)

/-- Every context stops. -/
def Dev.stopContexts (d : Dev) : Dev :=
  d.each (List.range 256) (fun d c => if (d.ctxs.get c).run = .free then d else d.onCtx c (fun x => { x with run := .free, cmd := none }))

/-- Time since reset release in 0.1 ms (GL_BOOT.elapsed); the count's start moves where a member adopts its master's count. -/
def Dev.sinceRelease (d : Dev) : Nat := min 0xFFFF (((d.clk.now : Int) - d.boot.began).toNat * 10 / msTicks)

/-- All head-link transmission stops: nothing is queued, awaited or in the transmitter of a link (R13, R289). -/
def Dev.stopLinks (d : Dev) : Dev := d.each allLinks (fun d t => d.onLink t (fun l => l.off .disabled))

/-- What the device does on a C5 once it is recorded. Before READY: start-up fails (R395). -/
def Dev.failDevice (d : Dev) (seq : Nat) : Dev :=
  let d1 := (({ d with tc := d.tc.toSafe }).stopLinks).onEr (fun e => { e with failed := true, halted := false })
  if d1.boot.ready then
    ((d1.loss 5 0 seq d1.undurable).failAll).stopContexts
  else
    d1.onBoot (fun b => { b with failed := true, failedStage := b.stage, frozen := some d1.sinceRelease, heldWrites := [], heldOps := [] })

/-- A C5 (R289): recorded, notified, the snapshot armed if none is held (R291), the device failed, and an event-log entry
burned with the cause given. Where it stops the stamp reference or the queue manager, nothing can be posted: so for a fault of the stamp service or of a
queue manager (log entry 114). -/
def Dev.raiseC5 (d : Dev) (r : Report) (cause detail : Nat) (mute : Bool := false) : Dev :=
  let snap := !d.sn.held
  let l := d.log { r with cls := .c5 } snap
  let d1 := l.2.2
  let d2 := if snap then (d1.armSnap 2 l.2.1.t).onEr (fun e => { e with snapSeq := some l.1 }) else d1
  let d3 := (if d.er.failed then d2 else d2.failDevice l.1).onEr (fun e => { e with mute := e.mute || mute || decide (r.unit.origin ≤ 2) })
  let d4 := if d3.boot.ready then d3.notice .errorRecord (toW64 l.1) l.2.1 else d3
  d4.burnEvent cause detail

/-! ### C3 and C4 (R287, R288, R290, R291) -/

/-- Whether an entry of the pending list is a recovery that is active or parked. -/
def Pend.underWay (p : Pend) : Bool := p.st != .waiting

/-- The class of the active recovery. -/
def Errors.activeClass (e : Errors) : Nat :=
  match e.pend.find? (fun p => p.st == .active) with
  | some p => classNo p.cls
  | none => 0

/-- The active recovery stops and waits again at the head of its class, to restart from its first step. -/
def Errors.preempt (e : Errors) : Errors :=
  { e with pend := e.pend.map (fun p => if p.st = .active then { p with st := .waiting, head := true } else p) }

/-- Entry of a C3 or C4 into the log and the pending list, with the notice and the snapshot of R291. `rclass` is the
class of its recovery. -/
def Dev.enterPend (d : Dev) (r : Report) (rclass : EClass) : Nat × Dev :=
  let snap := !d.sn.held
  let active := d.er.pend.find? (fun p => p.st == .active)
  let pre : Bool := match active with
    | some p => decide (classNo p.cls < classNo rclass)
    | none => false
  let related := if r.related = 0xFFFFFFFF ∧ pre then (match active with
      | some p => p.seq
      | none => 0xFFFFFFFF) else r.related
  let l := d.log { r with related := related } snap
  let d1 := if snap then (l.2.2.armSnap 2 l.2.1.t).onEr (fun e => { e with snapSeq := some l.1 }) else l.2.2
  let d2 := if pre then d1.onEr Errors.preempt else d1
  let d3 := if rclass = .c3 ∨ r.cls = .c3 then d2.fence r.unit else d2
  let d4 := d3.onEr (fun e => { e with pend := e.pend ++ [⟨rclass, r.unit, l.1, .waiting, e.epoch, l.2.1, 0, false, 0⟩] })
  (l.1, d4.notice .errorRecord (toW64 l.1) l.2.1)

/-- Units whose work another unit of their kind can take (R287); the others have one instance or one place each. -/
def poolsWork (u : UnitId) : Bool :=
  (decide (3 ≤ u.origin) && decide (u.origin ≤ 6)) || u.origin == 9 || u.origin == 0xA || (u.origin == 0xB && decide (u.inst < 16))
    || (u.origin == 0xC && decide (u.inst < 20)) || u.origin == 0xD || u.origin == 0xE || u.origin == 0xF

/-- A C3 or C4 (R290). A new error of a unit whose recovery is active or parked escalates; a list that is full raises a C4
of category 0x0F. A C3 whose work no unit is left to take becomes a C4 (R287), and so does one of the version index while it rebuilds its object
table (R121). -/
def Dev.raiseHigh (d : Dev) (r : Report) : Dev :=
  if d.er.failed then d.note r else
  match d.er.pend.find? (fun p => decide (p.unit = r.unit) && p.underWay) with
  | some p =>
    let r2 := { r with flags := r.flags ||| 1, related := p.seq }
    if p.cls = .c4 ∨ r.cls = .c4 then d.raiseC5 r2 3 r.cat
    else ((d.onEr (fun e => { e with pend := e.pend.filter (fun q => decide (q.seq ≠ p.seq)) })).enterPend
      { r2 with cls := .c4 } .c4).2
  | none =>
    if 16 ≤ d.er.pend.length then
      let l := d.log r
      let d1 := (if r.cls = .c3 then l.2.2.fence r.unit else l.2.2).notice .errorRecord (toW64 l.1) l.2.1
      let full : Report := { cls := .c4, unit := ⟨0x12, 0xFFFF⟩, cat := 0x0F, d0 := toW64 l.1, d1 := 16 }
      match d1.er.pend.find? (fun p => decide (p.unit = full.unit) && p.underWay) with
      | some p => d1.raiseC5 { full with flags := 1, related := p.seq } 3 full.cat
      | none => (d1.enterPend full .c4).2
    else
      let rclass := if r.cls = .c3 ∧ ((poolsWork r.unit ∧ !d.hasMate r.unit) ∨ (r.unit.origin = 8 ∧ d.idx.rebuilding)) then .c4 else r.cls
      (d.enterPend r rclass).2

/-- An error or event, acted on by its class (R281). -/
def Dev.raise (d : Dev) (r : Report) : Dev :=
  match r.cls with
  | .c0 => d.note r
  | .c1 => d.note r
  | .c2 => d.note r
  | .c3 => d.raiseHigh r
  | .c4 => d.raiseHigh r
  | .c5 => d.raiseC5 r 3 r.cat

end Sys2Proof.Machine
end

