-- ==== Sys2Proof/Machine/Frames.lean ====
section
/-! DEFINITION. Blocks of the head links and the cascade hops: symbols packed in a block, control blocks with their CRC (R240), and what a hop
carries (R334, R335, R345; Table 16.1). -/

namespace Sys2Proof.Machine

/-! ### Control blocks (R240) -/

/-- Bytes 0 to 27 of a control block's body, and their CRC-32C. -/
def ctlBytes (b : BitVec 256) : List Byte := (List.range 28).map (fun n => b.extractLsb' (8 * n) 8)
def ctlCrc (b : BitVec 256) : Nat := crc32c (ctlBytes b)

/-- A control block with its fields in bits 223:0 and its CRC. -/
def ctlBlock (fields : Nat) : BitVec 256 := BitVec.ofNat 256 (fields % 2 ^ 224 + ctlCrc (BitVec.ofNat 256 (fields % 2 ^ 224)) * 2 ^ 224)

/-- A received control block is of a type and its CRC holds. -/
def ctlOk (b : BitVec 256) (type : Nat) : Bool := fieldOf b 7 0 == type && fieldOf b 255 224 == ctlCrc b

/-- Symbols of a block, symbol `i` in bits 10i + 9 to 10i. -/
def packBlock (syms : List Nat) : Nat := syms.foldr (fun x a => a * 1024 + x % 1024) 0

/-! ### Blocks of a hop (R334); bit 256 is the header -/

/-- A control block leaves on a hop. -/
def Hop.control (h : Hop) (b : BitVec 256) : Hop := { h with tx := h.tx ++ [b.setWidth 257] }

/-- A stream block: stream, its sequence modulo 8, and 250 bits. -/
def streamBlock (stream seq data : Nat) : BitVec 257 := BitVec.ofNat 257 (2 ^ 256 + stream * 2 ^ 253 + seq % 8 * 2 ^ 250 + data % 2 ^ 250)

/-- A stream block leaves with the next sequence of its stream. -/
def Hop.carry (h : Hop) (stream data : Nat) : Hop :=
  { h with tx := h.tx ++ [streamBlock stream (h.seqs.get stream) data], seqs := h.seqs.set stream ((h.seqs.get stream + 1) % 8) }

/-- An ALIGN block of a lane (R333). -/
def laneAlign (lane : Nat) : BitVec 256 := BitVec.ofNat 256 (0xA5 + lane * 2 ^ 8 + ((List.range 30).foldl (fun a _ => a * 256 + 0x5A) 0) * 2 ^ 16)

/-- ECHO, a request or a reply that carries the request's T. -/
def echoBlock (reply : Bool) (t : Nat) : BitVec 256 := ctlBlock (0x62 + b2n reply * 2 ^ 8 + t % 2 ^ 64 * 2 ^ 64)

/-- ACK. -/
def ackBlock (seq : Nat) (negative : Bool) : BitVec 256 := ctlBlock (0x65 + seq % 2 ^ 32 * 2 ^ 16 + b2n negative * 2 ^ 48)

/-- STRIPE, which opens a parity stream of a stripe. -/
def stripeBlock (stream number : Nat) : BitVec 256 := ctlBlock (0x66 + stream * 2 ^ 8 + number % 2 ^ 40 * 2 ^ 16)

/-! ### JOIN (Table 16.1) -/

/-- Fields of a received JOIN block. -/
def joinVersion (b : BitVec 256) : Nat := fieldOf b 15 8
def joinSender (b : BitVec 256) : Nat := fieldOf b 18 16
def joinEpoch (b : BitVec 256) : Nat := fieldOf b 63 32 + fieldOf b 79 64 * 2 ^ 32
def joinHolds (b : BitVec 256) : Bool := b.getLsbD 81

/-- A JOIN block: sender, order epoch, whether it is the master, whether it holds a volume or command, device serial. -/
def joinFields (sender epoch : Nat) (isMaster holds : Bool) (serial : Nat) : BitVec 256 :=
  ctlBlock (0x61 + 2 ^ 8 + sender * 2 ^ 16 + epoch % 2 ^ 32 * 2 ^ 32 + epoch / 2 ^ 32 % 2 ^ 16 * 2 ^ 64 + b2n isMaster * 2 ^ 80 + b2n holds * 2 ^ 81
    + serial % 2 ^ 64 * 2 ^ 96)

/-! ### Messages (R335) -/

/-- The number of a message kind on the wire (Table 16.2). -/
def MsgKind.code : MsgKind → Nat
  | .time => 1
  | .epoch => 2
  | .forward => 3
  | .result => 4
  | .dmaRd => 5
  | .dmaData => 5
  | .dmaWr => 6
  | .lendReq => 7
  | .lendGrant => 7
  | .lendFree => 7
  | .bufRd => 8
  | .bufWr => 8
  | .abortDecide => 9
  | .setOp => 10
  | .loss => 11

/-- The MSG block of a message. -/
def Msg.head (m : Msg) : BitVec 256 :=
  ctlBlock (0x63 + m.kind.code * 2 ^ 8 + m.dst * 2 ^ 16 + m.src * 2 ^ 19 + m.payload.length * 2 ^ 32 + m.stamp.t % 2 ^ 64 * 2 ^ 64
    + m.stamp.o.toNat * 2 ^ 128 + m.seq % 2 ^ 32 * 2 ^ 136)

/-- Its END block. -/
def Msg.tail (m : Msg) : BitVec 256 := ctlBlock (0x64 + crc32c m.payload * 2 ^ 16 + m.seq % 2 ^ 32 * 2 ^ 48)

/-- Message data of the stream blocks: 31 bytes each, byte 0 lowest. -/
def dataWords (payload : List Byte) : List Nat := (List.range ((payload.length + 30) / 31)).map (fun i => leNat (sliceBytes payload (31 * i) 31))

/-- A message leaves on a hop: MSG, its data in stream 0, END. -/
def Hop.message (h : Hop) (m : Msg) : Hop := ((dataWords m.payload).foldl (fun h x => h.carry 0 x) (h.control m.head)).control m.tail

/-- A received message is whole: its END names it, its payload has the length that MSG gives and the CRC that END gives (R335). -/
def headWhole (h : MsgHead) (payload : List Byte) : Bool := h.len == payload.length && h.crc.toNat == crc32c payload && h.endSeq == h.seq

/-! ### Parity streams (R345) -/

/-- The blocks of a parity stream of one forme. -/
def stripeBlocks : Nat := 6128

/-- A parity stream leaves on a hop: STRIPE, then its symbols in span order with nine zero symbols after them. -/
def Hop.stripe (h : Hop) (stream number : Nat) (syms : List (BitVec 10)) : Hop :=
  (List.range stripeBlocks).foldl (fun h i => h.carry stream (packBlock ((List.range 25).map (fun k => (syms.getD (25 * i + k) 0).toNat))))
    (h.control (stripeBlock stream number))

end Sys2Proof.Machine
end

