-- ==== Sys2Proof/Machine/Messages.lean ====
section
/-! DEFINITION. Sending on the cascade ring (R335) and the order epoch (R293, R338). -/

namespace Sys2Proof.Machine

/-- Whether the device is in a ring. -/
def Cascade.inRing (c : Cascade) : Bool := c.st == .member || c.st == .master

/-- The direction of a message: the shorter way round, clockwise breaks a tie; the other way where that hop is down (R335). -/
def Dev.wayTo (d : Dev) (dst : Nat) : Bool :=
  let n := max d.cs.size 1
  let cw := (dst + n - d.clk.member.toNat) % n
  let want := decide (cw ≤ n - cw)
  let up := if want then d.cs.c0.st == .active else d.cs.c1.st == .active
  if up then want else !want

/-- Change of a hop: that of C0, or that of C1. -/
def Cascade.onHop (c : Cascade) (c0 : Bool) (f : Hop → Hop) : Cascade := if c0 then { c with c0 := f c.c0 } else { c with c1 := f c.c1 }

/-- A message leaves in a direction, clockwise on C0, and waits for its acknowledgement. -/
def Dev.sendWay (d : Dev) (k : MsgKind) (src dst : Nat) (s : Stamp) (way : Bool) (payload : List Byte) : Dev :=
  let q := b2n (!way)
  let m : Msg := ⟨k, src, dst, d.cs.txSeq.get q, s, way, payload⟩
  (d.onCs (fun c => ({ c with unacked := c.unacked ++ [m], txSeq := c.txSeq.set q ((c.txSeq.get q + 1) % 2 ^ 32) }).onHop way
    (fun h => h.message m))).count 0xC0 0 0 1

/-- A message to a member (R335). -/
def Dev.send (d : Dev) (k : MsgKind) (dst : Nat) (s : Stamp) (payload : List Byte) : Dev :=
  if d.cs.inRing then d.sendWay k d.clk.member.toNat dst s (d.wayTo dst) payload else d

/-- The other members of the ring. -/
def Dev.others (d : Dev) : List Nat := d.cs.present.filter (fun m => decide (m ≠ d.clk.member.toNat))

/-- A message to every other member. -/
def Dev.broadcast (d : Dev) (k : MsgKind) (s : Stamp) (payload : List Byte) : Dev :=
  d.each d.others (fun d m => d.send k m s payload)

/-- The order epoch takes a value: stamped by the error and recovery unit, with EPOCH_CHANGE (R293). -/
def Dev.epochTo (d : Dev) (v after : Nat) : Stamp × Dev :=
  let sd := d.stamp 0x12 after
  let d1 := sd.2.onEr (fun e => { e with epoch := v % 2 ^ 48 })
  (sd.1, d1.notice .epochChange (toW64 (v % 2 ^ 32)) sd.1)

/-- An advance of the order epoch (R293). A member sends it to the master; the master advances once and broadcasts (R338). -/
def Dev.epochAdvance (d : Dev) (after : Nat := 0) : Dev :=
  if d.cs.st = .member then
    let sd := d.stamp 0x12 after
    sd.2.send .epoch 0 sd.1 (leBytes 6 0)
  else
    let sd := d.epochTo (d.er.epoch + 1) after
    if d.cs.st = .master then sd.2.broadcast .epoch sd.1 (leBytes 6 sd.2.er.epoch) else sd.2

end Sys2Proof.Machine
end

