-- ==== Sys2Proof/Machine/Pools.lean ====
section
/-! DEFINITION. The buffer pool manager (05_buffer_pools): carve, requests, quotas, sharing, releases and waiters. -/

namespace Sys2Proof.Machine

/-- Buffer size of a pool in units of 4 KiB (Table 5.1). -/
def poolUnits (p : Nat) : Nat :=
  if p = 0 then 1 else if p = 1 then 8 else if p = 2 then 64 else if p = 3 then 256 else if p = 4 then 1024 else 4096

/-- Buffer size of a pool in bytes. -/
def poolBytes (p : Nat) : Nat := poolUnits p * 4096

/-- The smallest pool whose buffers hold a size of 1 byte to 16 MiB (R104). -/
def poolFor (size : Nat) : Nat :=
  if size ≤ 4096 then 0 else if size ≤ 32768 then 1 else if size ≤ 262144 then 2 else if size ≤ 1048576 then 3
  else if size ≤ 4194304 then 4 else 5

/-- The key of a buffer: pool and number. -/
def bufKey (p n : Nat) : Nat := p * 2 ^ 26 + n
/-- Pool of a buffer key. -/
def bufPool (k : Nat) : Nat := k / 2 ^ 26
/-- Number of a buffer key. -/
def bufNo (k : Nat) : Nat := k % 2 ^ 26

/-- Keys of a table's entries. -/
def tableKeys {α : Type} {x : α} (m : Table α x) : List Nat := m.cells.map Prod.fst

/-- Buffers granted in a pool. -/
def Pools.granted (b : Pools) (p : Nat) : List Nat := (tableKeys b.bufs).filter (fun k => bufPool k == p)

/-- Buffers of a pool taken from it by row retirement (R310). -/
def Pools.gone (b : Pools) (p : Nat) : List Nat :=
  b.retiredBufs.filter (fun k => bufPool k == p && !(tableKeys b.bufs).contains k)

/-- Free buffers of a pool. -/
def Pools.free (b : Pools) (p : Nat) : Nat := b.carve.get p - (b.granted p).length - (b.gone p).length

/-- The lowest-numbered free buffer of a pool (R106). -/
def Pools.lowest (b : Pools) (p : Nat) : Option Nat :=
  let usedKeys := b.granted p ++ b.gone p
  ((List.range (usedKeys.length + 1)).find? (fun n => !usedKeys.contains (bufKey p n))).bind
    (fun n => if n < b.carve.get p then some (bufKey p n) else none)

/-- The requester of an internal unit (Table 5.2). -/
def unitReq : BufUnit → Nat
  | .compressor => 48
  | .verify => 48
  | .decompressor => 49
  | .cipher => 50
  | .forme => 51
  | .encoder => 51
  | .distributor => 51
  | .rewrite => 51
  | .l3 => 52
  | .restore => 52
  | .directory => 53
  | .index => 53
  | .cascade => 54
  | .recovery => 55

/-- The requester's quota in units of 4 KiB (BP_QLIMIT). -/
def Dev.quota (d : Dev) (req : Nat) : Nat := d.rfB Reg.BP_QLIMIT req 26 0

/-- The host group of a device queue number (R102). -/
def Dev.groupOf (d : Dev) (q : Nat) : Nat := d.rf (Reg.BP_QMAP + 4 * q) 5 0

/-- The floor of a requester in a pool (R104). -/
def Dev.floorOf (d : Dev) (req p : Nat) : Nat := if req < 48 then d.pools.reserve.get p else 0

/-- Free buffers of a pool as a requester sees them: none to a host while internal requests wait on it (R105). -/
def Dev.freeFor (d : Dev) (req p : Nat) : Nat :=
  if req < 48 && d.pools.waiters.any (fun w => w.pools.contains p) then 0 else d.pools.free p

/-- What the front end decides on a request (R104). -/
inductive Grant where
  | from (p : Nat)
  | refused (status : W16) (tried : List Nat)
  deriving DecidableEq, Repr

/-- Status S_RANGE (Table 3.15). -/
abbrev St.range : W16 := 0x0906

/-- The decision of R104. -/
def Dev.decideGrant (d : Dev) (req size : Nat) (spill : Bool) : Grant :=
  if size = 0 ∨ 16777216 < size then .refused St.range [] else
  let p := poolFor size
  if d.quota req < d.pools.used.get req + poolUnits p then .refused St.quotaExceeded [p] else
  if d.floorOf req p < d.freeFor req p then .from p else
  if spill ∧ p < 5 then
    if d.quota req < d.pools.used.get req + poolUnits (p + 1) then .refused St.quotaExceeded [p, p + 1] else
    if d.floorOf req (p + 1) < d.freeFor req (p + 1) then .from (p + 1) else .refused St.poolEmpty [p, p + 1]
  else .refused St.poolEmpty [p]

/-- A buffer as it is granted: its holders, the last of them its finisher (R109, Table 5.5). -/
def grantOf (req : Nat) (share : List Holder) (gen : Nat) : Buf :=
  ⟨req, share, share.getLast?.getD .pool, gen, false, false, false, false⟩

/-- A buffer of pool `p` goes to its holders (R103, R106, R109). -/
def Dev.take (d : Dev) (req p : Nat) (share : List Holder) : Option Nat × Dev :=
  match d.pools.lowest p with
  | none => (none, d)
  | some k =>
    (some k, d.onPools (fun b =>
      { b with bufs := b.bufs.set k (some (grantOf req share b.gens)), gens := b.gens + 1
               used := b.used.modify req (· + poolUnits p) }))

/-- A refusal counted in BP_EVENTS. -/
def Dev.countRefusal (d : Dev) (s : W16) : Dev :=
  if s = St.quotaExceeded then d.bumpW1 Reg.BP_EVENTS 0 15 8 else
  if s = St.poolEmpty then d.bumpW1 Reg.BP_EVENTS 0 7 0 else d

/-- A host request (R104): the buffer, or the status of the refusal. -/
def Dev.hostGrant (d : Dev) (req size : Nat) (spill : Bool) (h : Holder) : Except W16 Nat × Dev :=
  let sd := d.stamp 7
  match sd.2.decideGrant req size spill with
  | .from p =>
    (match sd.2.take req p [h] with
     | (some k, d2) => (.ok k, d2)
     | (none, d2) => (.error St.poolEmpty, d2))
  | .refused s _ => (.error s, sd.2.countRefusal s)

/-- The next waiter of a pool whose quota allows a buffer of the pool (R105). -/
def Dev.waiterFor (d : Dev) (p : Nat) : Option Waiter :=
  d.pools.waiters.find? (fun w => w.pools.contains p && decide (d.pools.used.get w.requester + poolUnits p ≤ d.quota w.requester))

/-- A freed buffer of a pool goes to the earliest waiter that may have it (R105); work that waits takes its grant up when it goes on. -/
def Dev.serveWaiter (d : Dev) (p : Nat) : Dev :=
  match d.waiterFor p with
  | none => d
  | some w =>
    if 0 < d.pools.free p then
      let sd := d.stamp 7
      match (sd.2.onPools (fun b => { b with waiters := b.waiters.filter (fun x => decide (x.stamp ≠ w.stamp)) })).take w.requester p w.share with
      | (some k, d1) => if w.tag.isEmpty then d1 else d1.onPools (fun b => { b with ready := b.ready ++ [(w.unit, w.tag, k)] })
      | (none, d1) => d1
    else d

/-- A request of an internal unit (R104, R105): a buffer, or it waits on every pool it tried. A size outside R104 is refused. -/
def Dev.request (d : Dev) (u : BufUnit) (tag : List Nat) (size : Nat) (spill : Bool) (share : List Holder) : Option Nat × Dev :=
  let sd := d.stamp 7
  match sd.2.decideGrant (unitReq u) size spill with
  | .from p => sd.2.take (unitReq u) p share
  | .refused s [] => (none, sd.2.countRefusal s)
  | .refused s tried => (none, (sd.2.countRefusal s).onPools (fun b =>
      { b with waiters := b.waiters ++ [⟨u, unitReq u, tried, sd.1, tag, share⟩] }))

/-- BUFFER_REQUEST's request: the unit is the only holder. -/
def Dev.unitRequest (d : Dev) (u : BufUnit) (size : Nat) (spill : Bool) : Dev := (d.request u [] size spill [.unit u]).2

/-- The grant that waiting work has been given. -/
def Pools.readyFor (b : Pools) (u : BufUnit) (tag : List Nat) : Option Nat :=
  (b.ready.find? (fun r => r.1 == u && r.2.1 == tag)).map (fun r => r.2.2)

/-- A buffer for work of the write or restore path: the one it was given while it waited, or a request, once (R105). spec/ does not give the
spill flag of these requests; the model asks without spill (log entry 126). -/
def Dev.grab (d : Dev) (u : BufUnit) (tag : List Nat) (size : Nat) (share : List Holder) : Option Nat × Dev :=
  match d.pools.readyFor u tag with
  | some k => (some k, d.onPools (fun b => { b with ready := b.ready.filter (fun r => decide (r.2.2 ≠ k)) }))
  | none => if d.pools.waiters.any (fun w => w.unit == u && w.tag == tag) then (none, d) else d.request u tag size false share

/-- A request more for work that needs several buffers before it can go on: its grant waits with the others. -/
def Dev.await (d : Dev) (u : BufUnit) (tag : List Nat) (size : Nat) (share : List Holder) : Dev :=
  if d.pools.waiters.any (fun w => w.unit == u && w.tag == tag) then d else
  match d.request u tag size false share with
  | (some k, d1) => d1.onPools (fun b => { b with ready := b.ready ++ [(u, tag, k)] })
  | (none, d1) => d1

/-- Removal of one occurrence. -/
def eraseOne (h : Holder) : List Holder → List Holder
  | [] => []
  | x :: t => if x = h then t else x :: eraseOne h t

/-- Outcomes of a release (Table 5.4). -/
inductive Release where
  | fell | freed | held | nonHolder
  deriving DecidableEq, Repr

/-- Detail words of a pool record (Table 13.3, category 0x03). -/
def poolD0 (k : Nat) : W64 := toW64 (bufPool k * 2 ^ 56 + bufNo k)
def poolD1 (req holders : Nat) : W64 := toW64 (req % 256 + holders % 4096 * 256)

/-- The base address of a pool, in units of 4 KiB: pools lie from address 0 in the order 5 to 0 (R100). -/
def Pools.base (b : Pools) (p : Nat) : Nat :=
  let sz := fun q => b.carve.get q * poolUnits q
  if p = 5 then 0 else if p = 4 then sz 5 else if p = 3 then sz 5 + sz 4 else if p = 2 then sz 5 + sz 4 + sz 3
  else if p = 1 then sz 5 + sz 4 + sz 3 + sz 2 else sz 5 + sz 4 + sz 3 + sz 2 + sz 1

/-- The first word of a buffer. -/
def Pools.wordOf (b : Pools) (k : Nat) : Nat := (b.base (bufPool k) + bufNo k * poolUnits (bufPool k)) * 512

/-- Poisoned words of a buffer that is freed are rewritten with zeros (R303). -/
def MemInt.clean (m : MemInt) (first n : Nat) : MemInt :=
  let hit := fun w => decide (first ≤ w) && decide (w < first + n)
  { m with words := (m.poison.filter hit).foldl (fun t w => t.set w 0) m.words, poison := m.poison.filter (fun w => !hit w) }

/-- The key of a buffer lent by a member (R342), and the member of such a key. -/
def lentKey (m k : Nat) : Nat := (m + 1) * 2 ^ 40 + k
def isLent (k : Nat) : Bool := decide (2 ^ 40 ≤ k)

/-- A borrowed buffer goes back to its lender with LEND_FREE; the writer's group is no longer charged (R342). It is listed among the granted
buffers, outside every pool of this member, while it is borrowed. -/
def Dev.freeLent (d : Dev) (k group : Nat) : Dev :=
  let m := k / 2 ^ 40 - 1
  let n := k % 2 ^ 40
  let sd := d.stamp 0x15
  ((sd.2.send .lendFree m sd.1 (leBytes 4 n)).onCs (fun c => { c with borrowed := c.borrowed.filter (fun x => decide (x ≠ (m, n))) })).onPools
    (fun p => { p with bufs := p.bufs.set k none, used := p.used.modify group (· - poolUnits (bufPool n)) })

/-- A buffer leaves its grant: no galley lists it, its charge is returned, and waiters are served (R103, R105). -/
def Dev.freeBuf (d : Dev) (k : Nat) (b : Buf) : Dev :=
  let d0 := d.onIdx (fun x => { x with writes := x.writes.map (fun w => { w with bufs := w.bufs.filter (fun kb => decide (kb.2 ≠ k)) }) })
  if isLent k then d0.freeLent k b.requester else
  ((d0.onMi (fun m => m.clean (d.pools.wordOf k) (poolUnits (bufPool k) * 512))).onPools (fun x =>
    { x with bufs := x.bufs.set k none, used := x.used.modify b.requester (· - poolUnits (bufPool k)) })).serveWaiter (bufPool k)

/-- A buffer goes with everything that holds it, where the work it is for is wiped as a whole. -/
def Dev.giveBack (d : Dev) (k : Nat) : Dev :=
  match d.pools.bufs.get k with
  | some b => (d.stamp 7).2.freeBuf k b
  | none => d

/-- Requests and grants of work that is no longer wanted go. -/
def Dev.dropWaits (d : Dev) (p : BufUnit → List Nat → Bool) : Dev :=
  let gone := d.pools.ready.filter (fun r => p r.1 r.2.1)
  (gone.foldl (fun d r => d.giveBack r.2.2) (d.onPools (fun b =>
    { b with waiters := b.waiters.filter (fun w => w.tag.isEmpty || !p w.unit w.tag), ready := b.ready.filter (fun r => !p r.1 r.2.1) })))

/-- A release of a buffer by a holder (R109, Table 5.4): its outcome, stamped by the pool manager. A finisher that is an
internal unit and is refused releases again once it is the only holder (R111). -/
def Dev.release (d : Dev) (k : Nat) (h : Holder) (req : Nat) : Release × Dev :=
  let d1 := (d.stamp 7).2
  match d1.pools.bufs.get k with
  | none =>
    (.nonHolder, (d1.bumpW1 Reg.BP_EVENTS 0 31 24).note
      { cls := .c2, unit := ⟨7, bufPool k⟩, cat := 3, d0 := poolD0 k, d1 := poolD1 req 0 })
  | some b =>
    if !b.holders.contains h then
      (.nonHolder, (d1.bumpW1 Reg.BP_EVENTS 0 31 24).note
        { cls := .c2, unit := ⟨7, bufPool k⟩, cat := 3, d0 := poolD0 k, d1 := poolD1 req b.holders.length })
    else if b.finisher = h then
      if b.holders.length = 1 then (.freed, d1.freeBuf k b)
      else
        let auto := match h with
          | .unit _ => true
          | _ => false
        (.held, (d1.bumpW1 Reg.BP_EVENTS 0 23 16).onPools (fun x =>
          { x with bufs := x.bufs.set k (some { b with signalled := b.signalled || auto }) }))
    else
      let rest := eraseOne h b.holders
      if (rest.length = 1 ∧ b.signalled) ∨ (rest.isEmpty ∧ b.finisher = .pool) then (.fell, d1.freeBuf k b)
      else (.fell, d1.onPools (fun x => { x with bufs := x.bufs.set k (some { b with holders := rest }) }))

/-- A device unit or a read attaches to a buffer (R109, R114). -/
def Dev.attach (d : Dev) (k : Nat) (h : Holder) : Dev :=
  match d.pools.bufs.get k with
  | none => d
  | some b => if b.holders.length < 4095 then
      d.onPools (fun x => { x with bufs := x.bufs.set k (some { b with holders := b.holders ++ [h] }) }) else d

/-- Whether a holder holds a buffer. -/
def Dev.holdsBuf (d : Dev) (k : Nat) (h : Holder) : Bool := (d.pools.bufs.get k).any (fun b => b.holders.contains h)

/-- Whether a buffer takes one holder more (R109). -/
def Dev.holderRoom (d : Dev) (k : Nat) : Bool :=
  match d.pools.bufs.get k with
  | some b => decide (b.holders.length < 4095)
  | none => true

/-- A unit attaches to a buffer that it does not hold. -/
def Dev.attachOnce (d : Dev) (k : Nat) (h : Holder) : Dev := if d.holdsBuf k h then d else d.attach k h

/-- A unit of the write or restore path lets a buffer go where it holds it (Table 5.5). -/
def Dev.letGo (d : Dev) (k : Nat) (h : Holder) : Dev := if d.holdsBuf k h then (d.release k h 0).2 else d

/-- Finishership of a buffer, stamped by the pool manager, passes with the holder's place (R110, R111, R59). -/
def Dev.passFinisher (d : Dev) (k : Nat) (old new : Holder) : Dev :=
  match d.pools.bufs.get k with
  | none => d
  | some b =>
    (d.stamp 7).2.onPools (fun x => { x with bufs := x.bufs.set k (some
      { b with holders := (eraseOne old b.holders) ++ [new], finisher := (if b.finisher = old then new else b.finisher) }) })

/-! ### Carve (R101) -/

/-- The counts and reserves that BP_CARVE and BP_RESV hold. -/
def Dev.carveReg (d : Dev) (p : Nat) : Nat := d.rf (Reg.BP_CARVE0 + 4 * p) 25 0
def Dev.resvReg (d : Dev) (p : Nat) : Nat := d.rf (Reg.BP_RESV0 + 4 * p) 25 0

/-- Sum over the six pools. -/
def sumPools (f : Nat → Nat) : Nat := f 0 + f 1 + f 2 + f 3 + f 4 + f 5

/-- All six pools meet a condition. -/
def allPools (f : Nat → Bool) : Bool := f 0 && f 1 && f 2 && f 3 && f 4 && f 5

/-- The first failing check of an apply, in the order of R101; 0 where it is accepted. -/
def Dev.carveCheck (d : Dev) : Nat :=
  if d.pools.bufs.cells.any (fun x => !isLent x.1) then 1 else
  if !allPools (fun p => d.carveReg p % 64 == 0) then 2 else
  if 33554432 < sumPools d.carveReg then 3 else
  if 66060288 < sumPools (fun p => d.carveReg p * poolUnits p) then 4 else
  if d.idx.rebuilding then 5 else
  if !allPools (fun p => decide (d.resvReg p ≤ d.carveReg p)) then 6 else 0

/-- The fields BP_CARVE and BP_RESV return to the values in force. -/
def Dev.restoreCarve (d : Dev) : Dev :=
  d.each (List.range 6) (fun d p =>
    (d.setRf (Reg.BP_CARVE0 + 4 * p) 25 0 (d.pools.carve.get p)).setRf (Reg.BP_RESV0 + 4 * p) 25 0 (d.pools.reserve.get p))

/-- The carve and reserves of the registers come into force, every pool wholly free. -/
def Dev.installCarve (d : Dev) : Dev :=
  d.each (List.range 6) (fun d p => d.onPools (fun b =>
    { b with carve := b.carve.set p (d.carveReg p), reserve := b.reserve.set p (d.resvReg p) }))

end Sys2Proof.Machine
end

