-- ==== Sys2Proof/Machine/Operands.lean ====
section
/-! DEFINITION. Ritriard instruction words (Tables 3.2 and 3.5 to 3.12): fields, legality of a word, the registers of a
context, and legality in the present state (Table 3.4). -/

namespace Sys2Proof.Machine

/-! ### Fields (Table 3.2) -/

/-- The immediate, sign-extended. -/
def wSext (w : W64) : W64 := (w.extractLsb' 0 40).signExtend 64

/-- The immediate, sign-extended, as an integer. -/
def wSextInt (w : W64) : Int := (w.extractLsb' 0 40).toInt

/-- The catch bit of a device instruction (R53). -/
def wCatch (w : W64) : Bool := w.getLsbD 43

/-- A word built from its fields. -/
def mkWord (op d a b m imm : Nat) : W64 :=
  toW64 (op % 256 * 2 ^ 56 + d % 16 * 2 ^ 52 + a % 16 * 2 ^ 48 + b % 16 * 2 ^ 44 + m % 16 * 2 ^ 40 + imm % 2 ^ 40)

/-- Device instructions (R53). -/
def isDeviceOp (op : Nat) : Bool := decide (0x30 ≤ op) && decide (op ≤ 0xAF)

/-- Which values of each field an opcode defines for a modifier without the catch bit: masks of d, a, b and the immediate,
or none for an opcode or modifier that this chapter does not list. -/
def wordMasks (op m : Nat) : Option (Nat × Nat × Nat × Nat) :=
  let full := 2 ^ 40 - 1
  if 1 ≤ op ∧ op ≤ 9 then (if m = 0 then some (15, 15, 15, 0) else none) else
  if op = 0x0A ∨ op = 0x0E then (if m = 0 then some (15, 15, 0, full) else none) else
  if op = 0x0B then (if m = 0 then some (15, 0, 0, full) else if m = 1 then some (15, 0, 0, 2 ^ 24 - 1) else none) else
  if op = 0x0C then (if m = 0 then some (0, 15, 15, 0) else none) else
  if op = 0x0D then (if m = 0 then some (0, 15, 0, full) else none) else
  if op = 0x20 then (if m ≤ 8 then some (0, 0, 0, full) else none) else
  if op = 0x21 then (if m = 0 then some (0, 0, 0, full) else none) else
  if op = 0x22 then (if m = 0 then some (0, 0, 0, 0) else none) else
  if op = 0x23 then (if m = 0 then some (0, 15, 0, 0) else none) else
  if op = 0x24 then (if m = 0 then some (0, 0, 0, full) else if m = 1 then some (0, 15, 0, 0) else none) else
  if op = 0x25 then (if m = 0 then some (15, 0, 0, 65535) else if m = 1 then some (15, 15, 0, 0) else none) else
  if op = 0x30 then some (15, 15, 0, full) else
  if op = 0x31 then some (0, 15, 15, full) else
  if op = 0x32 then (if m = 0 then some (0, 15, 0, 0) else none) else
  if op = 0x40 then (if m = 0 then some (15, 15, 0, 8191) else none) else
  if op = 0x41 then (if m = 0 then some (15, 15, 15, 8191) else none) else
  if op = 0x42 then (if m = 0 then some (15, 15, 15, 1023) else none) else
  if op = 0x43 then (if m = 0 then some (0, 15, 0, 0) else none) else
  if op = 0x44 ∨ op = 0x48 ∨ op = 0x49 then (if m = 0 then some (15, 15, 15, 0) else none) else
  if op = 0x50 then (if m = 0 then some (0, 0, 0, full - 252) else none) else
  if op = 0x51 then (if m = 0 then some (15, 0, 0, 0) else none) else
  if op = 0x52 ∨ op = 0x54 ∨ op = 0x55 ∨ op = 0x93 then (if m = 0 then some (0, 0, 0, 0) else none) else
  if op = 0x53 then (if m = 0 then some (0, 15, 15, 0) else none) else
  if op = 0x56 then (if m = 0 then some (15, 15, 0, 0) else none) else
  if op = 0x60 then (if m = 0 then some (15, 15, 15, 0) else none) else
  if op = 0x61 then (if m = 0 then some (0, 15, 0, 1023) else none) else
  if op = 0x62 then (if m = 0 then some (15, 15, 0, 1023) else none) else
  if op = 0x63 then (if m = 0 then some (0, 0, 0, 1023) else none) else
  if op = 0x64 then (if m = 0 then some (15, 0, 0, 1023) else none) else
  if op = 0x70 then (if m ≤ 1 then some (3, 15, 0, 0) else none) else
  if op = 0x71 then (if m ≤ 1 then some (15, 3, 0, 0) else if m = 2 then some (3, 15, 0, 0) else none) else
  if op = 0x72 then (if m = 0 then some (0, 3, 0, 0) else none) else
  if op = 0x80 then (if m = 0 then some (15, 15, 0, 0) else none) else
  if op = 0x81 ∨ op = 0x90 ∨ op = 0x95 then (if m ≤ 1 then some (0, 0, 0, 0) else none) else
  if op = 0x91 then (if m = 0 then some (0, 15, 0, 15) else none) else
  if op = 0x92 then (if m ≤ 1 then some (0, 0, 0, 15) else none) else
  if op = 0x94 then (if m = 0 then some (0, 15, 0, 0) else none) else
  if op = 0xA0 then (if m = 0 then some (15, 0, 0, 0) else none) else
  if op = 0xA1 then some (15, 0, 0, 0) else none

/-- Whether a value has bits in a mask only. -/
def within (v mask : Nat) : Bool := v &&& mask == v

/-- The modifier without the catch bit of a device instruction. -/
def wModLow (w : W64) : Nat := if isDeviceOp (wOp w) then wMod w % 8 else wMod w

/-- Legality of a word (R52). -/
def legalWord (w : W64) : Bool :=
  match wordMasks (wOp w) (wModLow w) with
  | none => false
  | some (md, ma, mb, mi) => within (wD w) md && within (wA w) ma && within (wB w) mb && within (wImm w) mi

/-- Instructions that are illegal inline (R55). -/
def programOnly (op : Nat) : Bool :=
  op == 0x20 || op == 0x21 || op == 0x22 || op == 0x23 || op == 0x70 || op == 0x71 || op == 0x72

/-- Legality of the word of an inline command (R52, R55). -/
def legalInline (w : W64) : Bool := legalWord w && !programOnly (wOp w)

/-! ### Registers and contexts -/

/-- Engine of a context (Table 1.2). -/
def engOf (c : Nat) : Nat := c / 8
/-- Unit code of a context's engine cluster (Table 4.1). -/
def clusterUnit (c : Nat) : Nat := 3 + c / 64

/-- The unit of a context's engine. -/
def engineUnit (c : Nat) : UnitId := ⟨clusterUnit c, engOf c⟩

/-- The recovery context (R62). -/
def recoveryCtx : Nat := 255

/-- Whether a context's command is a program call. -/
def Dev.isProgram (d : Dev) (c : Nat) : Bool :=
  match d.cmdOf c with
  | some m => m.sqe.kind == 2
  | none => false

/-- The device queue number of a context's command. -/
def Dev.dqnOf (d : Dev) (c : Nat) : Nat :=
  match d.cmdOf c with
  | some m => dqn m.port m.qid
  | none => 0xFFFF

/-- The requester of a context's buffer requests (R102). -/
def Dev.reqOf (d : Dev) (c : Nat) : Nat := d.groupOf (d.dqnOf c % 1024)

/-- The stamp that orders a context's present device instruction: the arrival stamp inline, the issue stamp in a
program (R57, R86). -/
def Dev.orderStamp (d : Dev) (c : Nat) : Stamp :=
  match d.cmdOf c with
  | some m => if m.sqe.kind = 2 then (d.ctxs.get c).issue else m.arrival
  | none => (d.ctxs.get c).issue

/-! ### Legality in the present state (Table 3.4) -/

abbrev St.wrongState : W16 := 0x0903
abbrev St.badHandle : W16 := 0x0904
abbrev St.noObject : W16 := 0x0905
abbrev St.slotEmpty : W16 := 0x0907

/-- The status Table 3.4 gives an instruction in the present mode and volume state, none where it may run. A GET or STAT in
DRAIN that buffered versions do not serve wholly is decided at its lookup. -/
def Dev.stateCheck (d : Dev) (op : Nat) : Option W16 :=
  let empty := d.vol.st == .empty
  let opened := d.vol.st == .opened
  let loaded := opened || d.vol.st == .sealed
  let noVol : W16 := if empty then St.noCartridge else St.wrongState
  if op = 0x42 ∨ op = 0x44 then
    (if d.mode = .maint then some St.wrongState
     else if loaded then none else if d.mode = .drain then some St.thermalRefused else some noVol)
  else if op = 0x53 then
    (match d.mode with
     | .maint => some St.wrongState
     | .drain => some St.thermalRefused
     | .normal => if loaded then none else some noVol)
  else if op = 0x40 ∨ op = 0x41 ∨ op = 0x43 ∨ op = 0x54 then
    (match d.mode with
     | .maint => some St.wrongState
     | .drain => some St.thermalRefused
     | .normal => if opened then none else some noVol)
  else if op = 0x55 then
    (if d.mode = .maint then some St.wrongState else if loaded then none else some noVol)
  else if op = 0x50 ∨ op = 0x51 then
    (match d.mode with
     | .maint => some St.wrongState
     | .drain => some St.thermalRefused
     | .normal => if d.vol.st = .present then none else some noVol)
  else if op = 0x52 ∨ op = 0x56 then
    (match d.mode with
     | .maint => some St.wrongState
     | .drain => some St.thermalRefused
     | .normal => if loaded then none else some noVol)
  else if op = 0x91 ∨ op = 0x92 ∨ op = 0x93 ∨ op = 0x94 ∨ op = 0x95 then
    (match d.mode with
     | .maint => none
     | .drain => some St.thermalRefused
     | .normal => some St.wrongState)
  else none

/-- The status of MAINT enter and MAINT exit (Table 3.4). -/
def Dev.maintCheck (d : Dev) (exit : Bool) : Option W16 :=
  match d.mode with
  | .drain => some St.thermalRefused
  | .maint => if exit then none else some St.wrongState
  | .normal => if exit then some St.wrongState
      else if d.vol.st = .empty ∨ d.vol.st = .present then none else some St.wrongState

/-- Instructions that check vh (R66). -/
def checksVh (op : Nat) : Bool :=
  op == 0x42 || op == 0x44 || op == 0x53 || op == 0x40 || op == 0x41 || op == 0x43 || op == 0x55 || op == 0x52
    || op == 0x54 || op == 0x56

/-- The volume handle agrees with the loaded volume (R66). -/
def Dev.vhOk (d : Dev) (vh : W32) : Bool :=
  match d.vol.loaded with
  | some v => v.handle == vh
  | none => false

/-- Whether a context is ready to issue its present instruction (R64): its engine and cluster are in service, and no C4 halts it unless the
instruction may run through that (R288). -/
def Dev.readyCtx (d : Dev) (c : Nat) : Bool :=
  let x := d.ctxs.get c
  let op := wOp x.ir
  x.run == .ready && decide (c < 256) && x.cmd.isSome && !d.isFenced (engineUnit c) && !d.isFenced ⟨clusterUnit c, 0xFFFF⟩
    && (!d.er.halted || op == 0x80 || op == 0xA0 || op == 0xA1)

/-- The context of an engine whose turn is next: of those ready, the first in round robin after the one that had the last turn (R64). -/
def Dev.turnOf (d : Dev) (e : Nat) : Option Nat :=
  ((List.range 8).map (fun i => 8 * e + ((d.engines.get e).turn + 1 + i) % 8)).find? d.readyCtx

/-- Whether the present instruction of a context is opcode `op` and it is the context's turn to issue it (R64). -/
def Dev.mayIssue (d : Dev) (c op : Nat) : Bool :=
  d.readyCtx c && wOp (d.ctxs.get c).ir == op && d.turnOf (engOf c) == some c

/-- Change of one engine. -/
def Dev.onEngine (d : Dev) (e : Nat) (f : Engine → Engine) : Dev := { d with engines := d.engines.modify e f }

/-- A context becomes free (R59). -/
def Dev.freeCtx (d : Dev) (c : Nat) : Dev := (d.onCtx c (fun _ => Ctx.reset)).onEngine (engOf c) (fun e => { e with idleFrom := d.clk.now })

/-- A word becomes a context's present instruction: its microthread stands at the entry of its opcode (log entry 141). -/
def Dev.present (d : Dev) (c : Nat) (w : W64) : Dev := d.onCtx c (fun x => { x with ir := w, run := .ready, micro := ⟨Config.microEntry (wOp w), []⟩ })

/-- A context uses a turn of its engine. -/
def Dev.useTurn (d : Dev) (c : Nat) : Dev := d.onEngine (engOf c) (fun e => { e with turn := c % 8 })

/-- The present instruction of a context carries the modifier `m`, catch aside. -/
def Dev.modIs (d : Dev) (c m : Nat) : Bool := wModLow (d.ctxs.get c).ir == m

end Sys2Proof.Machine
end

