-- ==== Sys2Proof/Machine/Flags.lean ====
section
/-! DEFINITION. The flags of the register instructions (R67, Table 3.5) and the conditions of B. -/

namespace Sys2Proof.Machine

/-- Z and N of a result. -/
def Ctx.setZN (x : Ctx) (r : W64) : Ctx := { x with z := r == 0, n := r.msb }

/-- Z, N, C and V of a result. -/
def Ctx.setZNCV (x : Ctx) (r : W64) (c v : Bool) : Ctx := { x with z := r == 0, n := r.msb, c := c, v := v }

/-- Carry out of a sum. -/
def carryOut (a b : W64) : Bool := decide (2 ^ 64 ≤ a.toNat + b.toNat)
/-- Signed overflow of a sum. -/
def overflowAdd (a b : W64) : Bool := (a.msb == b.msb) && ((a + b).msb != a.msb)
/-- No borrow: the first operand is at least the second, unsigned. -/
def noBorrow (a b : W64) : Bool := decide (b.toNat ≤ a.toNat)
/-- Signed overflow of a difference. -/
def overflowSub (a b : W64) : Bool := (a.msb != b.msb) && ((a - b).msb != a.msb)

/-- Flags of a sum. -/
def Ctx.flagsAdd (x : Ctx) (a b : W64) : Ctx := x.setZNCV (a + b) (carryOut a b) (overflowAdd a b)
/-- Flags of a difference. -/
def Ctx.flagsSub (x : Ctx) (a b : W64) : Ctx := x.setZNCV (a - b) (noBorrow a b) (overflowSub a b)
/-- Flags of a logical instruction, ANDI or MUL: C and V cleared. -/
def Ctx.flagsLogic (x : Ctx) (r : W64) : Ctx := x.setZNCV r false false

/-- Last bit shifted out to the left by n (0 for a zero shift). -/
def outLeft (a : W64) (n : Nat) : Bool := decide (n ≠ 0) && a.getLsbD (64 - n)
/-- Last bit shifted out to the right by n (0 for a zero shift). -/
def outRight (a : W64) (n : Nat) : Bool := decide (n ≠ 0) && a.getLsbD (n - 1)

/-- The condition codes of B. -/
def condHolds (x : Ctx) (m : Nat) : Bool :=
  if m = 0 then true else
  if m = 1 then x.z else
  if m = 2 then !x.z else
  if m = 3 then x.n != x.v else
  if m = 4 then x.n == x.v else
  if m = 5 then !x.c else
  if m = 6 then x.c else
  if m = 7 then !x.z && x.n == x.v else
  if m = 8 then x.z || x.n != x.v else false

end Sys2Proof.Machine
end

