-- ==== Sys2Proof/Machine/Slots.lean ====
section
/-! DEFINITION. Key slots: pins, draining and erasure (R155 to R158), and the versions of the index: coverage, holds and the
release of galley buffers (R87 to R89, R113 to R117). -/

namespace Sys2Proof.Machine

abbrev St.slotDraining : W16 := 0x0305
abbrev St.keyMismatch : W16 := 0x0306
abbrev St.counterExhausted : W16 := 0x0307
abbrev St.rngFailed : W16 := 0x0308
abbrev St.frameInvalid : W16 := 0x0403

/-! ### Slots -/

/-- A slot. -/
def Dev.slot (d : Dev) (s : Nat) : Slot := d.cx.slots.get s

/-- Change of a slot. -/
def Dev.onSlot (d : Dev) (s : Nat) (f : Slot → Slot) : Dev := d.onCx (fun c => { c with slots := c.slots.modify s f })

/-- A flight that waits for the erase of a slot, once that slot is EMPTY. -/
def Flight.afterErase (s : Nat) : Flight → Flight
  | .erase t g => .erase t (g || t == s)
  | .eraseNow t n g => .eraseNow t n (g || t == s)
  | f => f

/-- Every erase that waits on a slot may finish (Table 7.6). -/
def Dev.erasesDone (d : Dev) (s : Nat) : Dev :=
  { d with ctxs := ⟨d.ctxs.cells.map (fun cx => (cx.1, { cx.2 with run := (match cx.2.run with
      | .flight f => .flight (f.afterErase s)
      | r => r) }))⟩ }

/-- A slot's key is zeroed and the slot becomes EMPTY; the order epoch advances (R157, R293). -/
def Dev.emptySlot (d : Dev) (s : Nat) : Dev :=
  let sd := d.stamp 0xB
  ((sd.2.onSlot s (fun _ => Slot.reset)).erasesDone s).epochAdvance sd.1.after

/-- A pin (R155). -/
def Dev.pin (d : Dev) (s : Nat) : Dev := (d.stamp 0xB).2.onSlot s (fun x => { x with pins := x.pins + 1 })

/-- An unpin; a draining slot that reaches 0 pins is erased (Table 7.6). -/
def Dev.unpin (d : Dev) (s : Nat) : Dev :=
  let d1 := (d.stamp 0xB).2.onSlot s (fun x => { x with pins := x.pins - 1 })
  if (d1.slot s).st = .draining ∧ (d1.slot s).pins = 0 then d1.emptySlot s else d1

/-- Why a pin is refused, none where it is taken (R156). `write` asks for the write usage. -/
def Slot.refusal (x : Slot) (write : Bool) : Option W16 :=
  match x.st with
  | .empty => some St.slotEmpty
  | .draining => some St.slotDraining
  | .revoking => some St.slotDraining
  | .loaded =>
    if !(x.usage.getLsbD (if write then 0 else 1)) then some St.keyMismatch
    else if write ∧ 2 ^ 63 ≤ x.counter then some St.counterExhausted else none

/-- Whether a slot can take one pin more (R155). -/
def Slot.pinRoom (x : Slot) : Bool := decide (x.pins < 2 ^ 24 - 1)

/-! ### Coverage of a write -/

/-- The bytes a write covers: [from, to). A PUT or DELETE covers every byte of its object (R87). -/
def Write.from' (w : Write) : Nat := if w.kind = .patch then w.cover else 0
def Write.to (w : Write) : Nat := if w.kind = .patch then w.off + w.len else 2 ^ 48

/-- Whether a write covers a byte. -/
def Write.covers (w : Write) (b : Nat) : Bool := decide (w.from' ≤ b) && decide (b < w.to)

/-- Whether two writes cover a byte in common. -/
def Write.overlaps (w v : Write) : Bool := decide (w.from' < v.to) && decide (v.from' < w.to)

/-- A version of the index: committed and not withdrawn. -/
def Write.isVersion (w : Write) : Bool := w.commit.isSome

/-- Whether `v` supersedes a byte of `w` (R89). -/
def supersedes (v w : Write) : Bool :=
  v.isVersion && v.obj == w.obj && v.vh == w.vh && w.arrival.lt v.arrival && v.overlaps w

/-- Whether a version is kept under a hold (R89, R115): a read of its object is registered with a stamp earlier than that of
the latest write that has superseded any of its bytes. -/
def Index.holds (x : Index) (w : Write) : Bool :=
  w.isVersion && w.beaten.any (fun t => x.reads.any (fun r => r.obj == w.obj && r.stampAt.lt t))

/-- The later of a stamp and one that may be there. -/
def laterOf (a : Option Stamp) (t : Stamp) : Option Stamp :=
  match a with
  | some s => if s.lt t then some t else some s
  | none => some t

/-- Every version notes the latest write of the index that supersedes a byte of it. -/
def Index.noteOver (x : Index) : Index :=
  { x with writes := x.writes.map (fun w => (x.writes.filter (fun v => supersedes v w)).foldl (fun w v => { w with beaten := laterOf w.beaten v.arrival }) w) }

/-! ### The object table (R116, R117) -/

/-- The bucket of an object. -/
def bucketOf (obj : W64) (sess : Nat) (salt : W32) : Nat :=
  ((obj ^^^ toW64 (sess * 2 ^ 48) ^^^ salt.zeroExtend 64) * 0xB5AD4ECEDA1CE2A9).toNat / 2 ^ 44

/-- Whether an object has its position. -/
def Index.placed (x : Index) (vh : W32) (obj : W64) : Bool := x.table.any (fun p => p.vh == vh && p.obj == obj)

/-- The lowest free way of a bucket. -/
def Index.freeWay (x : Index) (bucket : Nat) : Option Nat :=
  (List.range 4).find? (fun i => !x.table.any (fun p => p.bucket == bucket && p.way == some i))

/-- Entries of the overflow area in use. -/
def Index.overflow (x : Index) : Nat := (x.table.filter (fun p => p.way.isNone)).length

/-- Whether an object has a position, or can take one. -/
def Index.placeRoom (x : Index) (vh : W32) (obj : W64) (sess : Nat) : Bool :=
  x.placed vh obj || (x.freeWay (bucketOf obj sess x.saltInForce)).isSome || decide (x.overflow < 65536)

/-- An object takes a way of its bucket, or else an overflow entry, of the table. -/
def Index.place (x : Index) (vh : W32) (obj : W64) (sess : Nat) : Index :=
  if x.placed vh obj then x else
  let b := bucketOf obj sess x.saltInForce
  { x with table := x.table ++ [⟨vh, obj, b, x.freeWay b⟩] }

/-- An object's first intent gives it its position and its spine entry. -/
def Index.enter (x : Index) (vh : W32) (obj : W64) (sess : Nat) : Index :=
  let y := x.place vh obj sess
  if x.spine.any (fun o => o.1 == vh && o.2.1 == obj) then y else { y with spine := y.spine ++ [(vh, obj, sess)] }

/-- The index with the writes it keeps: an object whose last version or intent has gone gives up its position. -/
def Index.settle (x : Index) (ws : List Write) : Index :=
  let live := fun (vh : W32) (obj : W64) => ws.any (fun w => w.vh == vh && w.obj == obj)
  { x with writes := ws, table := x.table.filter (fun p => live p.vh p.obj), spine := x.spine.filter (fun o => live o.1 o.2.1) }

/-- Objects with an entry in the index, and records in use (BP_IXOBJ, BP_IXVER; intents and holds count as one). -/
def Index.objects (x : Index) : Nat := x.spine.length
def Index.records (x : Index) : Nat := x.writes.length + (x.writes.filter (fun w => w.hold)).length

/-- Room for the intent of a write of an object (R117). -/
def Index.room (x : Index) (vh : W32) (obj : W64) (sess : Nat) : Bool :=
  decide (x.records < 16777216) && decide ((x.writes.filter (fun w => w.vh == vh && w.obj == obj)).length < 255) && x.placeRoom vh obj sess

/-- Change of one write of the index. -/
def Dev.onWrite (d : Dev) (id : Nat) (f : Write → Write) : Dev :=
  d.onIdx (fun x => { x with writes := x.writes.map (fun w => if w.id = id then f w else w) })

/-- A write of the index by its number. -/
def Dev.write (d : Dev) (id : Nat) : Option Write := d.idx.writes.find? (fun w => decide (w.id = id))

/-- Holds are placed and released, each event stamped by the version index (R89). -/
def Dev.reviewHolds (d : Dev) : Dev :=
  d.each d.idx.writes (fun d w =>
    let h := d.idx.holds w
    if h = w.hold then d else (d.stamp 8).2.onWrite w.id (fun w => { w with hold := h }))

/-- Galley buffers of a version that the index may release: block passed and durable, version not held (R113). -/
def Write.loose (w : Write) : List (Nat × Nat) :=
  if w.isVersion && !w.hold then w.bufs.filter (fun kb => (w.passed.contains kb.1 && (w.durable || w.durables.contains kb.1)) || w.withdrawn)
  else []

/-- Whether a later PUT or DELETE of the index covers the object of a write. -/
def Index.whollyOver (x : Index) (w : Write) : Bool := x.writes.any (fun v => supersedes v w && v.kind != .patch)

/-- Whether the index has released a buffer and was refused: the pool manager signals it (R111). -/
def Dev.refusedOnce (d : Dev) (k : Nat) : Bool := (d.pools.bufs.get k).any (fun b => b.signalled)

/-- The index, as finisher, releases what it may, once (R111, R113), and a version whose bytes are durable and whose buffers are
free leaves the index (R115, R116). A withdrawn one stays until a later write covers its whole object (R159). -/
def Dev.reap (d : Dev) : Dev :=
  let d1 := d.each d.idx.writes (fun d w => d.each w.loose (fun d kb =>
    if d.refusedOnce kb.2 then d else (d.release kb.2 (.unit .index) 53).2))
  d1.onIdx (fun x => x.settle (x.writes.filter (fun w => !(w.isVersion && w.durable && !w.hold && w.bufs.isEmpty && (!w.withdrawn || x.whollyOver w)))))

/-- The object tag of a block's requests. -/
def Block.tag (b : Block) : List Nat := [(b.write.map (· + 1)).getD 0, (b.ctx.map (· + 1)).getD 0, b.k]

/-- The buffer whose bytes a block is cut from: a galley buffer, or a staging buffer. -/
def Dev.sourceOf (d : Dev) (b : Block) : Option Nat :=
  match b.write with
  | some id => ((d.write id).bind (fun w => w.bufs.find? (fun kb => kb.1 == b.k))).map (fun kb => kb.2)
  | none => b.src

/-- A unit attaches to the buffers of a block (Table 5.5). -/
def Dev.holdBlock (d : Dev) (b : Block) (u : BufUnit) : Dev :=
  d.each ((d.sourceOf b).toList ++ b.out.toList) (fun d k => d.attach k (.unit u))

/-- A unit lets the buffers of a block go. -/
def Dev.freeBlock (d : Dev) (b : Block) (u : BufUnit) : Dev :=
  d.each ((d.sourceOf b).toList ++ b.out.toList) (fun d k => d.letGo k (.unit u))

/-- The frame's buffer of a block goes, released by its finisher. -/
def Dev.freeFrame (d : Dev) (b : Block) : Dev := d.each b.out.toList Dev.giveBack

/-- Blocks leave the compression complex: lanes release their holds first, then the buffers of requester 48 go (R112). -/
def Dev.dropBlocks (d : Dev) (p : Block → Bool) : Dev :=
  let bs := d.cm.blocks.filter p
  let d1 := d.each bs (fun d b =>
    ((((d.freeBlock b .compressor).freeBlock b .verify).freeBlock b .cipher).freeFrame b).each b.src.toList Dev.giveBack)
  (d1.dropWaits (fun u t => u == .compressor && bs.any (fun b => b.tag == t))).onCm (fun c => { c with blocks := c.blocks.filter (fun b => !p b) })

/-- An intent that ends without committing: removed, its staged buffers freed, its blocks and FIFOs dropped, its pin
returned (R73, R97, R112). -/
def Dev.cancelWrite (d : Dev) (w : Write) : Dev :=
  let d1 := (d.stamp 8).2.dropBlocks (fun b => decide (b.write = some w.id))
  let d2 := d1.onIdx (fun x => x.settle (x.writes.filter (fun v => decide (v.id ≠ w.id))))
  let d3 := d2.each w.bufs (fun d kb => match w.ctx with
    | some c => (d.release kb.2 (.ctx c) w.group).2
    | none => d.giveBack kb.2)
  (if w.pinned then d3.unpin w.slot else d3).reviewHolds.reap

/-- Every intent of a context that has not committed. -/
def Dev.intentsOf (d : Dev) (c : Nat) : List Write := d.idx.writes.filter (fun w => w.ctx == some c && w.commit.isNone)

/-- A context's intents end without committing. -/
def Dev.cancelIntents (d : Dev) (c : Nat) : Dev := d.each (d.intentsOf c) (fun d w => d.cancelWrite w)

/-- FIFOs of a context are given back. -/
def Dev.dropFifos (d : Dev) (c : Nat) : Dev :=
  (d.each d.cm.fifos.cells (fun d kf => match kf.2 with
    | some f => if f.ctx = c then (match f.buf with
        | some k => d.giveBack k
        | none => d) else d
    | none => d)).onCm (fun m => { m with fifos := ⟨m.fifos.cells.filter (fun kf => (match kf.2 with
    | some f => decide (f.ctx ≠ c)
    | none => false))⟩ })

/-- Restored formes go once no read is registered. -/
def Dev.dropDecoded (d : Dev) : Dev :=
  if !d.idx.reads.isEmpty then d else
    (d.each d.vol.decoded (fun d f => match f.buf with
      | some k => d.giveBack k
      | none => d)).onVol (fun v => { v with decoded := [], rereads := Table.empty })

/-- A context's reads are no longer registered, hold no buffers and wait for no tape; holds are reviewed (R89, R114, R115). -/
def Dev.endReads (d : Dev) (c : Nat) : Dev :=
  let d0 := d.onSh (fun x => { x with waitTape := x.waitTape.filter (fun w => decide (w.1 ≠ c)), served := x.served || x.turnReads.head?.any (fun w => w.1 == c)
                                      turnReads := x.turnReads.filter (fun w => decide (w.1 ≠ c)) })
  let d1 := d0.onIdx (fun x => { x with reads := x.reads.filter (fun r => decide (r.ctx ≠ c)) })
  let d2 := d1.each (tableKeys d1.pools.bufs) (fun d k =>
    match d.pools.bufs.get k with
    | some b => d.each (b.holders.filter (fun h => decide (h = .reader c))) (fun d h => (d.release k h 0).2)
    | none => d)
  d2.dropDecoded.reviewHolds.reap

end Sys2Proof.Machine
end

