-- ==== Sys2Proof/Machine/Contexts.lean ====
section
/-! DEFINITION. What contexts share: fetching words through the instruction cache (R60), finishing an instruction (R53, R55),
ending a command (R56, R59), program faults (R79), and the page range list walk (R32, R33). -/

namespace Sys2Proof.Machine

/-! ### Ending a command -/

/-- Category of a failed command's record (R421). -/
def failCategory (s : W16) : Nat :=
  let k := s.toNat / 256
  if k = 2 then 3 else if k = 3 then 5 else if k = 4 then 4 else if k = 5 then 8 else if k = 6 then 0xA
  else if k = 7 then 0xD else if k = 8 then 0xC else if k = 0xA then 0xF else 1

/-- Detail words of a category 0x01 record: pc, opcode and instruction word, pc 0 for an inline command (R421). -/
def Dev.wordDetails (d : Dev) (c : Nat) : W64 × W64 :=
  let x := d.ctxs.get c
  (toW64 ((if d.isProgram c then x.pc else 0) % 65536 + wOp x.ir * 65536), x.ir)

/-- The record of a failed command or instruction (R421): a C2 error, or a C0 event where catch holds it (R53) and for a
superseded move (R267). An abort leaves no record. A rule that names the record's fields gives `cat` and `d2`. -/
def Dev.failRecord (d : Dev) (c : Nat) (s : W16) (held : Bool) (d0 d1 : W64) (cat : Option Nat := none) (d2 : W32 := 0) : Dev :=
  if s = St.ok ∨ s = St.aborted then d else
  match d.cmdOf c with
  | none => d
  | some m =>
    let k := cat.getD (failCategory s)
    let wd := if k = 1 then d.wordDetails c else (d0, d1)
    d.note { cls := if held ∨ s = St.moveSuperseded then .c0 else .c2, unit := engineUnit c, cat := k
             d0 := wd.1, d1 := wd.2, d2 := d2, status := s, dqn := dqn m.port m.qid, cid := m.sqe.cid
             flags := if held then 2 else 0, domain := some (engOf c) }

/-- A context's handles are released as BUF.FREE would; finishership of a buffer that others hold passes to the pool manager,
with a C0 event naming the buffer (R59). -/
def Dev.releaseHandle (d : Dev) (c h : Nat) : Dev :=
  match (d.ctxs.get c).h.get h with
  | none => d
  | some k =>
    let d1 := d.onCtx c (fun x => { x with h := x.h.set h none })
    match d1.pools.bufs.get k with
    | none => d1
    | some b =>
      if b.finisher = .ctx c ∧ 1 < b.holders.length then
        ((d1.stamp 7).2.onPools (fun p => { p with bufs := p.bufs.set k (some
          { b with holders := eraseOne (.ctx c) b.holders, finisher := .pool }) })).note
          { cls := .c0, unit := ⟨7, bufPool k⟩, cat := 3, d0 := poolD0 k, d1 := poolD1 (d.reqOf c) (b.holders.length - 1) }
      else (d1.release k (.ctx c) (d.reqOf c)).2

/-- All four handles of a context are released. -/
def Dev.releaseHandles (d : Dev) (c : Nat) : Dev :=
  (((d.releaseHandle c 0).releaseHandle c 1).releaseHandle c 2).releaseHandle c 3

/-- What the device holds of a volume goes: formes, records, the schedule, what was decoded or read for it. -/
def Dev.unmount (d : Dev) : Dev :=
  let free := fun (d : Dev) (b : Option Nat) => match b with
    | some k => d.giveBack k
    | none => d
  let d1 := (d.fm.held.map (fun f => f.buf)).foldl free d
  let d2 := (d1.cx.recs.map (fun r => r.buf)).foldl free d1
  (((d2.onFm (fun _ => Formes.reset)).onCx (fun x => { x with recs := [] })).onSh (fun x =>
    { Sheaf.reset with nextCopy := x.nextCopy, step := x.step, rIn := x.rIn, inBytes := x.inBytes, outs := x.outs, draining := x.draining })).onVol
    (fun v => { v with loaded := none, decoded := [], scan := [], rereads := Table.empty, reload := [] })

/-- What an instruction in flight holds is given back when it does not reach its commit point (R97, R112, R155). -/
def Dev.dropFlight (d : Dev) (c : Nat) : Dev :=
  let d1 := (d.cancelIntents c).dropFifos c
  let d2 := ((d1.dropBlocks (fun b => decide (b.ctx = some c))).dropWaits (fun u t =>
    (u == .compressor || u == .decompressor) && t.head? == some c && t.length == 2)).onCs (fun x => { x with lendAsks := x.lendAsks.filter (fun a => decide (a.1 ≠ c)) })
  match (d.ctxs.get c).run with
  | .flight (.read r) => (if r.opcode = 0x42 then d2.unpin r.slot else d2).endReads c
  | .flight (.existence op) => if op = 0x41 then d2.unpin (wImm (d.ctxs.get c).ir % 1024) else d2
  | .flight (.format _ _) => d2.unmount.onVol (fun v => { v with formatting := false })
  | .flight (.load _ _) => d2.unmount
  | _ => d2.endReads c

/-- A command ends: its completion is committed with a stamp, its handles are released and its context becomes free
(R51, R56, R59, R95). -/
def Dev.complete (d : Dev) (c : Nat) (s : W16) (result : W64) (st : Stamp) : Dev :=
  let x := d.ctxs.get c
  let d1 := match x.cmd with
    | some id => d.latch id ⟨s, BitVec.ofNat 8 (b2n x.info), result, st⟩
    | none => d
  (d1.releaseHandles c).freeCtx c

/-- A command ends at a commit point stamped by its engine cluster. -/
def Dev.endCmd (d : Dev) (c : Nat) (s : W16) (result : W64) : Dev :=
  let sd := d.stamp (clusterUnit c) (d.orderStamp c).after
  sd.2.complete c s result sd.1

/-- A program fault (R79): recorded as a C2 error of category 0x01, and the command ends with a result. Catch never holds it. -/
def Dev.fault (d : Dev) (c : Nat) (s : W16) (result : W64) : Dev :=
  (d.failRecord c s false 0 0).endCmd c s result

/-! ### Host memory of a command (R340) -/

/-- Host memory bytes that the host has placed, now read for a context's command. -/
def Dev.placeFor (d : Dev) (c : Nat) (w : HostWrites) : Dev := d.onMemAt (d.memNo c) (fun m => placeCells m w)

/-- A read of host memory of a forwarded command travels as DMA_RD to the member whose port reaches it (R340). -/
def Dev.ask (d : Dev) (c a n : Nat) : Dev :=
  match d.remoteOf c with
  | none => d
  | some m =>
    let sd := d.stamp 0x15
    (sd.2.send .dmaRd m sd.1 (leBytes 8 a ++ leBytes 4 n)).onCs (fun x => { x with asks := x.asks ++ [(m, portNo (d.portOfCtx c), a, n)] })

/-- Bytes written to a host memory over ranges; for a command forwarded from a member they travel as DMA_WR (R340). -/
def Dev.memWriteAt (d : Dev) (no : Nat) (remote : Option Nat) (rs : List (Nat × Nat)) (bs : List Byte) : Dev :=
  let d1 := d.onMemAt no (fun m => writeRanges m rs bs)
  match remote with
  | none => d1
  | some m =>
    let sd := d1.stamp 0x15
    sd.2.each rs (fun d r => d.send .dmaWr m sd.1 (leBytes 8 r.1 ++ readBytes (d.memAt no) r.1 r.2))

/-- Bytes written to host memory over ranges for a context's command. -/
def Dev.memWrite (d : Dev) (c : Nat) (rs : List (Nat × Nat)) (bs : List Byte) : Dev := d.memWriteAt (d.memNo c) (d.remoteOf c) rs bs

/-! ### The instruction cache (R60) -/

/-- Line address of a host address. -/
def lineOf (a : Nat) : Nat := a / 128 * 128

/-- Set of a line: 128 sets of 4 ways (R60). -/
def lineSet (a : Nat) : Nat := a / 128 % 128

/-- The cached line of a port and address. -/
def Engine.find (e : Engine) (p : Nat) (l : Nat) : Option Line :=
  e.lines.find? (fun x => decide (x.port = p) && decide (x.addr = l))

/-- A line becomes the most recently used. -/
def Engine.touch (e : Engine) (ln : Line) : Engine :=
  { e with lines := ln :: e.lines.filter (fun x => !(decide (x.port = ln.port) && decide (x.addr = ln.addr))) }

/-- The least recently used line of a set goes when the set holds more than four. -/
def evict (ls : List Line) (set : Nat) : List Line :=
  if 4 < (ls.filter (fun x => lineSet x.addr == set)).length then
    (match (ls.filter (fun x => lineSet x.addr == set)).getLast? with
     | some v => ls.filter (fun x => !(decide (x.port = v.port) && decide (x.addr = v.addr)))
     | none => ls)
  else ls

/-- A line enters the cache (R60). -/
def Engine.insert (e : Engine) (ln : Line) : Engine :=
  let e1 := e.touch ln
  { e1 with lines := evict e1.lines (lineSet ln.addr) }

/-- A line is being read. -/
def Engine.isReading (e : Engine) (p : Nat) (l : Nat) : Bool :=
  e.reading.any (fun x => decide (x.1 = p) && decide (x.2.1 = l))

/-- A read of a line under way becomes a demand. -/
def Engine.demand (e : Engine) (p : Nat) (l : Nat) : Engine :=
  { e with reading := e.reading.map (fun x => if x.1 = p ∧ x.2.1 = l then (x.1, x.2.1, false) else x) }

/-- A read of a line is started for a context, through the port its command came on (R60, R340). -/
def Dev.readLine (d : Dev) (c l : Nat) (ahead : Bool) : Dev :=
  (d.onEngine (engOf c) (fun e => { e with reading := e.reading ++ [(d.memNo c, l, ahead)] })).ask c l 128

/-- The next line in address order is read ahead unless cached or being read (R60). -/
def Dev.prefetch (d : Dev) (c l : Nat) : Dev :=
  let n := (l + 128) % 2 ^ 64
  let e := d.engines.get (engOf c)
  if (e.find (d.memNo c) n).isSome || e.isReading (d.memNo c) n then d else d.readLine c n true

/-- The word at an address of a line. -/
def Line.word (ln : Line) (a : Nat) : W64 := toW64 (leNat (sliceBytes ln.bytes (a - ln.addr) 8))

/-- Host address of a context's word. -/
def Dev.wordAddr (d : Dev) (c pc : Nat) : Nat :=
  match d.cmdOf c with
  | some m => (m.sqe.word.toNat + pc) % 2 ^ 64
  | none => 0

/-- A word becomes a context's present instruction, or the program ends on an illegal one (R52). -/
def Dev.setWord (d : Dev) (c : Nat) (w : W64) : Dev :=
  let d1 := d.present c w
  if legalWord w then d1 else d1.fault c St.illegalInstruction (toW64 (d1.ctxs.get c).pc)

/-- The word at a context's pc is fetched (R60): from the cache, or its line is demanded and the context waits. The first word fetched from a
line, the context having come to it from another, has the next line read ahead. -/
def Dev.fetch (d : Dev) (c : Nat) : Dev :=
  let p := d.memNo c
  let a := d.wordAddr c (d.ctxs.get c).pc
  let l := lineOf a
  let e := d.engines.get (engOf c)
  match e.find p l with
  | some ln =>
    let d1 := d.onEngine (engOf c) (fun e => e.touch ln)
    ((if (d.ctxs.get c).at_ = some l then d1 else d1.prefetch c l).onCtx c (fun x => { x with at_ := some l })).setWord c (ln.word a)
  | none => (if e.isReading p l then d.onEngine (engOf c) (fun e => e.demand p l) else d.readLine c l false).onCtx c (fun x =>
      { x with run := .line l })

/-- A program goes to a pc: a fault when it is misaligned or out of range (R68, R79), otherwise the word there is fetched. -/
def Dev.goTo (d : Dev) (c : Nat) (target : W64) : Dev :=
  if target.toNat % 8 ≠ 0 ∨ 0xFFF8 < target.toNat then d.fault c St.programFault target
  else (d.onCtx c (fun x => { x with pc := target.toNat })).fetch c

/-- Sequential execution (R68, R79). -/
def Dev.next (d : Dev) (c : Nat) : Dev := d.goTo c (toW64 ((d.ctxs.get c).pc + 8))

/-! ### Finishing an instruction (R53, R55) -/

/-- Statuses that catch never holds (R53). -/
def neverHeld (s : W16) : Bool := s == St.aborted || s == St.staleEpoch || s == St.illegalInstruction

/-- A register, branch or WAIT instruction is done: an inline command ends with the value written, a program goes on. -/
def Dev.stepOn (d : Dev) (c : Nat) (value : W64) : Dev :=
  if d.isProgram c then d.next c else d.endCmd c St.ok value

/-- Status and flags a device instruction leaves in its context (R53). -/
def Ctx.setStatus (x : Ctx) (s : W16) : Ctx := { x.setR 14 (s.zeroExtend 64) with z := s == St.ok }

/-- A device instruction finishes (R53): `out` is what it writes to gd, `d0` and `d1` the values its failure concerns, `cs`
the stamp of its commit point (none: stamped by the engine cluster). spec/ does not say what the catch bit of an inline command does; the model
records the failure and ends the command as if it were clear (log entry 144). -/
def Dev.finish (d : Dev) (c : Nat) (s : W16) (out : Option W64) (d0 d1 : W64) (cs : Option Stamp := none)
    (cat : Option Nat := none) (d2 : W32 := 0) : Dev :=
  let x := d.ctxs.get c
  let program := d.isProgram c
  let held := program && wCatch x.ir && !neverHeld s
  let dr := d.failRecord c s held d0 d1 cat d2
  let dw := dr.onCtx c (fun x => (match out with
    | some v => x.setR (wD x.ir) v
    | none => x).setStatus s)
  let dn := dw.onCtx c (fun x => { x with run := .ready })
  if program then
    if s = St.ok ∨ held then dn.next c else dn.endCmd c s (toW64 x.pc)
  else
    match cs with
    | some t => dn.complete c s (out.getD 0) t
    | none => dn.endCmd c s (out.getD 0)

/-- A device instruction ends in failure with nothing written. -/
def Dev.failWith (d : Dev) (c : Nat) (s : W16) (d0 d1 : W64 := 0) : Dev := d.finish c s none d0 d1

/-- A device instruction inside a program takes its issue stamp as it issues, after the one before it (R57); one that a C4 issues again keeps its own (R288). -/
def Dev.issue (d : Dev) (c : Nat) : Dev :=
  if (d.ctxs.get c).keep then d.onCtx c (fun x => { x with keep := false })
  else if d.isProgram c then
    let sd := d.stamp (clusterUnit c) (max (d.ctxs.get c).issue.after (match d.cmdOf c with
      | some m => m.arrival.after
      | none => 0))
    sd.2.onCtx c (fun x => { x with issue := sd.1 })
  else d

/-- A context's instruction takes time. -/
def Dev.fly (d : Dev) (c : Nat) (f : Flight) : Dev := d.onCtx c (fun x => { x with run := .flight f })

/-- The flight of a context, if any. -/
def Dev.flightOf (d : Dev) (c : Nat) : Option Flight :=
  match (d.ctxs.get c).run with
  | .flight f => some f
  | _ => none

/-! ### Page range lists (R32, R33) -/

/-- Whether the walk of a context's data list has found its first `n` bytes. -/
def Dev.walked (d : Dev) (c n : Nat) : Bool := decide (n ≤ (d.dataWalk c).total)

/-- Bytes are written to a context's data list from an offset (GET), over the ranges its walk has found. -/
def Dev.writeData (d : Dev) (c start : Nat) (bs : List Byte) : Dev := d.memWrite c (subRanges (d.dataWalk c).ranges start bs.length) bs

end Sys2Proof.Machine
end

