-- ==== Sys2Proof/Machine/Programs.lean ====
section
/-! DEFINITION. The register, branch and wait instructions (R67 to R70, Table 3.5). -/

namespace Sys2Proof.Machine

/-- The present instruction of context `c`, when it is opcode `op` and its turn: an effect on the device. One that cannot start yet has used
its turn too. -/
def State.insn (s : State) (c op : Nat) (f : Dev → Dev) : Out := s.work (fun d => if d.mayIssue c op then f (d.useTurn c) else d)

/-- The same for an instruction whose modifier names its form. -/
def State.insnMod (s : State) (c op m : Nat) (f : Dev → Dev) : Out :=
  s.work (fun d => if d.mayIssue c op && d.modIs c m then f (d.useTurn c) else d)

/-- A register instruction: its effect on the context and the value an inline command answers (R55). -/
def State.regInsn (s : State) (c op : Nat) (f : Ctx → Ctx) (v : Ctx → W64) : Out :=
  s.insn c op (fun d => (d.onCtx c f).stepOn c (v (d.ctxs.get c)))

/-- gd takes a result. -/
def Ctx.put (x : Ctx) (r : W64) : Ctx := x.setR (wD x.ir) r

/-- ADD: gd = ga + gb. -/
def addCtx (x : Ctx) : Ctx := (x.flagsAdd x.ga x.gb).put (x.ga + x.gb)
/-- SUB: gd = ga − gb. -/
def subCtx (x : Ctx) : Ctx := (x.flagsSub x.ga x.gb).put (x.ga - x.gb)
/-- AND. -/
def andCtx (x : Ctx) : Ctx := (x.flagsLogic (x.ga &&& x.gb)).put (x.ga &&& x.gb)
/-- OR. -/
def orCtx (x : Ctx) : Ctx := (x.flagsLogic (x.ga ||| x.gb)).put (x.ga ||| x.gb)
/-- XOR. -/
def xorCtx (x : Ctx) : Ctx := (x.flagsLogic (x.ga ^^^ x.gb)).put (x.ga ^^^ x.gb)
/-- The shift amount gb[5:0]. -/
def shiftBy (x : Ctx) : Nat := x.gb.toNat % 64
/-- Result of SHL. -/
def shlVal (x : Ctx) : W64 := x.ga <<< shiftBy x
/-- SHL: C is the last bit shifted out, V cleared. -/
def shlCtx (x : Ctx) : Ctx := (x.setZNCV (shlVal x) (outLeft x.ga (shiftBy x)) false).put (shlVal x)
/-- Result of SHR. -/
def shrVal (x : Ctx) : W64 := x.ga >>> shiftBy x
/-- SHR: zero fill. -/
def shrCtx (x : Ctx) : Ctx := (x.setZNCV (shrVal x) (outRight x.ga (shiftBy x)) false).put (shrVal x)
/-- Result of SAR. -/
def sarVal (x : Ctx) : W64 := x.ga.sshiftRight (shiftBy x)
/-- SAR: sign fill. -/
def sarCtx (x : Ctx) : Ctx := (x.setZNCV (sarVal x) (outRight x.ga (shiftBy x)) false).put (sarVal x)
/-- MUL: low 64 bits of the product. -/
def mulCtx (x : Ctx) : Ctx := (x.flagsLogic (x.ga * x.gb)).put (x.ga * x.gb)
/-- ADDI. -/
def addiCtx (x : Ctx) : Ctx := (x.flagsAdd x.ga (wSext x.ir)).put (x.ga + wSext x.ir)
/-- Value of MOVI: mod 0 the sign-extended immediate, mod 1 the top 24 bits replaced. -/
def moviVal (x : Ctx) : W64 :=
  if wMod x.ir = 0 then wSext x.ir else toW64 (wImm x.ir % 2 ^ 24 * 2 ^ 40 + x.gd.toNat % 2 ^ 40)
/-- MOVI: no flag changes. -/
def moviCtx (x : Ctx) : Ctx := x.put (moviVal x)
/-- CMP: flags only. -/
def cmpCtx (x : Ctx) : Ctx := x.flagsSub x.ga x.gb
/-- CMPI: flags only. -/
def cmpiCtx (x : Ctx) : Ctx := x.flagsSub x.ga (wSext x.ir)
/-- Value of ANDI: the immediate is zero-extended. -/
def andiVal (x : Ctx) : W64 := x.ga &&& toW64 (wImm x.ir)
/-- ANDI. -/
def andiCtx (x : Ctx) : Ctx := (x.flagsLogic (andiVal x)).put (andiVal x)

def execAdd (c : Nat) (s : State) : Out := s.regInsn c 0x01 addCtx (fun x => x.ga + x.gb)
def execSub (c : Nat) (s : State) : Out := s.regInsn c 0x02 subCtx (fun x => x.ga - x.gb)
def execAnd (c : Nat) (s : State) : Out := s.regInsn c 0x03 andCtx (fun x => x.ga &&& x.gb)
def execOr (c : Nat) (s : State) : Out := s.regInsn c 0x04 orCtx (fun x => x.ga ||| x.gb)
def execXor (c : Nat) (s : State) : Out := s.regInsn c 0x05 xorCtx (fun x => x.ga ^^^ x.gb)
def execShl (c : Nat) (s : State) : Out := s.regInsn c 0x06 shlCtx shlVal
def execShr (c : Nat) (s : State) : Out := s.regInsn c 0x07 shrCtx shrVal
def execSar (c : Nat) (s : State) : Out := s.regInsn c 0x08 sarCtx sarVal
def execMul (c : Nat) (s : State) : Out := s.regInsn c 0x09 mulCtx (fun x => x.ga * x.gb)
def execAddi (c : Nat) (s : State) : Out := s.regInsn c 0x0A addiCtx (fun x => x.ga + wSext x.ir)
def execMovi (c : Nat) (s : State) : Out := s.regInsn c 0x0B moviCtx moviVal
/-- CMP writes no register: an inline command answers 0 (R55). -/
def execCmp (c : Nat) (s : State) : Out := s.regInsn c 0x0C cmpCtx (fun _ => 0)
def execCmpi (c : Nat) (s : State) : Out := s.regInsn c 0x0D cmpiCtx (fun _ => 0)
def execAndi (c : Nat) (s : State) : Out := s.regInsn c 0x0E andiCtx andiVal

/-- The target of B and CALL: pc + 8 × sext(imm40). -/
def relTarget (x : Ctx) : W64 := BitVec.ofInt 64 ((x.pc : Int) + 8 * wSextInt x.ir)

/-- B: to the target when the condition holds, otherwise on (R67, R68). -/
def execB (c : Nat) (s : State) : Out :=
  s.insn c 0x20 (fun d =>
    let x := d.ctxs.get c
    if condHolds x (wMod x.ir) then d.goTo c (relTarget x) else d.next c)

/-- CALL: g15 = pc + 8, and to the target. -/
def execCall (c : Nat) (s : State) : Out :=
  s.insn c 0x21 (fun d =>
    let x := d.ctxs.get c
    (d.onCtx c (fun x => x.setR 15 (toW64 (x.pc + 8)))).goTo c (relTarget x))

/-- RET: to g15. -/
def execRet (c : Nat) (s : State) : Out := s.insn c 0x22 (fun d => d.goTo c ((d.ctxs.get c).r 15))

/-- BR: to ga. -/
def execBr (c : Nat) (s : State) : Out := s.insn c 0x23 (fun d => d.goTo c (d.ctxs.get c).ga)

/-- The count WAIT waits for: mod 0 imm40 ticks on, mod 1 the value of ga. -/
def waitTarget (d : Dev) (x : Ctx) : Nat := if wMod x.ir = 0 then d.clk.now + wImm x.ir else x.ga.toNat

/-- WAIT: a target already reached finishes at once (R70), otherwise the context waits for it. -/
def execWait (c : Nat) (s : State) : Out :=
  s.insn c 0x24 (fun d =>
    let t := waitTarget d (d.ctxs.get c)
    if t ≤ d.clk.now then d.stepOn c 0 else d.onCtx c (fun x => { x with run := .waitTill t }))

/-- The wait of a context ends: the count has come to its target (log entry 3). -/
def execWaitExpire (c : Nat) (s : State) : Out :=
  s.flow (fun d =>
    match (d.ctxs.get c).run with
    | .waitTill t => ((d.advanceTo t).onCtx c (fun x => { x with run := .ready })).stepOn c 0
    | _ => d)

/-- Every status this manual defines (Table 2.7 and the tables that add to it). -/
def definedStatuses : List W16 :=
  [0x0000, 0x0101, 0x0201, 0x0202, 0x0203, 0x0301, 0x0302, 0x0303, 0x0304, 0x0305, 0x0306, 0x0307, 0x0308, 0x0401, 0x0402,
   0x0403, 0x0501, 0x0502, 0x0503, 0x0601, 0x0602, 0x0603, 0x0701, 0x0801, 0x0901, 0x0902, 0x0903, 0x0904, 0x0905, 0x0906,
   0x0907, 0x0A01, 0x0A02]

/-- Statuses END may post (R69): defined, and of no class 0x01 or 0x0A. -/
def endAllowed (s : W16) : Bool :=
  definedStatuses.contains s && decide (s.toNat / 256 ≠ 1) && decide (s.toNat / 256 ≠ 0xA)

/-- The status of END: imm40[15:0] for mod 0, ga[15:0] for mod 1. -/
def endStatus (x : Ctx) : W16 := if wMod x.ir = 0 then (x.ir.extractLsb' 0 16) else (x.ga.extractLsb' 0 16)

/-- END (R69): ends with its status and gd; a status it may not post is a program fault with the END's pc. -/
def execEnd (c : Nat) (s : State) : Out :=
  s.insn c 0x25 (fun d =>
    let x := d.ctxs.get c
    if endAllowed (endStatus x) then d.endCmd c (endStatus x) x.gd else d.fault c St.programFault (toW64 x.pc))

end Sys2Proof.Machine
end

