-- ==== Sys2Proof/Machine/MemOps.lean ====
section
/-! DEFINITION. The buffer as the memory integrity unit keeps it (R298 to R305, R309, R310): stored words, corrections, the
correction log, poison, narrow writes and rows without spares. Words are named by their index, address ÷ 8. -/

namespace Sys2Proof.Machine

/-- Stack, channel and row (address bits 37:17) of a word (R298). -/
def wordStack (w : Nat) : Nat := w * 8 / 256 % 4
def wordChannel (w : Nat) : Nat := w * 8 / 1024 % 16
def wordRow (w : Nat) : Nat := w * 8 / 131072

/-- The lane steered onto bit 79 in a channel (R309). -/
def MemInt.lane (m : MemInt) (stack channel : Nat) : Option Nat :=
  (m.lanes.find? (fun l => decide (l.stack = stack) && decide (l.channel = channel))).map (fun l => l.k)

/-- A bit of a word replaced. -/
def setBit80 (v : BitVec 80) (i : Nat) (b : Bool) : BitVec 80 := if v.getLsbD i = b then v else v ^^^ BitVec.ofNat 80 (2 ^ i)

/-- A codeword as it is stored: bit 79 holds the steered lane, or 0 (R309). -/
def MemInt.stored (m : MemInt) (w : Nat) (v : BitVec 80) : BitVec 80 :=
  match m.lane (wordStack w) (wordChannel w) with
  | some k => setBit80 v 79 (v.getLsbD k)
  | none => setBit80 v 79 false

/-- A stored word as it is read, before decoding: the steered lane comes from bit 79, which is no part of the code. -/
def MemInt.raw (m : MemInt) (w : Nat) : BitVec 80 :=
  let v := m.words.get w
  match m.lane (wordStack w) (wordChannel w) with
  | some k => setBit80 (setBit80 v k (v.getLsbD 79)) 79 false
  | none => setBit80 v 79 false

/-- The unit that reports memory errors of a word. -/
def memUnit (w : Nat) : UnitId := ⟨0x13, wordStack w⟩

/-- A full 8-byte write: encoded, with stored bits of `mask` flipped after encoding (R314); poison ends (R303). -/
def Dev.putWord (d : Dev) (w : Nat) (v : W64) (mask : BitVec 80 := 0) : Dev :=
  d.onMi (fun m => { m with words := m.words.set w (m.stored w (bchEncode v) ^^^ mask)
                            poison := m.poison.filter (fun x => decide (x ≠ w)) })

/-- Entry of a corrected word in the correction log (R301). -/
def Dev.logCorrection (d : Dev) (w : Nat) (src : CorrSource) (pos : List Nat) (syn : Nat) : Dev :=
  let t := d.clk.now / 1024 % 2 ^ 32
  match (List.range 32).find? (fun i => (d.mi.log.get i).any (fun e => decide (e.word = w))) with
  | some i =>
    d.onMi (fun m => { m with log := m.log.modify i (fun e => e.map (fun e => { e with count := min (e.count + 1) 255, t := t })) })
  | none =>
    match (List.range 32).find? (fun i => (d.mi.log.get i).isNone) with
    | none => d.bumpW1 Reg.MI_LOGSTAT 0 15 8
    | some i =>
      (d.onMi (fun m => { m with log := m.log.set i (some
        { word := w, source := src, count := 1, pos0 := pos.getD 0 0x7F, pos1 := pos.getD 1 0x7F, t := t }) })).note
        { cls := .c1, unit := memUnit w, cat := 0x0B, d0 := toW64 (w * 8), d1 := toW64 syn }

/-- Spare rows of a channel in use. -/
def MemInt.sparesUsed (m : MemInt) (stack channel : Nat) : List Nat :=
  (m.rows.filter (fun r => decide (r.stack = stack) && decide (r.channel = channel))).map (fun r => r.spare)

/-- A free spare row of a channel, lowest first. -/
def MemInt.freeSpare (m : MemInt) (stack channel : Nat) : Option Nat :=
  (List.range 16).find? (fun i => !(m.sparesUsed stack channel).contains i)

/-- Whether the row of a word has been moved to a spare already. -/
def MemInt.rowMoved (m : MemInt) (w : Nat) : Bool :=
  m.rows.any (fun r => decide (r.stack = wordStack w) && decide (r.channel = wordChannel w) && decide (r.row = wordRow w))

/-- The pool buffer that holds a word; none in the device region. -/
def Pools.bufAt (b : Pools) (w : Nat) : Option Nat :=
  let u := w / 512
  ([5, 4, 3, 2, 1, 0].find? (fun p => decide (b.base p ≤ u) && decide (u < b.base p + b.carve.get p * poolUnits p))).map
    (fun p => bufKey p ((u - b.base p) / poolUnits p))

/-- 4 KiB units that hold a byte of a row: one stack and channel, addresses that share bits 37:17 (R298). The row's bytes lie
in every 16 KiB of its 128 KiB at one 256-byte place, so in one unit of each four. -/
def rowUnits (stack channel row : Nat) : List Nat :=
  (List.range 8).map (fun i => (row * 131072 + i * 16384 + channel * 1024 + stack * 256) / 4096)

/-- The buffers that hold a byte of a row. -/
def Pools.rowBufs (b : Pools) (stack channel row : Nat) : List Nat :=
  ((rowUnits stack channel row).filterMap (fun u => b.bufAt (u * 512))).eraseDups

/-- A row is retired (R310): its buffers leave their pools, those granted once they are freed. -/
def Dev.retireRow (d : Dev) (stack channel row : Nat) : Dev :=
  if d.mi.retired.contains (stack, channel, row) then d else
  (d.onMi (fun m => { m with retired := m.retired ++ [(stack, channel, row)] })).onPools (fun b =>
    { b with retiredBufs := (b.retiredBufs ++ b.rowBufs stack channel row).eraseDups })

/-- A row that needs repair: it waits for the move to a spare (ROW_REPAIR_DONE), or is retired where no spare is free. -/
def Dev.needRow (d : Dev) (w : Nat) : Dev :=
  if d.mi.rowMoved w then d else
  match d.mi.freeSpare (wordStack w) (wordChannel w) with
  | some _ => d
  | none => d.retireRow (wordStack w) (wordChannel w) (wordRow w)

/-- A corrected word is counted, logged and written back (R301, R302); a row whose entry reaches the threshold needs repair
(R309). -/
def Dev.corrected (d : Dev) (w : Nat) (src : CorrSource) (pos : List Nat) (syn : Nat) (good : BitVec 80) : Dev :=
  let d1 := ((d.bumpW1 (Reg.MI_CECNT + 4 * wordStack w) 0 31 0).logCorrection w src pos syn).onMi (fun m =>
    { m with words := m.words.set w (m.stored w good), lapCorr := m.lapCorr + b2n (src == .winnow) })
  let th := d1.rf Reg.MI_CFG 7 0
  let n := match (List.range 32).find? (fun i => (d1.mi.log.get i).any (fun e => decide (e.word = w))) with
    | some i => ((d1.mi.log.get i).map (fun e => e.count)).getD 0
    | none => 0
  if 0 < th ∧ th ≤ n then d1.needRow w else d1

/-- Whether a word lies in the row of another. -/
def sameRow (a b : Nat) : Bool := wordStack a == wordStack b && wordChannel a == wordChannel b && wordRow a == wordRow b

/-- The row of a word moves to a spare row (R309): its words are copied corrected, and those that can be read leave the poison
table; those still uncorrectable stay poisoned. A C1 event. -/
def Dev.moveRow (d : Dev) (w spare : Nat) : Dev :=
  (d.onMi (fun m =>
    { m with rows := m.rows ++ [⟨wordStack w, wordChannel w, wordRow w, spare, false, false⟩]
             words := (m.words.cells.filter (fun x => sameRow x.1 w)).foldl (fun t x => match bchFix (m.raw x.1) with
               | some v => t.set x.1 (m.stored x.1 v)
               | none => t) m.words
             poison := m.poison.filter (fun x => !(sameRow x w && (bchFix (m.raw x)).isSome)) })).note
    { cls := .c1, unit := memUnit w, cat := 0x0B, d0 := toW64 (w * 8) }

/-- A row is repaired, or retired where its channel has no free spare row (R309, R310). -/
def Dev.repairRow (d : Dev) (w : Nat) : Dev :=
  if d.mi.rowMoved w then d.retireRow (wordStack w) (wordChannel w) (wordRow w) else
  match d.mi.freeSpare (wordStack w) (wordChannel w) with
  | some i => d.moveRow w i
  | none => d.retireRow (wordStack w) (wordChannel w) (wordRow w)

/-- Poisoned words of a stack. -/
def MemInt.poisonCount (m : MemInt) (stack : Nat) : Nat := (m.poison.filter (fun w => wordStack w == stack)).length

/-- An uncorrectable word is poisoned and counted, once (R303); its row needs repair (R309), at once where the table is full. -/
def Dev.poisonWord (d : Dev) (w : Nat) : Dev :=
  let s := wordStack w
  if d.mi.poison.contains w then d.needRow w else
  let d1 := d.bumpW1 Reg.MI_UECNT 0 (8 * s + 7) (8 * s)
  if d1.mi.poisonCount s < 256 then (d1.onMi (fun m => { m with poison := m.poison ++ [w] })).needRow w
  else d1.repairRow w

/-- A read of a word (R300): the data delivered, none where the word is poisoned or uncorrectable. -/
def Dev.readWord (d : Dev) (w : Nat) (src : CorrSource) : Option W64 × Dev :=
  if d.mi.poison.contains w then (none, d) else
  let v := d.mi.raw w
  match bchDecode v with
  | .clean => (some (bchData v), d)
  | .fixed bits => (some (bchData (flipBits v bits)), d.corrected w src bits (bchSyndrome v) (flipBits v bits))
  | .bad => (none, d.poisonWord w)

/-- A word with the bytes of a mask replaced (R305). -/
def mergeBytes (old new : W64) (mask : BitVec 8) : W64 :=
  toW64 (leNat (((leBytes 8 old.toNat).zip (leBytes 8 new.toNat)).zipIdx.map (fun x => if mask.getLsbD x.2 then x.1.2 else x.1.1)))

/-- The merge entry of a word. -/
def MemInt.mergeOf (m : MemInt) (w : Nat) : Option Merge := m.merges.find? (fun e => decide (e.word = w))

/-- Merge entries of a stack. -/
def MemInt.mergeCount (m : MemInt) (stack : Nat) : Nat := (m.merges.filter (fun e => wordStack e.word == stack)).length

/-- A narrow write enters the merge buffer, coalescing with an entry of its word (R305). -/
def Dev.mergeIn (d : Dev) (w : Nat) (mask : BitVec 8) (bytes : W64) : Dev :=
  match d.mi.mergeOf w with
  | some _ => d.onMi (fun m => { m with merges := m.merges.map (fun e =>
      if e.word = w then { e with mask := e.mask ||| mask, bytes := mergeBytes e.bytes bytes mask } else e) })
  | none => d.onMi (fun m => { m with merges := m.merges ++ [⟨w, mask, bytes⟩] })

/-- A merge entry is applied: read, correct, merge, encode, write; an uncorrectable read poisons the word (R305). -/
def Dev.applyMerge (d : Dev) (e : Merge) : Bool × Dev :=
  let d1 := d.onMi (fun m => { m with merges := m.merges.filter (fun x => decide (x.word ≠ e.word)) })
  match d1.readWord e.word .merge with
  | (some v, d2) => (true, d2.putWord e.word (mergeBytes v e.bytes e.mask))
  | (none, d2) => (false, d2)

/-- A read of a word as a unit sees it: the merged result where the word has an entry (R305). -/
def Dev.seeWord (d : Dev) (w : Nat) : Option W64 × Dev :=
  match d.mi.mergeOf w with
  | none => d.readWord w .read
  | some e =>
    match d.applyMerge e with
    | (_, d2) => d2.readWord w .read

end Sys2Proof.Machine
end

