-- ==== Sys2Proof/Machine/Access.lean ====
section
/-! DEFINITION. Host-memory and buffer access, the data cursor and the buffer instructions (R71, R76, Tables 3.6 and 3.11). -/

namespace Sys2Proof.Machine

/-- Access size in bytes, mod[1:0]. -/
def accessSize (x : Ctx) : Nat :=
  let m := wMod x.ir % 4
  if m = 0 then 8 else if m = 1 then 4 else if m = 2 then 2 else 1

/-- Whether an LD or ST names buffer space, mod[2]. -/
def inBuffer (x : Ctx) : Bool := wMod x.ir / 4 % 2 == 1

/-- The address of LD and ST: ga + sext(imm40). -/
def accessAddr (x : Ctx) : Nat := (x.ga + wSext x.ir).toNat

/-- A buffer access: the word and the byte within it, or the status it ends with (R71). spec/ gives no status for an address whose bits 61:48 are
not zero, and no order among the checks: the model takes S_RANGE, after the handle's and before the alignment's (log entry 131). -/
def Dev.bufferPlace (d : Dev) (x : Ctx) (a n : Nat) : Except W16 (Nat × Nat) :=
  let off := a % 2 ^ 48
  match x.h.get (a / 2 ^ 62) with
  | none => .error St.badHandle
  | some k =>
    if a / 2 ^ 48 % 2 ^ 14 ≠ 0 then .error St.range
    else if off % n ≠ 0 then .error St.programFault
    else if poolBytes (bufPool k) < off + n then .error St.range
    else .ok (d.pools.wordOf k + off / 8, off % 8)

/-- Bytes [i, i + n) of a word, zero-extended. -/
def wordPart (w : W64) (i n : Nat) : W64 := toW64 (w.toNat / 2 ^ (8 * i) % 2 ^ (8 * n))

/-- LD (Table 3.6, R71): from host memory through the command's port, or from a held buffer. -/
def execLd (c : Nat) (mem : HostWrites) (ok : Bool) (s : State) : Out :=
  s.insn c 0x30 (fun d0 =>
    let d := d0.issue c
    let x := d.ctxs.get c
    let a := accessAddr x
    let n := accessSize x
    if inBuffer x then
      match d.bufferPlace x a n with
      | .ok (w, i) =>
        match d.seeWord w with
        | (some v, d1) => d1.finish c St.ok (some (wordPart v i n)) 0 0
        | (none, d1) => d1.failWith c St.programFault
      | .error st => d.failWith c st
    else if a % n ≠ 0 then d.failWith c St.programFault
    else if !d.mayRequest c then d0
    else
      let d1 := (d.placeFor c mem).ask c a n
      if ok then d1.finish c St.ok (some (toW64 (leNat (readBytes (d1.mem c) a n)))) 0 0 else d1.failWith c St.programFault)

/-- The flip mask of MI_FLIP0 to MI_FLIP2 (R314). -/
def Dev.flipMask (d : Dev) : BitVec 80 :=
  BitVec.ofNat 80 ((d.reg Reg.MI_FLIP0).toNat + (d.reg Reg.MI_FLIP1).toNat * 2 ^ 32 + (d.rf Reg.MI_FLIP2 15 0) * 2 ^ 64)

/-- A full 8-byte ST into buffer space: an armed flip mask is applied once (R314). -/
def Dev.storeWord (d : Dev) (w : Nat) (v : W64) : Dev :=
  let d1 := d.onMi (fun m => { m with merges := m.merges.filter (fun e => decide (e.word ≠ w)) })
  if d1.rf Reg.MI_FLIPCTL 31 31 = 1 then
    ((d1.putWord w v d1.flipMask).setRf Reg.MI_FLIPCTL 31 31 0).setW1 Reg.MI_FLIPCTL 0 30
  else d1.putWord w v

/-- ST (Table 3.6, R71): to host memory through the command's port, or to a held buffer, where a narrow write goes to the
merge buffer of its stack (R305) and waits while that is full. -/
def execSt (c : Nat) (ok : Bool) (s : State) : Out :=
  s.insn c 0x31 (fun d0 =>
    let d := d0.issue c
    let x := d.ctxs.get c
    let a := accessAddr x
    let n := accessSize x
    if inBuffer x then
      match d.bufferPlace x a n with
      | .ok (w, i) =>
        if n = 8 then (d.storeWord w x.gb).finish c St.ok none 0 0
        else if 64 ≤ d.mi.mergeCount (wordStack w) ∧ (d.mi.mergeOf w).isNone then d0
        else
          match d.seeWord w with
          | (some _, d1) =>
            (d1.mergeIn w (BitVec.ofNat 8 ((2 ^ n - 1) * 2 ^ i)) (toW64 (x.gb.toNat % 2 ^ (8 * n) * 2 ^ (8 * i)))).finish
              c St.ok none 0 0
          | (none, d1) => d1.failWith c St.programFault
      | .error st => d.failWith c st
    else if a % n ≠ 0 then d.failWith c St.programFault
    else if !d.mayRequest c then d0
    else if ok then (d.memWrite c [(a, n)] (leBytes n x.gb.toNat)).finish c St.ok none 0 0
    else d.failWith c St.programFault)

/-- DSEEK: dc = ga; past the data length S_RANGE (R71). -/
def execDseek (c : Nat) (s : State) : Out :=
  s.insn c 0x32 (fun d0 =>
    let d := d0.issue c
    let x := d.ctxs.get c
    if d.dataLen c < x.ga.toNat then d.failWith c St.range
    else (d.onCtx c (fun x => { x with dc := x.ga.toNat })).finish c St.ok none 0 0)

/-- BUF.ALLOC (R76, R104). -/
def execBufAlloc (c : Nat) (s : State) : Out :=
  s.insn c 0x70 (fun d0 =>
    let d := d0.issue c
    let x := d.ctxs.get c
    let h := wD x.ir % 4
    if (x.h.get h).isSome then d.failWith c St.badHandle
    else
      let r := d.hostGrant (d.reqOf c) x.ga.toNat (wMod x.ir % 2 == 1) (.ctx c)
      match r.1 with
      | .ok k => (r.2.onCtx c (fun x => { x with h := x.h.set h (some k) })).finish c St.ok none 0 0
      | .error st => r.2.failWith c st (toW64 (poolFor x.ga.toNat * 2 ^ 56)) (toW64 (d.reqOf c)))

/-- Contexts that hold a buffer. -/
def Buf.ctxHolders (b : Buf) : Nat :=
  (b.holders.filter (fun h => (match h with
    | .ctx _ => true
    | _ => false))).length

/-- The share token of a buffer and the generation of its grant: no two grants have one token until 2^35 more have been made (R110). -/
def shareToken (k gen : Nat) : W64 := Config.tokenMix ^^^ toW64 (gen % 2 ^ 35 * 2 ^ 29 + k % 2 ^ 29)

/-- The buffer that a share token names: shared, of the token's generation, and open to attaches (R110). -/
def Dev.tokenBuf (d : Dev) (t : W64) : Option (Nat × Buf) :=
  d.pools.bufs.cells.findSome? (fun kb => kb.2.bind (fun b =>
    if b.shared && !b.closed && shareToken kb.1 b.gen == t then some (kb.1, b) else none))

/-- BUF.SHARE (R109, R110, R76). Where spec/ is silent the model takes mod 1 of a holder that is not the finisher as mod 0, lets any holder share
and leaves the finisher as it is, and fails an attach to a handle that is not empty with S_BAD_HANDLE (log entry 130). A token that has passed
finishership admits no attach again. -/
def execBufShare (c : Nat) (s : State) : Out :=
  s.insn c 0x71 (fun d0 =>
    let d := d0.issue c
    let x := d.ctxs.get c
    if wMod x.ir % 8 = 2 then
      let h := wD x.ir % 4
      match d.tokenBuf x.ga with
      | none => d.failWith c St.badHandle
      | some (k, b) =>
        if (x.h.get h).isSome then d.failWith c St.badHandle
        else if 15 ≤ b.ctxHolders then d.failWith c St.range
        else
          let b2 := { b with holders := b.holders ++ [Holder.ctx c], finisher := (if b.passOnAttach then .ctx c else b.finisher)
                             closed := b.passOnAttach, passOnAttach := false }
          (((d.stamp 7).2.onPools (fun p => { p with bufs := p.bufs.set k (some b2) })).onCtx c (fun x =>
            { x with h := x.h.set h (some k) })).finish c St.ok none 0 0
    else
      match x.h.get (wA x.ir % 4) with
      | none => d.failWith c St.badHandle
      | some k =>
        match d.pools.bufs.get k with
        | none => d.failWith c St.badHandle
        | some b =>
          let pass := wMod x.ir % 8 == 1 && b.finisher == .ctx c
          ((d.stamp 7).2.onPools (fun p => { p with bufs := p.bufs.set k (some { b with shared := true, passOnAttach := pass }) })).finish
            c St.ok (some (shareToken k b.gen)) 0 0)

/-- BUF.FREE (R76, Table 5.4). -/
def execBufFree (c : Nat) (s : State) : Out :=
  s.insn c 0x72 (fun d0 =>
    let d := d0.issue c
    let x := d.ctxs.get c
    let h := wA x.ir % 4
    match x.h.get h with
    | none => d.failWith c St.badHandle
    | some k =>
      match d.release k (.ctx c) (d.reqOf c) with
      | (.held, d1) => d1.failWith c St.bufferHeld (poolD0 k) (toW64 (d.reqOf c))
      | (_, d1) => (d1.onCtx c (fun x => { x with h := x.h.set h none })).finish c St.ok none 0 0)

/-- MERGE_APPLY: the oldest entry of a stack's merge buffer is applied (R305). -/
def execMergeApply (stack : Nat) (s : State) : Out :=
  s.live (fun d =>
    match d.mi.merges.find? (fun e => decide (wordStack e.word = stack)) with
    | some e => (d.applyMerge e).2
    | none => d)

end Sys2Proof.Machine
end

