-- ==== Sys2Proof/Machine/Hash384.lean ====
section
/-! DEFINITION. SHA-384 (FIPS 180-4) and the curve P-384 with ECDH and ECDSA (SEC 1, FIPS 186-5), which spec/ names and does not write out (R150, R151,
R356, R368, R374; log entry 6). -/

namespace Sys2Proof.Machine

/-! ### SHA-384 -/

/-- Initial hash value of SHA-384. -/
def shaInit : List W64 :=
  [0xCBBB9D5DC1059ED8, 0x629A292A367CD507, 0x9159015A3070DD17, 0x152FECD8F70E5939,
   0x67332667FFC00B31, 0x8EB44A8768581511, 0xDB0C2E0D64F98FA7, 0x47B5481DBEFA4FA4]

/-- Round constants 0 to 15 of SHA-384. -/
def shaK0 : List W64 :=
  [0x428A2F98D728AE22, 0x7137449123EF65CD, 0xB5C0FBCFEC4D3B2F, 0xE9B5DBA58189DBBC,
   0x3956C25BF348B538, 0x59F111F1B605D019, 0x923F82A4AF194F9B, 0xAB1C5ED5DA6D8118,
   0xD807AA98A3030242, 0x12835B0145706FBE, 0x243185BE4EE4B28C, 0x550C7DC3D5FFB4E2,
   0x72BE5D74F27B896F, 0x80DEB1FE3B1696B1, 0x9BDC06A725C71235, 0xC19BF174CF692694]

/-- Round constants 16 to 31 of SHA-384. -/
def shaK1 : List W64 :=
  [0xE49B69C19EF14AD2, 0xEFBE4786384F25E3, 0x0FC19DC68B8CD5B5, 0x240CA1CC77AC9C65,
   0x2DE92C6F592B0275, 0x4A7484AA6EA6E483, 0x5CB0A9DCBD41FBD4, 0x76F988DA831153B5,
   0x983E5152EE66DFAB, 0xA831C66D2DB43210, 0xB00327C898FB213F, 0xBF597FC7BEEF0EE4,
   0xC6E00BF33DA88FC2, 0xD5A79147930AA725, 0x06CA6351E003826F, 0x142929670A0E6E70]

/-- Round constants 32 to 47 of SHA-384. -/
def shaK2 : List W64 :=
  [0x27B70A8546D22FFC, 0x2E1B21385C26C926, 0x4D2C6DFC5AC42AED, 0x53380D139D95B3DF,
   0x650A73548BAF63DE, 0x766A0ABB3C77B2A8, 0x81C2C92E47EDAEE6, 0x92722C851482353B,
   0xA2BFE8A14CF10364, 0xA81A664BBC423001, 0xC24B8B70D0F89791, 0xC76C51A30654BE30,
   0xD192E819D6EF5218, 0xD69906245565A910, 0xF40E35855771202A, 0x106AA07032BBD1B8]

/-- Round constants 48 to 63 of SHA-384. -/
def shaK3 : List W64 :=
  [0x19A4C116B8D2D0C8, 0x1E376C085141AB53, 0x2748774CDF8EEB99, 0x34B0BCB5E19B48A8,
   0x391C0CB3C5C95A63, 0x4ED8AA4AE3418ACB, 0x5B9CCA4F7763E373, 0x682E6FF3D6B2B8A3,
   0x748F82EE5DEFB2FC, 0x78A5636F43172F60, 0x84C87814A1F0AB72, 0x8CC702081A6439EC,
   0x90BEFFFA23631E28, 0xA4506CEBDE82BDE9, 0xBEF9A3F7B2C67915, 0xC67178F2E372532B]

/-- Round constants 64 to 79 of SHA-384. -/
def shaK4 : List W64 :=
  [0xCA273ECEEA26619C, 0xD186B8C721C0C207, 0xEADA7DD6CDE0EB1E, 0xF57D4F7FEE6ED178,
   0x06F067AA72176FBA, 0x0A637DC5A2C898A6, 0x113F9804BEF90DAE, 0x1B710B35131C471B,
   0x28DB77F523047D84, 0x32CAAB7B40C72493, 0x3C9EBE0A15C9BEBC, 0x431D67C49C100D4C,
   0x4CC5D4BECB3E42B6, 0x597F299CFC657E2A, 0x5FCB6FAB3AD6FAEC, 0x6C44198C4A475817]

/-- The 80 round constants. -/
def shaK : List W64 := shaK0 ++ shaK1 ++ shaK2 ++ shaK3 ++ shaK4

/-- The functions of FIPS 180-4 on 64-bit words. -/
def shaRot (x : W64) (n : Nat) : W64 := x.rotateRight n
def shaBig0 (x : W64) : W64 := shaRot x 28 ^^^ shaRot x 34 ^^^ shaRot x 39
def shaBig1 (x : W64) : W64 := shaRot x 14 ^^^ shaRot x 18 ^^^ shaRot x 41
def shaSmall0 (x : W64) : W64 := shaRot x 1 ^^^ shaRot x 8 ^^^ (x >>> 7)
def shaSmall1 (x : W64) : W64 := shaRot x 19 ^^^ shaRot x 61 ^^^ (x >>> 6)

/-- The message schedule: `k` more words after sixteen, kept latest first. -/
def shaExtend : Nat → List W64 → List W64
  | 0, w => w
  | k + 1, w => shaExtend k ((shaSmall1 (w.getD 1 0) + w.getD 6 0 + shaSmall0 (w.getD 14 0) + w.getD 15 0) :: w)

/-- Working variables of one block. -/
structure ShaVars where
  a : W64
  b : W64
  c : W64
  d : W64
  e : W64
  f : W64
  g : W64
  h : W64
  deriving DecidableEq, Repr

/-- One round. -/
def ShaVars.round (v : ShaVars) (kw : W64 × W64) : ShaVars :=
  let t1 := v.h + shaBig1 v.e + ((v.e &&& v.f) ^^^ (~~~v.e &&& v.g)) + kw.1 + kw.2
  let t2 := shaBig0 v.a + ((v.a &&& v.b) ^^^ (v.a &&& v.c) ^^^ (v.b &&& v.c))
  ⟨t1 + t2, v.a, v.b, v.c, v.d + t1, v.e, v.f, v.g⟩

/-- The hash value after one 128-byte block. -/
def shaBlock (v : ShaVars) (blk : List Byte) : ShaVars :=
  let w0 := (List.range 16).map (fun i => toW64 (beNat (sliceBytes blk (8 * i) 8)))
  let r := (shaK.zip (shaExtend 64 w0.reverse).reverse).foldl ShaVars.round v
  ⟨v.a + r.a, v.b + r.b, v.c + r.c, v.d + r.d, v.e + r.e, v.f + r.f, v.g + r.g, v.h + r.h⟩

/-- The blocks of a padded message. -/
def shaBlocks : Nat → List Byte → ShaVars → ShaVars
  | 0, _, v => v
  | n + 1, bs, v => shaBlocks n (bs.drop 128) (shaBlock v (bs.take 128))

/-- A message padded to whole blocks. -/
def shaPad (bs : List Byte) : List Byte := bs ++ [0x80] ++ zeros ((239 - bs.length % 128) % 128) ++ beBytes 16 (8 * bs.length)

/-- SHA-384 of bytes. -/
def sha384 (bs : List Byte) : List Byte :=
  let m := shaPad bs
  let i := fun n => shaInit.getD n 0
  let v := shaBlocks (m.length / 128) m ⟨i 0, i 1, i 2, i 3, i 4, i 5, i 6, i 7⟩
  [v.a, v.b, v.c, v.d, v.e, v.f].flatMap (fun w => beBytes 8 w.toNat)

/-! ### P-384 -/

/-- The prime, the order of the base point, the coefficient b and the base point. -/
def p384 : Nat := 2 ^ 384 - 2 ^ 128 - 2 ^ 96 + 2 ^ 32 - 1
def n384 : Nat := 0xFFFFFFFFFFFFFFFFFFFFFFFFFFFFFFFFFFFFFFFFFFFFFFFFC7634D81F4372DDF581A0DB248B0A77AECEC196ACCC52973
def b384 : Nat := 0xB3312FA7E23EE7E4988E056BE3F82D19181D9C6EFE8141120314088F5013875AC656398D8A2ED19D2A85C8EDD3EC2AEF
def g384 : Nat × Nat :=
  (0xAA87CA22BE8B05378EB1C71EF320AD746E1D3B628BA79B9859F741E082542A385502F25DBF55296C3A545E3872760AB7,
   0x3617DE4A96262C6F5D9E98BF9292DC29F8F41DBD289A147CE9DA3113B5F0B8C00A60B1CE1D7E819D7A431D7C90EA0E5F)

/-- a^e modulo m, over `k` bits of e. -/
def powMod (m a : Nat) : Nat → Nat → Nat
  | 0, _ => 1 % m
  | k + 1, e =>
    let h := powMod m (a * a % m) k (e / 2)
    if e % 2 = 1 then a * h % m else h

/-- Inverse modulo a prime of at most 384 bits. -/
def invMod (m a : Nat) : Nat := powMod m (a % m) 384 (m - 2)

/-- Difference modulo the prime. -/
def sub384 (a b : Nat) : Nat := (a + (p384 - b % p384)) % p384

/-- Whether coordinates are reduced and lie on the curve y^2 = x^3 - 3x + b. -/
def onCurve (q : Nat × Nat) : Bool :=
  decide (q.1 < p384) && decide (q.2 < p384) && q.2 * q.2 % p384 == sub384 (q.1 * q.1 * q.1 + b384) (3 * q.1)

/-- Sum of two points; none is the point at infinity. -/
def ecAdd : Option (Nat × Nat) → Option (Nat × Nat) → Option (Nat × Nat)
  | none, q => q
  | p, none => p
  | some (x1, y1), some (x2, y2) =>
    if x1 = x2 ∧ (y1 + y2) % p384 = 0 then none else
    let l := if x1 = x2 then sub384 (3 * x1 * x1) 3 * invMod p384 (2 * y1) % p384
      else sub384 y2 y1 * invMod p384 (sub384 x2 x1) % p384
    let x := sub384 (l * l) (x1 + x2)
    some (x, sub384 (l * sub384 x1 x) y1)

/-- Multiple of a point, over `k` bits of the scalar. -/
def ecMul (q : Option (Nat × Nat)) : Nat → Nat → Option (Nat × Nat)
  | 0, _ => none
  | k + 1, e =>
    let h := ecMul q k (e / 2)
    let t := ecAdd h h
    if e % 2 = 1 then ecAdd t q else t

/-- The point of 97 bytes of SEC 1 uncompressed form, where it is on the curve. -/
def pointOf (bs : List Byte) : Option (Nat × Nat) :=
  let q := (beNat (sliceBytes bs 1 48), beNat (sliceBytes bs 49 48))
  if bs.getD 0 0 = 4 ∧ onCurve q then some q else none

/-- Z of ECDH: the x-coordinate of the shared point, of a private scalar (big-endian) and a public point; none where the point fails validation. -/
def ecdhKey (priv pub : List Byte) : Option (List Byte) :=
  (pointOf pub).bind (fun q => (ecMul (some q) 384 (beNat priv)).map (fun r => beBytes 48 r.1))

/-- The public point X and Y of a private scalar. -/
def ecPublic (priv : List Byte) : List Byte :=
  match ecMul (some g384) 384 (beNat priv) with
  | some q => beBytes 48 q.1 ++ beBytes 48 q.2
  | none => []

/-- ECDSA P-384 with SHA-384: key (97 bytes), message, signature r and s of 48 bytes each. -/
def ecdsaOk (key msg sig : List Byte) : Bool :=
  let r := beNat (sliceBytes sig 0 48)
  let s := beNat (sliceBytes sig 48 48)
  match pointOf key with
  | none => false
  | some q =>
    if r = 0 ∨ n384 ≤ r ∨ s = 0 ∨ n384 ≤ s then false else
    let w := invMod n384 s
    match ecAdd (ecMul (some g384) 384 (beNat (sha384 msg) * w % n384)) (ecMul (some q) 384 (r * w % n384)) with
    | some v => v.1 % n384 == r
    | none => false

end Sys2Proof.Machine
end

