-- ==== Sys2Proof/Machine/Micro.lean ====
section
/-! DEFINITION. Microwords (18_engines_microcode_debug, R369 to R372): their fields, the word that a microthread fetches, and what it does there. -/

namespace Sys2Proof.Machine

/-! ### Fields (Table 18.1) -/

def mwSeq (w : BitVec 160) : Nat := fieldOf w 159 156
def mwNext (w : BitVec 160) : Nat := fieldOf w 155 141
def mwCond (w : BitVec 160) : Nat := fieldOf w 140 131
def mwPol (w : BitVec 160) : Bool := w.getLsbD 130
def mwCtl (w : BitVec 160) : BitVec 128 := w.extractLsb' 0 128

/-! ### Fetching (R369, R372) -/

/-- The micro-address fetched for one that is about to be: a ROM address at an enabled match register leads to its patch word; patch words are
never matched (R372). -/
def Cluster.redirect (k : Cluster) (a : Nat) : Nat :=
  if 0x4000 ≤ a then a
  else match (List.range 32).find? (fun i => (k.matches_.get i).enable && (k.matches_.get i).rom == a) with
    | some i => 0x4000 + (k.matches_.get i).patch
    | none => a

/-- The microword at an address: the ROM below 0x4000, the patch RAM from there. -/
def Cluster.word (k : Cluster) (stepping a : Nat) : BitVec 160 :=
  if a < 0x4000 then Config.romWord stepping a else k.patch.get (a - 0x4000)

/-! ### Malformed microwords (R370) -/

/-- Whether a sequencing code uses the next address. -/
def usesNext (seq : Nat) : Bool := decide (1 ≤ seq) && decide (seq ≤ 4)

/-- Whether a word fetched by a microthread is malformed, with `w` patch words in force. -/
def malformed (x : BitVec 160) (stack : List Nat) (w : Nat) : Bool :=
  decide (7 ≤ mwSeq x) || (usesNext (mwSeq x) && (decide (0x41FF < mwNext x) || decide (0x4000 + w ≤ mwNext x)))
    || (mwSeq x == 4 && decide (4 ≤ stack.length)) || (mwSeq x == 5 && stack.isEmpty)

/-! ### A microthread (R369, R371) -/

/-- What a well-formed word leads to, with the level of its condition and the context's stop signal: a WAIT stays where it is until the condition
has its level or the stop signal rises, which takes it to the stop handler; none at an instruction boundary. -/
def Micro.after (m : Micro) (x : BitVec 160) (level stop : Bool) : Option Micro :=
  match mwSeq x with
  | 0 => some { m with pc := m.pc + 1 }
  | 1 => some { m with pc := mwNext x }
  | 2 => some { m with pc := if level = mwPol x then mwNext x else m.pc + 1 }
  | 3 => some { m with pc := if stop then Config.stopHandler else if level = mwPol x then mwNext x else m.pc }
  | 4 => some ⟨mwNext x, (m.pc + 1) :: m.stack⟩
  | 5 => match m.stack with
    | [] => none
    | r :: rest => some ⟨r, rest⟩
  | _ => none

/-- The address of the malformed word that a microthread comes to, having met the condition levels and stop signals given, one pair at each word
before it; none where it comes to none. -/
def Cluster.runTo (k : Cluster) (stepping : Nat) : List (Bool × Bool) → Micro → Option Nat
  | [], m =>
    let a := k.redirect m.pc
    if malformed (k.word stepping a) m.stack k.words then some a else none
  | l :: ls, m =>
    let a := k.redirect m.pc
    let x := k.word stepping a
    if malformed x m.stack k.words then none
    else match ({ m with pc := a }).after x l.1 l.2 with
      | some m2 => k.runTo stepping ls m2
      | none => none

/-- Whether a recovery occupies the recovery context, context 7 of engine 31 (R62). -/
def Errors.recovering (e : Errors) : Bool := e.pend.any (fun p => p.st == .active)

/-- Whether a context is occupied; context 255 is the recovery context (R62). -/
def Dev.occupied (d : Dev) (c : Nat) : Bool := (d.ctxs.get c).run != .free || (c == 255 && d.er.recovering)

/-- The malformed word that a context's microthread comes to from its last instruction boundary. -/
def Dev.microFault (d : Dev) (run : MicroRun) : Option Nat :=
  (d.en.clusters.get (run.ctx / 64)).runTo d.stepping run.seen (d.ctxs.get run.ctx).micro

end Sys2Proof.Machine
end

