-- ==== Sys2Proof/Machine/Aes.lean ====
section
/-! DEFINITION. AES-256 (FIPS 197), its Galois/counter mode (SP 800-38D) and key wrap with padding (RFC 5649), which spec/ names and does not write out
(R144, R150 to R154; log entry 6). -/

namespace Sys2Proof.Machine

/-! ### AES-256 -/

/-- Multiplication by x in GF(2^8) with x^8 + x^4 + x^3 + x + 1. -/
def aesX (b : Byte) : Byte := if b.msb then (b <<< 1) ^^^ 0x1B else b <<< 1

/-- Product in GF(2^8), over the lowest `k` bits of the second factor. -/
def aesMulAux (a b : Byte) : Nat → Byte
  | 0 => 0
  | k + 1 => aesMulAux (aesX a) (b >>> 1) k ^^^ (if b.getLsbD 0 then a else 0)

/-- Product in GF(2^8). -/
def aesMul (a b : Byte) : Byte := aesMulAux a b 8

/-- a^254, the inverse in GF(2^8), 0 for 0. -/
def aesInv (a : Byte) : Byte :=
  let a2 := aesMul a a
  let a3 := aesMul a2 a
  let a12 := aesMul (aesMul a3 a3) (aesMul a3 a3)
  let a15 := aesMul a12 a3
  let a240 := (List.range 4).foldl (fun x _ => aesMul x x) a15
  aesMul a240 (aesMul a12 a2)

/-- The S-box and its inverse. -/
def aesSub (a : Byte) : Byte :=
  let b := aesInv a
  b ^^^ b.rotateLeft 1 ^^^ b.rotateLeft 2 ^^^ b.rotateLeft 3 ^^^ b.rotateLeft 4 ^^^ 0x63
def aesUnsub (a : Byte) : Byte := aesInv (a.rotateLeft 1 ^^^ a.rotateLeft 3 ^^^ a.rotateLeft 6 ^^^ 0x05)

/-- Exclusive-or of two byte strings. -/
def xorBytes (a b : List Byte) : List Byte := List.zipWith (· ^^^ ·) a b

/-- Round constant of the key expansion. -/
def aesRcon : Nat → Byte
  | 0 => 1
  | n + 1 => aesX (aesRcon n)

/-- The key schedule, `k` words more from word `i` on, latest first. -/
def aesExpand : Nat → Nat → List (List Byte) → List (List Byte)
  | 0, _, w => w
  | k + 1, i, w =>
    let t := w.headD []
    let u := if i % 8 = 0 then xorBytes ((t.drop 1 ++ t.take 1).map aesSub) [aesRcon (i / 8 - 1), 0, 0, 0]
      else if i % 8 = 4 then t.map aesSub else t
    aesExpand k (i + 1) (xorBytes (w.getD 7 []) u :: w)

/-- The fifteen round keys of a 32-byte key. -/
def aesKeys (key : List Byte) : List (List Byte) :=
  let w0 := (List.range 8).map (fun i => sliceBytes key (4 * i) 4)
  let w := (aesExpand 52 8 w0.reverse).reverse
  (List.range 15).map (fun r => ((w.drop (4 * r)).take 4).flatten)

/-- ShiftRows, forward and back; the state is column by column. -/
def aesShift (s : List Byte) : List Byte := (List.range 16).map (fun i => s.getD ((i + 4 * (i % 4)) % 16) 0)
def aesUnshift (s : List Byte) : List Byte := (List.range 16).map (fun i => s.getD ((i + 12 * (i % 4)) % 16) 0)

/-- MixColumns with the first row of a circulant matrix. -/
def aesMix (m : List Byte) (s : List Byte) : List Byte :=
  (List.range 16).map (fun i =>
    (List.range 4).foldl (fun a k => a ^^^ aesMul (s.getD (i / 4 * 4 + k) 0) (m.getD ((k + 4 - i % 4) % 4) 0)) 0)

/-- AES-256 of one block under round keys. -/
def aesBlock (ks : List (List Byte)) (b : List Byte) : List Byte :=
  let s := ((ks.drop 1).take 13).foldl (fun s k => xorBytes (aesMix [2, 3, 1, 1] (aesShift (s.map aesSub))) k) (xorBytes b (ks.headD []))
  xorBytes (aesShift (s.map aesSub)) (ks.getD 14 [])

/-- The inverse of AES-256 of one block. -/
def aesUnblock (ks : List (List Byte)) (b : List Byte) : List Byte :=
  let s := ((ks.drop 1).take 13).reverse.foldl (fun s k => aesMix [14, 11, 13, 9] (xorBytes ((aesUnshift s).map aesUnsub) k)) (xorBytes b (ks.getD 14 []))
  xorBytes ((aesUnshift s).map aesUnsub) (ks.headD [])

/-! ### GCM -/

/-- Product in GF(2^128) as SP 800-38D has it, over `k` bits of x from the most significant. -/
def ghashMulAux (x : BitVec 128) : Nat → BitVec 128 → BitVec 128 → BitVec 128
  | 0, _, z => z
  | n + 1, v, z =>
    let z1 := if x.getLsbD n then z ^^^ v else z
    ghashMulAux x n (if v.getLsbD 0 then (v >>> 1) ^^^ (0xE1#128 <<< 120) else v >>> 1) z1

/-- Bytes padded with zeros to whole blocks of 16. -/
def pad16 (bs : List Byte) : List Byte := bs ++ zeros ((16 - bs.length % 16) % 16)

/-- GHASH of `n` blocks under a hash key. -/
def ghash (h : BitVec 128) : Nat → List Byte → BitVec 128 → BitVec 128
  | 0, _, y => y
  | n + 1, bs, y => ghash h n (bs.drop 16) (ghashMulAux (y ^^^ BitVec.ofNat 128 (beNat (sliceBytes bs 0 16))) 128 h 0)

/-- Byte `i` of the counter-mode keystream of GCM under a 256-bit key and a 12-byte IV. -/
def gcmKeystream (key : BitVec 256) (iv : List Byte) (i : Nat) : Byte :=
  (aesBlock (aesKeys (beBytes 32 key.toNat)) (iv ++ beBytes 4 ((i / 16 + 2) % 2 ^ 32))).getD (i % 16) 0

/-- The 16-byte GCM tag of additional data and ciphertext under a key and an IV. -/
def gcmTag (key : BitVec 256) (iv aad ct : List Byte) : List Byte :=
  let ks := aesKeys (beBytes 32 key.toNat)
  let h := BitVec.ofNat 128 (beNat (aesBlock ks (zeros 16)))
  let m := pad16 aad ++ pad16 ct ++ beBytes 8 (8 * aad.length) ++ beBytes 8 (8 * ct.length)
  xorBytes (beBytes 16 (ghash h (m.length / 16) m 0).toNat) (aesBlock ks (iv ++ beBytes 4 1))

/-! ### Key wrap with padding -/

/-- The steps of the wrap of n semiblocks, by the value n × j + i of each. -/
def kwpSteps (n : Nat) : List Nat := (List.range (6 * n)).map (· + 1)

/-- One step of the wrap: the register and the semiblocks. -/
def kwpStep (ks : List (List Byte)) (n : Nat) (ar : List Byte × List (List Byte)) (t : Nat) : List Byte × List (List Byte) :=
  let i := (t - 1) % n
  let b := aesBlock ks (ar.1 ++ ar.2.getD i [])
  (xorBytes (b.take 8) (beBytes 8 t), ar.2.set i (b.drop 8))

/-- One step of the unwrap. -/
def kwpUnstep (ks : List (List Byte)) (n : Nat) (ar : List Byte × List (List Byte)) (t : Nat) : List Byte × List (List Byte) :=
  let i := (t - 1) % n
  let b := aesUnblock ks (xorBytes ar.1 (beBytes 8 t) ++ ar.2.getD i [])
  (b.take 8, ar.2.set i (b.drop 8))

/-- The semiblocks of bytes. -/
def semiblocks (bs : List Byte) : List (List Byte) := (List.range (bs.length / 8)).map (fun i => sliceBytes bs (8 * i) 8)

/-- AES-KWP of bytes under a 32-byte key. -/
def kwpWrap (key bs : List Byte) : List Byte :=
  let ks := aesKeys key
  let a := beBytes 4 0xA65959A6 ++ beBytes 4 bs.length
  let p := bs ++ zeros ((8 - bs.length % 8) % 8)
  if p.length = 8 then aesBlock ks (a ++ p) else
  let n := p.length / 8
  let r := (kwpSteps n).foldl (kwpStep ks n) (a, semiblocks p)
  r.1 ++ r.2.flatten

/-- The bytes that AES-KWP wrapped, where its integrity check passes. -/
def kwpUnwrap (key bs : List Byte) : Option (List Byte) :=
  if bs.length % 8 ≠ 0 ∨ bs.length < 16 then none else
  let ks := aesKeys key
  let n := bs.length / 8 - 1
  let r := if n = 1 then (let b := aesUnblock ks bs; (b.take 8, [b.drop 8]))
    else (kwpSteps n).reverse.foldl (kwpUnstep ks n) (bs.take 8, semiblocks (bs.drop 8))
  let p := r.2.flatten
  let len := beNat (r.1.drop 4)
  if beNat (r.1.take 4) = 0xA65959A6 ∧ 8 * (n - 1) < len ∧ len ≤ 8 * n ∧ (p.drop len).all (fun b => b == 0) then some (p.take len) else none

end Sys2Proof.Machine
end

