-- ==== Sys2Proof/Machine/Zstd.lean ====
section
/-! DEFINITION. Zstandard decoding as RFC 8878 defines it, which R127, R134 and R136 name and do not write out (log entry 7): FSE and Huffman tables,
literals, sequences, blocks and frames, and the frames that Table 6.2 and R136 accept. -/

namespace Sys2Proof.Machine

/-! ### Bitstreams -/

/-- A bitstream read from its end: its value, the bits left, and whether more was asked than it holds. -/
structure BackBits where
  v : Nat
  len : Nat
  spent : Bool
  deriving DecidableEq, Repr

/-- The bitstream of bytes, which ends below the highest 1 bit of the last byte. -/
def backBits (bs : List Byte) : Option BackBits :=
  if bs.getLastD 0 = 0 then none else some ⟨leNat bs, Nat.log2 (leNat bs), false⟩

/-- The next `n` bits, zeros past the end. -/
def BackBits.peek (b : BackBits) (n : Nat) : Nat :=
  if n ≤ b.len then b.v / 2 ^ (b.len - n) % 2 ^ n else b.v % 2 ^ b.len * 2 ^ (n - b.len)

/-- `n` bits are passed over. -/
def BackBits.skip (b : BackBits) (n : Nat) : BackBits :=
  if n ≤ b.len then { b with len := b.len - n } else { b with len := 0, spent := true }

/-! ### FSE tables -/

/-- A state of an FSE table: its symbol, and the bits and baseline of the next state. -/
structure FseCell where
  sym : Nat
  bits : Nat
  base : Nat
  deriving DecidableEq, Repr

/-- An FSE table: accuracy log and states. -/
structure FseTable where
  log : Nat
  cells : List FseCell
  deriving DecidableEq, Repr

/-- The zero counts that the repeat flags at a bit give, and the bit after them. -/
def fseZeros (v : Nat) : Nat → Nat → Nat × Nat
  | 0, pos => (0, pos)
  | n + 1, pos =>
    let r := v / 2 ^ pos % 4
    if r = 3 then (let t := fseZeros v n (pos + 2); (3 + t.1, t.2)) else (r, pos + 2)

/-- The counts of a table description from a bit on, -1 for less than one, and the bit after them. -/
def fseCounts (v : Nat) : Nat → Nat → Nat → List Int → Option (List Int × Nat)
  | 0, _, _, _ => none
  | n + 1, left, pos, acc =>
    if left = 0 then some (acc.reverse, pos) else
    let k := Nat.log2 (left + 1) + 1
    let x := v / 2 ^ pos % 2 ^ k
    let low := x % 2 ^ (k - 1)
    let thr := 2 ^ k - 1 - (left + 1)
    let r := if low < thr then (low, k - 1) else if 2 ^ (k - 1) ≤ x then (x - thr, k) else (x, k)
    let p : Int := (r.1 : Int) - 1
    if left < p.natAbs then none else
    if p = 0 then
      let z := fseZeros v 256 (pos + r.2)
      fseCounts v n left z.2 (List.replicate (z.1 + 1) 0 ++ acc)
    else fseCounts v n (left - p.natAbs) (pos + r.2) (p :: acc)

/-- The symbols of the states: those of count -1 from the top down, the others spread. -/
def fseSpread (log : Nat) (counts : List Int) : List Nat :=
  let size := 2 ^ log
  let syms := List.range counts.length
  let low := syms.filter (fun s => counts.getD s 0 == -1)
  let high := size - low.length
  let places := ((List.range size).map (fun i => i * (size / 2 + size / 8 + 3) % size)).filter (fun p => decide (p < high))
  let cells := places.zip (syms.flatMap (fun s => List.replicate (counts.getD s 0).toNat s))
  ((cells.mergeSort (fun a b => decide (a.1 ≤ b.1))).map Prod.snd) ++ low.reverse

/-- The states from their symbols: `seen` counts the states of each symbol so far. -/
def fseCells (log : Nat) (counts : List Int) : List Nat → List Nat → List FseCell
  | [], _ => []
  | s :: t, seen =>
    let x := (counts.getD s 0).natAbs + seen.count s
    let nb := log - Nat.log2 x
    ⟨s, nb, x * 2 ^ nb - 2 ^ log⟩ :: fseCells log counts t (s :: seen)

/-- The table of a distribution. -/
def fseTable (log : Nat) (counts : List Int) : FseTable := ⟨log, fseCells log counts (fseSpread log counts) []⟩

/-- A table description at the head of bytes: the table and the bytes after it. -/
def readFse (maxLog maxSyms : Nat) (bs : List Byte) : Option (FseTable × List Byte) :=
  let v := leNat (bs.take 512)
  let log := v % 16 + 5
  match fseCounts v (maxSyms + 2) (2 ^ log) 4 [] with
  | none => none
  | some (cs, pos) =>
    let n := (pos + 7) / 8
    if maxLog < log ∨ maxSyms < cs.length ∨ bs.length < n then none else some (fseTable log cs, bs.drop n)

/-- A state's cell. -/
def FseTable.cell (t : FseTable) (s : Nat) : FseCell := t.cells.getD s ⟨0, 0, 0⟩

/-- The state after another. -/
def FseTable.next (t : FseTable) (s : Nat) (b : BackBits) : Nat × BackBits :=
  let c := t.cell s
  (c.base + b.peek c.bits, b.skip c.bits)

/-! ### Huffman tables -/

/-- A Huffman table: the bits it looks at, and the symbol and length of each value of them. -/
structure HufTable where
  bits : Nat
  cells : List (Nat × Nat)
  deriving DecidableEq, Repr

/-- Weights from two interleaved FSE states, until the bits run out. -/
def hufFse (t : FseTable) : Nat → Nat → Nat → BackBits → List Nat → Option (List Nat)
  | 0, _, _, _, _ => none
  | n + 1, s1, s2, b, acc =>
    let a := (t.cell s1).sym :: acc
    let r := t.next s1 b
    if r.2.spent then some ((t.cell s2).sym :: a).reverse else hufFse t n s2 r.1 r.2 a

/-- The weights at the head of bytes, and the bytes after them. -/
def hufWeights (bs : List Byte) : Option (List Nat × List Byte) :=
  match bs with
  | [] => none
  | h :: t =>
    if 128 ≤ h.toNat then
      let n := h.toNat - 127
      if t.length < (n + 1) / 2 then none else
      some ((List.range n).map (fun i => let b := (t.getD (i / 2) 0).toNat; if i % 2 = 0 then b / 16 else b % 16), t.drop ((n + 1) / 2))
    else if t.length < h.toNat then none else
    match readFse 6 256 (t.take h.toNat) with
    | none => none
    | some (f, rest) =>
      (backBits rest).bind (fun b =>
        let b1 := b.skip f.log
        (hufFse f 255 (b.peek f.log) (b1.peek f.log) (b1.skip f.log) []).map (fun w => (w, t.drop h.toNat)))

/-- The table of weights, whose last is implied. -/
def hufTable (ws : List Nat) : Option HufTable :=
  let sum := (ws.map (fun w => if w = 0 then 0 else 2 ^ (w - 1))).sum
  if sum = 0 ∨ ws.any (fun w => decide (12 < w)) then none else
  let bits := Nat.log2 sum + 1
  let left := 2 ^ bits - sum
  if 11 < bits ∨ 255 < ws.length ∨ 2 ^ Nat.log2 left ≠ left then none else
  let all := ws ++ [Nat.log2 left + 1]
  let cells := (List.range bits).flatMap (fun i =>
    ((List.range all.length).filter (fun s => all.getD s 0 == i + 1)).flatMap (fun s => List.replicate (2 ^ i) (s, bits - i)))
  some ⟨bits, cells⟩

/-- `n` symbols of a stream, which they use up. -/
def hufStream (t : HufTable) : Nat → BackBits → List Byte → Option (List Byte)
  | 0, b, acc => if b.len = 0 then some acc.reverse else none
  | n + 1, b, acc =>
    let c := t.cells.getD (b.peek t.bits) (0, 0)
    let b1 := b.skip c.2
    if b1.spent then none else hufStream t n b1 (BitVec.ofNat 8 c.1 :: acc)

/-- The symbols of one stream, or of four behind a jump table. -/
def hufStreams (t : HufTable) (four : Bool) (n : Nat) (bs : List Byte) : Option (List Byte) :=
  let one := fun (k : Nat) (x : List Byte) => (backBits x).bind (fun b => hufStream t k b [])
  if !four then one n bs else
  let a := leNat (sliceBytes bs 0 2)
  let b := leNat (sliceBytes bs 2 2)
  let c := leNat (sliceBytes bs 4 2)
  let q := (n + 3) / 4
  if bs.length < 6 + a + b + c ∨ n < 3 * q then none else
  let body := bs.drop 6
  (one q (body.take a)).bind (fun s1 => (one q ((body.drop a).take b)).bind (fun s2 => (one q ((body.drop (a + b)).take c)).bind (fun s3 =>
    (one (n - 3 * q) (body.drop (a + b + c))).map (fun s4 => s1 ++ s2 ++ s3 ++ s4))))

/-! ### Literals and sequences -/

/-- What a frame carries from block to block: the tables last used, the recent offsets and the content so far. -/
structure ZState where
  huf : Option HufTable
  ll : Option FseTable
  off : Option FseTable
  ml : Option FseTable
  r1 : Nat
  r2 : Nat
  r3 : Nat
  out : List Byte
  deriving DecidableEq, Repr

/-- The literals section of a block: literals, table in force, and the bytes after it. -/
def zLiterals (huf : Option HufTable) (bs : List Byte) : Option (List Byte × Option HufTable × List Byte) :=
  let v := leNat (sliceBytes bs 0 5)
  let kind := v % 4
  let form := v / 4 % 4
  if kind < 2 then
    let hn := if form % 2 = 0 then 1 else if form = 1 then 2 else 3
    let n := if form % 2 = 0 then v % 256 / 8 else if form = 1 then v % 65536 / 16 else v % 16777216 / 16
    let rest := bs.drop hn
    let take := if kind = 0 then n else 1
    if bs.length < hn + take ∨ 131072 < n then none
    else some (if kind = 0 then rest.take n else List.replicate n (rest.headD 0), huf, rest.drop take)
  else
    let hn := if form < 2 then 3 else form + 2
    let w := if form < 2 then 10 else if form = 2 then 14 else 18
    let n := v / 16 % 2 ^ w
    let size := v / 2 ^ (4 + w) % 2 ^ w
    if bs.length < hn + size ∨ 131072 < n then none else
    let body := (bs.drop hn).take size
    let tab := if kind = 2 then (hufWeights body).bind (fun r => (hufTable r.1).map (fun t => (t, r.2))) else huf.map (fun t => (t, body))
    tab.bind (fun t => (hufStreams t.1 (form != 0) n t.2).map (fun ls => (ls, some t.1, bs.drop (hn + size))))

/-- Baselines and extra bits of literal length and match length codes from 16 and 32 on. -/
def llBase : List (Nat × Nat) :=
  [(16, 1), (18, 1), (20, 1), (22, 1), (24, 2), (28, 2), (32, 3), (40, 3), (48, 4), (64, 6), (128, 7), (256, 8), (512, 9), (1024, 10), (2048, 11),
   (4096, 12), (8192, 13), (16384, 14), (32768, 15), (65536, 16)]
def mlBase : List (Nat × Nat) :=
  [(35, 1), (37, 1), (39, 1), (41, 1), (43, 2), (47, 2), (51, 3), (59, 3), (67, 4), (83, 4), (99, 5), (131, 7), (259, 8), (515, 9), (1027, 10),
   (2051, 11), (4099, 12), (8195, 13), (16387, 14), (32771, 15), (65539, 16)]

/-- Baseline and extra bits of a code. -/
def llCode (c : Nat) : Nat × Nat := if c < 16 then (c, 0) else llBase.getD (c - 16) (0, 0)
def mlCode (c : Nat) : Nat × Nat := if c < 32 then (c + 3, 0) else mlBase.getD (c - 32) (0, 0)

/-- The predefined distributions. -/
def llCounts : List Int := [4, 3] ++ List.replicate 11 2 ++ [1, 1, 1] ++ List.replicate 9 2 ++ [3, 2] ++ List.replicate 5 1 ++ List.replicate 4 (-1)
def offCounts : List Int := List.replicate 6 1 ++ [2, 2, 2] ++ List.replicate 15 1 ++ List.replicate 5 (-1)
def mlCounts : List Int := [1, 4, 3] ++ List.replicate 6 2 ++ List.replicate 37 1 ++ List.replicate 7 (-1)

/-- The table of a compression mode: predefined, one symbol, described, or the one before. -/
def zTable (mode maxLog maxSyms : Nat) (dflt : FseTable) (prev : Option FseTable) (bs : List Byte) : Option (FseTable × List Byte) :=
  if mode = 0 then some (dflt, bs)
  else if mode = 1 then (match bs with
    | b :: t => if maxSyms ≤ b.toNat then none else some (⟨0, [⟨b.toNat, 0, 0⟩]⟩, t)
    | [] => none)
  else if mode = 2 then readFse maxLog maxSyms bs
  else prev.map (fun t => (t, bs))

/-- The offset of an offset value, with the recent offsets after it; none for an offset of 0. -/
def zOffset (z : ZState) (value ll : Nat) : Option (Nat × ZState) :=
  if 3 < value then some (value - 3, { z with r1 := value - 3, r2 := z.r1, r3 := z.r2 }) else
  let i := value + (if ll = 0 then 1 else 0)
  if i = 1 then some (z.r1, z)
  else if i = 2 then some (z.r2, { z with r1 := z.r2, r2 := z.r1 })
  else
    let o := if i = 3 then z.r3 else z.r1 - 1
    if o = 0 then none else some (o, { z with r1 := o, r2 := z.r1, r3 := z.r2 })

/-- `n` bytes copied from `o` bytes back; a copy may run into itself. -/
def zCopy (out : List Byte) (o n : Nat) : List Byte :=
  let src := out.drop (out.length - o)
  (List.range n).map (fun i => src.getD (i % o) 0)

/-- Sequences from their three states: literals are used up from `lits`; what is left of them comes last. -/
def zSeqs (window : Nat) (tl to' tm : FseTable) : Nat → Nat → Nat → Nat → BackBits → List Byte → ZState → Option ZState
  | 0, _, _, _, b, lits, z => if b.len = 0 ∧ !b.spent then some { z with out := z.out ++ lits } else none
  | n + 1, sl, so, sm, b, lits, z =>
    let oc := (to'.cell so).sym
    let m := mlCode (tm.cell sm).sym
    let l := llCode (tl.cell sl).sym
    let value := 2 ^ oc + b.peek oc
    let b1 := b.skip oc
    let mlen := m.1 + b1.peek m.2
    let b2 := b1.skip m.2
    let llen := l.1 + b2.peek l.2
    let b3 := b2.skip l.2
    if b3.spent ∨ lits.length < llen then none else
    match zOffset z value llen with
    | none => none
    | some (o, z1) =>
      let out := z1.out ++ lits.take llen
      if out.length < o ∨ window < o then none else
      let z2 := { z1 with out := out ++ zCopy out o mlen }
      if n = 0 then zSeqs window tl to' tm n sl so sm b3 (lits.drop llen) z2 else
      let rl := tl.next sl b3
      let rm := tm.next sm rl.2
      let ro := to'.next so rm.2
      if ro.2.spent then none else zSeqs window tl to' tm n rl.1 ro.1 rm.1 ro.2 (lits.drop llen) z2

/-- The number of sequences at the head of a section, and the bytes after it. -/
def zSeqCount (bs : List Byte) : Option (Nat × List Byte) :=
  match bs with
  | [] => none
  | b :: t =>
    if b.toNat < 128 then some (b.toNat, t)
    else if b.toNat < 255 then (if t.isEmpty then none else some ((b.toNat - 128) * 256 + (t.headD 0).toNat, t.drop 1))
    else if t.length < 2 then none else some (leNat (t.take 2) + 0x7F00, t.drop 2)

/-- A compressed block. -/
def zBlock (window : Nat) (z : ZState) (bs : List Byte) : Option ZState :=
  match zLiterals z.huf bs with
  | none => none
  | some (lits, huf, rest) =>
    match zSeqCount rest with
    | none => none
    | some (0, t) => if t.isEmpty then some { z with huf := huf, out := z.out ++ lits } else none
    | some (n, t) =>
      match t with
      | [] => none
      | m :: u =>
        if m.toNat % 4 ≠ 0 then none else
        (zTable (m.toNat / 64) 9 36 (fseTable 6 llCounts) z.ll u).bind (fun l =>
          (zTable (m.toNat / 16 % 4) 8 32 (fseTable 5 offCounts) z.off l.2).bind (fun o =>
            (zTable (m.toNat / 4 % 4) 9 53 (fseTable 6 mlCounts) z.ml o.2).bind (fun k =>
              (backBits k.2).bind (fun b =>
                let b1 := b.skip l.1.log
                let b2 := b1.skip o.1.log
                let b3 := b2.skip k.1.log
                if b3.spent then none else
                zSeqs window l.1 o.1 k.1 n (b.peek l.1.log) (b1.peek o.1.log) (b2.peek k.1.log) b3 lits
                  { z with huf := huf, ll := some l.1, off := some o.1, ml := some k.1 }))))

/-! ### Frames -/

/-- The header of a frame. -/
structure ZHead where
  window : Nat
  size : Option Nat
  check : Bool
  dict : Nat
  length : Nat
  deriving DecidableEq, Repr

/-- The header of a frame at the head of bytes. -/
def zHead (bs : List Byte) : Option ZHead :=
  let d := leNat (sliceBytes bs 4 1)
  let single := d / 32 % 2 == 1
  let dn := if d % 4 = 3 then 4 else d % 4
  let fn := if d / 64 = 0 then b2n single else 2 ^ (d / 64)
  let wn := if single then 0 else 1
  let len := 5 + wn + dn + fn
  if leNat (sliceBytes bs 0 4) ≠ 0xFD2FB528 ∨ d / 8 % 2 = 1 ∨ bs.length < len then none else
  let size := if fn = 0 then none else some (leNat (sliceBytes bs (5 + wn + dn) fn) + (if fn = 2 then 256 else 0))
  let w := leNat (sliceBytes bs 5 1)
  let base := 2 ^ (10 + w / 8)
  some ⟨if single then size.getD 0 else base + base / 8 * (w % 8), size, d / 4 % 2 == 1, leNat (sliceBytes bs (5 + wn) dn), len⟩

/-- One block of a frame: the state after it, the bytes after it, and whether it is the last. -/
def zStep (window : Nat) (z : ZState) (bs : List Byte) : Option (ZState × List Byte × Bool) :=
  if bs.length < 3 then none else
  let h := leNat (sliceBytes bs 0 3)
  let size := h / 8
  let kind := h / 2 % 4
  let body := if kind = 1 then 1 else size
  let rest := bs.drop 3
  if rest.length < body ∨ kind = 3 ∨ min window 131072 < size then none else
  let next := if kind = 0 then some { z with out := z.out ++ rest.take size }
    else if kind = 1 then some { z with out := z.out ++ List.replicate size (rest.headD 0) }
    else zBlock window z (rest.take size)
  match next with
  | none => none
  | some y => if min window 131072 < y.out.length - z.out.length then none else some (y, rest.drop body, h % 2 == 1)

/-- The blocks of a frame up to its last: what they decode to, and the bytes after them. -/
def zBlocks (window : Nat) : Nat → ZState → List Byte → Option (List Byte × List Byte)
  | 0, _, _ => none
  | n + 1, z, bs =>
    match zStep window z bs with
    | none => none
    | some (y, rest, true) => some (y.out, rest)
    | some (y, rest, false) => zBlocks window n y rest

/-- The state a frame begins in. -/
def ZState.start : ZState := ⟨none, none, none, none, 1, 4, 8, []⟩

/-- Whether a frame's content and the bytes after its last block meet the sizes and the checksum that it carries. -/
def ZHead.checks (h : ZHead) (out rest : List Byte) : Bool :=
  !(decide (rest.length < (if h.check then 4 else 0)) || h.size.any (fun n => n != out.length)
    || (h.check && leNat (rest.take 4) != (xxh64 out).toNat % 2 ^ 32))

/-- One frame at the head of bytes: its content and the bytes after it; none where it does not decode, or a size or checksum it carries fails. -/
def zFrame (bs : List Byte) : Option (List Byte × List Byte) :=
  match zHead bs with
  | none => none
  | some h =>
    match zBlocks h.window bs.length ZState.start (bs.drop h.length) with
    | none => none
    | some (out, rest) => if h.checks out rest then some (out, rest.drop (if h.check then 4 else 0)) else none

/-- The content of a compressed body; empty where it does not decode. -/
def zstdDecode (bs : List Byte) : List Byte := ((zFrame bs).map Prod.fst).getD []

/-! ### The input of DECOMPRESS (R136, R138) -/

/-- How the decoding of a DECOMPRESS input ends. -/
inductive RunEnd where
  | good
  | bad
  | full
  deriving DecidableEq, Repr

/-- The blocks of a frame while their content fits in `room` bytes: the content written, how it ended, and the bytes after it. -/
def zBlocksRun (window room : Nat) : Nat → ZState → List Byte → List Byte × RunEnd × List Byte
  | 0, z, _ => (z.out, .bad, [])
  | n + 1, z, bs =>
    match zStep window z bs with
    | none => (z.out, .bad, [])
    | some (y, rest, last) =>
      if room < y.out.length then (z.out, .full, [])
      else if last then (y.out, .good, rest) else zBlocksRun window room n y rest

/-- One frame of R136, whose window is at most 8 MiB and which names no dictionary, written block by block while it fits. -/
def hostFrame (room : Nat) (bs : List Byte) : List Byte × RunEnd × List Byte :=
  match zHead bs with
  | none => ([], .bad, [])
  | some h =>
    if 8388608 < h.window ∨ h.dict ≠ 0 then ([], .bad, []) else
    match zBlocksRun h.window room bs.length ZState.start (bs.drop h.length) with
    | (out, .good, rest) => if h.checks out rest then (out, .good, rest.drop (if h.check then 4 else 0)) else (out, .bad, [])
    | r => r

/-- The output of a DECOMPRESS over its frames and skippable frames in order: the frames decoded, the bytes written, and how it ended. The
first output that would not fit, or the first input that R136 does not accept, ends it. -/
def hostRun : Nat → Nat → List Byte → Nat × List Byte × RunEnd
  | 0, _, bs => (0, [], if bs.isEmpty then .good else .bad)
  | n + 1, room, bs =>
    if bs.isEmpty then (0, [], .good) else
    let m := leNat (sliceBytes bs 0 4)
    if 0x184D2A50 ≤ m ∧ m ≤ 0x184D2A5F then
      let len := leNat (sliceBytes bs 4 4)
      if bs.length < 8 + len then (0, [], .bad) else hostRun n room (bs.drop (8 + len))
    else match hostFrame room bs with
      | (out, .good, rest) =>
        let r := hostRun n (room - out.length) rest
        (r.1 + 1, out ++ r.2.1, r.2.2)
      | (out, e, _) => (0, out, e)

/-- Zstandard blocks up to the last one: what follows it; none where a block is not as Table 6.2 has it. -/
def frameRest : Nat → List Byte → Option (List Byte)
  | 0, _ => none
  | n + 1, bs =>
    let h := leNat (sliceBytes bs 0 3)
    let size := h / 8
    let kind := h / 2 % 4
    let body := if kind = 1 then 1 else size
    if bs.length < 3 + body ∨ kind = 3 ∨ 131072 < size then none
    else if h % 2 = 1 then some (bs.drop (3 + body))
    else frameRest n (bs.drop (3 + body))

/-- The elements of Table 6.2 of one frame for content of length `n`: magic, descriptor, content size, blocks, and a checksum at its end. -/
def frameForm (bs : List Byte) (n : Nat) : Bool :=
  let w := if n < 256 then 1 else if n < 65792 then 2 else 4
  let desc := if n < 256 then 0x24 else if n < 65792 then 0x64 else 0xA4
  let size := leNat (sliceBytes bs 5 w) + (if w = 2 then 256 else 0)
  leNat (sliceBytes bs 0 4) == 0xFD2FB528 && leNat (sliceBytes bs 4 1) == desc && size == n
    && (match frameRest bs.length (bs.drop (5 + w)) with
      | some t => t.length == 4
      | none => false)

/-- One frame as Table 6.2 has it, of content length `n`, which decodes with a valid checksum (R134). -/
def frameOk (bs : List Byte) (n : Nat) : Bool :=
  frameForm bs n && (match zFrame bs with
    | some (out, rest) => rest.isEmpty && out.length == n
    | none => false)

end Sys2Proof.Machine
end

