-- ==== Sys2Proof/Machine/Output.lean ====
section
/-! DEFINITION. What COMPRESS and DECOMPRESS write (R127, R137, R138), and destinations that are zeroed (R23, R74). -/

namespace Sys2Proof.Machine

/-! ### Frames of COMPRESS (R127, R137) -/

/-- The blocks of a raw frame, each at most 128 KiB. -/
def rawBlocks : Nat → List Byte → List Byte
  | 0, _ => []
  | n + 1, bs =>
    if bs.length ≤ 131072 then leBytes 3 (1 + 8 * bs.length) ++ bs
    else leBytes 3 (8 * 131072) ++ bs.take 131072 ++ rawBlocks n (bs.drop 131072)

/-- A raw frame: Table 6.2 with every block a Raw_Block. -/
def rawFrame (bs : List Byte) : List Byte :=
  let n := bs.length
  let head := if n < 256 then (0x24 : Byte) :: leBytes 1 n else if n < 65792 then (0x64 : Byte) :: leBytes 2 (n - 256) else (0xA4 : Byte) :: leBytes 4 n
  leBytes 4 0xFD2FB528 ++ head ++ rawBlocks 64 bs ++ leBytes 4 ((xxh64 bs).toNat % 2 ^ 32)

/-- The frame COMPRESS writes for a block that has its outcome. -/
def Block.outFrame (b : Block) : Option (List Byte × Bool) :=
  match b.st with
  | .outcome body raw _ => some (if raw then rawFrame body else body, raw)
  | _ => none

/-- The outcome of block `k` of a COMPRESS. -/
def Dev.frameAt (d : Dev) (c k : Nat) : Option (List Byte × Bool) :=
  (d.cm.blocks.find? (fun b => b.ctx == some c && b.k == k)).bind Block.outFrame

/-- The frames of a COMPRESS in block order up to the first block, of `n`, that has no outcome yet or would take the total past `room`: what is
written, whether any of it is a raw frame, and how it ended: `bad` where a block is still without an outcome. -/
def Dev.compressRun (d : Dev) (c : Nat) : Nat → Nat → Nat → List Byte × Bool × RunEnd
  | 0, _, _ => ([], false, .good)
  | n + 1, k, room =>
    match d.frameAt c k with
    | none => ([], false, .bad)
    | some (f, raw) =>
      if room < f.length then ([], false, .full) else
      let r := d.compressRun c n (k + 1) (room - f.length)
      (f ++ r.1, raw || r.2.1, r.2.2)

/-- Blocks of `n` bytes under a block size. -/
def blockCountOf (n size : Nat) : Nat := (n + size - 1) / size

/-- What a COMPRESS or DECOMPRESS in flight has written of its output, and whether any of it is a raw frame (R138, R139). -/
def Dev.written (d : Dev) (c : Nat) : List Byte × Bool :=
  match (d.ctxs.get c).run with
  | .flight (.compress cap size need _) => let r := d.compressRun c (blockCountOf need size) 0 cap
                                           (r.1, r.2.1)
  | .flight (.decompress cap _ _ got) => ((hostRun got.length cap got).2.1, false)
  | _ => ([], false)

/-! ### Zeroing (R23, R74, R138) -/

/-- Whether the device may make requests on a port (R23). -/
def Dev.portOpen (d : Dev) (p : PortId) : Bool := (d.port p).busMaster && (d.port p).linkUp

/-- Host ranges are zeroed; while Bus Master Enable of their port is clear the zeros are held (R23). -/
def Dev.zeroAt (d : Dev) (no : Nat) (remote : Option Nat) (rs : List (Nat × Nat)) : Dev :=
  if rs.isEmpty then d
  else if no < 2 ∧ !d.portOpen (portOf no) then { d with heldZeros := d.heldZeros ++ [(no, rs)] }
  else d.memWriteAt no remote rs (zeros (rs.map Prod.snd).sum)

/-- Host ranges are zeroed for a context's command. -/
def Dev.zeroRanges (d : Dev) (c : Nat) (rs : List (Nat × Nat)) : Dev := d.zeroAt (d.memNo c) (d.remoteOf c) rs

/-- Whether a command's context is carrying out a read. -/
def Dev.readInFlight (d : Dev) (m : Cmd) : Bool :=
  match m.ctx with
  | some c => (match (d.ctxs.get c).run with
      | .flight (.read _) => true
      | _ => false)
  | none => false

/-- The destination of an inline GET or STAT that ends before it is under way is zeroed (R97). -/
def Dev.zeroStored (d : Dev) (m : Cmd) : Dev :=
  if m.sqe.kind ≠ 1 ∨ d.readInFlight m then d
  else if wOp m.sqe.word = 0x42 then d.zeroAt m.memNo m.fwdFrom (d.destOf m)
  else if wOp m.sqe.word = 0x44 then d.zeroAt m.memNo m.fwdFrom [((m.sqe.initReg (wB m.sqe.word)).toNat, 64)]
  else d

/-- Zeros held for a port are written once its Bus Master Enable is set. -/
def Dev.releaseZeros (d : Dev) (p : PortId) : Dev :=
  if !d.portOpen p then d else
  let mine := d.heldZeros.filter (fun z => decide (z.1 = portNo p))
  { mine.foldl (fun d z => d.onMemAt z.1 (fun m => writeRanges m z.2 (zeros (z.2.map Prod.snd).sum))) d with
    heldZeros := d.heldZeros.filter (fun z => decide (z.1 ≠ portNo p)) }

/-- The destination range of a GET is zeroed (R74): the list is read on as far as it is needed. -/
def Dev.zeroData (d : Dev) (c start len : Nat) : Dev := d.zeroRanges c (d.dataRanges c start len)

end Sys2Proof.Machine
end

