-- ==== Sys2Proof/Machine/Motion.lean ====
section
/-! DEFINITION. Requests to the profile generator (R266, R267) and the aborting of commands (R58, R96, R97). -/

namespace Sys2Proof.Machine

/-! ### Motion requests -/

/-- The context whose move instruction's profile is running. -/
def Tc.movingFor (t : Tc) : Option Nat :=
  if t.profile.kind = 0 then none else match t.profile.asker with
    | .insn c => some c
    | _ => none

/-- A running move instruction is superseded: it ends with S_MOVE_SUPERSEDED, recorded as a C0 event (R267). -/
def Dev.supersede (d : Dev) : Dev :=
  match d.tc.movingFor with
  | none => d
  | some c => (d.onTc (fun t => { t with profile := { t.profile with asker := .none } })).failWith c St.moveSuperseded

/-- A profile starts, stamped by the transport control engine (Table 4.1), superseding a running move instruction. Nothing moves while the
engine is not RUN (R267) but for the stop of a reaction (R276). -/
def Dev.startProfile (d : Dev) (kind step : Nat) (reverse toZero : Bool) (target : Int) (asker : Asker) : Dev :=
  if d.tc.st ≠ .run ∧ asker ≠ .stopFor then d else
  let d1 := (d.supersede.stamp 0x10).2
  d1.onTc (fun t => { t with profile := { t.profile with kind := kind, step := step, reverse := reverse, toZero := toZero
                                                         target := target, quick := false, asker := asker, tolCount := 0 } })

/-- A velocity profile to 0 (MOVE.STOP, end of run, turn). -/
def Dev.stopProfile (d : Dev) (asker : Asker) : Dev := d.startProfile 1 d.tc.profile.step d.tc.profile.reverse true 0 asker

/-- The tape comes to rest: a velocity profile to 0 where it moves. -/
def Dev.restTape (d : Dev) : Dev := if d.tc.profile.kind = 0 ∧ d.tc.profile.vel = 0 then d else d.stopProfile .none

/-- The tape is threaded by a forward move through the leader, or unthreaded by a move back (R78, log entry 138). -/
def Dev.threadTape (d : Dev) (back : Bool) : Dev := if d.tc.posValid ∧ !back then d else d.startProfile 1 0 back false 0 .scheduler

/-- Instructions that move the tape through the scheduler's profiles: it comes to rest when they are cut short. -/
def Flight.drivesTape : Flight → Bool
  | .format _ _ => true
  | .load _ _ => true
  | .thread => true
  | .unthread => true
  | _ => false

/-- A number clamped to the W32 range (R253). -/
def w32Clamp (x : Int) : Int := if x < -(2 ^ 31) then -(2 ^ 31) else if 2 ^ 31 - 1 < x then 2 ^ 31 - 1 else x

/-- Integer square root, bit by bit. -/
def isqrtGo (n : Nat) : Nat → Nat → Nat
  | 0, r => r
  | k + 1, r => if (r + 2 ^ k) * (r + 2 ^ k) ≤ n then isqrtGo n k (r + 2 ^ k) else isqrtGo n k r
def isqrt (n : Nat) : Nat := isqrtGo n 32 0

/-- A head seek begins (R268): the setpoint is the base and the pitch times the sheaf, in W32 mm. -/
def Dev.seekHead (d : Dev) (n : Nat) (seeker : Option Nat) : Dev :=
  let set := w32Clamp ((d.reg Reg.TC_HEADBASE).toInt + w32Clamp ((n : Int) * (d.reg Reg.TC_HEADPITCH).toInt))
  (d.stamp 0x10).2.onTc (fun t => { t with headSet := set, headSheaf := n, locked := false, seeking := true, seekFor := seeker, lockCount := 0 })

/-- The rejection of a request while the engine is not RUN (R267). -/
def Dev.motionRefused (d : Dev) : Bool := decide (d.tc.st ≠ .run)

/-! ### Aborting -/

/-- The transport side of a move, FORMAT or LOAD that is cut short: a velocity profile to 0 (R267); a head seek is given up. -/
def Dev.dropMotion (d : Dev) (c : Nat) : Dev :=
  let d1 := if d.tc.movingFor = some c then
      ((d.onTc (fun t => { t with profile := { t.profile with asker := .none } })).stopProfile .none) else d
  let d2 := if d1.tc.seekFor = some c then d1.onTc (fun t => { t with seekFor := none, seeking := false }) else d1
  if (d2.flightOf c).any Flight.drivesTape then d2.restTape else d2

/-- The destination range of a read that ends early is zeroed (R74, R97). -/
def Dev.zeroRead (d : Dev) (c : Nat) : Dev :=
  match (d.ctxs.get c).run with
  | .flight (.read r) =>
    if r.opcode = 0x42 then d.zeroData c r.dest r.want else if r.opcode = 0x44 then d.zeroRanges c [(r.dest, 64)] else d
  | _ => d

/-- What a COMPRESS or DECOMPRESS that ends early has written is zeroed (R74, R138): the output up to the last that was ready, as far as its list
has been walked. A raw frame among it marks the command (R139). -/
def Dev.zeroOutput (d : Dev) (c : Nat) : Dev :=
  let w := d.written c
  (d.zeroRanges c (subRanges (d.outputWalk c).ranges 0 w.1.length)).onCtx c (fun x => { x with info := x.info || w.2 })

/-- An instruction fails with nothing done and 0 in gd: GET, COMPRESS and DECOMPRESS (Table 3.7, R138). -/
def Dev.failZero (d : Dev) (c : Nat) (s : W16) (d0 d1 : W64 := 0) : Dev := d.finish c s (some 0) d0 d1

/-- A COMPRESS or DECOMPRESS fails as a whole (R138): its output is zeroed, and gd is 0. -/
def Dev.failOutput (d : Dev) (c : Nat) (s : W16) (d0 d1 : W64 := 0) : Dev := ((d.zeroOutput c).dropFlight c).failZero c s d0 d1

/-- A GET, STAT or LOCATE ends in failure with no byte written: a GET writes 0 to gd (Table 3.7), its pin and its reads end. -/
def Dev.refuseRead (d : Dev) (c : Nat) (s : W16) (d0 d1 : W64 := 0) (cat : Option Nat := none) (d2 : W32 := 0) : Dev :=
  match (d.ctxs.get c).run with
  | .flight (.read r) =>
    let get := r.opcode == 0x42
    ((d.when get (fun d => d.unpin r.slot)).endReads c).finish c s (if get then some 0 else none) d0 d1 none cat d2
  | _ => d

/-- A GET, STAT or LOCATE fails once it is under way: a GET zeroes its destination (R74). -/
def Dev.failRead (d : Dev) (c : Nat) (s : W16) (d0 d1 : W64 := 0) (cat : Option Nat := none) (d2 : W32 := 0) : Dev :=
  (d.zeroRead c).refuseRead c s d0 d1 cat d2

/-- The result of a command that is aborted: the pc of the first instruction of a program that did not finish (R58), 0 inline. -/
def Dev.abortResult (d : Dev) (m : Cmd) : W64 :=
  match m.ctx with
  | some c => if m.sqe.kind = 2 then toW64 (d.ctxs.get c).pc else 0
  | none => 0

/-- A command that has not reached its commit point ends at a decision stamp with a status (R58, R97): its context stops, its
write's intent and buffers go, the destination of a read, COMPRESS or DECOMPRESS is zeroed. -/
def Dev.cutCommand (d : Dev) (m : Cmd) (status : W16) (s : Stamp) : Dev :=
  match m.ctx with
  | none => (d.zeroStored m).latch m.id ⟨status, 0, 0, s⟩
  | some c =>
    let d1 := ((d.zeroStored m).zeroRead c).zeroOutput c
    let d2 := d1.latch m.id ⟨status, BitVec.ofNat 8 (b2n (d1.ctxs.get c).info), d.abortResult m, s⟩
    (((d2.dropMotion c).dropFlight c).releaseHandles c).freeCtx c

/-- Whether a command has reached its commit point. -/
def Cmd.committed (m : Cmd) : Bool := m.done.isSome

end Sys2Proof.Machine
end

