-- ==== Sys2Proof/Machine/Intents.lean ====
section
/-! DEFINITION. Submission entries (R29, R30), the commands outside OP5 (R93), the cascade member a command belongs to (R340), and
the intents of writes (R88, R117). -/

namespace Sys2Proof.Machine

/-! ### Submission entries -/

/-- The entry in 64 bytes (Table 2.3). -/
def sqeOf (bs : List Byte) : Sqe :=
  { cid := BitVec.ofNat 16 (leNat (sliceBytes bs 0 2)), kind := BitVec.ofNat 8 (leNat (sliceBytes bs 2 1))
    flags := BitVec.ofNat 8 (leNat (sliceBytes bs 3 1)), vh := toW32 (leNat (sliceBytes bs 4 4))
    word := toW64 (leNat (sliceBytes bs 8 8)), g0 := toW64 (leNat (sliceBytes bs 16 8))
    g1 := toW64 (leNat (sliceBytes bs 24 8)), g2 := toW64 (leNat (sliceBytes bs 32 8))
    g3 := toW64 (leNat (sliceBytes bs 40 8)), desc := toW64 (leNat (sliceBytes bs 48 8))
    len := toW64 (leNat (sliceBytes bs 56 8)) }

/-- The bytes of an entry (Table 2.3). -/
def Sqe.bytes (q : Sqe) : List Byte :=
  leBytes 2 q.cid.toNat ++ [q.kind, q.flags] ++ leBytes 4 q.vh.toNat ++ leBytes 8 q.word.toNat ++ leBytes 8 q.g0.toNat
    ++ leBytes 8 q.g1.toNat ++ leBytes 8 q.g2.toNat ++ leBytes 8 q.g3.toNat ++ leBytes 8 q.desc.toNat ++ leBytes 8 q.len.toNat

/-- ORDERED (Table 2.3); UNLOAD, SEAL and MIGRATE take effect as if it were set (R213). -/
def Sqe.ordered (q : Sqe) : Bool := q.flags.getLsbD 0 || (q.kind == 1 && (wOp q.word == 0x52 || wOp q.word == 0x54 || wOp q.word == 0x56))
/-- NO_INTR (Table 2.3). -/
def Sqe.noIntr (q : Sqe) : Bool := q.flags.getLsbD 2

/-- The entry check of the queue manager (R30). -/
def Sqe.accepted (q : Sqe) : Bool :=
  (q.kind == 1 || q.kind == 2) && (q.flags &&& 0xFA) == 0
    && !(q.kind == 2 && decide (q.word.toNat % 8 ≠ 0)) && decide (q.desc.toNat % 16 = 0)
    && !(q.desc != 0 && q.len == 0) && decide (q.len.toNat ≤ 2 ^ 48)

/-- Commands outside OP5: inline ABORT, SNAP and QSTAT (R93). -/
def Sqe.outsideFence (q : Sqe) : Bool := q.kind == 1 && (wOp q.word == 0x80 || wOp q.word == 0xA0 || wOp q.word == 0xA1)

/-! ### The member a command belongs to (R340, R343) -/

/-- Instructions that name an object in ga. -/
def objectOp (op : Nat) : Bool := op == 0x40 || op == 0x41 || op == 0x42 || op == 0x43 || op == 0x44 || op == 0x53

/-- Whether the ring works in widen mode. -/
def Dev.widen (d : Dev) : Bool := d.cs.inRing && d.cs.modeInForce == 2

/-- The member a command belongs to: of its object in widen mode, otherwise of its volume handle's bits 31:29. An ABORT is
resolved where it arrives. -/
def Dev.ownerOf (d : Dev) (q : Sqe) : Nat :=
  let self := d.clk.member.toNat
  if !d.cs.inRing || (q.kind == 1 && wOp q.word == 0x80) then self
  else if d.widen && q.kind == 1 && objectOp (wOp q.word) then (q.initReg (wA q.word)).toNat % max d.cs.kInForce 1
  else if q.vh = 0xFFFFFFFF then self
  else fieldOf q.vh 31 29

/-- A command that belongs to another member present in the ring is forwarded there (R340). -/
def Dev.forwardTo (d : Dev) (q : Sqe) : Option Nat :=
  let m := d.ownerOf q
  if m ≠ d.clk.member.toNat ∧ d.cs.present.contains m then some m else none

/-! ### Intents -/

/-- Bytes of a block size code, 0 standing for the volume's default (Table 3.7). -/
def blockBytes (code : Nat) : Nat := if code = 1 then 262144 else if code = 3 then 4194304 else 1048576

/-- The block size of the present write instruction. -/
def Dev.blockSizeOf (d : Dev) (x : Ctx) : Nat :=
  let code := fieldOf x.ir 11 10
  blockBytes (if code ≠ 0 then code else match d.vol.loaded with
    | some v => v.blockCode
    | none => 2)

/-- The kind of a write instruction. -/
def writeKind (op : Nat) : WKind := if op = 0x41 then .patch else if op = 0x43 then .delete else .put

/-- The intent of the write in context `c` (R88). A PATCH intent covers every byte below gb + gd. -/
def Dev.newIntent (d : Dev) (c : Nat) : Write :=
  let x := d.ctxs.get c
  let del := decide (wOp x.ir = 0x43)
  let slot := wImm x.ir % 1024
  { id := d.idx.nextWrite, cmd := x.cmd.getD 0, ctx := some c, group := d.reqOf c, vh := x.vh, obj := x.ga
    kind := writeKind (wOp x.ir), off := (if wOp x.ir = 0x41 then x.gb.toNat else 0), len := (if del then 0 else x.gd.toNat)
    cover := 0, slot := slot, keyId := (d.slot slot).keyId, blockSize := d.blockSizeOf x
    byRequest := wOp x.ir != 0x43 && x.ir.getLsbD 12, arrival := d.orderStamp c, data := [], bufs := [], passed := []
    durables := [], commit := none, sizeAfter := 0, durable := false, withdrawn := false, hold := false, beaten := none, pinned := false
    indexed := 0 }

/-- Whether the index has room for the intent of context `c` (R117). -/
def Dev.intentRoom (d : Dev) (c : Nat) : Bool := d.idx.room (d.ctxs.get c).vh (d.ctxs.get c).ga d.session

/-- An intent is entered, stamped by the version index (R88). -/
def Dev.enterIntent (d : Dev) (c : Nat) : Dev :=
  let w := d.newIntent c
  (d.stamp 8 w.arrival.after).2.onIdx (fun x => { x.enter w.vh w.obj d.session with writes := x.writes ++ [w], nextWrite := x.nextWrite + 1 })

/-- An inline PUT's slot is pinned and then its intent entered, when it is released to its context (R88, R155). A pin that is refused ends it at its
issue. -/
def Dev.enterPut (d : Dev) (c : Nat) : Dev :=
  let n := wImm (d.ctxs.get c).ir % 1024
  if ((d.slot n).refusal true).isNone then
    let d1 := d.pin n
    (d1.enterIntent c).onWrite d1.idx.nextWrite (fun w => { w with pinned := true })
  else d.enterIntent c

/-- The intent of a context that has not committed. -/
def Dev.intentIn (d : Dev) (c : Nat) : Option Write := d.idx.writes.find? (fun w => w.ctx == some c && w.commit.isNone)

end Sys2Proof.Machine
end

