-- ==== Sys2Proof/Machine/IvLog.lean ====
section
/-! DEFINITION. The IV log of the cipher complex (R148). -/

namespace Sys2Proof.Machine

/-- Change of one record. -/
def Dev.onRec (d : Dev) (id : Nat) (f : Rec → Rec) : Dev :=
  d.onCx (fun x => { x with recs := x.recs.map (fun r => if r.id = id then f r else r) })

/-- Of two records, the one with the earlier stamp. -/
def earlierRec (a : Option Rec) (r : Rec) : Option Rec :=
  match a with
  | none => some r
  | some x => if r.stamp.lt x.stamp then some r else some x

/-- Whether the log is enabled, and its port, base and size. -/
def Dev.ivlOn (d : Dev) : Bool := d.rf Reg.CX_IVLCTL 31 31 == 1
def Dev.ivlPort (d : Dev) : PortId := portOf (d.rf Reg.CX_IVLCTL 30 30)
def Dev.ivlSize (d : Dev) : Nat := 2 ^ d.rf Reg.CX_IVLCTL 3 0
def Dev.ivlTail (d : Dev) : Nat := d.w1f Reg.CX_IVLTAIL 0 14 0
def Dev.ivlHead (d : Dev) : Nat := d.rf Reg.CX_IVLHEAD 14 0

/-- An IV log entry (Table 7.2). -/
def Dev.ivlEntry (d : Dev) (r : Rec) : List Byte :=
  let first := (r.blocks.head?).bind (fun b => (d.write b.1).map (fun w => (w.obj, w.off + b.2.1 * w.blockSize)))
  leBytes 8 r.keyId.toNat ++ leBytes 4 r.pfx.toNat ++ leBytes 2 r.slot ++ leBytes 2 r.blocks.length ++ leBytes 8 r.counter
    ++ d.stampBytes r.stamp ++ leBytes 8 (first.map (fun x => x.1.toNat) |>.getD 0) ++ leBytes 6 (first.map Prod.snd |>.getD 0)
    ++ zeros 2 ++ leBytes 4 r.plain.length ++ zeros 4

/-- An entry that is not written: counted, with a C0 event. -/
def Dev.ivlLose (d : Dev) (r : Rec) : Dev :=
  (d.bumpW1 Reg.CX_IVLLOST 0 31 0).c0 ⟨0xB, 16⟩ 5 (toW64 r.slot) r.keyId

/-- A record's IV goes to the log where it is enabled: written at the tail; or lost where the log's port is lost, which disables the log, or the ring
is full. -/
def Dev.ivlWrite (d : Dev) (r : Rec) : Dev :=
  if !d.ivlOn then d
  else if !(d.port d.ivlPort).linkUp then (d.ivlLose r).setRf Reg.CX_IVLCTL 31 31 0
  else if (d.ivlTail + 1) % d.ivlSize = d.ivlHead then d.ivlLose r
  else
    (d.hostWrite d.ivlPort ((d.addrB Reg.CX_IVLBASE_LO 0 + 64 * d.ivlTail) % 2 ^ 64) (d.ivlEntry r)).setW1f Reg.CX_IVLTAIL 0 14 0
      ((d.ivlTail + 1) % d.ivlSize)

/-- Whether a record has its tag. -/
def Rec.sealed (r : Rec) : Bool :=
  match r.st with
  | .tagged => true
  | .placed _ => true
  | _ => false

/-- Closed records whose IV has not gone to the log, also those that have left for the tape. -/
def Cipher.toLog (x : Cipher) : List Rec := x.unlogged ++ x.recs.filter (fun r => r.st != .open && !r.logged)

/-- A record's IV has been dealt with. -/
def Dev.logged (d : Dev) (r : Rec) : Dev :=
  (d.onRec r.id (fun r => { r with logged := true })).onCx (fun x => { x with unlogged := x.unlogged.filter (fun q => decide (q.id ≠ r.id)) })

/-- Tagged records are logged in the order of their stamps: none before every closed record of an earlier stamp has its tag. -/
def Dev.logIvs (d : Dev) : Nat → Dev
  | 0 => d
  | n + 1 =>
    match d.cx.toLog.foldl earlierRec none with
    | some r =>
      if r.sealed ∧ (!d.ivlOn ∨ (d.port d.ivlPort).busMaster ∨ !(d.port d.ivlPort).linkUp) then ((d.ivlWrite r).logged r).logIvs n
      else d
    | none => d

/-- Every entry that can be written is. -/
def Dev.logDue (d : Dev) : Dev := d.logIvs d.cx.toLog.length

/-- The log through a port that is lost: the entries that were due are not written, and it is disabled. -/
def Dev.dropIvl (d : Dev) (p : PortId) : Dev :=
  if d.ivlOn ∧ d.ivlPort = p then
    (d.each (d.cx.toLog.filter Rec.sealed) (fun d r => (d.ivlLose r).logged r)).setRf Reg.CX_IVLCTL 31 31 0
  else d

end Sys2Proof.Machine
end

