-- ==== Sys2Proof/Machine/Queues.lean ====
section
/-! DEFINITION. Host ports, queue pairs, arbitration, interrupts, completions and notices (02_host_queues), and the dispatch of
commands to contexts (R51, R62, R63, R92). -/

namespace Sys2Proof.Machine

/-! ### Queue pairs -/

/-- Depth of a pair (QM_QCFG.depth_log2). -/
def Dev.depth (d : Dev) (q : Nat) : Nat := 2 ^ d.rfB Reg.QM_QCFG q 3 0

/-- Class of a pair: 0 URGENT, 1 HIGH, 2 MEDIUM, 3 LOW; pair 0 of a port is URGENT (R42). -/
def Dev.classOf (d : Dev) (q : Nat) : Nat := if q % 512 = 0 then 0 else d.rfB Reg.QM_QCFG q 5 4

/-- Entries of an SQ not yet fetched, and entries occupied in a CQ. -/
def Dev.sqEntries (d : Dev) (q : Nat) : Nat :=
  let p := d.pairs.get q
  (p.sqTail + d.depth q - p.sqHead) % d.depth q
def Dev.cqEntries (d : Dev) (q : Nat) : Nat :=
  let p := d.pairs.get q
  (p.cqTail + d.depth q - p.cqHead) % d.depth q

/-- Commands fetched from a pair of this device and not yet posted. -/
def Dev.unposted (d : Dev) (q : Nat) : List Cmd :=
  d.cmds.filter (fun m => decide (dqn m.port m.qid = q) && m.fwdFrom.isNone && !m.orphan)

/-- Room in a CQ for one entry more than those already promised (R37). -/
def Dev.cqRoom (d : Dev) (q : Nat) : Bool :=
  let held := if q % 512 = 0 then (d.port (portOf (q / 512))).held.length else 0
  decide ((d.unposted q).length + d.cqEntries q + held < d.depth q - 1)

/-- A deleting pair becomes disabled after its last completion (R28). -/
def Dev.settle (d : Dev) (q : Nat) : Dev :=
  if (d.pairs.get q).st = .deleting ∧ (d.unposted q).isEmpty then d.onPair q (fun p => { p with st := .disabled }) else d

/-! ### Interrupts (R45 to R47) -/

/-- Change of a vector. -/
def Dev.onVec (d : Dev) (p : PortId) (v : Nat) (f : Vec → Vec) : Dev := d.onPort p (fun x => { x with vecs := x.vecs.modify v f })

/-- A vector fires: its message is sent, or pends while it is masked; the coalescing state is cleared. -/
def Dev.fire (d : Dev) (p : PortId) (v : Nat) : Dev :=
  d.onVec p v (fun x => if x.masked then { x with pending := true, unsignalled := 0, firstAt := 0 }
    else { x with sent := x.sent + 1, unsignalled := 0, firstAt := 0 })

/-- Key of a vector's coalescing setting. -/
def vecBank (p : PortId) (v : Nat) : Nat := 1024 * portNo p + v

/-- An entry posted on a CQ is signalled (R46, R47): `urgent` fires at once (R48). -/
def Dev.signal (d : Dev) (p : PortId) (q : Nat) (noIntr urgent : Bool) : Dev :=
  let v := d.rfB Reg.QM_QCFG q 25 16
  if d.rfB Reg.QM_QCFG q 31 31 = 0 then d else
  if urgent then d.fire p v else
  if noIntr then d else
  let x := (d.port p).vecs.get v
  let d1 := d.onVec p v (fun x => { x with unsignalled := x.unsignalled + 1
                                           firstAt := if x.unsignalled = 0 then d.clk.now else x.firstAt })
  let t := d.rfB Reg.QM_VCOAL (vecBank p v) 23 8
  let n := d.rfB Reg.QM_VCOAL (vecBank p v) 7 0
  if t = 0 ∨ max n 1 ≤ x.unsignalled + 1 then d1.fire p v else d1

/-- COALESCE_TIMEOUT: the time since the first unsignalled entry has elapsed (R46). -/
def execCoalesceTimeout (p : PortId) (v : Nat) (s : State) : Out :=
  s.live (fun d =>
    let x := (d.port p).vecs.get v
    if 0 < x.unsignalled ∧ v < 1024 ∧ (d.port p).busMaster then
      (d.advanceTo (x.firstAt + d.rfB Reg.QM_VCOAL (vecBank p v) 23 8 * usTicks)).fire p v
    else d)

/-- A pending message of a vector that is not masked is sent while the port may make requests (R23, R45). -/
def Vec.release (x : Vec) (on : Bool) : Vec :=
  if x.pending && !x.masked && on then { x with pending := false, sent := x.sent + 1 } else x

/-- A vector is unmasked: a pending message is sent (R45), once Bus Master Enable is set (R23). -/
def Dev.unmask (d : Dev) (p : PortId) (v : Nat) : Dev :=
  d.onVec p v (fun x => ({ x with masked := false } : Vec).release (d.port p).busMaster)

/-- VECTOR_UNMASK. -/
def execVectorUnmask (p : PortId) (v : Nat) (s : State) : Out :=
  s.live (fun d => if (d.port p).linkUp ∧ v < 1024 then d.unmask p v else d)

/-! ### Notices (R48, R49) -/

/-- Kind code of a notice (Table 2.8). -/
def NoticeKind.code : NoticeKind → Nat
  | .throttleRequest => 1
  | .throttleEnd => 2
  | .lossNotice => 3
  | .errorRecord => 4
  | .drainShutdown => 5
  | .epochChange => 6

/-- The 32 bytes of a completion entry (Table 2.5). -/
def cqeBytes (cid : W16) (sqid : Nat) (status : W16) (phase : Bool) (info : Byte) (result : W64) (s : Stamp) (head : Nat) : List Byte :=
  leBytes 2 cid.toNat ++ leBytes 2 sqid ++ leBytes 2 status.toNat ++ [BitVec.ofNat 8 (b2n phase), info]
    ++ leBytes 8 result.toNat ++ leBytes 8 s.t ++ [s.o] ++ zeros 3 ++ leBytes 2 head ++ zeros 2

/-- An entry is written at the CQ tail, which advances and wraps with the phase (R35). -/
def Dev.writeCqe (d : Dev) (p : PortId) (qid : Nat) (cid : W16) (sqid : Nat) (status : W16) (info : Byte) (result : W64)
    (s : Stamp) : Dev :=
  let q := dqn p qid
  let x := d.pairs.get q
  let d1 := d.hostWrite p ((d.addrB Reg.QM_CQBASE_LO q + 32 * x.cqTail) % 2 ^ 64)
    (cqeBytes cid sqid status x.phase info result s x.sqHead)
  d1.onPair q (fun x => if x.cqTail + 1 = d.depth q then { x with cqTail := 0, phase := !x.phase }
    else { x with cqTail := x.cqTail + 1 })

/-- Whether a notice can be posted on a port now. -/
def Dev.noticeRoom (d : Dev) (p : PortId) : Bool :=
  (d.pairs.get (dqn p 0)).st == .active && (d.port p).busMaster && (d.port p).linkUp
    && decide ((d.unposted (dqn p 0)).length + d.cqEntries (dqn p 0) < d.depth (dqn p 0) - 1)

/-- A notice is written on the admin CQ of a port and fires its vector at once where ien is set (R48). -/
def Dev.writeNotice (d : Dev) (p : PortId) (n : Notice) : Dev :=
  (d.writeCqe p 0 (BitVec.ofNat 16 n.kind.code) 0xFFFF St.ok 0 n.result n.stamp).signal p (dqn p 0) false true

/-- Held notices are posted in order while there is room (R49). -/
def Dev.postHeld (d : Dev) (p : PortId) : Dev :=
  d.each (d.port p).held (fun d n =>
    if d.noticeRoom p then (d.onPort p (fun x => { x with held := x.held.drop 1 })).writeNotice p n else d)

/-- One notice comes to a port: posted, held, or not held with QM_NOTICE.overflow set (R49). An EPOCH_CHANGE
replaces one that is held (R293). -/
def Dev.noticeTo (d : Dev) (p : PortId) (n : Notice) : Dev :=
  if d.noticeRoom p ∧ (d.port p).held.isEmpty then d.writeNotice p n
  else
    let keep := if n.kind = .epochChange then (d.port p).held.filter (fun x => decide (x.kind ≠ .epochChange)) else (d.port p).held
    if keep.length < 64 then d.onPort p (fun x => { x with held := keep ++ [n] })
    else d.setW1 Reg.QM_NOTICE (portNo p) 31

/-- The units that stamp the entries of a CQ: commit points (Table 4.3), and on an admin CQ notices (R48). -/
def postUnits (qid : Nat) : List Nat := [1, 2, 3, 4, 5, 6, 8] ++ (if qid = 0 then [0x12, 0x14] else [])

/-- Whether no entry of a CQ can come any more with an earlier stamp (R36). -/
def Dev.postable (d : Dev) (qid : Nat) (s : Stamp) : Bool := (postUnits qid).all (fun u => d.unitPast u s)

/-- Whether a completion of an admin pair that can be posted has an earlier stamp: it is written first (R36). -/
def Dev.behindCompletion (d : Dev) (p : PortId) (s : Stamp) : Bool :=
  d.noticeRoom p && (d.unposted (dqn p 0)).any (fun m => match m.done with
    | some k => k.stamp.lt s
    | none => false)

/-- NOTICE_POST: the first notice that waits goes to both ports. -/
def execNoticePost (s : State) : Out :=
  s.live (fun d =>
    match d.notices with
    | [] => d
    | n :: t =>
      if d.er.mute || !d.postable 0 n.stamp || d.behindCompletion .a n.stamp || d.behindCompletion .b n.stamp then d
      else (({ d with notices := t }).noticeTo .a n).noticeTo .b n)

/-! ### Completions (R34 to R38, R41) -/

/-- Of two commands, the one with the earlier completion stamp. -/
def earlierDone (a : Option Cmd) (m : Cmd) : Option Cmd :=
  match m.done with
  | none => a
  | some k => match a with
    | none => some m
    | some b => match b.done with
      | some j => if k.stamp.lt j.stamp then some m else some b
      | none => some m

/-- The committed command of a queue with the earliest completion stamp. -/
def Dev.nextDone (d : Dev) (p : PortId) (qid : Nat) (remote : Bool) : Option Cmd :=
  (d.cmds.filter (fun m => decide (m.port = p) && decide (m.qid = qid) && (m.fwdFrom.isSome == remote))).foldl earlierDone none

/-- A command leaves the device: its completion has been written or counted. An ABORT that waits for it may finish. -/
def Dev.forget (d : Dev) (id : Nat) : Dev := { d with cmds := d.cmds.filter (fun m => decide (m.id ≠ id)) }

/-- A completion is counted as dropped (R24, R41). -/
def Dev.drop (d : Dev) (m : Cmd) : Dev :=
  ((d.bumpW1 Reg.QM_PORT (portNo m.port) 15 0).forget m.id).settle (dqn m.port m.qid)

/-- Whether the notice that waits first has an earlier stamp: it is written first (R36, R48). -/
def Dev.behindNotice (d : Dev) (t : Stamp) : Bool :=
  match d.notices with
  | n :: _ => n.stamp.lt t
  | [] => false

/-- Completion of a local command: counted where its port or its CQ is lost, otherwise written, once no earlier entry of the CQ can come. -/
def Dev.postLocal (d : Dev) (m : Cmd) (k : Completion) : Dev :=
  let q := dqn m.port m.qid
  let x := d.pairs.get q
  if m.orphan ∨ x.st = .disabled ∨ 2 ≤ x.errorCause then d.drop m
  else if !d.portOpen m.port || !d.postable m.qid k.stamp then d
  else if m.qid = 0 ∧ d.behindNotice k.stamp then d
  else
    (((d.writeCqe m.port m.qid m.sqe.cid m.qid k.status k.info k.result k.stamp).forget m.id).signal m.port q m.sqe.noIntr false).settle q

/-- The 32-byte CQE that travels as RESULT. It carries the device queue number where a posted entry has its queue; phase and head are those of
the receiving member's queue (R340). -/
def resultBytes (m : Cmd) (k : Completion) : List Byte := cqeBytes m.sqe.cid (dqn m.port m.qid) k.status false k.info k.result k.stamp 0

/-- The pair number that marks a set-wide operation run for the master (R343): no queue has it. -/
def setQid : Nat := 512

/-- What a member tells the master of a set-wide operation that has ended. -/
def setOpBytes (m : Cmd) (k : Completion) : List Byte :=
  if k.status = St.ok then [1, BitVec.ofNat 8 (wOp m.sqe.word)] else [2, BitVec.ofNat 8 (wOp m.sqe.word)] ++ leBytes 2 k.status.toNat

/-- The completion of a command forwarded from a member returns as RESULT once its host-memory writes are acknowledged (R340). -/
def Dev.postRemote (d : Dev) (m : Cmd) (k : Completion) (frm : Nat) : Dev :=
  if d.cs.unacked.any (fun u => u.kind == .dmaWr && u.dst == frm) then d
  else
    let sd := d.stamp 0x15 k.stamp.after
    (if m.qid = setQid then sd.2.send .setOp frm sd.1 (setOpBytes m k) else sd.2.send .result frm sd.1 (resultBytes m k)).forget m.id

/-- COMPLETION_POST: the committed completion of a queue with the earliest stamp is written, counted as dropped, or returned to
the member its command came from (R36, R94). -/
def execCompletionPost (p : PortId) (qid : Nat) (s : State) : Out :=
  s.live (fun d =>
    if d.er.mute then d else
    match d.nextDone p qid false with
    | some m => (match m.done with
        | some k => d.postLocal m k
        | none => d)
    | none =>
      match d.nextDone p qid true with
      | some m => (match m.done, m.fwdFrom with
          | some k, some frm => d.postRemote m k frm
          | _, _ => d)
      | none => d)

/-- Detail word 0 of a ports-and-queues record (Table 13.3, category 0x10). -/
def queueD0 (p : PortId) (qid : Nat) : W64 := toW64 (portNo p * 2 ^ 8 + qid * 2 ^ 32)

/-- A pair's CQ takes no more entries: state error, cause 2 or 1 kept, a C2 record (R41). -/
def Dev.cqFails (d : Dev) (q : Nat) (rep : Report) : Dev :=
  (d.onPair q (fun x => { x with st := .error, errorCause := if x.errorCause = 1 then 3 else 2 })).note rep

/-- Whether the next entry of a port's admin CQ is a notice: held for the port, or the first that waits, ahead of any completion (R36, R49). -/
def Dev.noticeNext (d : Dev) (p : PortId) : Bool :=
  d.noticeRoom p && (!(d.port p).held.isEmpty || (match d.notices with
    | n :: _ => !d.behindCompletion p n.stamp
    | [] => false))

/-- QUEUE_MEMORY_ERROR (R41). The pair's cause 3 stands for a CQ write failure after an SQ read failure; it reads as 1. A notice whose write
fails is held for the port (R49). -/
def execQueueMemoryError (p : PortId) (qid : Nat) (cqWrite : Bool) (s : State) : Out :=
  s.live (fun d =>
    let q := dqn p qid
    let x := d.pairs.get q
    let rep : Report := { cls := .c2, unit := ⟨qmUnit p, 0xFFFF⟩, cat := 0x10, d0 := queueD0 p qid, d1 := (if cqWrite then 2 else 1), dqn := q }
    if 512 ≤ qid ∨ x.st = .disabled ∨ 2 ≤ x.errorCause then d else
    if cqWrite then
      if qid = 0 ∧ d.noticeNext p then d.cqFails q rep else
      match d.nextDone p qid false with
      | none => d
      | some m => if m.orphan then d else (d.cqFails q rep).drop m
    else if x.st = .active ∧ 0 < d.sqEntries q then
      (d.onPair q (fun x => { x with st := .error, errorCause := 1 })).note rep
    else d)

/-! ### Doorbells (R39, R40) -/

/-- A refused doorbell write: the first is captured, each is a C0 event. -/
def Dev.refuseDoorbell (d : Dev) (p : PortId) (cq : Bool) (qid idx : Nat) : Dev :=
  let b := portNo p
  let d1 := if d.w1f Reg.QM_DBERR b 31 31 = 1 then d else
    (((d.setW1f Reg.QM_DBERR b 31 31 1).setW1f Reg.QM_DBERR b 30 30 (b2n cq)).setW1f Reg.QM_DBERR b 24 16 qid).setW1f
      Reg.QM_DBERR b 13 0 idx
  d1.note { cls := .c0, unit := ⟨qmUnit p, 0xFFFF⟩, cat := 0x10, d0 := queueD0 p qid, d1 := toW64 idx }

/-- A doorbell write (R39): `cq` for a CQ head. -/
def Dev.doorbell (d : Dev) (p : PortId) (cq : Bool) (qid : Nat) (v : W32) : Dev :=
  if d.er.failed then d else
  let q := dqn p qid
  let x := d.pairs.get q
  let n := d.depth q
  let idx := fieldOf v 13 0
  if x.st = .deleting then d else
  if x.st ≠ .active ∨ fieldOf v 31 14 ≠ 0 ∨ n ≤ idx then d.refuseDoorbell p cq qid idx
  else if cq then
    if d.cqEntries q < (idx + n - x.cqHead) % n then d.refuseDoorbell p cq qid idx
    else
      let d1 := d.onPair q (fun x => { x with cqHead := idx })
      if qid = 0 then d1.postHeld p else d1
  else if n - 1 - d.sqEntries q < (idx + n - x.sqTail) % n then d.refuseDoorbell p cq qid idx
  else d.onPair q (fun x => { x with sqTail := idx })

/-- SQ_TAIL_DOORBELL and CQ_HEAD_DOORBELL: host writes of the doorbells of a port. -/
def execSqTailDoorbell (p : PortId) (qid : BitVec 9) (v : W32) (s : State) : Out :=
  s.live (fun d => d.doorbell p false qid.toNat v)
def execCqHeadDoorbell (p : PortId) (qid : BitVec 9) (v : W32) (s : State) : Out :=
  s.live (fun d => d.doorbell p true qid.toNat v)

/-! ### Creating and deleting a pair (R26, R28) -/

/-- The result of a create: the first failing check, 0 where it succeeds. -/
def Dev.createCheck (d : Dev) (q : Nat) : Nat :=
  let dl := d.rfB Reg.QM_QCFG q 3 0
  if (d.pairs.get q).st ≠ .disabled then 1 else
  if dl < 4 ∨ 14 < dl then 2 else
  if d.rfB Reg.QM_SQBASE_LO q 11 0 ≠ 0 then 3 else
  if d.rfB Reg.QM_CQBASE_LO q 11 0 ≠ 0 then 4 else 0

/-- A write of QM_QCTL.op for a pair: 1 create, 2 delete. -/
def Dev.queueOp (d : Dev) (p : PortId) (qid op : Nat) : Dev :=
  let q := dqn p qid
  if op = 1 then
    let r := d.createCheck q
    if r ≠ 0 then d.onPair q (fun x => { x with createResult := r })
    else
      let d1 := d.onPair q (fun _ => { Pair.reset with st := .active, phase := true })
      if qid = 0 then d1.postHeld p else d1
  else if op = 2 then
    let x := d.pairs.get q
    if x.st = .active ∨ x.st = .error then (d.onPair q (fun x => { x with st := .deleting })).settle q else d
  else d

/-! ### Arbitration (R42 to R44) -/

/-- Commands in the pending store. -/
def Cmd.stored (m : Cmd) : Bool := m.ctx.isNone && m.done.isNone && m.fwdTo.isNone

/-- Whether the pending store has room for an entry of a class (R43). -/
def Dev.storeRoom (d : Dev) (cls : Nat) : Bool :=
  decide ((d.cmds.filter Cmd.stored).length < (if cls = 0 then 4096 else 4032))

/-- Depth of the pacing bucket and its refill, in 1/1,024 bytes (R323). -/
def Dev.paceRate (d : Dev) : Nat :=
  let r := d.rf Reg.HK_THRRATE 17 0
  if r = 0 then 1000 else r
def Dev.paceDepth (d : Dev) : Int := d.paceRate * 1000 * 1024 * (max 1 (d.rf Reg.HK_THRCFG 7 0) : Nat)

/-- The bucket brought up to the present. -/
def Dev.refill (d : Dev) : Dev :=
  d.onArb (fun a => { a with tokens := min (d.paceDepth) (a.tokens + (d.paceRate * (d.clk.now - a.tokenAt) : Nat)), tokenAt := d.clk.now })

/-- Whether pacing lets an entry of a class be fetched (R44, R323). -/
def Dev.paced (d : Dev) (cls : Nat) : Bool := cls != 0 && d.arb.pacing && decide (d.arb.tokens < 0)

/-- Whether a pair may be fetched from now (R42). -/
def Dev.eligible (d : Dev) (q : Nat) : Bool :=
  let p := portOf (q / 512)
  let x := d.pairs.get q
  let c := d.classOf q
  x.st == .active && decide (0 < d.sqEntries q) && d.cqRoom q && !d.paced c && d.storeRoom c && (d.port p).busMaster
    && (d.port p).linkUp && d.cs.st != .joining && (!d.er.halted || c == 0)

/-- Pairs that are not disabled. -/
def Dev.livePairs (d : Dev) : List Nat := tableKeys d.pairs

/-- The next eligible pair of a class after the one last served, in round robin by device queue number. -/
def Dev.nextOf (d : Dev) (cls : Nat) : Option Nat :=
  let last := d.arb.lastServed.get cls
  let ok := d.livePairs.filter (fun q => decide (d.classOf q = cls) && d.eligible q)
  match ok.find? (fun q => decide (last < q)) with
  | some q => some q
  | none => ok.head?

/-- Weight of a class; 0 counts as 1. -/
def Dev.weight (d : Dev) (cls : Nat) : Nat :=
  max 1 (if cls = 1 then d.rf Reg.QM_ARB 7 0 else if cls = 2 then d.rf Reg.QM_ARB 15 8 else d.rf Reg.QM_ARB 23 16)

/-- Credit of a class. -/
def Arb.credit (a : Arb) (cls : Nat) : Nat := if cls = 1 then a.credHigh else if cls = 2 then a.credMed else a.credLow

/-- Credit of a class spent. -/
def Arb.spend (a : Arb) (cls n : Nat) : Arb :=
  if cls = 1 then { a with credHigh := a.credHigh - n } else
  if cls = 2 then { a with credMed := a.credMed - n } else
  if cls = 3 then { a with credLow := a.credLow - n } else a

/-- A round begins: each class has its weight in credit. -/
def Dev.reload (d : Dev) : Dev := d.onArb (fun a => { a with credHigh := d.weight 1, credMed := d.weight 2, credLow := d.weight 3 })

/-- The class to serve now: URGENT first, then the first of HIGH, MEDIUM and LOW with credit and an eligible queue. -/
def Dev.pickClass (d : Dev) : Option Nat :=
  if (d.nextOf 0).isSome then some 0 else
  [1, 2, 3].find? (fun c => decide (0 < d.arb.credit c) && (d.nextOf c).isSome)

/-- The record of an entry that fails its check (R30, R421). -/
def Dev.entryRecord (d : Dev) (p : PortId) (q : Nat) (e : Sqe) : Dev :=
  d.note { cls := .c2, unit := ⟨qmUnit p, 0xFFFF⟩, cat := 1, d0 := toW64 (wOp e.word * 65536), d1 := e.word
           status := St.illegalInstruction, dqn := q, cid := e.cid }

/-- A fetched entry enters the device (R30, R86): arrival stamp, check, then the pending store or another member (R340). -/
def Dev.accept (d : Dev) (p : PortId) (qid : Nat) (e : Sqe) : Dev :=
  let sd := d.stamp (qmUnit p)
  let id := sd.2.arb.nextCmd
  let d1 := sd.2.onArb (fun a => { a with nextCmd := id + 1 })
  let m : Cmd := { id := id, port := p, qid := qid, sqe := e, arrival := sd.1, ctx := none, done := none, fwdTo := none
                   fwdFrom := none, orphan := false }
  if !e.accepted then
    let fd := d1.stamp (qmUnit p) sd.1.after
    ({ fd.2 with cmds := fd.2.cmds ++ [{ m with done := some ⟨St.illegalInstruction, 0, 0, fd.1⟩ }] }).entryRecord p (dqn p qid) e
  else
    match d1.forwardTo e with
    | some t =>
      let fd := d1.stamp 0x15 sd.1.after
      (({ fd.2 with cmds := fd.2.cmds ++ [{ m with fwdTo := some t }] }).send .forward t fd.1
        (leBytes 8 sd.1.t ++ [sd.1.o] ++ leBytes 2 (dqn p qid) ++ e.bytes)).count 0xC0 0 3 1
    | none => { d1 with cmds := d1.cmds ++ [m] }

/-- One entry of a pair is fetched: read from the SQ at its head, which advances; pacing pays for its data (R323). -/
def Dev.fetchOne (d : Dev) (q : Nat) : Dev :=
  let p := portOf (q / 512)
  let x := d.pairs.get q
  let e := sqeOf (d.hostRead p ((d.addrB Reg.QM_SQBASE_LO q + 64 * x.sqHead) % 2 ^ 64) 64)
  let d1 := (d.onPair q (fun x => { x with sqHead := (x.sqHead + 1) % d.depth q })).accept p (q % 512) e
  if d.arb.pacing && d.classOf q != 0 then
    d1.onArb (fun a => { a with tokens := a.tokens - 1024 * (max e.len.toNat 4096 : Nat) })
  else d1

/-- Up to `n` entries of a pair are fetched while it stays eligible; how many were. -/
def Dev.fetchN (d : Dev) (q : Nat) : Nat → Nat × Dev
  | 0 => (0, d)
  | n + 1 =>
    if d.eligible q then
      let r := (d.fetchOne q).fetchN q n
      (r.1 + 1, r.2)
    else (0, d)

/-- One decision of the arbiter (R42): a class, its next queue, and a burst. -/
def Dev.serve (d : Dev) (mem : HostWrites) : Dev :=
  let d1 := if d.pickClass.isNone then d.reload else d
  match d1.pickClass with
  | none => d
  | some c =>
    match d1.nextOf c with
    | none => d
    | some q =>
      let want := min (d1.rf Reg.QM_ARB 26 24 + 1) (d1.sqEntries q)
      let n := if c = 0 then want else min want (d1.arb.credit c)
      let r := (d1.place (portOf (q / 512)) mem).fetchN q n
      r.2.onArb (fun a => { a.spend c r.1 with lastServed := a.lastServed.set c q })

/-- SQE_FETCH. -/
def execSqeFetch (mem : HostWrites) (s : State) : Out := s.work (fun d => (d.refill).serve mem)

/-! ### Dispatch (R51, R62, R63, R92) -/

/-- Whether a command of a later arrival waits on one of an earlier arrival in its volume group (R92, R93). -/
def fenceBetween (early late : Cmd) : Bool :=
  early.done.isNone && early.sqe.vh == late.sqe.vh && early.arrival.lt late.arrival && !early.sqe.outsideFence
    && !late.sqe.outsideFence && (early.sqe.ordered || late.sqe.ordered)

/-- Whether every member's arrival horizon has passed a stamp (R341). -/
def Dev.horizonsPassed (d : Dev) (s : Stamp) : Bool :=
  !d.cs.inRing || d.others.all (fun m => decide (s.t < d.cs.horizons.get m))

/-- Whether the ORDERED fence holds a stored command (R92). In a ring an earlier command of any member may still be on its way, so that a command
waits for every horizon (R341). -/
def Dev.fenceHeld (d : Dev) (m : Cmd) : Bool :=
  d.cmds.any (fun e => fenceBetween e m) || (!m.sqe.outsideFence && !d.horizonsPassed m.arrival)

/-- Whether a command was fetched from an URGENT queue of this device. -/
def Dev.urgent (d : Dev) (m : Cmd) : Bool := m.fwdFrom.isNone && d.classOf (dqn m.port m.qid) == 0

/-- Whether a context may take commands now: free, not reserved for recovery, its engine and cluster in service. -/
def Dev.openCtx (d : Dev) (c : Nat) : Bool :=
  decide (c < 255) && (d.ctxs.get c).run == .free && !d.isFenced (engineUnit c) && !d.isFenced ⟨clusterUnit c, 0xFFFF⟩
    && !(d.en.clusters.get (c / 64)).quiescing

/-- Contexts kept for URGENT commands: context 7 of engines 0 to 7 (R62). -/
def urgentOnly (c : Nat) : Bool := c % 8 == 7 && decide (c / 8 < 8)

/-- Whether a context may take a command. -/
def Dev.mayTake (d : Dev) (c : Nat) (m : Cmd) : Bool := d.openCtx c && (!urgentOnly c || d.urgent m)

/-- Free contexts of an engine that may take a command. Whether R63 counts a reserved context that may not take it is not said; the model does not
(log entry 145). -/
def Dev.freeIn (d : Dev) (e : Nat) (m : Cmd) : Nat := ((List.range 8).filter (fun i => d.mayTake (8 * e + i) m)).length

/-- The best of the engines by free contexts, the lowest index among equals. -/
def bestEngine (free : Nat → Nat) (es : List Nat) : Option Nat :=
  es.foldl (fun a e => if free e = 0 then a else match a with
    | none => some e
    | some b => if free b < free e then some e else some b) none

/-- The engine for a command (R63). -/
def Dev.chooseEngine (d : Dev) (m : Cmd) : Option Nat :=
  let cached := (List.range 32).filter (fun e =>
    m.sqe.kind == 2 && ((d.engines.get e).find m.memNo (lineOf m.sqe.word.toNat)).isSome)
  match bestEngine (fun e => d.freeIn e m) cached with
  | some e => some e
  | none => bestEngine (fun e => d.freeIn e m) (List.range 32)

/-- Whether a stored command may start now. -/
def Dev.startable (d : Dev) (m : Cmd) : Bool := m.stored && !d.fenceHeld m && (!d.er.halted || m.sqe.outsideFence)

/-- The earliest-arrived of two commands. -/
def earlierArrival (a : Option Cmd) (m : Cmd) : Option Cmd :=
  match a with
  | none => some m
  | some b => if m.arrival.lt b.arrival then some m else some b

/-- The command a context takes next (R63). -/
def Dev.nextFor (d : Dev) (c : Nat) : Option Cmd :=
  (d.cmds.filter (fun m => d.startable m && d.mayTake c m)).foldl earlierArrival none

/-- The registers of a context that takes a command (R51). -/
def Ctx.setup (m : Cmd) : Ctx :=
  { Ctx.reset with cmd := some m.id, vh := m.sqe.vh
                   g := ((((Table.empty.set 0 m.sqe.g0).set 1 m.sqe.g1).set 2 m.sqe.g2).set 3 m.sqe.g3).set 15 0xFFFFFFFFFFFFFFFF }

/-- A context takes a command: set up, and its first word fetched (R51, R55, R56). The word of an inline command that is
illegal ends it before it has any effect (R52); the pin and the intent of an inline PUT are taken here (R88, R155). -/
def Dev.takeCmd (d : Dev) (c : Nat) (m : Cmd) : Dev :=
  let d1 := { d with cmds := d.cmds.map (fun (x : Cmd) => if x.id = m.id then { x with ctx := some c } else x) }
  let d2 := d1.onCtx c (fun _ => Ctx.setup m)
  if m.sqe.kind = 2 then d2.goTo c 0
  else
    let d3 := d2.present c m.sqe.word
    if !legalInline m.sqe.word then (d3.failRecord c St.illegalInstruction false 0 0).endCmd c St.illegalInstruction 0
    else if wOp m.sqe.word = 0x40 then d3.enterPut c else d3

/-- Whether an inline PUT can be pinned and the index take its intent at its release; otherwise the release stalls (R88, R117, R155). -/
def Dev.releaseRoom (d : Dev) (m : Cmd) : Bool :=
  !(m.sqe.kind == 1 && wOp m.sqe.word == 0x40)
    || (d.idx.room m.sqe.vh (m.sqe.initReg (wA m.sqe.word)) d.session && (d.slot (wImm m.sqe.word % 1024)).pinRoom)

/-- CONTEXT_DISPATCH: context `c` takes the earliest command it may take, where its engine is the one R63 chooses. -/
def execContextDispatch (c : Nat) (s : State) : Out :=
  s.work (fun d =>
    match d.nextFor c with
    | none => d
    | some m =>
      if d.chooseEngine m = some (engOf c) ∧ (d.engines.get (engOf c)).asleep.isNone ∧ d.releaseRoom m then d.takeCmd c m else d)

/-- Contexts of an engine that wait for a line. -/
def Dev.waitersOn (d : Dev) (e p l : Nat) : List Nat :=
  ((List.range 8).map (fun i => 8 * e + i)).filter (fun c => (d.ctxs.get c).run == .line l && d.memNo c == p)

/-- Whether requests can be made for a host memory. -/
def Dev.memReachable (d : Dev) (p : Nat) : Bool := decide (2 ≤ p) || ((d.port (portOf p)).busMaster && (d.port (portOf p)).linkUp)

/-- PROGRAM_LINE_ARRIVE: the line an engine asked for first comes back (R60, R79). -/
def execProgramLineArrive (e : Nat) (mem : HostWrites) (ok : Bool) (s : State) : Out :=
  s.work (fun d =>
    match (d.engines.get e).reading with
    | [] => d
    | (p, l, _) :: rest =>
      if e < 32 ∧ d.memReachable p then
        let d1 := (d.onMemAt p (fun m => placeCells m mem)).onEngine e (fun x => { x with reading := rest })
        let ws := d1.waitersOn e p l
        if ok then
          (d1.onEngine e (fun x => x.insert ⟨p, l, readBytes (d1.memAt p) l 128⟩)).each ws (fun d c => d.fetch c)
        else d1.each ws (fun d c => d.fault c St.programFault (toW64 (d.ctxs.get c).pc))
      else d)

/-! ### Ports (R23, R24) -/

/-- Whether a register copy belongs to a port and returns to its reset value when the port is lost (R24, R25). -/
def portCopy (p : PortId) (k : Nat) : Bool :=
  let a := k % 2 ^ 26
  let b := k / 2 ^ 26
  if a = Reg.QM_QSEL ∨ a = Reg.QM_VSEL ∨ a = Reg.QM_DBERR then b == portNo p
  else if a = Reg.QM_VCOAL then b / 1024 == portNo p
  else decide (Reg.QM_SQBASE_LO ≤ a) && decide (a ≤ Reg.QM_QCFG) && b / 512 == portNo p

/-- A port's queues, MSI-X table and per-port QM registers return to their reset values (R24, step 6). -/
def Dev.resetPort (d : Dev) (p : PortId) : Dev :=
  ({ d with regs := ⟨d.regs.cells.filter (fun c => !portCopy p c.1)⟩
            w1c := ⟨d.w1c.cells.filter (fun c => !portCopy p c.1)⟩
            pairs := ⟨d.pairs.cells.filter (fun c => decide (c.1 / 512 ≠ portNo p))⟩ }).onPort p (fun x =>
    { x with vecs := Table.empty, busMaster := false })

/-- A decision that ends an uncommitted command: here for a local one, at its owner for a forwarded one (R340). `cause` is the T that the work
which asks for it gives (R82). -/
def Dev.decideCut (d : Dev) (m : Cmd) (status : W16) (cause : Nat) : Dev :=
  let sd := d.stamp (qmUnit m.port) (max m.arrival.after cause)
  match m.fwdTo with
  | some t => sd.2.send .abortDecide t sd.1 (leBytes 2 m.sqe.cid.toNat ++ leBytes 2 (dqn m.port m.qid))
  | none => sd.2.cutCommand m status sd.1

/-- The loss of a port's commands (R24, steps 1 to 4): each without a commit point ends with S_ABORTED; none of their
completions is written to host memory. -/
def Dev.losePort (d : Dev) (p : PortId) : Dev :=
  let mine := fun (m : Cmd) => decide (m.port = p) && m.fwdFrom.isNone
  let d1 := { d with cmds := d.cmds.map (fun m => if mine m then { m with orphan := true } else m) }
  let d2 := d1.each (d1.cmds.filter (fun m => mine m && m.done.isNone)) (fun d m => d.decideCut m St.aborted 0)
  { d2 with engines := ⟨(d2.engines.cells.map (fun c => (c.1, { c.2 with reading := c.2.reading.filter (fun r => decide (r.1 ≠ portNo p)) }))).filter
      (fun c => decide (c.2 ≠ Engine.reset))⟩ }

/-- Whether a cause of port loss takes the link down. -/
def dropsLink : LossCause → Bool
  | .flr => false
  | .d3hot => false
  | _ => true

/-- Zeros held for a port that is lost are not written. -/
def Dev.dropZeros (d : Dev) (p : PortId) : Dev := { d with heldZeros := d.heldZeros.filter (fun z => decide (z.1 ≠ portNo p)) }

/-- PORT_LOSS (R24). The endpoint's configuration returns to its reset values; D3hot is where the host placed the function. -/
def execPortLoss (p : PortId) (cause : LossCause) (s : State) : Out :=
  s.live (fun d =>
    if !(d.port p).linkUp then d else
    let d1 := d.onPort p (fun x => { x with busMaster := false, cfg := { PciCfg.reset with d3hot := decide (cause = .d3hot) } })
    let d2 := if dropsLink cause then d1.onPort p (fun x => { x with linkUp := false, flit := false, speed := 0, width := 0 }) else d1
    ((((d2.losePort p).dropZeros p).dropIvl p).note { cls := .c0, unit := ⟨qmUnit p, 0xFFFF⟩, cat := 0x10, d0 := queueD0 p 0 }).resetPort p)

/-- PORT_LINK_UP: a port reaches L0, no earlier than the end of start-up step 1 (R393). -/
def execPortLinkUp (p : PortId) (flit : Bool) (speed width : Nat) (s : State) : Out :=
  s.live (fun d =>
    if d.fu.loadDone then d.onPort p (fun x =>
      { x with linkUp := true, flit := flit, speed := speed % 16, width := width % 32, cfg := { x.cfg with d3hot := false } }) else d)

/-- The messages a port holds back while Bus Master Enable is clear go out (R23). -/
def Dev.releaseVecs (d : Dev) (p : PortId) : Dev :=
  d.onPort p (fun x => { x with vecs := ⟨x.vecs.cells.map (fun (c : Nat × Vec) => (c.1, c.2.release x.busMaster))⟩ })

/-- BUS_MASTER_ENABLE: the host sets or clears Bus Master Enable of a port (R23); zeros, messages, notices and IV log entries that were held go
out. -/
def execBusMasterEnable (p : PortId) (on : Bool) (s : State) : Out :=
  s.live (fun d =>
    if (d.port p).linkUp then (((d.onPort p (fun x =>
      { x with busMaster := on, cfg := { x.cfg with d3hot := x.cfg.d3hot && !on } })).releaseVecs p).releaseZeros p).postHeld p |>.logDue else d)

end Sys2Proof.Machine
end

