-- ==== Sys2Proof/Machine/Ingest.lean ====
section
/-! DEFINITION. Page range list segments and ingest FIFOs (R32, R33, R108, R122 to R125): host data on its way into galleys, compression
blocks and DECOMPRESS input. -/

namespace Sys2Proof.Machine

/-! ### Page range lists -/

/-- Whether a flight takes data from the list, or writes data to it. -/
def usesData : Flight → Bool
  | .write _ => true
  | .read r => r.opcode == 0x42
  | .compress _ _ _ _ => true
  | .decompress _ _ _ _ => true
  | _ => false

/-- Whether a flight writes an output list. -/
def usesOutput : Flight → Bool
  | .compress _ _ _ _ => true
  | .decompress _ _ _ _ => true
  | _ => false

/-- A list walk fault, or a host access that the host completes with an error, ends the instruction (R33); what a GET, COMPRESS or
DECOMPRESS has written is zeroed and its gd is 0 (R74, R138, Table 3.7). -/
def Dev.listFault (d : Dev) (c : Nat) : Dev :=
  match d.flightOf c with
  | some (.read _) => d.failRead c St.programFault
  | some (.compress _ _ _ _) => d.failOutput c St.programFault
  | some (.decompress _ _ _ _) => d.failOutput c St.programFault
  | _ => (d.dropFlight c).failWith c St.programFault

/-- A walk takes one segment's entries: the walk it becomes, none for a fault. -/
def takeSegment (m : Table Byte 0) (len : Nat) (w : Walk) : Option Walk :=
  match Walk.run m len w.room w with
  | .more v => some v
  | .segment v => some v
  | .complete v => some v
  | .fault => none

/-- PAGE_RANGE_SEGMENT_ARRIVE: one segment of the list that context `c` walks is read (R32, R33). The output list of COMPRESS and
DECOMPRESS describes gb bytes and is walked once the data's list is complete. -/
def execPageRangeSegmentArrive (c : Nat) (mem : HostWrites) (ok : Bool) (s : State) : Out :=
  s.flow (fun d =>
    match d.flightOf c with
    | none => d
    | some f =>
      if !usesData f || !d.mayRequest c then d else
      let w := d.dataWalk c
      if w.total < d.dataLen c then
        let d1 := (d.placeFor c mem).ask c w.next (16 * w.room)
        if !ok then d1.listFault c else
        match takeSegment (d1.mem c) (d1.dataLen c) w with
        | some v => d1.onCtx c (fun x => { x with walk := v })
        | none => d1.listFault c
      else
        let cap := (d.ctxs.get c).gb.toNat
        let o := d.outputWalk c
        if usesOutput f && decide (o.total < cap) then
          let d1 := (d.placeFor c mem).ask c o.next (16 * o.room)
          if !ok then d1.listFault c else
          match takeSegment (d1.mem c) cap o with
          | some v => d1.onCtx c (fun x => { x with owalk := v })
          | none => d1.listFault c
        else d)

/-! ### Units (R122, R125) -/

/-- What a context takes in: its bytes wanted, its unit size, and the units already moved on. -/
structure Intake where
  need : Nat
  unit : Nat
  moved : Nat
  deriving DecidableEq, Repr

/-- Block size of COMPRESS (CM_CTL.host_block). -/
def Dev.hostBlock (d : Dev) : Nat := blockBytes (d.rf Reg.CM_CTL 30 29)

/-- The intake of a context. -/
def Dev.intake (d : Dev) (c : Nat) : Option Intake :=
  match d.flightOf c with
  | some (.write id) => (d.write id).map (fun w => ⟨w.len, w.blockSize, w.data.length⟩)
  | some (.compress _ size need taken) => some ⟨need, size, taken⟩
  | some (.decompress _ need taken _) => some ⟨need, 1048576, taken⟩
  | _ => none

/-- The FIFOs of a context, by key. -/
def Dev.fifosOf (d : Dev) (c : Nat) : List (Nat × Fifo) :=
  d.cm.fifos.cells.filterMap (fun kf => kf.2.bind (fun f => if f.ctx = c then some (kf.1, f) else none))

/-- Bytes of a context's stream that have arrived. -/
def Dev.arrived (d : Dev) (c : Nat) (i : Intake) : Nat := i.moved + ((d.fifosOf c).map (fun kf => kf.2.bytes.length)).sum

/-- A free FIFO of a port. -/
def Dev.freeFifo (d : Dev) (p : PortId) : Option Nat :=
  ((List.range 32).find? (fun i => (d.cm.fifos.get (32 * portNo p + i)).isNone)).map (fun i => 32 * portNo p + i)

/-- FIFOs a command may hold at once (CM_FIFOCFG.max_per_cmd). -/
def Dev.maxFifos (d : Dev) : Nat :=
  let n := d.rf Reg.CM_FIFOCFG 19 16
  if 1 ≤ n ∧ n ≤ 8 then n else 8

/-- What comes of asking for the buffer of a unit that starts. -/
inductive UnitStart where
  | started (d : Dev) (buf : Option Nat)
  | waits (d : Dev)
  | refused (d : Dev) (status : W16) (size : Nat)

/-- Lenders of this member in ring order, nearest first (R342). -/
def Dev.lenders (d : Dev) : List Nat :=
  let n := max d.cs.size 1
  ((List.range (n - 1)).map (fun i => (d.clk.member.toNat + i + 1) % n)).filter (fun m => d.cs.present.contains m)

/-- A refused galley request goes to a lender in deepen mode (R342). -/
def Dev.lendAsk (d : Dev) (c pool m : Nat) : Dev :=
  let sd := d.stamp 0x15
  (sd.2.send .lendReq m sd.1 (leBytes 1 pool)).onCs (fun x => { x with lendAsks := x.lendAsks ++ [(c, pool, m)] })

/-- The buffer of unit `u` of `n` bytes: of the galley (R108), of requester 48 for COMPRESS (R137), none for DECOMPRESS. -/
def Dev.startUnit (d : Dev) (c u n : Nat) : UnitStart :=
  match d.flightOf c with
  | some (.write _) =>
    (match d.hostGrant (d.reqOf c) n (d.rf Reg.BP_CTL 26 26 == 1) (.ctx c) with
     | (.ok k, d1) => .started d1 (some k)
     | (.error st, d1) =>
       if st = St.poolEmpty ∧ d.cs.inRing ∧ d.cs.modeInForce = 1 then
         match d.lenders with
         | m :: _ => .waits (d1.lendAsk c (poolFor n) m)
         | [] => .refused d1 st n
       else .refused d1 st n)
  | some (.compress _ _ _ _) =>
    (match d.grab .compressor [c, u] n [.ctx c] with
     | (some k, d1) => .started d1 (some k)
     | (none, d1) => .waits d1)
  | _ => .started d none

/-- Read words held that let the drain of a unit start that starts now (CM_FIFOCFG.cut_words), in bytes. With cut_words 0 every unit is held until
it is complete; one that is larger than its FIFO drains once the FIFO is full (R124; log entry 128). -/
def Dev.cutBytes (d : Dev) : Nat :=
  let n := d.rf Reg.CM_FIFOCFG 9 0
  if n = 0 then 65536 else 128 * min n 512

/-- A unit begins in a FIFO; a galley buffer joins its write. -/
def Dev.openUnit (d : Dev) (c f u : Nat) (buf : Option Nat) : Dev :=
  let isWrite := match d.flightOf c with
    | some (.write _) => true
    | _ => false
  let d1 := d.onCm (fun m => { m with fifos := m.fifos.set f (some ⟨c, u, [], false, false, d.cutBytes, if isWrite then none else buf⟩) })
  match d.flightOf c, buf with
  | some (.write id), some k => d1.onWrite id (fun w => { w with bufs := w.bufs ++ [(u, k)] })
  | _, _ => d1

/-- The unit a context fills now: the last one begun, while it is not complete. -/
def Dev.fillingOf (d : Dev) (c : Nat) : Option (Nat × Fifo) := (d.fifosOf c).find? (fun kf => !kf.2.complete)

/-- Bytes of the data list enter the filling unit: at most what the walk has found, the unit lacks and the FIFO takes. -/
def Dev.fillUnit (d : Dev) (c : Nat) (i : Intake) (kf : Nat × Fifo) (n : Nat) : Dev :=
  let f := kf.2
  let pos := d.arrived c i
  let size := min i.unit (i.need - f.unit * i.unit)
  let dc := (d.ctxs.get c).dc
  let room := if f.draining then size - f.bytes.length else 65536 - f.bytes.length
  let k := min (min (min n (size - f.bytes.length)) room) ((d.dataWalk c).total - (dc + pos))
  let rs := subRanges (d.dataWalk c).ranges (dc + pos) k
  let bs := readRanges (d.mem c) rs
  let d1 := d.each rs (fun d r => d.ask c r.1 r.2)
  d1.onCm (fun m => { m with fifos := m.fifos.set kf.1 (some { f with bytes := f.bytes ++ bs, complete := decide (f.bytes.length + bs.length = size) }) })

/-- Units of a context wait for a lender. -/
def Dev.lendWaits (d : Dev) (c : Nat) : Bool := d.cs.lendAsks.any (fun a => decide (a.1 = c))

/-! ### Blocks become ready (R124 to R126) -/

/-- The lender and buffer number of the galley buffer of a unit, where it is borrowed. -/
def Write.lentAt (w : Write) (u : Nat) : Option (Nat × Nat) :=
  ((w.bufs.find? (fun x => x.1 == u && isLent x.2)).map (fun x => (x.2 / 2 ^ 40 - 1, x.2 % 2 ^ 40)))

/-- The bytes of a borrowed galley buffer travel to its lender (R342). -/
def Dev.writeLent (d : Dev) (w : Write) (u : Nat) (bs : List Byte) : Dev :=
  match w.lentAt u with
  | none => d
  | some (m, k) =>
    let sd := d.stamp 0x15
    sd.2.send .bufWr m sd.1 (leBytes 4 k ++ leBytes 4 0 ++ bs)

/-- The bytes of a borrowed galley buffer are read from its lender (R342). -/
def Dev.readLent (d : Dev) (w : Write) (u n : Nat) : Dev :=
  match w.lentAt u with
  | none => d
  | some (m, k) =>
    let sd := d.stamp 0x15
    sd.2.send .bufRd m sd.1 (leBytes 4 k ++ leBytes 4 0 ++ leBytes 4 n)

/-! ### Read words (R123, Table 6.1) -/

/-- The tag of a read word of a unit: bit 7 last, bits 6:0 the valid bytes, 0 for 128. -/
def wordTag (size i : Nat) : Nat :=
  if 128 * (i + 1) < size then 0 else 128 + (if size = 128 * (i + 1) then 0 else size - 128 * i)

/-- The read words of a unit, each with its tag; bytes past the count of the last are zero. -/
def readWords (bs : List Byte) : List (List Byte × Nat) :=
  (List.range ((bs.length + 127) / 128)).map (fun i => (sliceBytes bs (128 * i) 128, wordTag bs.length i))

/-- The consumer writes the read words of a unit to its galley buffer, the pad of the last as zeros; a borrowed buffer is the lender's. -/
def Dev.storeGalley (d : Dev) (w : Write) (u : Nat) (bs : List Byte) : Dev :=
  match w.bufs.find? (fun kb => kb.1 == u) with
  | none => d
  | some kb =>
    if isLent kb.2 then d else
      let data := (readWords bs).flatMap Prod.fst
      d.each (List.range (data.length / 8)) (fun d i => d.putWord (d.pools.wordOf kb.2 + i) (toW64 (leNat (sliceBytes data (8 * i) 8))))

/-- A unit of a write that is whole moves to the galley, and its block is ready; a block stored raw by request uses no lane. -/
def Dev.moveWrite (d : Dev) (id u : Nat) (bs : List Byte) : Dev :=
  match d.write id with
  | none => d
  | some w =>
    let st : BlockSt := if w.byRequest then .outcome bs true 2 else .ready
    let d1 := ((d.writeLent w u bs).onWrite id (fun w => { w with data := w.data ++ bs, passed := if w.byRequest then w.passed ++ [u] else w.passed })).onCm
      (fun m => { m with blocks := m.blocks ++ [⟨some id, none, u, bs, st, none, none⟩] })
    let d2 := d1.storeGalley w u bs
    if w.byRequest then (((((d2.stamp 9).2.count 0x30 0 3 1).count 0x30 0 4 bs.length).count 0x30 0 5 bs.length).each ((w.bufs.find? (fun kb => kb.1 == u)).map (fun kb => kb.2)).toList
        (fun d k => d.attach k (.unit .cipher))).onSh (fun x => { x with outs := x.outs ++ [(d.clk.now, bs.length, bs.length)] }) else d2

/-- A whole unit of a context moves on. -/
def Dev.moveUnit (d : Dev) (c : Nat) (kf : Nat × Fifo) : Dev :=
  let f := kf.2
  let d1 := d.onCm (fun m => { m with fifos := m.fifos.set kf.1 none })
  match d.flightOf c with
  | some (.write id) => (d1.moveWrite id f.unit f.bytes).onSh (fun x => { x with inBytes := x.inBytes + f.bytes.length })
  | some (.compress cap size need taken) =>
    (d1.fly c (.compress cap size need (taken + f.bytes.length))).onCm (fun m =>
      { m with blocks := m.blocks ++ [⟨none, some c, f.unit, f.bytes, .ready, f.buf, none⟩] })
  | some (.decompress cap need taken got) => d1.fly c (.decompress cap need (taken + f.bytes.length) (got ++ f.bytes))
  | _ => d1

/-- Units that are complete and being drained move on in stream order, at most `n`. -/
def Dev.absorb (d : Dev) (c : Nat) : Nat → Dev
  | 0 => d
  | n + 1 =>
    match d.intake c with
    | none => d
    | some i =>
      match (d.fifosOf c).find? (fun kf => kf.2.unit * i.unit == i.moved && kf.2.complete && kf.2.draining) with
      | some kf => (d.moveUnit c kf).absorb c n
      | none => d

/-- INGEST_DATA_ARRIVE: `n` bytes more of a context's data arrive from the host (R33, R108, R122). A unit that begins takes a free FIFO
of its port and, for a write, its galley buffer, whose refusal ends the write (R73, R108). -/
def execIngestDataArrive (c n : Nat) (mem : HostWrites) (ok : Bool) (s : State) : Out :=
  s.flow (fun d =>
    match d.intake c with
    | none => d
    | some i =>
      if !d.mayRequest c || d.lendWaits c then d else
      let d0 := d.placeFor c mem
      if !ok then d0.listFault c else
      match d0.fillingOf c with
      | some kf => (d0.fillUnit c i kf n).absorb c 8
      | none =>
        let pos := d0.arrived c i
        if i.need ≤ pos ∨ d0.maxFifos ≤ (d0.fifosOf c).length then d0 else
        match d0.freeFifo (d0.portOfCtx c) with
        | none => d0
        | some f =>
          let u := pos / i.unit
          match d0.startUnit c u (min i.unit (i.need - pos)) with
          | .waits d1 => d1
          | .refused d1 st size =>
            ((d1.dropFlight c).failWith c st (toW64 (poolFor size * 2 ^ 56)) (toW64 (d1.reqOf c)))
          | .started d1 buf =>
            let d2 := d1.openUnit c f u buf
            match d2.cm.fifos.get f with
            | some fi => (d2.fillUnit c i (f, fi) n).absorb c 8
            | none => d2)

/-- FIFO_DRAIN_START: the consumer of a unit starts draining it (R124). -/
def execFifoDrainStart (p : PortId) (f : Nat) (s : State) : Out :=
  s.live (fun d =>
    let k := 32 * portNo p + f
    match d.cm.fifos.get k with
    | none => d
    | some fi =>
      if f < 32 ∧ (fi.complete ∨ fi.cut ≤ fi.bytes.length) ∧ !fi.draining then
        (d.onCm (fun m => { m with fifos := m.fifos.set k (some { fi with draining := true }) })).absorb fi.ctx 8
      else d)

end Sys2Proof.Machine
end

