-- ==== Sys2Proof/Machine/Compress.lean ====
section
/-! DEFINITION. The compression complex: lanes, verification, raw storage and the release of blocks (R18, R126 to R133). -/

namespace Sys2Proof.Machine

/-! ### Blocks -/

/-- Change of one block. -/
def Dev.onBlock (d : Dev) (b : Block) (f : Block → Block) : Dev :=
  d.onCm (fun m => { m with blocks := m.blocks.map (fun x => if x.write = b.write ∧ x.ctx = b.ctx ∧ x.k = b.k then f x else x) })

/-- The stamp that orders a block's command (R126). -/
def Dev.blockStamp (d : Dev) (b : Block) : Stamp :=
  match b.write, b.ctx with
  | some id, _ => (match d.write id with
      | some w => w.arrival
      | none => Stamp.zero)
  | none, some c => d.orderStamp c
  | none, none => Stamp.zero

/-- Of two ready blocks, the one a lane takes first. -/
def Dev.earlierBlock (d : Dev) (a : Option Block) (b : Block) : Option Block :=
  match a with
  | none => some b
  | some x =>
    let s := d.blockStamp x
    let t := d.blockStamp b
    if t.lt s || (t == s && decide (b.k < x.k)) then some b else some x

/-- The ready block a compressor lane takes (R126). -/
def Dev.nextBlock (d : Dev) : Option Block := (d.cm.blocks.filter (fun b => b.st == .ready)).foldl d.earlierBlock none

/-- The compressor lane a block is on. -/
def Block.compLane (b : Block) : Option Nat :=
  match b.st with
  | .compressing l => some l
  | _ => none

/-- The decompressor lane that verifies a block. -/
def Block.decLane (b : Block) : Option Nat :=
  match b.st with
  | .verifying _ l _ => some l
  | _ => none

/-- Whether a block has its frame and waits for a verify lane, and its compressor lane. -/
def Block.framedBy (b : Block) : Option Nat :=
  match b.st with
  | .framed l _ => some l
  | _ => none

/-- Who holds the buffer of a block's frame (Table 5.5): the frames of a COMPRESS go to no cipher complex, its context frees them (log entry 127). -/
def Block.share (b : Block) : List Holder :=
  match b.ctx with
  | some c => [.unit .compressor, .ctx c]
  | none => [.unit .compressor, .unit .cipher]

/-- Whether the buffers of a block take one holder more (R109). -/
def Dev.blockRoom (d : Dev) (b : Block) : Bool := ((d.sourceOf b).toList ++ b.out.toList).all d.holderRoom

/-- The buffer for a block's frame: the one it has from an earlier lane, or a request. -/
def Dev.frameBuf (d : Dev) (b : Block) : Option Nat × Dev :=
  match b.out with
  | some k => (some k, d)
  | none => d.grab .compressor b.tag (max b.data.length 1) b.share

/-- COMPRESS_BLOCK_START: a free compressor lane in service takes the next ready block; its output buffer is of requester 48 and of the
block's size, and where that waits the block waits (R126). The lane holds the block's galley buffer while it cuts from it (Table 5.5). -/
def execCompressBlockStart (lane : Nat) (s : State) : Out :=
  s.flow (fun d =>
    if 32 ≤ lane || d.isFenced ⟨9, lane⟩ || d.cm.blocks.any (fun b => b.compLane == some lane) then d else
    match d.nextBlock with
    | none => d
    | some b =>
      if !d.blockRoom b then d else
      match d.frameBuf b with
      | (none, d1) => d1
      | (some k, d1) =>
        let d2 := match b.write.bind d1.write with
          | some w => d1.readLent w b.k b.data.length
          | none => d1
        ((d2.holdBlock { b with out := none } .compressor).attachOnce k (.unit .compressor)).onBlock b (fun x =>
          { x with st := .compressing lane, out := some k }))

/-! ### Verify lanes (R18, R128) -/

/-- Whether a decompression island has a lane in service. -/
def Dev.islandUp (d : Dev) (i : Nat) : Bool := (List.range 8).any (fun j => !d.isFenced ⟨0xA, 8 * i + j⟩)

/-- The decompression island, 0 to 3, that verifies frames of compression island `k`. -/
def Dev.verifyIsland (d : Dev) (k : Nat) : Option Nat :=
  [(k + 1) % 4, (k + 2) % 4, (k + 3) % 4, k].find? (fun i => d.islandUp i)

/-- Whether a decompressor lane is idle and in service. -/
def Dev.laneIdle (d : Dev) (l : Nat) : Bool :=
  !d.isFenced ⟨0xA, l⟩ && !d.cm.blocks.any (fun b => b.decLane == some l)

/-- The lowest-numbered idle lane of an island. -/
def Dev.idleLane (d : Dev) (i : Nat) : Option Nat := ((List.range 8).map (fun j => 8 * i + j)).find? (fun l => d.laneIdle l)

/-- The island that retries a block whose first lane was `l` (R135). -/
def Dev.retryIsland (d : Dev) (l : Nat) : Nat :=
  let i := l / 8
  ([(i + 1) % 4, (i + 2) % 4, (i + 3) % 4].find? (fun x => d.islandUp x)).getD i

/-- Whether restore work waits for a lane of an island: a block not decoded yet or the input of a DECOMPRESS, which any island takes, or a retry
of that island (R18, R134, R135). -/
def Dev.restoreWaits (d : Dev) (i : Nat) : Bool :=
  d.ctxs.cells.any (fun cx => match cx.2.run with
    | .flight (.read r) => !r.todo.isEmpty || r.retry.any (fun x => d.retryIsland x.2 == i)
    | .flight (.decompress _ need taken _) => need == taken
    | _ => false)

/-- Whether verify work waits on an island. -/
def Dev.verifyWaits (d : Dev) (i : Nat) : Bool :=
  d.cm.blocks.any (fun b => match b.framedBy with
    | some l => d.verifyIsland (l / 8) == some i
    | none => false)

/-- A start on an island: verify lengthens the run above 0, restore below (R18). -/
def Dev.countStart (d : Dev) (i : Nat) (verify : Bool) : Dev :=
  d.onCm (fun m => { m with runs := m.runs.modify i (fun r => if verify then max r 0 + 1 else min r 0 - 1) })

/-- The C1 event when a compression island begins to be verified on its own decompression island, and the C0 event when that ends
(R128). -/
def Dev.noteOwnIsland (d : Dev) (k : Nat) (own : Bool) : Dev :=
  let was := decide (d.cm.runs.get (8 + k) ≠ 0)
  if own = was then d else
  (d.onCm (fun m => { m with runs := m.runs.set (8 + k) (if own then 1 else 0) })).note
    { cls := if own then .c1 else .c0, unit := ⟨9, 8 * k⟩, cat := 4, d0 := toW64 (8 * k * 256) }

/-- Whether the sharing of an island lets a start go now: verify goes first, and where both wait at most three of one kind in a row (R18). -/
def Dev.mayStart (d : Dev) (i : Nat) (verify : Bool) : Bool :=
  if verify then !d.restoreWaits i || decide (d.cm.runs.get i < 3)
  else !d.verifyWaits i || decide (3 ≤ d.cm.runs.get i)

/-- A frame goes to the lowest idle lane of its island, unless three verify starts in a row have gone by while restore waits. The lane holds the
frame's buffer and the galley buffer it compares with (Table 5.5). -/
def Dev.tryVerify (d : Dev) (b : Block) : Dev :=
  match b.st with
  | .framed l frame =>
    (match d.verifyIsland (l / 8) with
     | none => d
     | some i =>
       if !d.mayStart i true || !d.blockRoom b then d else
       match d.idleLane i with
       | none => d
       | some v => (((d.noteOwnIsland (l / 8) (i == l / 8)).countStart i true).holdBlock b .verify).onBlock b (fun x => { x with st := .verifying l v frame }))
  | _ => d

/-- Frames that wait take lanes that have become idle, earliest command first. -/
def Dev.feedVerify (d : Dev) : Dev := d.each (d.cm.blocks.filter (fun b => b.framedBy.isSome)) (fun d b => d.tryVerify b)

/-! ### Outcomes (Table 6.3) -/

/-- The lanes let a block go that has its outcome (Table 5.5): where it is stored raw the cipher complex holds the galley buffer and the frame's
buffer is freed. -/
def Dev.settleBlock (d : Dev) (b : Block) (raw : Bool) : Dev :=
  let d1 := (d.freeBlock b .verify).freeBlock b .compressor
  if !raw then d1 else
  let d2 := (d1.freeFrame b).onBlock b (fun x => { x with out := none })
  if b.write.isSome then d2.each (d2.sourceOf b).toList (fun d k => d.attach k (.unit .cipher)) else d2

/-- A block has its outcome: counted, and for a write its galley buffer is passed (R113). -/
def Dev.outcome (d : Dev) (b : Block) (body : List Byte) (raw : Bool) (cause : Nat) : Dev :=
  let d1 := (d.settleBlock b raw).onBlock b (fun x => { x with st := .outcome body raw cause })
  match b.write with
  | none => d1.count 0x30 0 8 1
  | some id =>
    ((((d1.onWrite id (fun w => { w with passed := w.passed ++ [b.k] })).count 0x30 0 (if raw then cause + 1 else 0) 1).count
      0x30 0 4 b.data.length).count 0x30 0 5 body.length).onSh (fun x =>
        { x with outs := x.outs ++ [(d.clk.now, body.length, b.data.length)] }) |>.reap

/-- A COMPRESS whose next frame would take the output past its capacity fails as a whole (R138). -/
def Dev.checkOutput (d : Dev) (b : Block) : Dev :=
  match b.ctx with
  | none => d
  | some c =>
    match d.flightOf c with
    | some (.compress cap size need _) =>
      (match d.compressRun c (blockCountOf need size) 0 cap with
       | (_, _, .full) => d.failOutput c St.outputFull
       | _ => d)
    | _ => d

/-- BLOCK_COMPRESSED: a compressor lane ends its block with a frame of Table 6.2, or stops because the frame would not be smaller (R127 to R129).
A lane emits nothing else; which frame it emits is the compressor's choice, as long as it decodes, or not, at the verify lane. -/
def execBlockCompressed (lane : Nat) (r : FrameResult) (s : State) : Out :=
  s.flow (fun d =>
    match d.cm.blocks.find? (fun b => b.compLane == some lane) with
    | none => d
    | some b =>
      match r with
      | .frame f =>
        if !frameForm f b.data.length then d
        else if f.length < b.data.length then
          let d1 := ((d.stamp 9).2.freeBlock b .compressor).onBlock b (fun x => { x with st := .framed lane f })
          d1.tryVerify { b with st := .framed lane f }
        else ((d.stamp 9).2.outcome b b.data true 0).checkOutput b
      | .notSmaller => ((d.stamp 9).2.outcome b b.data true 0).checkOutput b)

/-- Mismatches that fence a lane (CM_CTL.fence_count). -/
def Dev.fenceCount (d : Dev) : Nat := max 1 (d.rf Reg.CM_CTL 3 0)

/-- A block whose lane is lost: its galley bytes go to another compressor lane, or its frame to another verify lane (R131). -/
def Dev.offLane (d : Dev) (dec : Bool) (lane : Nat) (b : Block) : Dev :=
  match b.st with
  | .compressing l =>
    if !dec && l == lane then (d.freeBlock b .compressor).onBlock b (fun x => { x with st := .ready }) else d
  | .verifying l v f => if dec && v == lane then (d.freeBlock b .verify).onBlock b (fun x => { x with st := .framed l f }) else d
  | _ => d

/-- Work of a lane that is fenced restarts from its inputs on another lane (R131). -/
def Dev.restartLane (d : Dev) (dec : Bool) (lane : Nat) : Dev := (d.each d.cm.blocks (fun d b => d.offLane dec lane b)).feedVerify

/-- Detail word 0 of a compression record (Table 13.3, category 0x04). -/
def laneD0 (comp dec : Nat) : W64 := toW64 (comp * 256 + dec)

/-- A mismatch on a lane: counted, and the lane is fenced as a C3 error at the limit (R131). `key` is the lane, plus 32 for a
decompressor lane. -/
def Dev.mismatch (d : Dev) (key comp dec off : Nat) : Dev :=
  let n := d.cm.mismatches.get key + 1
  let d1 := d.onCm (fun m => { m with mismatches := m.mismatches.set key (min n 255) })
  let u : UnitId := if key < 32 then ⟨9, key⟩ else ⟨0xA, key - 32⟩
  if d1.fenceCount ≤ n ∧ !d1.isFenced u then
    (d1.raise { cls := .c3, unit := u, cat := 4, d0 := laneD0 comp dec, d1 := toW64 off }).restartLane (decide (32 ≤ key)) (key % 32)
  else d1

/-- The capture of the first failure (CM_VFAIL, CM_VFAILOFF). -/
def Dev.captureVfail (d : Dev) (restore : Bool) (comp dec off : Nat) : Dev :=
  if d.w1f Reg.CM_VFAIL 0 31 31 = 1 then d else
  ((((d.setW1f Reg.CM_VFAIL 0 31 31 1).setW1f Reg.CM_VFAIL 0 30 30 (b2n restore)).setW1f Reg.CM_VFAIL 0 20 16 comp).setW1f
    Reg.CM_VFAIL 0 12 8 dec).setW1f Reg.CM_VFAILOFF 0 22 0 off

/-- Byte offset of a mismatch: at most 0x7F_FFFF. -/
def verdictOffset (off : Nat) : Nat := min off 0x7FFFFF

/-- Whether a frame passes against its block (R128): Table 6.2, a valid checksum, and the block's bytes as its content. -/
def verifyPasses (frame data : List Byte) : Bool := frameOk frame data.length && zstdDecode frame == data

/-- What a verify lane finds: a lane in order passes a frame exactly where R128 says so, and names the first differing byte of one whose decode
ends well; a mismatch of a frame that R128 passes is a fault of a lane. -/
def verdictFits (v : Verdict) (frame data : List Byte) : Bool :=
  match v with
  | .pass => verifyPasses frame data
  | .mismatch _ => true

/-- VERIFY_VERDICT: a verify lane gives pass or mismatch (R128, R130, R131, R137). A mismatch fails a COMPRESS as a whole (R138). -/
def execVerifyVerdict (lane : Nat) (v : Verdict) (s : State) : Out :=
  s.flow (fun d =>
    match d.cm.blocks.find? (fun b => b.decLane == some lane) with
    | none => d
    | some b =>
      match b.st with
      | .verifying comp _ frame =>
        if !verdictFits v frame b.data then d else
        let d1 := (d.stamp 0xA).2
        (match v with
         | .pass => ((d1.outcome b frame false 0).feedVerify).checkOutput b
         | .mismatch off =>
           let o := verdictOffset off
           let d2 := (d1.outcome b b.data true 1).captureVfail false comp lane o
           let d3 := d2.note { cls := .c1, unit := ⟨9, comp⟩, cat := 4, d0 := laneD0 comp lane, d1 := toW64 o }
           let d4 := ((d3.mismatch comp comp lane o).mismatch (32 + lane) comp lane o).feedVerify
           match b.ctx with
           | some c => d4.failOutput c St.verifyFail (laneD0 comp lane) (toW64 o)
           | none => d4)
      | _ => d)

/-! ### Passing on (R132) -/

/-- Blocks of a write in the complex. -/
def Dev.blocksOf (d : Dev) (id : Nat) : List Block := d.cm.blocks.filter (fun b => b.write == some id)

/-- Number of blocks of a write. -/
def Write.blockCount (w : Write) : Nat := (w.len + w.blockSize - 1) / w.blockSize

/-- Blocks of a write already passed to the cipher complex, or joined to a record. -/
def Block.gone (b : Block) : Bool :=
  match b.st with
  | .passed _ _ _ => true
  | .joined _ => true
  | _ => false

/-- Whether a committed write still has blocks to pass on. -/
def Dev.toPass (d : Dev) (w : Write) : Bool :=
  w.isVersion && !w.withdrawn && (d.blocksOf w.id).any (fun b => !b.gone)

/-- Of two committed writes, the one with the earlier commit stamp. -/
def earlierCommit (a : Option Write) (w : Write) : Option Write :=
  match w.commit with
  | none => a
  | some s => match a with
    | none => some w
    | some v => match v.commit with
      | some t => if s.lt t then some w else some v
      | none => some w

/-- BLOCK_RELEASE_TO_CIPHER: the next block, in order of commit stamp and index, passes on once it has its outcome (R132). -/
def execBlockReleaseToCipher (s : State) : Out :=
  s.flow (fun d =>
    match (d.idx.writes.filter (fun w => d.toPass w)).foldl earlierCommit none with
    | none => d
    | some w =>
      let todo := (d.blocksOf w.id).filter (fun b => !b.gone)
      match todo.foldl (fun (a : Option Block) b => match a with
          | none => some b
          | some x => if b.k < x.k then some b else some x) none with
      | none => d
      | some b =>
        match b.st with
        | .outcome body raw cause => d.onBlock b (fun x => { x with st := .passed body raw cause })
        | _ => d)

/-! ### Envelopes (R133, Table 6.4) -/

/-- Code of a block size. -/
def sizeCode (n : Nat) : Nat := if n = 262144 then 1 else if n = 1048576 then 2 else 3

/-- The 16-byte big-endian form of a stamp on the medium (Table 0.5). -/
def stampOnTape (sess : Nat) (adopted : Bool) (s : Stamp) : List Byte :=
  beBytes 8 s.t ++ [s.o, BitVec.ofNat 8 (b2n adopted)] ++ beBytes 2 sess ++ zeros 4

/-- The envelope and body of block `k` of a write, padded to a multiple of 8. -/
def envelope (w : Write) (k : Nat) (len : Nat) (body : List Byte) (raw : Bool) (cause sess : Nat) (adopted : Bool) : List Byte :=
  beBytes 4 0x47424C4B ++ [BitVec.ofNat 8 (b2n raw + 2 * (if raw then cause else 0)), BitVec.ofNat 8 (sizeCode w.blockSize)]
    ++ beBytes 2 k ++ beBytes 8 w.obj.toNat ++ beBytes 6 (w.off + k * w.blockSize) ++ beBytes 4 len ++ beBytes 4 body.length
    ++ zeros 2 ++ stampOnTape sess adopted w.arrival ++ body ++ zeros ((8 - body.length % 8) % 8)

end Sys2Proof.Machine
end

