-- ==== Sys2Proof/Machine/Cipher.lean ====
section
/-! DEFINITION. The cipher complex: records, IVs and tags (R141 to R148), and the IV log. -/

namespace Sys2Proof.Machine

/-! ### The commands that divide the record stream (R142) -/

/-- FLUSH, SEAL, UNLOAD and MIGRATE. -/
def dividerOp (op : Nat) : Bool := op == 0x52 || op == 0x54 || op == 0x55 || op == 0x56

/-- After every stamp. -/
def Stamp.last : Stamp := ⟨2 ^ 64, 0⟩

/-- The flush that drain-shutdown makes of the open volume, as a divider after every stamp (R325). -/
def Dev.drainDivider (d : Dev) : List (W32 × Stamp) :=
  if d.hk.drain && d.vol.st == .opened && !d.hk.drainDone then (d.vol.loaded.map (fun v => (v.handle, Stamp.last))).toList else []

/-- The volume and stamp of each such command that is outstanding: inline ones from their arrival, those of programs while they run. -/
def Dev.dividers (d : Dev) : List (W32 × Stamp) :=
  d.drainDivider ++ d.cmds.filterMap (fun m =>
    if m.done.isSome ∨ m.fwdTo.isSome then none
    else if m.sqe.kind = 1 then (if dividerOp (wOp m.sqe.word) then some (m.sqe.vh, m.arrival) else none)
    else match m.ctx with
      | some c => (match (d.ctxs.get c).run with
          | .flight _ => if dividerOp (wOp (d.ctxs.get c).ir) then some ((d.ctxs.get c).vh, (d.ctxs.get c).issue) else none
          | _ => none)
      | none => none)

/-- Whether an opcode is a write. -/
def writeOp (op : Nat) : Bool := op == 0x40 || op == 0x41 || op == 0x43

/-- Contexts whose flight meets a condition. -/
def Dev.flightsThat (d : Dev) (p : Flight → Bool) : List Nat :=
  (tableKeys d.ctxs).filter (fun c => match (d.ctxs.get c).run with
    | .flight f => p f
    | _ => false)

/-- Writes of a volume with a stamp before another that have not ended and have no intent yet: inline ones from their arrival, a PATCH or DELETE
of a program while it looks its object up (R88). -/
def Dev.unenteredBefore (d : Dev) (vh : W32) (s : Stamp) : Bool :=
  (d.flightsThat (fun f => match f with
    | .existence _ => true
    | _ => false)).any (fun e => (d.ctxs.get e).vh == vh && (d.orderStamp e).lt s) || d.cmds.any (fun m => m.sqe.kind == 1 && writeOp (wOp m.sqe.word) && m.sqe.vh == vh && m.done.isNone && m.fwdTo.isNone
    && m.arrival.lt s && !d.idx.writes.any (fun w => w.cmd == m.id && w.commit.isNone))

/-- Whether a write's blocks are all in records, or it released none. -/
def Dev.allJoined (d : Dev) (w : Write) : Bool := w.withdrawn || (w.isVersion && (d.blocksOf w.id).isEmpty)

/-- Every write of a volume that arrived before a stamp has ended or has its last block in a record. -/
def Dev.coveredJoined (d : Dev) (vh : W32) (s : Stamp) : Bool :=
  !d.unenteredBefore vh s && d.idx.writes.all (fun w => !(w.vh == vh && w.arrival.lt s) || d.allJoined w)

/-- Whether a record holds a block of a write of a volume that arrived before a stamp. -/
def Dev.recCovered (d : Dev) (r : Rec) (vh : W32) (s : Stamp) : Bool :=
  r.blocks.any (fun b => match d.write b.1 with
    | some w => w.vh == vh && w.arrival.lt s
    | none => false)

/-- Whether a block of a write must wait for a divider (R142). -/
def Dev.barred (d : Dev) (w : Write) : Bool :=
  d.dividers.any (fun v => v.1 == w.vh && v.2.lt w.arrival
    && (!d.coveredJoined v.1 v.2 || d.cx.recs.any (fun r => r.st == .open && d.recCovered r v.1 v.2)))

/-! ### Records -/

/-- Ciphertext limit of a record (CX_CTL.rec_max). -/
def Dev.recLimit (d : Dev) : Nat :=
  let n := d.rf Reg.CX_CTL 14 8
  if 64 ≤ n then 16777136 else max n 1 * 262144

/-- Whether a pipeline is idle and in service. -/
def Dev.pipeIdle (d : Dev) (p : Nat) : Bool := !d.isFenced ⟨0xB, p⟩ && !d.cx.recs.any (fun r => r.st == .inPipe p)

/-- Waiting records go to idle pipelines, in the order of their stamps, lowest pipeline first (R141). -/
def Dev.feedPipes (d : Dev) : Nat → Dev
  | 0 => d
  | n + 1 =>
    match (d.cx.recs.filter (fun r => r.st == .waiting)).foldl earlierRec none, (List.range 16).find? (fun p => d.pipeIdle p) with
    | some r, some p => (d.onRec r.id (fun r => { r with st := .inPipe p })).feedPipes n
    | _, _ => d

/-- A record closes: it takes its stamp and its IV, and the slot's counter advances (R142, R145). -/
def Dev.closeRec (d : Dev) (r : Rec) : Dev :=
  let sd := d.stamp 0xB
  let x := sd.2.slot r.slot
  ((sd.2.onRec r.id (fun r => { r with st := .waiting, stamp := sd.1, pfx := x.pfx, counter := x.counter })).onSlot r.slot (fun x =>
    { x with counter := x.counter + 1 })).feedPipes 16

/-- The open records that meet a condition close, in the order they opened. -/
def Dev.closeOpen (d : Dev) (p : Rec → Bool) : Dev := d.each (d.cx.recs.filter (fun r => r.st == .open && p r)) Dev.closeRec

/-- Records that a FLUSH, SEAL or UNLOAD needs sealed close once the last covered block has joined (R142). -/
def Dev.sealRecords (d : Dev) : Dev :=
  d.each d.dividers (fun d v => if d.coveredJoined v.1 v.2 then d.closeOpen (fun r => d.recCovered r v.1 v.2) else d)

/-- The write whose block joins next: the earliest commit among those that have a block passed on and are not barred (R132, R142). -/
def Dev.nextJoin (d : Dev) : Option Write :=
  (d.idx.writes.filter (fun w => w.isVersion && !w.withdrawn && !d.barred w && (d.blocksOf w.id).any Block.gone)).foldl earlierCommit none

/-- The open record of a slot. -/
def Dev.openRec (d : Dev) (slot : Nat) : Option Rec := d.cx.recs.find? (fun r => r.st == .open && r.slot == slot)

/-- A new record opens for a slot; its buffer is of requester 50 (Table 5.5). None while that request waits, which stays entered. -/
def Dev.newRec (d : Dev) (w : Write) (size : Nat) : Option Rec × Dev :=
  match d.grab .cipher [w.slot] (min 16777216 (max (d.recLimit + 80) (size + 80))) [.unit .cipher, .unit .forme] with
  | (none, d1) => (none, d1)
  | (some k, d1) =>
    let r : Rec := { id := d1.cx.nextRec, slot := w.slot, keyId := w.keyId, blocks := [], joinedAt := d1.clk.now, buf := some k, plain := []
                     stamp := Stamp.zero, pfx := 0, counter := 0, body := [], logged := false, st := .open }
    (some r, d1.onCx (fun x => { x with recs := x.recs ++ [r], nextRec := x.nextRec + 1 }))

/-- A block's bytes enter a record; the block leaves the compression complex with its buffers. -/
def Dev.putBlock (d : Dev) (r : Rec) (w : Write) (b : Block) (env : List Byte) : Dev :=
  (d.onRec r.id (fun r => { r with blocks := r.blocks ++ [(w.id, b.k, r.plain.length)], plain := r.plain ++ env, joinedAt := d.clk.now })).dropBlocks
    (fun x => x.write == b.write && x.k == b.k)

/-- Sixteen records open is the most: the earliest-opened closes for one more (R142). -/
def Dev.evictRec (d : Dev) : Dev :=
  let o := d.cx.recs.filter (fun r => r.st == .open)
  if o.length < 16 then d else match o with
    | r :: _ => d.closeRec r
    | [] => d

/-- The block, its body, and its envelope, of a write's next block. -/
def Dev.joinBlock (d : Dev) (w : Write) (b : Block) (body : List Byte) (raw : Bool) (cause : Nat) : Dev :=
  let env := envelope w b.k b.data.length body raw cause d.session d.clk.adopted
  let fresh := fun (d : Dev) => match d.evictRec.newRec w env.length with
    | (some r, d1) => (d1.putBlock r w b env).sealRecords
    | (none, d1) => d1
  match d.openRec w.slot with
  | some r => if r.plain.length + env.length ≤ d.recLimit then (d.putBlock r w b env).sealRecords else fresh (d.closeRec r)
  | none => fresh d

/-- BLOCK_JOIN_RECORD: the next block passed on joins the open record of its slot (R142). Where none can, records that a covered write's end lets
close do. -/
def execBlockJoinRecord (s : State) : Out :=
  s.flow (fun d =>
    match d.nextJoin with
    | none => d.sealRecords
    | some w =>
      match ((d.blocksOf w.id).filter Block.gone).foldl (fun (a : Option Block) b => match a with
          | none => some b
          | some x => if b.k < x.k then some b else some x) none with
      | none => d
      | some b =>
        match b.st with
        | .passed body raw cause => d.joinBlock w b body raw cause
        | _ => d)

/-- RECORD_IDLE_CLOSE: no block has joined the open record of a slot for CX_CTL.idle_ms (R142). -/
def execRecordIdleClose (slot : Nat) (s : State) : Out :=
  s.flow (fun d =>
    let ms := d.rf Reg.CX_CTL 7 0
    match d.openRec slot with
    | some r => if ms = 0 then d else (d.advanceTo (r.joinedAt + ms * msTicks)).closeRec r
    | none => d)

/-! ### Encryption (R143, R144) -/

/-- The 64-byte header of a record (Table 7.1). -/
def Rec.header (r : Rec) (sess : Nat) (adopted : Bool) : List Byte :=
  beBytes 4 0x43524543 ++ [1, 0] ++ beBytes 2 r.blocks.length ++ beBytes 4 r.plain.length ++ zeros 4 ++ beBytes 8 r.keyId.toNat
    ++ beBytes 4 r.pfx.toNat ++ beBytes 8 r.counter ++ stampOnTape sess adopted r.stamp ++ zeros 12

/-- Exclusive-or of bytes with the keystream of a key and IV, from byte `i`. -/
def gcmXor (key : BitVec 256) (iv : List Byte) : Nat → List Byte → List Byte
  | _, [] => []
  | i, b :: t => (b ^^^ gcmKeystream key iv i) :: gcmXor key iv (i + 1) t

/-- A sealed record: header, ciphertext and tag (Table 7.1, R144). -/
def sealBytes (key : BitVec 256) (header plain : List Byte) : List Byte :=
  let iv := sliceBytes header 24 12
  let ct := gcmXor key iv 0 plain
  header ++ ct ++ gcmTag key iv header ct

/-- The plaintext of a sealed record, none where its tag does not match (R160). -/
def openBytes (key : BitVec 256) (body : List Byte) : Option (List Byte) :=
  let header := body.take 64
  let iv := sliceBytes header 24 12
  let ct := (body.drop 64).take (body.length - 80)
  if body.drop (body.length - 16) = gcmTag key iv header ct then some (gcmXor key iv 0 ct) else none

/-- A write of CX_IVLCTL (R148): enabling resets head and tail; a misaligned base or a size out of range is refused. -/
def Dev.writeIvlCtl (d : Dev) (path : Path) (v : W32) : Dev :=
  let size := fieldOf v 3 0
  if bitOf v 31 ∧ (fieldOf (d.reg Reg.CX_IVLBASE_LO) 11 0 ≠ 0 ∨ size < 6) then d.regEvent path Reg.CX_IVLCTL v
  else
    let d1 := d.setReg Reg.CX_IVLCTL (v &&& 0xC000000F)
    if bitOf v 31 ∧ !d.ivlOn then (d1.setReg Reg.CX_IVLHEAD 0).setW1f Reg.CX_IVLTAIL 0 14 0 0 else d1

/-! ### Tags (R142, R155) -/

/-- Whether every block of a version is in a record that has its tag. -/
def Dev.allTagged (d : Dev) (w : Write) : Bool :=
  (d.blocksOf w.id).isEmpty && !d.cx.recs.any (fun r => !r.sealed && r.blocks.any (fun b => b.1 == w.id))

/-- A version gives up its pin once its last block is in a tagged record (R155). -/
def Dev.unpinVersions (d : Dev) : Dev :=
  d.each (d.idx.writes.filter (fun w => w.isVersion && w.pinned && d.allTagged w)) (fun d w =>
    (d.onWrite w.id (fun w => { w with pinned := false })).unpin w.slot)

/-- RECORD_TAG_DONE: a pipeline has encrypted its record and computed the tag (R142, R144); the record may pass to the forme
assembler, its IV is logged, and pins that it ends are returned. -/
def execRecordTagDone (pipe : Nat) (s : State) : Out :=
  s.work (fun d =>
    match d.cx.recs.find? (fun r => r.st == .inPipe pipe) with
    | none => d
    | some r =>
      let body := sealBytes (d.slot r.slot).key (r.header d.session d.clk.adopted) r.plain
      (((((d.onRec r.id (fun r => { r with st := .tagged, body := body })).each r.buf.toList (fun d k => d.letGo k (.unit .cipher))).logDue).unpinVersions).feedPipes 16))

end Sys2Proof.Machine
end

