-- ==== Sys2Proof/Machine/Aproth.lean ====
section
/-! DEFINITION. The bytes and symbols of Aproth-1 (08_forme_codes, Tables 9.6, 10.2 and 10.3): the field GF(2^10), the Reed-Solomon codes,
row identifiers and frames, forme headers and ledgers, directory checkpoints and colophons. -/

namespace Sys2Proof.Machine

/-! ### GF(2^10) (R163) -/

/-- Multiplication by α. -/
def gf10x (a : Nat) : Nat := if a / 512 % 2 = 1 then (a * 2 % 1024) ^^^ 9 else a * 2 % 1024

/-- Product over the lowest `k` bits of the second factor. -/
def gf10mulAux (a b : Nat) : Nat → Nat
  | 0 => 0
  | k + 1 => gf10x (gf10mulAux a (b / 2) k) ^^^ (if b % 2 = 1 then a else 0)

/-- Product in GF(2^10). -/
def gf10mul (a b : Nat) : Nat := gf10mulAux a b 10

/-- α^j. -/
def alpha : Nat → Nat
  | 0 => 1
  | j + 1 => gf10x (alpha j)

/-! ### Reed-Solomon remainders (R169, R170, R172, R179) -/

/-- A polynomial times (x + a), coefficients from the highest down. -/
def polyTimes (p : List Nat) (a : Nat) : List Nat := (p ++ [0]).zipWith (fun x y => x ^^^ y) (0 :: p.map (gf10mul a))

/-- The generator (x + α) … (x + α^n), coefficients from the highest down. -/
def rsGen : Nat → List Nat
  | 0 => [1]
  | n + 1 => polyTimes (rsGen n) (alpha (n + 1))

/-- One symbol into the division by a generator without its leading 1. -/
def rsStep (g : List Nat) (st : List Nat) (x : Nat) : List Nat :=
  let fb := x ^^^ st.headD 0
  (st.drop 1 ++ [0]).zipWith (fun s c => s ^^^ gf10mul fb c) g

/-- The `n` check symbols of information symbols, coefficient of the highest power first. -/
def rsChecks (n : Nat) (info : List Nat) : List Nat :=
  let g := (rsGen n).drop 1
  info.foldl (rsStep g) (List.replicate n 0)

/-- The syndrome of a codeword at α^i. -/
def rsSyndrome (cw : List Nat) (i : Nat) : Nat := cw.foldl (fun acc x => gf10mul acc (alpha i) ^^^ x) 0

/-- The check symbols that L1 adds to a row, and L2 to a column of the data area. -/
def l1Checks (row : List Nat) : List Nat := rsChecks 48 row
def l2Checks (col : List Nat) : List Nat := rsChecks 16 col
/-- The four parity symbols of L3 at one span index: members in order, absent ones zero. -/
def l3Checks (members : List Nat) : List Nat := rsChecks 4 (members ++ List.replicate (32 - members.length) 0)

/-- The sum of two lists of symbols, the shorter one as if it went on with zeros. -/
def addSyms : List Nat → List Nat → List Nat
  | [], b => b
  | a, [] => a
  | x :: a, y :: b => (x ^^^ y) :: addSyms a b

/-- A list of symbols, each times a constant. -/
def scaleSyms (c : Nat) (p : List Nat) : List Nat := p.map (gf10mul c)

/-- The fixed remainder of x^(35 − i) by the generator of L3, coefficient of x^3 first (R179). -/
def l3Rem (i : Nat) : List Nat := rsChecks 4 (List.replicate i 0 ++ [1] ++ List.replicate (31 - i) 0)

/-- The L3 accumulator after member `i`: the four parity spans so far, each with the member's span times its coefficient added (R179). -/
def l3Add (acc : List (List Nat)) (i : Nat) (span : List Nat) : List (List Nat) :=
  (List.range 4).map (fun j => addSyms (acc.getD j []) (scaleSyms ((l3Rem i).getD j 0) span))

/-! ### Packing, rows and frames (R164, R165, R171 to R173) -/

/-- Five bytes as four symbols, most significant bit first. -/
def pack5 (bs : List Byte) : List Nat :=
  let v := beNat (bs ++ zeros (5 - bs.length))
  [v / 2 ^ 30 % 1024, v / 2 ^ 20 % 1024, v / 2 ^ 10 % 1024, v % 1024]

/-- Bytes as symbols, at most `n` groups of five. -/
def packSymbols : Nat → List Byte → List Nat
  | 0, _ => []
  | n + 1, bs => if bs.isEmpty then [] else pack5 (bs.take 5) ++ packSymbols n (bs.drop 5)

/-- Four symbols as five bytes. -/
def unpack4 (ss : List Nat) : List Byte :=
  beBytes 5 (ss.getD 0 0 * 2 ^ 30 + ss.getD 1 0 * 2 ^ 20 + ss.getD 2 0 * 2 ^ 10 + ss.getD 3 0)

/-- Symbols as bytes, at most `n` groups of four. -/
def unpackSymbols : Nat → List Nat → List Byte
  | 0, _ => []
  | n + 1, ss => if ss.isEmpty then [] else unpack4 (ss.take 4) ++ unpackSymbols n (ss.drop 4)

/-- The 192,000 bytes of a data area. -/
def dataArea (header payload : List Byte) : List Byte := header ++ payload ++ zeros (191488 - payload.length)

/-- Row `r` of the data area's symbols, and column `s`. -/
def areaRow (syms : List Nat) (r : Nat) : List Nat := (syms.drop (960 * r)).take 960
def areaColumn (syms : List Nat) (s : Nat) : List Nat := (List.range 160).map (fun r => syms.getD (960 * r + s) 0)

/-- The 176 rows of a forme of 1,008 symbols each (Table 8.2). -/
def formeRows (syms : List Nat) : List (List Nat) :=
  let cols := (List.range 960).map (fun s => l2Checks (areaColumn syms s))
  let data := (List.range 160).map (areaRow syms)
  let par := (List.range 16).map (fun i => cols.map (fun c => c.getD i 0))
  (data ++ par).map (fun r => r ++ l1Checks r)

/-- The row identifier I0, I1, P0, P1 (R172). -/
def rowId (r rewrite folio : Nat) : List Nat :=
  let i0 := rewrite % 4 * 256 + r % 256
  let i1 := folio % 1024
  [i0, i1] ++ rsChecks 2 [i0, i1]

/-- A row frame of 1,024 symbols (Table 8.6). -/
def rowFrame (r rewrite folio : Nat) (row : List Nat) : List Nat :=
  List.replicate 8 0x155 ++ [0x3C7, 0x0E1, 0x36A, 0x093] ++ rowId r rewrite folio ++ row

/-- The track of its slot that carries a row (R173). -/
def rowTrack (r : Nat) : Nat := r % 16

/-- The L3 span of a data area (R179): data-area indices from 409 on. -/
def l3Span (syms : List Nat) : List Nat := syms.drop 409

/-- The span of a forme: the parity bits of header byte 511 and the payload. -/
def Forme.span (f : Forme) : List Nat := l3Span (packSymbols 38400 (dataArea (zeros 511 ++ [BitVec.ofNat 8 f.lead]) f.payload))

/-- Header byte 511 and the payload that a span makes. -/
def spanBytes (span : List Nat) : List Byte := ((unpackSymbols 38400 (List.replicate 409 0 ++ span)).take 192000).drop 511

/-! ### Forme headers (Tables 8.3 and 8.4) -/

/-- The code of a kind. -/
def FKind.code : FKind → Nat
  | .data => 1
  | .directory => 2
  | .parity => 3
  | .colophon => 4
  | .filler => 5

/-- All ones in 40 bits: no folio, no group. -/
def noFolio : Nat := 2 ^ 40 - 1

/-- Payload length of the header. -/
def Forme.payloadLength (f : Forme) : Nat := if f.kind = .parity then 0 else f.payload.length

/-- The header of a copy at a place, with the volume's identifier (Table 8.3); byte 511 holds parity bits in parity formes only. -/
def Forme.header (f : Forme) (vid : W64) (sess : Nat) (adopted : Bool) (sheaf position slot : Nat) : List Byte :=
  let body := beBytes 4 0x41503146 ++ [1, BitVec.ofNat 8 f.kind.code, f.flags, BitVec.ofNat 8 f.rewrite] ++ beBytes 5 f.folio
    ++ [BitVec.ofNat 8 f.member] ++ beBytes 5 f.groupBase ++ [0] ++ beBytes 2 sheaf ++ [BitVec.ofNat 8 slot, 0] ++ beBytes 4 position
    ++ beBytes 4 f.payloadLength ++ stampOnTape sess adopted f.stamp ++ beBytes 8 vid.toNat ++ beBytes 8 f.streamOff
    ++ beBytes 4 f.firstRec ++ beBytes 5 f.lastCkpt ++ zeros 7 ++ (f.ledger ++ zeros (336 - f.ledger.length)) ++ zeros 88
  body ++ beBytes 4 (crc32c body) ++ zeros 3 ++ [BitVec.ofNat 8 f.lead]

/-- The group ledger of parity formes (bytes 80 to 415). -/
def ledgerBytes (ms : List Forme) (recordBase directoryBase : Nat) (close : List Byte) : List Byte :=
  let pad := fun (n : Nat) (b : List Byte) => b ++ zeros (n - b.length)
  [BitVec.ofNat 8 ms.length, 0, 0, 0] ++ beBytes 8 recordBase ++ beBytes 8 directoryBase ++ close ++ zeros 12
    ++ pad 128 (ms.flatMap (fun m => beBytes 4 m.payload.length)) ++ pad 32 (ms.map (fun m => BitVec.ofNat 8 m.kind.code))
    ++ pad 128 (ms.flatMap (fun m => beBytes 4 m.firstRec))

/-! ### Directory checkpoints (Tables 10.2 and 10.3) -/

/-- An entry's 64 bytes. -/
def DirEntry.bytes (adopted : Bool) : DirEntry → List Byte
  | .extent flags obj off recOff ctOff len sess s size =>
    [1, BitVec.ofNat 8 flags] ++ beBytes 6 off ++ beBytes 8 obj.toNat ++ beBytes 8 recOff ++ beBytes 4 ctOff ++ beBytes 4 len
      ++ stampOnTape sess adopted s ++ beBytes 6 size ++ zeros 10
  | .delete obj sess s => [2] ++ zeros 7 ++ beBytes 8 obj.toNat ++ zeros 16 ++ stampOnTape sess adopted s ++ zeros 16
  | .marker obj off len sess s =>
    [3, 0] ++ beBytes 6 off ++ beBytes 8 obj.toNat ++ beBytes 6 len ++ zeros 10 ++ stampOnTape sess adopted s ++ zeros 16
  | .locator base sheaf position slot k recordBase directoryBase =>
    [4, 0] ++ beBytes 2 sheaf ++ beBytes 4 position ++ beBytes 5 base ++ [BitVec.ofNat 8 slot, BitVec.ofNat 8 k, 0] ++ beBytes 8 recordBase
      ++ beBytes 8 directoryBase ++ zeros 32
  | .stripe role k m number base =>
    [5, BitVec.ofNat 8 role, BitVec.ofNat 8 k, BitVec.ofNat 8 m] ++ zeros 4 ++ beBytes 8 number ++ beBytes 5 base ++ zeros 43

/-- A checkpoint in the directory stream: header, entries and trailer. `prev` is the folio, slot, sheaf and position of the previous
checkpoint's first forme. -/
def ckptBytes (adopted : Bool) (c : Ckpt) (prev : Nat × Nat × Nat × Nat) (nextFolio : Nat) : List Byte :=
  let n := c.entries.length
  let head := [0x10, BitVec.ofNat 8 (b2n c.isBase)] ++ beBytes 2 c.session ++ beBytes 4 n ++ beBytes 8 c.number
    ++ stampOnTape c.session adopted c.request ++ beBytes 5 prev.1 ++ beBytes 1 prev.2.1 ++ beBytes 2 prev.2.2.1 ++ beBytes 4 prev.2.2.2
    ++ beBytes 8 c.recordLen ++ beBytes 5 nextFolio ++ zeros 7
  let body := head ++ c.entries.flatMap (DirEntry.bytes adopted) ++ [0x11, 0, 0, 0] ++ beBytes 4 n ++ beBytes 8 c.number ++ zeros 44
  body ++ beBytes 4 (crc32c body)

/-! ### The colophon (Table 9.6) -/

/-- The 256-byte payload of a colophon. -/
def Colophon.bytes (c : Colophon) (positions groupSize : Nat) (stamp : List Byte) : List Byte :=
  let body := beBytes 4 0x434F4C4F ++ [1, BitVec.ofNat 8 (b2n c.sealed)] ++ beBytes 2 c.session ++ beBytes 8 c.volumeId.toNat
    ++ beBytes 5 c.nextFolio ++ [0] ++ beBytes 2 c.endSheaf ++ beBytes 4 c.endPos ++ beBytes 4 positions ++ beBytes 8 c.recordLen
    ++ beBytes 8 c.directoryLen ++ beBytes 8 c.nativeUsed ++ beBytes 5 c.ckptFolio ++ beBytes 1 c.ckptPlace.2.2 ++ beBytes 2 c.ckptPlace.1
    ++ beBytes 4 c.ckptPlace.2.1 ++ stamp ++ beBytes 4 c.len ++ beBytes 2 0x0409 ++ beBytes 2 0x03F0 ++ beBytes 2 0x03C0 ++ beBytes 2 0x00B0
    ++ beBytes 2 0x00A0 ++ [0x24, 0x20, 0x01] ++ beBytes 1 groupSize ++ beBytes 2 0x0400 ++ beBytes 4 0x00011300 ++ [1]
    ++ beBytes 1 c.blockCode ++ [0x08, 0x10] ++ zeros 140
  body ++ beBytes 4 (crc32c body)

end Sys2Proof.Machine
end

