-- ==== Sys2Proof/Machine/RsDecode.lean ====
section
/-! DEFINITION. Decoding the Reed-Solomon codes of Aproth-1 over GF(2^10) within Table 8.5: errors and flagged erasures of L1, L2 and the row
identifier, and erasures alone of L3. -/

namespace Sys2Proof.Machine

/-- A power in GF(2^10), by squaring over `k` bits of the exponent. -/
def gf10pow (a n : Nat) : Nat → Nat
  | 0 => 1
  | k + 1 => gf10mul (gf10pow (gf10mul a a) (n / 2) k) (if n % 2 = 1 then a else 1)

/-- The inverse of a symbol that is not zero. -/
def gf10inv (a : Nat) : Nat := gf10pow a 1022 10

/-- α^e, by squaring. -/
def alphaPow (e : Nat) : Nat := gf10pow 2 (e % 1023) 10

/-! ### Polynomials, coefficient of the lowest power first -/

/-- The value of a polynomial. -/
def evalSyms (p : List Nat) (x : Nat) : Nat := p.foldr (fun c acc => gf10mul acc x ^^^ c) 0

/-- Product of two polynomials. -/
def mulSyms : List Nat → List Nat → List Nat
  | [], _ => []
  | c :: p, q => addSyms (scaleSyms c q) (0 :: mulSyms p q)

/-- The formal derivative in characteristic 2: odd coefficients, one power lower. -/
def derivSyms : List Nat → List Nat
  | [] => []
  | [_] => []
  | _ :: b :: p => b :: 0 :: derivSyms p

/-- A polynomial without leading zeros. -/
def trimSyms (p : List Nat) : List Nat := (p.reverse.dropWhile (fun x => x == 0)).reverse

/-! ### The decoder -/

/-- Syndromes of a word at α to α^n. -/
def syndromes (n : Nat) (cw : List Nat) : List Nat := (List.range n).map (fun i => rsSyndrome cw (i + 1))

/-- Whether a word is a codeword with `n` check symbols. -/
def isCodeword (n : Nat) (cw : List Nat) : Bool := (syndromes n cw).all (fun s => s == 0)

/-- The locator of a symbol: α to its exponent in a word of `len` symbols, the first the highest. -/
def locatorOf (len i : Nat) : Nat := alphaPow (len - 1 - i)

/-- The locator polynomial of erased places. -/
def erasurePoly (len : Nat) (er : List Nat) : List Nat := er.foldl (fun p i => mulSyms p [1, locatorOf len i]) [1]

/-- Step `r` of the search for the locator polynomial with `f` erasures: the discrepancy, and what it changes. -/
def keyStep (syn : List Nat) (f : Nat) (st : List Nat × List Nat × Nat) (r : Nat) : List Nat × List Nat × Nat :=
  let (lam, b, l) := st
  let disc := (lam.zipIdx.foldl (fun a (x : Nat × Nat) => if x.2 < r then a ^^^ gf10mul x.1 (syn.getD (r - 1 - x.2) 0) else a) 0)
  if disc = 0 then (lam, 0 :: b, l) else
  let t := addSyms lam (0 :: scaleSyms disc b)
  if 2 * l ≤ r + f - 1 then (t, scaleSyms (gf10inv disc) lam, r + f - l) else (t, 0 :: b, l)

/-- The locator polynomial of errors and erasures, from `n` syndromes. -/
def locatorPoly (n len : Nat) (syn er : List Nat) : List Nat :=
  let g := erasurePoly len er
  trimSyms (((List.range (n - er.length)).foldl (fun st i => keyStep syn er.length st (er.length + 1 + i)) (g, g, er.length)).1)

/-- A word with `n` check symbols corrected, and how many symbols that no flag marks were wrong; none beyond the capability 2e + f ≤ n
(Table 8.5). -/
def rsDecode (n : Nat) (cw er : List Nat) : Option (List Nat × Nat) :=
  let len := cw.length
  let syn := syndromes n cw
  if n < er.length then none
  else if syn.all (fun s => s == 0) then some (cw, 0)
  else
    let lam := locatorPoly n len syn er
    let places := (List.range len).filter (fun i => evalSyms lam (gf10inv (locatorOf len i)) == 0)
    let e := places.length - er.length
    if places.length + 1 ≠ lam.length ∨ n < 2 * e + er.length then none
    else
      let om := (mulSyms syn lam).take n
      let dl := derivSyms lam
      let fixed := cw.zipIdx.map (fun (x : Nat × Nat) =>
        if places.contains x.2 then
          (let xi := gf10inv (locatorOf len x.2)
           x.1 ^^^ gf10mul (evalSyms om xi) (gf10inv (evalSyms dl xi)))
        else x.1)
      if isCodeword n fixed && er.all (fun i => places.contains i) then some (fixed, e) else none

end Sys2Proof.Machine
end

