-- ==== Sys2Proof/Machine/FormeRead.lean ====
section
/-! DEFINITION. Reading Aproth-1 back: row frames as they are received (R171, R174, R194), the restore decode of a forme copy (R229), the
acceptance of its header (R185), rebuilding by L3 (R186), and the checkpoints and colophons in payloads (R210, R217). -/

namespace Sys2Proof.Machine

/-! ### Received symbols and row frames (R171, R174, R194, R238) -/

/-- The ten bits of a received symbol, and its erasure flag. -/
def symValue (x : BitVec 11) : Nat := x.toNat % 1024
def symErased (x : BitVec 11) : Bool := decide (1024 ≤ x.toNat)

/-- Symbols in a row frame after its sync mark: identifier and row. -/
abbrev frameTail : Nat := 1012

/-- The identifier and row symbols of a frame whose sync mark begins at `p` of a track's symbols; those that have not come are erased. -/
def rowFrameAt (syms : List (BitVec 11)) (p : Nat) : List (BitVec 11) :=
  let l := (syms.drop (p + 4)).take frameTail
  l ++ List.replicate (frameTail - l.length) 0x400

/-- Places of flagged symbols. -/
def erasedPlaces (xs : List (BitVec 11)) : List Nat := (xs.zipIdx.filter (fun x => symErased x.1)).map (fun x => x.2)

/-- Received symbols decoded, with their flags as erasures. -/
def decodeSyms (n : Nat) (xs : List (BitVec 11)) : Option (List Nat × Nat) := rsDecode n (xs.map symValue) (erasedPlaces xs)

/-- The identifier as received, valid on the proof path: zero syndromes, the row expected, and the folio and rewrite bits of the copy being
written (R174). -/
def rowIdOk (id : List Nat) (row rewrite folio : Nat) : Bool :=
  isCodeword 2 id && decide (row < 176) && id.getD 0 0 % 256 == row && id.getD 1 0 == folio % 1024 && id.getD 0 0 / 256 == rewrite % 4

/-- Flagged erasures and symbols found in error of a frame's row; none where L1 decoding fails. -/
def rowCorrections (frame : List (BitVec 11)) : Option Nat :=
  (decodeSyms 48 (frame.drop 4)).map (fun r => (erasedPlaces (frame.drop 4)).length + r.2)

/-- A proof row whose sync mark was found passes (R194). -/
def rowPasses (frame : List (BitVec 11)) (maxCorr row rewrite folio : Nat) : Bool :=
  rowIdOk ((frame.take 4).map symValue) row rewrite folio && (match rowCorrections frame with
    | some n => decide (n ≤ maxCorr)
    | none => false)

/-- A row identifier decoded on restore (R174): row number, rewrite bits, folio bits, and whether it was corrected. -/
def decodeRowId (frame : List (BitVec 11)) : Option (Nat × Nat × Nat × Bool) :=
  match decodeSyms 2 (frame.take 4) with
  | some (id, _) =>
    let r := id.getD 0 0 % 256
    if r < 176 then some (r, id.getD 0 0 / 256, id.getD 1 0, decide (id ≠ (frame.take 4).map symValue)) else none
  | none => none

/-! ### The restore decode (R229) -/

/-- A symbol that has not come. -/
abbrev noSymbol : Nat × Bool := (1024, true)

/-- Row `r` of a copy: that of the first frame whose identifier names it, every symbol erased where there is none. -/
def receivedRow (frames : List (List (BitVec 11))) (r : Nat) : List (Nat × Bool) :=
  match frames.find? (fun f => (decodeRowId f).any (fun x => x.1 == r)) with
  | some f => (f.drop 4).map (fun x => (symValue x, symErased x))
  | none => List.replicate 1008 noSymbol

/-- A word whose symbols have all come and that is a codeword. -/
def wordGood (n : Nat) (w : List (Nat × Bool)) : Bool := w.all (fun x => decide (x.1 < 1024)) && isCodeword n (w.map (fun x => x.1))

/-- L1 on a row that is not a codeword: the row, and whether it failed. -/
def rowPass (w : List (Nat × Bool)) : Bool × List (Nat × Bool) :=
  if wordGood 48 w then (false, w) else
  match rsDecode 48 (w.map (fun x => x.1 % 1024)) ((w.zipIdx.filter (fun x => x.1.2)).map (fun x => x.2)) with
  | some (c, _) => (false, c.map (fun x => (x, false)))
  | none => (true, w)

/-- L2 on a column that is not a codeword, with the rows that failed as erasures. -/
def columnPass (failed : List Nat) (w : List (Nat × Bool)) : List (Nat × Bool) :=
  if wordGood 16 w then w else
  match rsDecode 16 (w.map (fun x => x.1 % 1024)) failed with
  | some (c, _) => c.map (fun x => (x, false))
  | none => w

/-- Columns of rows, each of `n` symbols. -/
def columnsOf (rows : List (List (Nat × Bool))) (n : Nat) : List (List (Nat × Bool)) :=
  (List.range n).map (fun s => rows.map (fun r => r.getD s noSymbol))

/-- One pass: every row, then every column. -/
def restorePass (rows : List (List (Nat × Bool))) : List (List (Nat × Bool)) :=
  let a := rows.map rowPass
  let failed := (a.zipIdx.filter (fun x => x.1.1)).map (fun x => x.2)
  columnsOf ((columnsOf (a.map (fun x => x.2)) 1008).map (columnPass failed)) 176

/-- Every row and every column is a codeword. -/
def copyWhole (rows : List (List (Nat × Bool))) : Bool := rows.all (wordGood 48) && (columnsOf rows 1008).all (wordGood 16)

/-- At most `n` passes; none where the copy is lost. -/
def restorePasses : Nat → List (List (Nat × Bool)) → Option (List (List (Nat × Bool)))
  | 0, _ => none
  | n + 1, rows => if copyWhole (restorePass rows) then some (restorePass rows) else restorePasses n (restorePass rows)

/-- The 192,000 bytes of a copy's data area as a restore decoder finds them in the frames of its tracks. -/
def restoreArea (frames : List (List (BitVec 11))) : Option (List Byte) :=
  (restorePasses 3 ((List.range 176).map (receivedRow frames))).map (fun rows =>
    unpackSymbols 38400 ((rows.take 160).flatMap (fun r => (r.take 960).map (fun x => x.1))))

/-! ### Header acceptance (R185) -/

/-- A big-endian field. -/
def beField (h : List Byte) (a n : Nat) : Nat := beNat (sliceBytes h a n)

/-- The kind of a code. -/
def kindOf (n : Nat) : FKind :=
  if n = 1 then .data else if n = 2 then .directory else if n = 3 then .parity else if n = 4 then .colophon else .filler

/-- A ledger keeps zero what lies past its members, and its zero fields. -/
def ledgerOk (l : List Byte) : Bool :=
  let k := beField l 0 1
  allZero (sliceBytes l 1 3) && allZero (sliceBytes l 36 12) && allZero (sliceBytes l (48 + 4 * k) (128 - 4 * k))
    && allZero (sliceBytes l (176 + k) (32 - k)) && allZero (sliceBytes l (208 + 4 * k) (128 - 4 * k))

/-- The member field lies in the range of its kind. -/
def memberFits (kind member : Nat) : Bool :=
  if kind = 3 then decide (32 ≤ member) && decide (member ≤ 35) else if kind ≤ 2 then decide (member < 32) else member == 0xFF

/-- Fields that must be zero, or that a kind does not use, hold what Table 8.3 gives. -/
def headerZeros (h : List Byte) : Bool :=
  let kind := beField h 5 1
  let fl := beField h 6 1
  let par := kind == 3
  decide (fl < 8) && (kind == 2 || fl / 4 == 0) && (par || fl % 4 == 0) && allZero (sliceBytes h 19 1) && allZero (sliceBytes h 23 1)
    && (decide (kind ≤ 2) || kind == 4 || allZero (sliceBytes h 28 4)) && (decide (kind ≤ 2) || allZero (sliceBytes h 56 8))
    && (kind == 1 || beField h 64 4 == 0xFFFFFFFF) && allZero (sliceBytes h 73 7)
    && (if par then ledgerOk (sliceBytes h 80 336) else allZero (sliceBytes h 80 336)) && allZero (sliceBytes h 416 88)
    && allZero (sliceBytes h 508 3) && (if par then decide (beField h 511 1 < 64) else allZero (sliceBytes h 511 1))

/-- The header of a decoded copy is accepted; `ids` are the rewrite and folio bits of the identifiers that decoded (R185). -/
def headerAccepted (h : List Byte) (ids : List (Nat × Nat)) : Bool :=
  let kind := beField h 5 1
  beField h 0 4 == 0x41503146 && beField h 4 1 == 1 && decide (1 ≤ kind) && decide (kind ≤ 5) && headerZeros h
    && beField h 504 4 == crc32c (h.take 504) && memberFits kind (beField h 13 1)
    && ids.all (fun x => x.1 == beField h 7 1 % 4 && x.2 == beField h 8 5 % 1024)

/-- A stamp in its 16-byte form, and its session. -/
def stampFrom (b : List Byte) : Stamp := ⟨beField b 0 8, BitVec.ofNat 8 (beField b 8 1)⟩
def sessionFrom (b : List Byte) : Nat := beField b 10 2

/-- The copy that a data area holds. -/
def copyFrom (area : List Byte) : OnTape :=
  let h := area.take 512
  let kind := kindOf (beField h 5 1)
  let n := if kind = .parity then 191488 else beField h 28 4
  { sheaf := beField h 20 2, position := beField h 24 4, slot := beField h 22 1, volumeId := toW64 (beField h 48 8), header := h
    forme := { folio := beField h 8 5, kind := kind, flags := BitVec.ofNat 8 (beField h 6 1), member := beField h 13 1
               groupBase := beField h 14 5, payload := (area.drop 512).take n, lead := beField h 511 1, streamOff := beField h 56 8
               firstRec := beField h 64 4, stamp := stampFrom (sliceBytes h 32 16), lastCkpt := beField h 68 5
               ledger := (if kind = .parity then sliceBytes h 80 336 else []), enc := 0, buf := none, accepted := none
               rewrite := beField h 7 1, copies := 0, fullSheaves := 0, fullIn := none, queued := false } }

/-- Rewrite and folio bits of the identifiers that decode. -/
def decodedIds (frames : List (List (BitVec 11))) : List (Nat × Nat) := (frames.filterMap decodeRowId).map (fun x => (x.2.1, x.2.2.1))

/-- What becomes of a copy: lost, refused under R185, or accepted. -/
inductive CopyOut where
  | lost
  | refused
  | accepted (o : OnTape)
  deriving DecidableEq, Repr

/-- A restore decoder's work on a copy's frames (R185, R229). -/
def readCopy (frames : List (List (BitVec 11))) : CopyOut :=
  match restoreArea frames with
  | none => .lost
  | some area => if headerAccepted (area.take 512) (decodedIds frames) then .accepted (copyFrom area) else .refused

/-! ### L3 recovery (R186, R230) -/

/-- Fields of a parity forme's ledger. -/
def Forme.ledK (p : Forme) : Nat := beField p.ledger 0 1
def Forme.ledLen (p : Forme) (i : Nat) : Nat := beField p.ledger (48 + 4 * i) 4
def Forme.ledKind (p : Forme) (i : Nat) : Nat := beField p.ledger (176 + i) 1
def Forme.ledFirst (p : Forme) (i : Nat) : Nat := beField p.ledger (208 + 4 * i) 4

/-- Stream offset of member `i`: the ledger's base and the lengths of earlier members of its kind; zero for a kind that has no stream. -/
def Forme.ledOff (p : Forme) (i : Nat) : Nat :=
  let kind := p.ledKind i
  (if kind = 1 then beField p.ledger 4 8 else beField p.ledger 12 8)
    + ((List.range i).filter (fun x => p.ledKind x == kind)).foldl (fun a x => a + p.ledLen x) 0

/-- Member `i` rebuilt: its content, and a header from the ledger of parity forme `p` (R186). -/
def Forme.rebuilt (p : Forme) (i : Nat) (payload : List Byte) : Forme :=
  { folio := p.groupBase + i, kind := kindOf (p.ledKind i), flags := 0, member := i, groupBase := p.groupBase, payload := payload.take (p.ledLen i)
    lead := 0, streamOff := p.ledOff i, firstRec := p.ledFirst i, stamp := Stamp.zero, lastCkpt := 0, ledger := [], enc := 0, buf := none
    accepted := none, rewrite := 0, copies := 0, fullSheaves := 0, fullIn := none, queued := false }

/-- The formes of a group. -/
def groupOf (fs : List Forme) (base : Nat) : List Forme := fs.filter (fun f => f.groupBase == base && f.kind != .filler && f.kind != .colophon)

/-- The forme of a group at an index of the code: members from 0, parity formes from 32. -/
def groupAt (fs : List Forme) (i : Nat) : Option Forme := fs.find? (fun f => f.member == i)

/-- Indices of a group of `k` members that no accepted forme fills. -/
def groupGaps (fs : List Forme) (k : Nat) : List Nat :=
  (List.range 36).filter (fun i => (decide (i < k) || decide (32 ≤ i)) && (groupAt fs i).isNone)

/-- The codewords of a group, one for each span index, its gaps filled as erasures; none where a gap cannot be filled. -/
def l3Words (fs : List Forme) (gaps : List Nat) : Option (List (List Nat)) :=
  let spans := (List.range 36).map (fun i => ((groupAt fs i).map Forme.span).getD [])
  (List.range 153191).mapM (fun p => match rsDecode 4 (spans.map (fun s => s.getD p 0)) gaps with
    | some (w, 0) => some w
    | _ => none)

/-- The lost members of a group, rebuilt; none where more than four formes or all the parity formes are lost. -/
def l3Rebuild (fs : List Forme) : Option (List Forme) :=
  (fs.find? (fun f => f.kind == .parity)).bind (fun p =>
    let gaps := groupGaps fs p.ledK
    if 4 < gaps.length then none else
      (l3Words fs gaps).map (fun ws => (gaps.filter (fun i => decide (i < 32))).map (fun i =>
        p.rebuilt i ((spanBytes (ws.map (fun w => w.getD i 0))).drop 1))))

/-! ### Checkpoints (R217) -/

/-- The entry that 64 bytes spell. -/
def entryFrom (b : List Byte) : Option DirEntry :=
  let t := beField b 0 1
  let s := stampFrom (sliceBytes b 32 16)
  let n := sessionFrom (sliceBytes b 32 16)
  let obj := toW64 (beField b 8 8)
  if t = 1 then some (.extent (beField b 1 1) obj (beField b 2 6) (beField b 16 8) (beField b 24 4) (beField b 28 4) n s (beField b 48 6))
  else if t = 2 then some (.delete obj n s)
  else if t = 3 then some (.marker obj (beField b 2 6) (beField b 16 6) n s)
  else if t = 4 then some (.locator (beField b 8 5) (beField b 2 2) (beField b 4 4) (beField b 13 1) (beField b 14 1) (beField b 16 8) (beField b 24 8))
  else if t = 5 then some (.stripe (beField b 1 1) (beField b 2 1) (beField b 3 1) (beField b 8 8) (beField b 16 5))
  else none

/-- The entries of a checkpoint, at most `n`. -/
def entriesFrom (b : List Byte) : Nat → Option (List DirEntry)
  | 0 => some []
  | n + 1 => (entryFrom (b.take 64)).bind (fun e => (entriesFrom (b.drop 64) n).map (fun l => e :: l))

/-- The directory formes of the checkpoint that begins at a folio, as far as its number of entries reaches; none where one is missing. -/
def ckptFormes (fs : List OnTape) (folio : Nat) : Option (List OnTape) :=
  let ds := (fs.filter (fun o => o.forme.kind == .directory && decide (folio ≤ o.forme.folio))).mergeSort (fun a b => decide (a.forme.folio ≤ b.forme.folio))
  match ds.head? with
  | none => none
  | some z =>
    let total := 128 + 64 * beField z.forme.payload 4 4
    let all := ds.takeWhile (fun o => decide (o.forme.streamOff < z.forme.streamOff + total))
    let whole := all.foldl (fun a o => if o.forme.streamOff = z.forme.streamOff + a then a + o.forme.payload.length else a) 0
    if z.forme.folio = folio ∧ whole = total then some all else none

/-- The first forme of a checkpoint: its folio, and the sheaf, position and slot of its accepted copy. -/
abbrev CkptAt := Nat × Nat × Nat × Nat

/-- The checkpoint that begins at a folio, and where the one before it begins: its header and trailer agree and its CRC holds. -/
def ckptFrom (fs : List OnTape) (folio : Nat) : Option (Ckpt × CkptAt) :=
  (ckptFormes fs folio).bind (fun os =>
    let b := os.flatMap (fun o => o.forme.payload)
    let n := beField b 4 4
    let t := b.drop (64 + 64 * n)
    if beField b 0 1 = 0x10 ∧ t.length = 64 ∧ beField t 0 1 = 0x11 ∧ beField t 4 4 = n ∧ beField t 8 8 = beField b 8 8
        ∧ beField t 60 4 = crc32c (b.take (124 + 64 * n)) then
      (entriesFrom (b.drop 64) n).map (fun es =>
        ({ number := beField b 8 8, isBase := beField b 1 1 % 2 == 1, session := beField b 2 2, entries := es, firstFolio := folio
           lastFolio := (os.getLast?.map (fun o => o.forme.folio)).getD folio, recordLen := beField b 44 8
           request := stampFrom (sliceBytes b 16 16), recorded := true
           place := (os.head?.map (fun o => (o.sheaf, o.position, o.slot))).getD (0, 0, 0) },
         (beField b 32 5, beField b 38 2, beField b 40 4, beField b 37 1)))
    else none)

/-- The chain from a checkpoint back to its base, the base first, over at most `n` checkpoints; the one that cannot be read where there is one. -/
def chainFrom (fs : List OnTape) : Nat → CkptAt → Except CkptAt (List Ckpt)
  | 0, x => .error x
  | n + 1, x =>
    match ckptFrom fs x.1 with
    | none => .error x
    | some (b, prev) =>
      let c : Ckpt := { b with place := x.2 }
      if c.isBase then .ok [c] else
      match chainFrom fs n prev with
      | .ok l => .ok (l ++ [c])
      | .error x => .error x

/-! ### Colophons (R210) -/

/-- The colophon in a payload, where its magic, version and CRC hold. -/
def colophonFrom (b : List Byte) : Option Colophon :=
  if b.length = 256 ∧ beField b 0 4 = 0x434F4C4F ∧ beField b 4 1 = 1 ∧ beField b 252 4 = crc32c (b.take 252) then
    some { sealed := beField b 5 1 == 1, session := beField b 6 2, volumeId := toW64 (beField b 8 8), nextFolio := beField b 16 5
           endSheaf := beField b 22 2, endPos := beField b 24 4, recordLen := beField b 32 8, directoryLen := beField b 40 8
           nativeUsed := beField b 48 8, ckptFolio := beField b 56 5, ckptPlace := (beField b 62 2, beField b 64 4, beField b 61 1)
           blockCode := beField b 109 1, len := beField b 84 4 }
  else none

end Sys2Proof.Machine
end

