-- ==== Sys2Proof/Machine/Burns.lean ====
section
/-! DEFINITION. What a fuse burn writes (R311, R360, R361): repair records, the cells of a burn that ends or is cut short, and its results. -/

namespace Sys2Proof.Machine

/-- A row repair record, and a lane repair record. -/
def rowRecord (r : RowRep) : Nat := 2 ^ 31 + r.stack * 2 ^ 29 + r.channel * 2 ^ 25 + r.spare * 2 ^ 21 + r.row
def laneRecord (l : LaneRep) : Nat := 2 ^ 15 + l.stack * 2 ^ 13 + l.channel * 2 ^ 9 + l.k * 4

/-- Row and lane records of a table of fuse bytes, and those with no cell burned. -/
def rowSlot (m : Table Byte 0) (i : Nat) : Nat := leNat (readBytes m (0x300 + 4 * i) 4)
def laneSlot (m : Table Byte 0) (i : Nat) : Nat := leNat (readBytes m (0xB00 + 2 * i) 2)
def freeRowSlots (m : Table Byte 0) : List Nat := (List.range 512).filter (fun i => rowSlot m i == 0)
def freeLaneSlots (m : Table Byte 0) : List Nat := (List.range 64).filter (fun i => laneSlot m i == 0)

/-- FU_STAT.burn_result and MI_REPCTL.result. -/
def Dev.burnResult (d : Dev) (r : Nat) : Dev := d.setW1f Reg.FU_STAT 0 28 26 r
def Dev.repairResult (d : Dev) (r : Nat) : Dev := d.setW1f Reg.MI_REPCTL 0 30 28 r

/-- What a burn that is cut short, or whose read-back fails, leaves: some of its cells (log entry 36). -/
def Dev.partBytes (d : Dev) (bs : List Byte) : List Byte := bs.zipIdx.map (fun (x : Byte × Nat) => x.1 &&& Config.partBurn d.draws x.2)

/-- The records of a repair burn: each repair with the slot it takes. -/
def repairCells (m : Table Byte 0) (rows : List RowRep) (lanes : List LaneRep) : List (Nat × List Byte) :=
  (((freeRowSlots m).zip rows).map (fun (x : Nat × RowRep) => (0x300 + 4 * x.1, leBytes 4 (rowRecord x.2)))) ++
    ((freeLaneSlots m).zip lanes).map (fun (x : Nat × LaneRep) => (0xB00 + 2 * x.1, leBytes 2 (laneRecord x.2)))

/-- A record whose valid bit is not burned. -/
def clearValid (bs : List Byte) : List Byte := bs.dropLast ++ [(bs.getLastD 0) &&& 0x7F]

/-- The cells of a burn that succeeds. -/
def Fuses.burnAll (f : Fuses) : Burn → Fuses
  | .setting g bs => f.burnBytes (0xD80 + 1024 * g) bs
  | .control b => f.burnBytes 0x1F80 [b.setWidth 8]
  | .repair rows lanes => (repairCells f.shadow rows lanes).foldl (fun (f : Fuses) (x : Nat × List Byte) => f.burnBytes x.1 x.2) f

/-- The cells of a burn that does not succeed: a setting block keeps its first cells and has no valid CRC, so that its generation counts as
used and is never active (R360); repair records stay invalid. -/
def Dev.burnPart (d : Dev) (b : Burn) : Dev :=
  ({ d with draws := d.draws + 1 }).onFu (fun f => match b with
    | .setting g bs =>
      let part := bs.take 4 ++ d.partBytes ((bs.take 1020).drop 4)
      f.burnBytes (0xD80 + 1024 * g) (if crc32c part = 0 then bs.take 4 else part)
    | .control b => f.burnBytes 0x1F80 (d.partBytes [b.setWidth 8])
    | .repair rows lanes => (repairCells f.shadow rows lanes).foldl (fun (f : Fuses) (x : Nat × List Byte) => f.burnBytes x.1 (clearValid (d.partBytes x.2))) f)

/-- A burn in progress when the device halts or is reset is abandoned, with those that wait (R360, R361). -/
def Dev.abandonBurn (d : Dev) : Dev :=
  match d.fu.burn with
  | none => d
  | some b =>
    let d1 := (d.burnPart b).onFu (fun f => { f with burn := none, waiting := [] })
    match b with
    | .repair _ _ => d1.repairResult 3
    | _ => d1.burnResult 7

end Sys2Proof.Machine
end

