-- ==== Sys2Proof/Machine/Keys.lean ====
section
/-! DEFINITION. Key packages, blobs and slots: KEY.IMPORT, KEY.LOAD, KEY.SAVE, KEY.ERASE, KEY.ERASE.NOW and the end of a revocation
(R149 to R158), and the random generator (R147). -/

namespace Sys2Proof.Machine

/-- Bytes of the fuse shadow. -/
def Dev.fuseBytes (d : Dev) (a n : Nat) : List Byte := readBytes d.fu.shadow a n

/-- Whether the device keys are usable: present, and not disabled by debug level 2 or zeroed by tamper (R366, R368). -/
def Dev.keysUsable (d : Dev) : Bool := d.fu.keyOk && !d.fu.keysOff && !d.cx.keysZero

/-- Leftmost 256 bits of SHA-384 of a counter of 1 and what follows. -/
def kdf (bs : List Byte) : List Byte := (sha384 (beBytes 4 1 ++ bs)).take 32

/-- The blob key (R151). -/
def Dev.blobKey (d : Dev) : List Byte := kdf (d.fuseBytes 0x200 32 ++ beBytes 8 0x424C4F424B454B31)

/-- The header of an import package but for its floor (Table 7.3, R150 step 1). -/
def packageOk (p : List Byte) : Bool :=
  leNat (sliceBytes p 0 4) == 0x4B504B49 && leNat (sliceBytes p 4 2) == 1 && leNat (sliceBytes p 6 2) == 184
    && leNat (sliceBytes p 8 8) != 0 && decide (1 ≤ leNat (sliceBytes p 16 4)) && decide (leNat (sliceBytes p 16 4) ≤ 3)
    && allZero (sliceBytes p 20 4) && p.getD 32 0 == 4 && allZero (sliceBytes p 129 7) && allZero (sliceBytes p 176 8)

/-- Wrapped content of a blob (Table 7.5). -/
def blobContent (key : List Byte) (floor keyId usage gen : Nat) : List Byte :=
  key ++ leBytes 8 floor ++ leBytes 8 keyId ++ leBytes 4 usage ++ leBytes 4 gen

/-- A key blob (Table 7.4). -/
def Dev.blob (d : Dev) (key : List Byte) (floor keyId usage gen : Nat) : List Byte :=
  leBytes 4 0x4B424C42 ++ leBytes 2 1 ++ leBytes 2 96 ++ leBytes 8 keyId ++ leBytes 4 usage ++ leBytes 4 gen ++ zeros 8
    ++ kwpWrap d.blobKey (blobContent key floor keyId usage gen)

/-- The key of an import package; none where a check of R150 fails. -/
def Dev.importKey (d : Dev) (p : List Byte) : Option (List Byte) :=
  if !d.keysUsable then none else
  match ecdhKey (d.fuseBytes 0x220 48) (sliceBytes p 32 97) with
  | none => none
  | some z =>
    match kwpUnwrap (kdf (z ++ p.take 32 ++ d.fuseBytes 8 16)) (sliceBytes p 136 40) with
    | some k => if k.length = 32 then some k else none
    | none => none

/-- KEY.IMPORT (R150). -/
def execKeyImport (c : Nat) (mem : HostWrites) (ok : Bool) (s : State) : Out :=
  s.insn c 0x60 (fun d0 =>
    let d := d0.issue c
    let x := d.ctxs.get c
    if x.ga.toNat % 8 ≠ 0 ∨ x.gb.toNat % 8 ≠ 0 then d.failWith c St.programFault else
    if !d.mayRequest c then d0 else
    let d1 := (d.placeFor c mem).ask c x.ga.toNat 184
    if !ok then d1.failWith c St.programFault else
    let p := readBytes (d1.mem c) x.ga.toNat 184
    if !packageOk p then d1.failWith c St.unwrapFailed else
    if 2 ^ 63 ≤ leNat (sliceBytes p 24 8) then d1.failWith c St.counterExhausted 0 (toW64 (leNat (sliceBytes p 8 8))) else
    match d1.importKey p with
    | none => d1.failWith c St.unwrapFailed 0 (toW64 (leNat (sliceBytes p 8 8)))
    | some k =>
      let b := d1.blob k (leNat (sliceBytes p 24 8)) (leNat (sliceBytes p 8 8)) (leNat (sliceBytes p 16 4)) 0
      (d1.memWrite c [(x.gb.toNat, 96)] b).finish c St.ok (some 96) 0 0)

/-- The content of a blob; none where the outer fields or the unwrap fail (R153 step 2). -/
def Dev.unwrapBlob (d : Dev) (b : List Byte) : Option (List Byte) :=
  if !d.keysUsable then none else
  let usage := leNat (sliceBytes b 16 4)
  if leNat (sliceBytes b 0 4) ≠ 0x4B424C42 ∨ leNat (sliceBytes b 4 2) ≠ 1 ∨ leNat (sliceBytes b 6 2) ≠ 96
      ∨ leNat (sliceBytes b 8 8) = 0 ∨ usage < 1 ∨ 3 < usage ∨ !allZero (sliceBytes b 24 8) then none else
  match kwpUnwrap d.blobKey (sliceBytes b 32 64) with
  | some k => if k.length = 56 ∧ sliceBytes k 40 16 = sliceBytes b 8 16 then some k else none
  | none => none

/-- Prefixes of the loaded slots of a key, but one slot (R145). -/
def Dev.prefixesOf (d : Dev) (keyId : W64) (but : Nat) : List W32 :=
  (d.cx.slots.cells.filter (fun s => decide (s.1 ≠ but) && s.2.st != .empty && s.2.keyId == keyId)).map (fun s => s.2.pfx)

/-- A prefix that no other loaded slot of the key has: drawn, and drawn again while it is taken (R145). Where sixteen draws in a
row are taken, the next free value above the last. -/
def Dev.drawPrefix (d : Dev) (takenBy : List W32) : Nat → W32 × Dev
  | 0 =>
    let r := d.randoms 4
    let v := leNat r.1
    (((List.range (takenBy.length + 1)).map (fun i => toW32 (v + i))).find? (fun p => !takenBy.contains p) |>.getD (toW32 v), r.2)
  | n + 1 =>
    let r := d.randoms 4
    let v := toW32 (leNat r.1)
    if takenBy.contains v then r.2.drawPrefix takenBy n else (v, r.2)

/-- The number a list of bytes spells as a 256-bit key, byte 0 most significant. -/
def keyOf (bs : List Byte) : BitVec 256 := BitVec.ofNat 256 (beNat bs)

/-- A passing load (R153): the old key of a LOADED slot is replaced, which advances the order epoch (R157, R293). -/
def Dev.loadSlot (d : Dev) (s : Nat) (k : List Byte) : Dev :=
  let keyId := toW64 (leNat (sliceBytes k 40 8))
  let pd := d.drawPrefix (d.prefixesOf keyId s) 16
  let sd := pd.2.stamp 0xB
  let was := (d.slot s).st
  let d1 := sd.2.onSlot s (fun _ =>
    { st := .loaded, key := keyOf (k.take 32), keyId := keyId, usage := BitVec.ofNat 2 (leNat (sliceBytes k 48 4))
      gen := leNat (sliceBytes k 52 4), counter := leNat (sliceBytes k 32 8), pfx := pd.1, pins := 0 })
  if was = .loaded then d1.epochAdvance sd.1.after else d1

/-- Whether the random generator is fenced (R147). -/
def Dev.rngFenced (d : Dev) : Bool := d.isFenced ⟨0xB, 18⟩

/-- KEY.LOAD (R153). -/
def execKeyLoad (c : Nat) (mem : HostWrites) (ok : Bool) (s : State) : Out :=
  s.insn c 0x61 (fun d0 =>
    let d := d0.issue c
    let x := d.ctxs.get c
    let n := wImm x.ir % 1024
    let sl := d.slot n
    if !(sl.st == .empty || (sl.st == .loaded && decide (sl.pins = 0))) then d.failWith c St.keySlotBusy (toW64 n) sl.keyId else
    if !d.mayRequest c then d0 else
    let d1 := (d.placeFor c mem).ask c x.ga.toNat 96
    if !ok then d1.failWith c St.programFault else
    let b := readBytes (d1.mem c) x.ga.toNat 96
    match d1.unwrapBlob b with
    | none => d1.failWith c St.unwrapFailed (toW64 n) (toW64 (leNat (sliceBytes b 8 8)))
    | some k =>
      if d1.rngFenced then d1.failWith c St.rngFailed (toW64 n) (toW64 (leNat (sliceBytes b 8 8)))
      else (d1.loadSlot n k).finish c St.ok none 0 0)

/-- KEY.SAVE (R154). -/
def execKeySave (c : Nat) (ok : Bool) (s : State) : Out :=
  s.insn c 0x62 (fun d0 =>
    let d := d0.issue c
    let x := d.ctxs.get c
    let n := wImm x.ir % 1024
    let sl := d.slot n
    if sl.st = .empty then d.failWith c St.slotEmpty (toW64 n) else
    if sl.st = .revoking then d.failWith c St.keyRevoked (toW64 n) sl.keyId else
    if !d.mayRequest c then d0 else
    if !ok then d.failWith c St.programFault else
    let b := d.blob (beBytes 32 sl.key.toNat) sl.counter sl.keyId.toNat sl.usage.toNat (sl.gen + 1)
    ((d.memWrite c [(x.ga.toNat, 96)] b).onSlot n (fun s => { s with gen := s.gen + 1 })).finish c St.ok (some 96) 0 0)

/-- KEY.ERASE (R157): a LOADED slot drains, its open record closes, and it is erased at 0 pins. -/
def execKeyErase (c : Nat) (s : State) : Out :=
  s.insn c 0x63 (fun d0 =>
    let d := d0.issue c
    let n := wImm (d.ctxs.get c).ir % 1024
    match (d.slot n).st with
    | .empty => d.failWith c St.slotEmpty (toW64 n)
    | .loaded =>
      let d1 := ((((d.stamp 0xB).2.onSlot n (fun s => { s with st := .draining })).closeOpen (fun r => r.slot == n)).fly c (.erase n false))
      if (d1.slot n).pins = 0 then d1.emptySlot n else d1
    | .draining => d.fly c (.erase n false)
    | .revoking => d.fly c (.erase n false))

/-! ### Revocation (R158) -/

/-- Whether an uncommitted command of a context pins a slot: a write with its pin, a PATCH that looks its object up, or a GET. An inline PUT pins
at its release. -/
def Dev.pinsSlot (d : Dev) (c n : Nat) : Bool :=
  match (d.ctxs.get c).run with
  | .flight (.read r) => r.opcode == 0x42 && r.slot == n
  | .flight (.existence op) => op == 0x41 && wImm (d.ctxs.get c).ir % 1024 == n
  | .flight (.write id) => (match d.write id with
      | some w => w.pinned && w.slot == n && w.commit.isNone
      | none => false)
  | _ => (d.intentIn c).any (fun w => w.pinned && w.slot == n)

/-- A revocation decision at a command's latch: it ends with S_KEY_REVOKED, recorded as a C2 error. -/
def Dev.revokeCmd (d : Dev) (c n : Nat) : Dev :=
  match d.cmdOf c with
  | none => d
  | some m =>
    let sd := d.stamp (qmUnit m.port) m.arrival.after
    (sd.2.failRecord c St.keyRevoked false (toW64 n) (d.slot n).keyId).cutCommand m St.keyRevoked sd.1

/-- A committed version that pins a slot is withdrawn: its unsealed blocks are discarded, its pin ends, and it stays as a marker
(R158, R159). -/
def Dev.withdraw (d : Dev) (w : Write) : Dev :=
  (((d.stamp 8).2.dropBlocks (fun b => b.write == some w.id)).onWrite w.id (fun w => { w with withdrawn := true, pinned := false })).unpin w.slot

/-- The records of a slot that are not sealed are discarded with their buffers: the open one takes no stamp, no IV and no place in the stream, and
of a closed one that has no tag yet the blocks are unsealed too (R142, R158; log entry 134). -/
def Dev.discardUnsealed (d : Dev) (n : Nat) : Dev :=
  let mine := fun (r : Rec) => !r.sealed && r.slot == n
  (((d.each (d.cx.recs.filter mine) (fun d r => d.each r.buf.toList Dev.giveBack)).dropWaits (fun u t => u == .cipher && t == [n])).onCx (fun x =>
    { x with recs := x.recs.filter (fun r => !mine r) })).logDue.feedPipes 16

/-- A slot is revoked (R158): how many commands and versions it ended. -/
def Dev.revoke (d : Dev) (n : Nat) : Nat × Dev :=
  let d1 := (d.stamp 0xB).2.onSlot n (fun s => { s with st := .revoking })
  let cs := (List.range 256).filter (fun c => d1.pinsSlot c n)
  let d2 := d1.each cs (fun d c => d.revokeCmd c n)
  let ws := d2.idx.writes.filter (fun w => w.isVersion && w.pinned && w.slot == n)
  let d3 := (d2.each ws (fun d w => d.withdraw w)).discardUnsealed n
  (cs.length + ws.length, (d3.loss 3 0 0xFFFFFFFF ws).reviewHolds.reap)

/-- KEY.ERASE.NOW (R157, R158). -/
def execKeyEraseNow (c : Nat) (s : State) : Out :=
  s.insn c 0x64 (fun d0 =>
    let d := d0.issue c
    let n := wImm (d.ctxs.get c).ir % 1024
    match (d.slot n).st with
    | .empty => d.failWith c St.slotEmpty (toW64 n)
    | .revoking => d.fly c (.eraseNow n 0 false)
    | .loaded => ((d.revoke n).2).fly c (.eraseNow n (d.revoke n).1 false)
    | .draining => ((d.revoke n).2).fly c (.eraseNow n (d.revoke n).1 false))

/-- REVOCATION_DONE: the key of a revoked slot is zeroed; the slot is EMPTY and the order epoch advances (R157, R293). -/
def execRevocationDone (slot : Nat) (s : State) : Out :=
  s.work (fun d => if slot < 1024 ∧ (d.slot slot).st = .revoking then d.emptySlot slot else d)

/-- RNG_HEALTH_FAIL: the random generator is fenced as a C3 error (R147). -/
def execRngHealthFail (s : State) : Out :=
  s.work (fun d => if d.rngFenced then d else d.raise { cls := .c3, unit := ⟨0xB, 18⟩, cat := 5 })

end Sys2Proof.Machine
end

