-- ==== Sys2Proof/Machine/Housekeeping.lean ====
section
/-! DEFINITION. The housekeeping sequencer (15_thermal_power): rounds, supplies, bands, throttling, adaptive voltage scaling,
refresh, drain-shutdown, the hard trip, REFCLK loss (R13) and the tamper reactions (R366). -/

namespace Sys2Proof.Machine

/-- The sequencer (Table 13.8). -/
def hkUnit : UnitId := ⟨0x14, 0⟩

/-- Ticks of a round: 4 ms (R316). -/
def roundTicks : Nat := 4 * msTicks

/-- A signed number in `n` bits. -/
def toField (n : Nat) (v : Int) : Nat := (v % (2 ^ n : Nat)).toNat

/-- The reading in whole degrees. -/
def Hk.celsius (h : Hk) : Int := h.reading / 16

/-- Detail word 0 of a record of category 0x0C (Table 13.3). -/
def Hk.detail (h : Hk) : W64 := toW64 (h.band * 256 + toField 8 h.celsius)

/-- A C0 event of the sequencer that names a channel, or another value in detail word 1. -/
def Dev.hkEvent (d : Dev) (d1 : W64) : Dev := d.c0 hkUnit 0x0C d.hk.detail d1

/-! ### Speeds (R14, R19, R391) -/

/-- Lowest speed index of islands `i` to `i + n - 1`. -/
def minSpeed (t : Table W16 0) (i : Nat) : Nat → Nat
  | 0 => 65535
  | n + 1 => min (t.get (i + n)).toNat (minSpeed t i n)

/-- Lowest index on the device, 0 before the first round. -/
def Hk.minSpeed (h : Hk) : Nat := if h.rounds = 0 then 0 else Machine.minSpeed h.speeds 0 48

/-- The island with the lowest index. Where several share it spec/ names none of them; the model takes the lowest-numbered (log entry 142). -/
def Hk.slowest (h : Hk) : Nat := ((List.range 48).find? (fun i => (h.speeds.get i).toNat == h.minSpeed)).getD 0

/-- GL_PACE.below_rated. -/
def Hk.belowRated (h : Hk) : Bool := decide (h.rounds ≠ 0) && decide (h.minSpeed < 0x100)

/-- The speeds of a round become visible; falling below rated and returning are C0 events naming island and index. -/
def Dev.hkSpeeds (d : Dev) (speeds : List W16) : Dev :=
  let was := d.hk.belowRated
  let d1 := d.onHk (fun h => { h with rounds := h.rounds + 1
                                      speeds := (List.range 48).foldl (fun t i => t.set i (speeds.getD i 0)) h.speeds })
  if was = d1.hk.belowRated then d1 else
    d1.note { cls := .c0, unit := hkUnit, cat := 0x0C, d0 := d1.hk.detail, d1 := toW64 d1.hk.minSpeed, domain := some d1.hk.slowest }

/-- The units of an island (Tables 1.2 and 13.8). -/
def islandUnits (i : Nat) : List UnitId :=
  let span := fun (o base n : Nat) => (List.range n).map (fun k => (⟨o, base + k⟩ : UnitId))
  if i < 32 then [⟨3 + i / 8, i⟩] else
  if i < 36 then span 9 (8 * (i - 32)) 8 else
  if i < 40 then span 0xA (8 * (i - 36)) 8 else
  if i = 40 then span 0xB 0 8 ++ [⟨0xB, 16⟩, ⟨0xB, 17⟩, ⟨0xB, 18⟩] else
  if i = 41 then span 0xB 8 8 else
  if i < 44 then
    span 0xC (8 * (i - 42)) 8 ++ span 0xC (16 + 2 * (i - 42)) 2 ++ span 0xD (8 * (i - 42)) 8 ++ span 0xE (64 * (i - 42)) 64
      ++ span 0xF (8 * (i - 42)) 8 ++ [⟨0xF, 16 + (i - 42)⟩, ⟨0xF, 18 + (i - 42)⟩] else
  if i = 44 then [⟨1, 0xFFFF⟩, ⟨2, 0xFFFF⟩] else
  if i = 45 then [⟨7, 0xFFFF⟩] else
  if i = 46 then [⟨8, 0xFFFF⟩] else [⟨0x12, 0xFFFF⟩]

/-- Units that failed their memory test: fenced, one C3 record with flag bit 4 naming the first, a C5 where one of them was
the only unit of its kind (R313). -/
def Dev.testFailed (d : Dev) (us : List UnitId) (cat : Nat) (d0 d1 : W64) : Dev :=
  match us with
  | [] => d
  | u :: _ =>
    let f := d.each us Dev.fence
    let f1 := f.note { cls := .c3, unit := u, cat := cat, d0 := d0, d1 := d1, flags := 0x10 }
    match us.find? (fun u => !f1.hasMate u) with
    | some v => f1.raise { cls := .c5, unit := v, cat := cat, d0 := d0, d1 := d1 }
    | none => f1

/-- Calibration (R391): the two rounds that begin after the boot flash step; an island whose monitor reads 0 in both has failed. -/
def Dev.hkCalibrate (d : Dev) (before : Table W16 0) : Dev :=
  if d.hk.calibrated ∨ !d.boot.bootDone ∨ d.boot.failed then d else
  let n := d.hk.calRounds + 1
  let d1 := d.onHk (fun h => { h with calRounds := n })
  if n < 3 then d1 else
    let dead := (List.range 48).filter (fun i => before.get i == 0 && d1.hk.speeds.get i == 0)
    let d2 := d1.onHk (fun h => { h with calibrated := true })
    let d3 := d2.onBoot (fun b => { b with stage := max b.stage 5 })
    d3.each dead (fun d i => d.testFailed (islandUnits i) 0x0C d.hk.detail (toW64 (24 + i / 6)))

/-! ### Temperature and supplies (R3, R317, R318, R319) -/

/-- The diode is open or shorted. -/
def diodeBad (code : BitVec 12) : Bool := decide (0xFF0 ≤ code.toNat) || decide (code.toNat ≤ 0x00F)

/-- The lower limit of the grade in 1/16 °C (Table 0.1). -/
def Dev.gradeLow (d : Dev) : Int := if fieldOf (d.fu.shadow.get 4) 3 0 = 1 then -640 else 0

/-- The diode's reading. A fault latches until reset and reads 255 °C. Of the rounds below the grade's lower limit spec/ does not say whether each
records the C0 event of R3; the model records the first of a run of them (log entry 142). -/
def Dev.hkDiode (d : Dev) (code : BitVec 12) : Dev :=
  let bad := diodeBad code
  let fault := d.hk.diodeFault || bad
  let t := if fault then 0x0FF0 else Config.diodeTemp code.toNat (leNat (d.fuseBytes 128 2)) (leNat (d.fuseBytes 130 2))
  let below := decide (t < d.gradeLow)
  let d1 := d.onHk (fun h => { h with lastReading := h.reading, reading := t, diodeFault := fault, tripBlanked := bad, belowGrade := below
                                      chans := h.chans.set 0 ⟨code, BitVec.ofNat 16 (toField 16 t), false⟩ })
  if below && !d.hk.belowGrade then d1.hkEvent 0 else d1

/-- Nominal millivolts of a supply channel (R318, Table 20.6). -/
def Hk.nominal (h : Hk) (c : Nat) : Nat :=
  if c ≤ 4 then h.v else if c = 5 then 800 else if c ≤ 9 then 1100 else if c = 10 then 1800 else if c = 11 then 850
  else if c = 12 then 1200 else if c = 13 then 1800 else if c = 14 then 1800 else 1200

/-- A reading is more than `pct` per cent from nominal. -/
def offBy (pct v n : Nat) : Bool := decide (pct * n < 100 * (max v n - min v n))

/-- One supply channel of a round. -/
def Dev.hkSupply (d : Dev) (c : Nat) (code : BitVec 12) : Dev :=
  let v := Config.adcMv c code.toNat
  let n := d.hk.nominal c
  let warn := offBy 5 v n
  let fail := offBy 10 v n
  let d1 := d.onHk (fun h => { h with chans := h.chans.set c ⟨code, BitVec.ofNat 16 v, warn⟩
                                      badRounds := h.badRounds.set c (if fail then h.badRounds.get c + 1 else 0) })
  let d2 := if warn then (d1.setW1 Reg.HK_STAT 0 22).hkEvent (toW64 c) else d1
  if d2.hk.badRounds.get c = 2 then
    (if c = 14 then d2.hkEvent (toW64 c) else d2.raise { cls := .c5, unit := hkUnit, cat := 0x0C, d0 := d2.hk.detail, d1 := toW64 c })
  else d2

/-- VFUSE has failed (R318, R360). -/
def Hk.vfuseFailed (h : Hk) : Bool := decide (2 ≤ h.badRounds.get 14)

/-- The millivolts of an external input's code, 0.44 mV each (Table 20.10); rounded up or down by a free choice (log entry 29). -/
def ainMv (code : BitVec 12) (draw : Nat) : Nat := (44 * code.toNat + (if Config.roundUp draw then 99 else 0)) / 100

/-- One external input of a round (R319). -/
def Dev.hkAin (d : Dev) (c : Nat) (code : BitVec 12) : Dev :=
  let a := Reg.HK_AINLIM + 4 * (c - 16)
  let lo := d.rf a 11 0
  let hi := d.rf a 27 16
  let out := decide (lo ≤ hi) && (decide (code.toNat < lo) || decide (hi < code.toNat))
  let was := (d.hk.chans.get c).out
  let d1 := ({ d with draws := d.draws + 1 }).onHk (fun h => { h with chans := h.chans.set c ⟨code, BitVec.ofNat 16 (ainMv code d.draws), out⟩ })
  if out = was then d1 else d1.hkEvent (toW64 c)

/-- Channels 24 to 31: the lowest index of six islands. -/
def Dev.hkMonitors (d : Dev) : Dev :=
  d.onHk (fun h => { h with chans := (List.range 8).foldl (fun t k => t.set (24 + k)
    ⟨0, BitVec.ofNat 16 (minSpeed h.speeds (6 * k) 6), false⟩) h.chans })

/-- The supplies, the reference and the external inputs of a round, in channel order. -/
def Dev.hkInputs (d : Dev) (codes : List (BitVec 12)) : Dev :=
  d.each ((List.range 24).filter (fun c => c != 0)) (fun d c =>
    if c < 16 then d.hkSupply c (codes.getD c 0) else d.hkAin c (codes.getD c 0))

/-! ### Bands (R322) -/

/-- Threshold of band `b`, 1 to 4, in 1/16 °C. -/
def Dev.bandThr (d : Dev) (b : Nat) : Int := ((16 * d.rf Reg.HK_BANDTHR (8 * b - 1) (8 * b - 8) : Nat) : Int)

/-- The band that a reading gives from the present band. -/
def Dev.bandNext (d : Dev) : Nat :=
  if d.hk.diodeFault then 4 else
  let t := d.hk.reading
  let up := if d.bandThr 4 ≤ t then 4 else if d.bandThr 3 ≤ t then 3 else if d.bandThr 2 ≤ t then 2 else if d.bandThr 1 ≤ t then 1 else 0
  if d.hk.band < up then up
  else if 0 < d.hk.band ∧ t < d.bandThr d.hk.band - 32 then d.hk.band - 1 else d.hk.band

/-- The band takes its new value, stamped and recorded; v_cap is the voltage when band 3 was entered (R320). -/
def Dev.hkBand (d : Dev) : Dev :=
  let b := d.bandNext
  if b = d.hk.band then d else
    (d.onHk (fun h => { h with band := b, vCap := (if b < 3 then none else if h.band < 3 then some h.v else h.vCap) })).hkEvent 0

/-- THERM_ALERT_N is asserted (R322). -/
def Hk.alert (h : Hk) : Bool := decide (3 ≤ h.band) || h.diodeFault || h.drain

/-! ### Throttling (R323, R324) -/

/-- A notice of the sequencer. -/
def Dev.hkNotice (d : Dev) (k : NoticeKind) (v : Nat) : Dev :=
  let sd := d.stamp 0x14
  sd.2.notice k (toW64 v) sd.1

/-- Highest duty: 1 to 8. -/
def Dev.stallMax (d : Dev) : Nat := min 8 (max 1 (d.rf Reg.HK_THRCFG 11 8))

/-- Level 2 entry in 1/16 °C, no lower than t3 and no higher than t4. -/
def Dev.l2Temp (d : Dev) : Int := min (d.bandThr 4) (max (d.bandThr 3) ((16 * d.rf Reg.HK_THRCFG 19 12 : Nat) : Int))

/-- Whether VCORE power exceeds the trigger. -/
def Dev.overPower (d : Dev) : Bool := let l := d.rf Reg.HK_PWR 31 16; l != 0 && decide (10 * l < d.hk.vcoreW)

/-- Level 1 follows its condition; the host is told (R323, R324). -/
def Dev.hkLevel1 (d : Dev) : Dev :=
  let want := decide (3 ≤ d.hk.band) || d.hk.level2
  if want && !d.hk.level1 then
    (d.onHk (fun h => { h with level1 := true, grace := true, graceFrom := d.clk.now })).hkNotice .throttleRequest d.paceRate
  else if !want && d.hk.level1 then
    ((d.onHk (fun h => { h with level1 := false, grace := false })).onArb (fun a => { a with pacing := false })).hkNotice .throttleEnd 0
  else d

/-- Pacing is in force after the grace of level 1 while HK_CTL.pace_en is 1; the bucket starts empty (log entry 17). -/
def Dev.hkPacing (d : Dev) : Dev :=
  let on := d.hk.level1 && !d.hk.grace && d.rf Reg.HK_CTL 29 29 == 1
  if on = d.arb.pacing then d
  else d.onArb (fun a => { a with pacing := on, tokens := (if on then 0 else a.tokens), tokenAt := (if on then d.clk.now else a.tokenAt) })

/-- Level 2 and its duty at the end of a round (R324, R325). -/
def Dev.hkLevel2 (d : Dev) : Dev :=
  let above := d.overPower
  let d1 := d.onHk (fun h => { h with overPower := (if above then h.overPower + 1 else 0), calm := (if above then 0 else h.calm + 1) })
  let h := d1.hk
  if h.drain then d1.onHk (fun h => { h with level2 := true, duty := d.stallMax })
  else if !h.level2 then
    (if (h.band = 3 ∧ d.l2Temp ≤ h.reading) ∨ 4 ≤ h.overPower then d1.onHk (fun h => { h with level2 := true, duty := 1 }) else d1)
  else if h.reading < d.l2Temp - 32 ∧ 4 ≤ h.calm then d1.onHk (fun h => { h with level2 := false, duty := 0 })
  else if h.lastReading ≤ h.reading then d1.onHk (fun h => { h with duty := min (h.duty + 1) d.stallMax })
  else if h.reading + 16 ≤ h.lastReading then d1.onHk (fun h => { h with duty := max (h.duty - 1) 1 })
  else d1

/-! ### Adaptive voltage scaling (R320, R321) -/

/-- A voltage within 600 to 900 mV. -/
def clampMv (v : Nat) : Nat := min 900 (max 600 v)

/-- Ceiling and floor of VCORE. -/
def Dev.vMax (d : Dev) : Nat :=
  let m := clampMv (d.rf Reg.HK_AVSLIM 31 16)
  match d.hk.vCap with
  | some c => min m c
  | none => m
def Dev.vMin (d : Dev) : Nat := min (clampMv (d.rf Reg.HK_AVSLIM 15 0)) (clampMv (d.rf Reg.HK_AVSLIM 31 16))

/-- The voltage that R320 computes. -/
def Dev.vNext (d : Dev) : Nat :=
  let m := d.hk.minSpeed
  let lo := d.rf Reg.HK_AVSCFG 7 0
  let hi := if d.rf Reg.HK_AVSCFG 15 8 ≤ lo then lo + 8 else d.rf Reg.HK_AVSCFG 15 8
  let st := max 1 (d.rf Reg.HK_AVSCFG 27 24)
  let v := d.hk.v
  if m < 0x100 + lo ∧ v < d.vMax then min (v + st) d.vMax
  else if 0x100 + hi < m ∧ d.vMin < v then max (v - st) d.vMin else v

/-- AVS at the end of a round: `avs` is the power read back in 0.1 W, none where the three attempts failed. -/
def Dev.hkAvs (d : Dev) (avs : Option (Nat × Nat)) : Dev :=
  if !d.hk.calibrated ∨ d.rf Reg.HK_CTL 30 30 = 0 then d else
  match avs with
  | some (_, w) =>
    d.onHk (fun h => { h with commanded := h.commanded || decide (d.vNext ≠ h.v), v := d.vNext, vcoreW := w, avsFault := false })
  | none =>
    if d.hk.avsFault then d else
      (d.onHk (fun h => { h with avsFault := true, vcoreW := 0 })).raise { cls := .c3, unit := hkUnit, cat := 0x0C, d0 := d.hk.detail }

/-! ### Refresh (R315) -/

/-- Refresh factor of a band, as a power of two. -/
def bandRefresh (b : Nat) : Nat := if b ≤ 1 then 0 else if b = 2 then 1 else 2

/-- Refresh window of a factor in ms. -/
def refreshMs (f : Nat) : Nat := if f = 0 then 32 else if f = 1 then 16 else 8

/-- The factor rises at once; a fall waits for one full window at the present factor. -/
def Dev.hkRefresh (d : Dev) : Dev :=
  let want := bandRefresh d.hk.band
  if d.mi.refresh ≤ want then
    (d.onMi (fun m => { m with refresh := want })).onHk (fun h => { h with refreshWait := none })
  else match d.hk.refreshWait with
    | some _ => d
    | none => d.onHk (fun h => { h with refreshWait := some (d.clk.now + refreshMs d.mi.refresh * msTicks) })

/-- REFRESH_STEP_DOWN: the window at the old factor has passed (R315). -/
def execRefreshStepDown (s : State) : Out :=
  s.live (fun d =>
    match d.hk.refreshWait with
    | none => d
    | some t =>
      let d1 := d.advanceTo t
      ((d1.onMi (fun m => { m with refresh := m.refresh - 1 })).onHk (fun h => { h with refreshWait := none })).hkRefresh)

/-! ### Drain-shutdown (R325, R326) -/

/-- A GET that needs tape. -/
def ReadOp.needsTape (r : ReadOp) : Bool :=
  r.opcode == 0x42 && r.plan.any (fun x => match x with
    | .extent _ _ _ => true
    | _ => false)

/-- Reads that need tape end (R325). -/
def Dev.refuseTapeReads (d : Dev) : Dev :=
  d.each (List.range 256) (fun d c => match (d.ctxs.get c).run with
    | .flight (.read r) => if r.needsTape then d.failRead c St.thermalRefused d.hk.detail 0 else d
    | _ => d)

/-- Drain-shutdown is entered when the band reaches 4: DRAIN mode (a flip mask armed in MAINT is disarmed, R314), the notice,
level 2 held, and reads that need tape refused. -/
def Dev.hkDrain (d : Dev) : Dev :=
  if d.hk.band = 4 ∧ !d.hk.drain ∧ !d.er.failed then
    let d1 := { (d.onHk (fun h => { h with drain := true, level2 := true, duty := d.stallMax })).setRf Reg.MI_FLIPCTL 31 31 0 with mode := .drain }
    let d2 := d1.hkNotice .drainShutdown (if d.hk.diodeFault then 0xFFFF else toField 16 d.hk.celsius)
    (((d2.hkEvent 0).onSh (fun x => { x with draining := d.clk.now + (max 1 (d.rf Reg.HK_DRAIN 15 0)) * 1000 * msTicks }))).refuseTapeReads
  else d

/-- The halt: a C5 with an event-log entry of cause 0x02 (R325, R326). -/
def Dev.drainStop (d : Dev) : Dev :=
  (d.raiseC5 { cls := .c5, unit := hkUnit, cat := 0x0C, d0 := d.hk.detail } 2 (if d.hk.diodeFault then 0xFF else toField 8 d.hk.celsius)).abandonBurn

/-- Whether the drain has nothing left to do: no volume OPEN, or its colophon written. -/
def Dev.drained (d : Dev) : Bool := d.hk.drain && (d.vol.st != .opened || d.hk.drainDone)

/-- DRAIN_LIMIT_EXPIRE: HK_DRAIN.limit_s passed, or the flush failed, before the drain was done; the halt follows at once (R326). -/
def execDrainLimitExpire (s : State) : Out :=
  s.whenDev (fun d => d.working && d.hk.drain && !d.drained) (fun d =>
    (if d.hk.drainFailed then d else d.advanceTo d.sh.draining).drainStop)

/-! ### The round (R316) -/

/-- HK_ROUND_END: a round of 32 conversions ends, stamped; its results become visible together. -/
def execHkRoundEnd (codes : List (BitVec 12)) (speeds : List W16) (avs : Option (Nat × Nat)) (s : State) : Out :=
  s.whenDev (fun d => d.alive && decide (codes.length = 24) && decide (speeds.length = 48)) (fun d =>
    let before := d.hk.speeds
    let d1 := ((d.advanceTo ((d.hk.rounds + 1) * roundTicks)).stamp 0x14).2.hkDiode (codes.getD 0 0)
    let d2 := ((d1.hkSpeeds speeds).hkMonitors).hkInputs codes
    let d3 := ((d2.hkBand).hkDrain).hkLevel2
    ((((d3.hkLevel1).hkPacing).hkCalibrate before).hkAvs avs).hkRefresh)

/-- THROTTLE_GRACE_END: the grace of level 1 has passed (R323). -/
def execThrottleGraceEnd (s : State) : Out :=
  s.whenDev (fun d => d.working && d.hk.grace) (fun d =>
    ((d.advanceTo (d.hk.graceFrom + d.rf Reg.HK_THRCFG 31 20 * msTicks)).onHk (fun h => { h with grace := false })).hkPacing)

/-! ### Tamper (R365, R366) -/

/-- Every key slot, the blob key, the import key's shadow, the expanded keys and the generator's state are zeroed (R365). -/
def Dev.zeroKeys (d : Dev) : Dev := d.onCx (fun c => { c with slots := Table.empty, keysZero := true })

/-- The initialization fill starts (R306): no word of the buffer keeps its content. -/
def Dev.startFill (d : Dev) : Dev :=
  (d.onMi (fun m => { m with words := Table.empty, poison := [], merges := [], log := Table.empty, initBusy := true })).onBoot
    (fun b => { b with fillDone := false })

/-- A tamper source acts (R366). -/
def Dev.tamper (d : Dev) (source : Nat) (mute : Bool) : Dev :=
  (d.zeroKeys.startFill).raiseC5 { cls := .c5, unit := hkUnit, cat := 0x0C, d0 := d.hk.detail, d1 := toW64 source } 5 source mute

/-- TAMPER: source 1 VCORE out of range, or 3 the GPIO input where FU_TAMPER.gpio_en is 1 (Table 17.7); source 2 is REFCLK_LOSS. -/
def execTamper (source : Nat) (s : State) : Out :=
  s.whenDev (fun d => d.alive && (source == 1 || (source == 3 && d.rf Reg.FU_TAMPER 31 31 == 1))) (fun d => d.tamper source false)

/-- REFCLK_LOSS: the detector declares loss (R13): drive off, brake applied, no link transmits; the count is no longer trusted and nothing more
is posted. -/
def execRefclkLoss (s : State) : Out :=
  s.live (fun d => (((d.tamper 2 true).stopLinks).onTc Tc.unpower).onClk (fun c => { c with running := false }))

/-- Every head-link and cascade transmitter is in electrical idle (R327). -/
def Dev.idleAll (d : Dev) : Dev := d.stopLinks.onCs (fun c => { c with c0 := Hop.reset, c1 := Hop.reset })

/-- HARD_TRIP: the comparator trips at 115 °C (R327) unless it is blanked (R329): drive off, brake applied, every island
stalled, no transmitter on, THERMTRIP_N asserted, one event-log entry burned. -/
def execHardTrip (s : State) : Out :=
  s.whenDev (fun d => d.alive && !d.hk.tripBlanked) (fun d =>
    let d1 := { d with draws := d.draws + 1 }
    ((d1.raiseC5 { cls := .c5, unit := hkUnit, cat := 0x0C, d0 := d.hk.detail } 1 (Config.freeNat d.draws % 256) true).abandonBurn.idleAll.onTc Tc.unpower).onHk
      (fun h => { h with tripped := true }))

end Sys2Proof.Machine
end

