-- ==== Sys2Proof/Machine/Stripes.lean ====
section
/-! DEFINITION. Cross-cartridge parity of a widened set (R343 to R348): spans, the terms of a stripe, and the parity streams on the ring. -/

namespace Sys2Proof.Machine

/-- Whether this device is a data member, or a parity member, of a widened set (R343). -/
def Dev.dataMember (d : Dev) : Bool := d.widen && decide (d.clk.member.toNat < d.cs.kInForce)
def Dev.parityMember (d : Dev) : Bool := d.widen && decide (d.cs.kInForce ≤ d.clk.member.toNat)

/-- This member's role in a widened set: its data index, or 0x80 and its parity index (R347). -/
def Dev.role (d : Dev) : Nat :=
  let m := d.clk.member.toNat
  if m < d.cs.kInForce then m else 0x80 + (m - d.cs.kInForce)

/-- Bit `j` of a payload, most significant bit of the first byte first; zero past its end. -/
def payloadBit (p : List Byte) (j : Nat) : Bool := (p.getD (j / 8) 0).getLsbD (7 - j % 8)

/-- Symbol `i` of the L3 span of a data forme (R179): the first holds six zero bits and the payload's first four. -/
def spanSymbol (p : List Byte) (i : Nat) : Nat :=
  (List.range 10).foldl (fun a b => 2 * a + (if 10 * i + b < 6 then 0 else b2n (payloadBit p (10 * i + b - 6)))) 0

/-- Symbols of a span. -/
def spanLen : Nat := 153191

/-- The span of a payload. -/
def spanOf (p : List Byte) : List (BitVec 10) := (List.range spanLen).map (fun i => BitVec.ofNat 10 (spanSymbol p i))

/-- The payload that a span of parity symbols makes; the first symbol's six leading bits have no place in it. -/
def payloadOf (s : List (BitVec 10)) : List Byte :=
  (List.range 191488).map (fun t => BitVec.ofNat 8 ((List.range 8).foldl (fun a b =>
    let j := 8 * t + b + 6
    2 * a + b2n ((s.getD (j / 10) 0).getLsbD (9 - j % 10))) 0))

/-- The coefficients of x^(k + m − 1 − i) modulo the generator, of x^(m − 1) first (R345). -/
def stripeCoeffs (k m i : Nat) : List Nat := rsChecks m (1 :: List.replicate (k - 1 - i) 0)

/-- A member's term of a parity stream: its span times a coefficient. -/
def stripeTerm (c : Nat) (p : List Byte) : List (BitVec 10) := (spanOf p).map (fun x => BitVec.ofNat 10 (gf10mul c x.toNat))

/-- The sum of two terms. -/
def addTerms (a b : List (BitVec 10)) : List (BitVec 10) := a.zipWith (fun x y => x ^^^ y) b

/-- The member where a stream begins: 0 for P0, k − 1 for P1. -/
def Dev.streamStart (d : Dev) (stream : Nat) : Nat := if stream = 1 then 0 else d.cs.kInForce - 1

/-- A stream leaves on the next hop: P0 clockwise on C0, P1 counter-clockwise on C1 (R345). -/
def Dev.passStream (d : Dev) (stream number : Nat) (syms : List (BitVec 10)) : Dev :=
  (d.onCs (fun c => c.onHop (stream == 1) (fun h => h.stripe stream number syms))).count 0xC0 0 5 stripeBlocks

/-- The partial of a stream and stripe. -/
def Cascade.partialOf (c : Cascade) (stream number : Nat) : Option Partial :=
  c.partials.find? (fun p => p.stream == stream && p.number == number)

/-- A partial is held no longer; its buffer goes back. -/
def Dev.dropPartial (d : Dev) (p : Partial) : Dev :=
  let d1 := d.onCs (fun c => { c with partials := c.partials.filter (fun q => !(q.stream == p.stream && q.number == p.number)) })
  match p.buf with
  | some k => d1.giveBack k
  | none => d1

/-- A data member's own term of a stream is ready: it joins the partial that waits, starts the stream, or waits itself (R345). -/
def Dev.ownTerm (d : Dev) (stream number : Nat) (payload : List Byte) : Dev :=
  let i := d.clk.member.toNat
  let term := stripeTerm ((stripeCoeffs d.cs.kInForce d.cs.mInForce i).getD (stream - 1) 0) payload
  if i = d.streamStart stream then d.passStream stream number term
  else match d.cs.partialOf stream number with
    | some p => (d.dropPartial p).passStream stream number (addTerms p.symbols term)
    | none => d.onCs (fun x => { x with partials := x.partials ++ [⟨stream, number, term, true, none⟩] })

/-- A data member has assembled its forme of the next stripe (R344): its terms join the streams, and the other members are told. -/
def Dev.ownStripe (d : Dev) (folio : Nat) (payload : List Byte) : Dev :=
  if !d.dataMember then d else
  let n := d.cs.stripeFolios.length
  let d1 := d.onCs (fun c => { c with stripeFolios := c.stripeFolios ++ [folio] })
  let d2 := d1.ownTerm 1 n payload
  let d3 := if d.cs.mInForce = 2 then d2.ownTerm 2 n payload else d2
  let sd := d3.stamp 0x15
  sd.2.broadcast .setOp sd.1 ([3, 0] ++ leBytes 6 n)

/-- Stripes that another data member has assembled: one more than the highest number reported. -/
def Cascade.stripesKnown (c : Cascade) : Nat := c.stripesDone.foldl (fun a n => max a (n + 1)) 0

/-- A parity member reports the stripes whose formes a recorded checkpoint covers, once each (R348). -/
def Dev.reportStripes (d : Dev) (lastFolio : Nat) : Dev :=
  if !d.parityMember then d else
  let due := (d.cs.stripeFolios.zipIdx.filter (fun x => decide (x.1 ≤ lastFolio) && !d.cs.stripesDone.contains x.2)).map (fun x => x.2)
  d.each due (fun d n =>
    let sd := d.stamp 0x15
    (sd.2.broadcast .setOp sd.1 ([3, 1] ++ leBytes 6 n)).onCs (fun c => { c with stripesDone := c.stripesDone ++ [n] }))

/-- Parity coverage of the stripes whose formes the last recorded checkpoint covers (R348). -/
def Dev.stripesCovered (d : Dev) : Bool :=
  !d.dataMember ||
    (match d.vol.loaded.bind (fun v => v.lastCkpt) with
     | none => true
     | some c => d.cs.stripeFolios.zipIdx.all (fun x => decide (c.lastFolio < x.1) ||
         decide (d.cs.mInForce ≤ (d.cs.coverage.filter (fun y => y.1 == x.2)).length)))

/-! ### Rebuilding from the other members (R349) -/

/-- Symbol `p` of the span of a member's forme of a stripe, where it is given: the parity members' formes hold parity. -/
def stripeSymbol (others : List (Nat × List Byte)) (p i : Nat) : Option Nat := (others.find? (fun x => x.1 == i)).map (fun x => spanSymbol x.2 p)

/-- Members of the set whose forme of a stripe is not given. -/
def stripeGaps (k m : Nat) (others : List (Nat × List Byte)) : List Nat := (List.range (k + m)).filter (fun i => !others.any (fun x => x.1 == i))

/-- A symbol of a lost member's span from the others', by erasures of RS(k + m, k). -/
def crossSymbol (k m self : Nat) (others : List (Nat × List Byte)) (p : Nat) : Option Nat :=
  (rsDecode m ((List.range (k + m)).map (fun i => (stripeSymbol others p i).getD 0)) (stripeGaps k m others)).map (fun x => x.1.getD self 0)

/-- The first symbol of a span, of which a parity payload keeps four bits: the value of four bits whose parity agrees with what is kept
(log entry 108). -/
def crossFirst (k m self : Nat) (others : List (Nat × List Byte)) : Nat :=
  let word := fun (x : Nat × Nat) => (List.range k).map (fun i => (stripeSymbol others 0 i).getD (if i = self then x.1 else x.2))
  ((((List.range 16).flatMap (fun a => (List.range 16).map (fun b => (a, b)))).find? (fun x =>
    let ck := rsChecks m (word x)
    (List.range m).all (fun j => (stripeSymbol others 0 (k + j)).all (fun s => ck.getD j 0 % 16 == s % 16)))).getD (0, 0)).1

/-- The payload of a lost data forme of member `self`, where at most m of the stripe's formes are lost (R349). -/
def crossPayload (k m self : Nat) (others : List (Nat × List Byte)) : Option (List Byte) :=
  if m < (stripeGaps k m others).length then none
  else (((List.range (spanLen - 1)).mapM (fun i => crossSymbol k m self others (i + 1))).map (fun syms =>
    payloadOf ((crossFirst k m self others :: syms).map (fun x => BitVec.ofNat 10 x))))

/-- The stripes of a volume that is formatted, or loaded with these data formes. -/
def Dev.resetStripes (d : Dev) (folios : List Nat) : Dev :=
  (d.each d.cs.partials Dev.dropPartial).onCs (fun c => { c with stripeFolios := folios, stripesDone := [], coverage := [], partials := [] })

end Sys2Proof.Machine
end

