-- ==== Sys2Proof/Machine/Formes.lean ====
section
/-! DEFINITION. The forme assembler, L3 groups and directory checkpoints (R175 to R183, R217 to R221), and how writes become durable
(R91). -/

namespace Sys2Proof.Machine

/-! ### Directory entries (R218 to R220) -/

/-- Object, session and stamp of an entry that a write made; none for locators and stripe entries. -/
def DirEntry.key : DirEntry → Option (W64 × Nat × Stamp)
  | .extent _ obj _ _ _ _ sess s _ => some (obj, sess, s)
  | .delete obj sess s => some (obj, sess, s)
  | .marker obj _ _ sess s => some (obj, sess, s)
  | .locator _ _ _ _ _ _ _ => none
  | .stripe _ _ _ _ _ => none

/-- An entry counts against the limit of entries (R220). -/
def DirEntry.counted (e : DirEntry) : Bool := e.key.isSome

/-- Order of writes across sessions (R84). -/
def laterWrite (a b : Nat × Stamp) : Bool := decide (a.1 < b.1) || (a.1 == b.1 && a.2.lt b.2)

/-- The bytes of its object that an entry covers: [from, to). A PUT's extent or marker and a DELETE cover the whole object (R87). -/
def DirEntry.shade : DirEntry → Nat × Nat
  | .extent flags _ off _ _ len _ _ _ => if flags % 2 = 1 then (0, 2 ^ 48) else (off, off + len)
  | .delete _ _ _ => (0, 2 ^ 48)
  | .marker _ off len _ _ => if len = 2 ^ 48 - 1 then (0, 2 ^ 48) else (off, off + len)
  | .locator _ _ _ _ _ _ _ => (0, 0)
  | .stripe _ _ _ _ _ => (0, 0)

/-- The bytes an extent or marker holds. -/
def DirEntry.span : DirEntry → Nat × Nat
  | .extent _ _ off _ _ len _ _ _ => (off, off + len)
  | .marker _ off len _ _ => (off, off + len)
  | _ => (0, 0)

/-- What is left of intervals without another. -/
def cutInterval (l : List (Nat × Nat)) (x : Nat × Nat) : List (Nat × Nat) :=
  l.flatMap (fun y => [(y.1, min y.2 x.1), (max y.1 x.2, y.2)].filter (fun z => decide (z.1 < z.2)))

/-- Whether an entry of an object comes from a later write than another's. -/
def DirEntry.after (a b : DirEntry) : Bool :=
  match a.key, b.key with
  | some (o, s, t), some (p, u, v) => o == p && laterWrite (u, v) (s, t)
  | _, _ => false

/-- Bytes of an entry that later entries leave visible. -/
def visibleOf (all : List DirEntry) (e : DirEntry) : List (Nat × Nat) :=
  (all.filter (fun x => x.after e)).foldl (fun l x => cutInterval l x.shade) [e.span]

/-- Whether later writes wholly shadow an entry (an empty extent: whether a later one covers its object). -/
def shadowed (all : List DirEntry) (e : DirEntry) : Bool :=
  if e.span.1 = e.span.2 then (all.filter (fun x => x.after e)).any (fun x => x.shade == (0, 2 ^ 48))
  else (visibleOf all e).isEmpty

/-- Order of a base: object, then offset. -/
def entryLe (a b : DirEntry) : Bool :=
  match a.key, b.key with
  | some (o, _, _), some (p, _, _) => decide (o.toNat < p.toNat) || (o == p && decide (a.span.1 ≤ b.span.1))
  | some _, none => true
  | none, some _ => false
  | none, none => true

/-- Stamp order of a delta; locators last. -/
def entryStampLe (a b : DirEntry) : Bool :=
  match a.key, b.key with
  | some (_, s, t), some (_, u, v) => !laterWrite (u, v) (s, t)
  | some _, none => true
  | none, some _ => false
  | none, none => true

/-- The entries of a base: live entries and every locator (R218). -/
def baseEntries (all : List DirEntry) : List DirEntry :=
  (all.filter (fun e => match e with
    | .extent _ _ _ _ _ _ _ _ _ => !shadowed all e
    | .marker _ _ _ _ _ => !shadowed all e
    | .delete _ _ _ => false
    | .locator _ _ _ _ _ _ _ => true
    | .stripe _ _ _ _ _ => true)).mergeSort entryLe

/-! ### Assembling formes (R175, R178 to R181) -/

/-- Change of the loaded volume. -/
def Dev.onVolume (d : Dev) (f : Volume → Volume) : Dev := d.onVol (fun v => { v with loaded := v.loaded.map f })

/-- FM_L3CFG.group_size as it is treated. -/
def Dev.groupSize (d : Dev) : Nat := min 32 (max 8 (d.rf Reg.FM_L3CFG 5 0))

/-- The folio of the latest checkpoint recorded. -/
def Volume.ckptFolio (v : Volume) : Nat :=
  match v.lastCkpt with
  | some c => c.firstFolio
  | none => noFolio

/-- The counter of a kind (Table 8.14). -/
def FKind.counter : FKind → Nat
  | .data => 0
  | .directory => 1
  | .parity => 2
  | .filler => 3
  | .colophon => 4

/-- Whether a forme is a member of an L3 group. -/
def FKind.member (k : FKind) : Bool := k == .data || k == .directory

/-- The lowest L2 encoder in service. -/
def Dev.l2Encoder (d : Dev) : Nat := ((List.range 16).find? (fun n => !d.isFenced ⟨0xC, n⟩)).getD 0

/-- A forme is assembled: it takes the next folio, a buffer and an L2 encoder, and is stamped by the assembler (R175). None where its buffer waits. The
assembler and the L2 encoder let the buffer go, the L3 encoder holds a member's until its group closes (Table 5.5). -/
def Dev.assemble (d : Dev) (kind : FKind) (flags : Byte) (member base : Nat) (payload : List Byte) (lead streamOff firstRec : Nat)
    (ledger : List Byte) : Option Dev :=
  match d.vol.loaded, d.grab (if kind = .directory then .directory else .forme) [0] 192000 [.unit .forme, .unit .encoder, .unit .rewrite] with
  | some v, (some k, d1) =>
    let d0 := d1.letGo k (.unit .forme)
    let sd := (if kind.member then d0 else d0.letGo k (.unit .encoder)).stamp 0xC
    let f : Forme := { folio := v.nextFolio, kind := kind, flags := flags, member := member, groupBase := base, payload := payload
                       lead := lead, streamOff := streamOff, firstRec := firstRec, stamp := sd.1, lastCkpt := v.ckptFolio, ledger := ledger
                       enc := d.l2Encoder, buf := some k, accepted := none, rewrite := 0, copies := 0, fullSheaves := 0, fullIn := none
                       queued := true }
    let d2 := (sd.2.onFm (fun x => { x with held := x.held ++ [f] })).count 0x50 0 kind.counter 1
    let native := if kind.member then payload.length else 0
    some (d2.onVolume (fun v => { v with nextFolio := v.nextFolio + 1, nativeUsed := v.nativeUsed + native }))
  | _, _ => none

/-- The lowest L3 encoder in service. -/
def Dev.l3Encoder (d : Dev) : Nat := ((List.range 4).find? (fun n => !d.isFenced ⟨0xC, 16 + n⟩)).getD 0

/-- A group opens with its first member (R180). -/
def Dev.openGroup (d : Dev) (base : Nat) : Dev :=
  if d.fm.group.isSome then d else
    d.onFm (fun x => { x with group := some ⟨base, [], d.groupSize, 2 ^ 64, 2 ^ 64, d.l3Encoder, []⟩ })

/-- A parity forme of a closing group: its content is the parity span that the accumulator holds (R179). -/
def Dev.addParity (d : Dev) (g : Group) (cause : Nat) (ledger : List Byte) (j : Nat) : Option Dev :=
  let b := spanBytes (g.acc.getD j [])
  d.assemble .parity (BitVec.ofNat 8 cause) (32 + j) g.base (b.drop 1) (b.headD 0).toNat 0 0xFFFFFFFF ledger

/-- A closing group's four parity formes are computed and assembled (R181). -/
def Dev.closeGroup (d : Dev) (cause : Nat) : Option Dev :=
  match d.fm.group, d.vol.loaded with
  | some g, some v =>
    let sd := d.stamp 0xC
    let ms := sd.2.fm.held.filter (fun f => g.members.contains f.folio)
    let rb := if g.recordBase = 2 ^ 64 then v.recordLen - sd.2.fm.openPayload.length else g.recordBase
    let db := if g.directoryBase = 2 ^ 64 then v.directoryLen else g.directoryBase
    let led := ledgerBytes ms rb db (stampOnTape v.session d.clk.adopted sd.1)
    let d1 := (sd.2.onFm (fun x => { x with group := none, closed := x.closed ++ [⟨g.base, ms.length, cause, sd.1, rb, db⟩] })).count 0x50 0 (5 + cause) 1
    let d2 := d1.each (ms.flatMap (fun f => f.buf.toList)) (fun d k => d.letGo k (.unit .encoder))
    (List.range 4).foldlM (fun d j => d.addParity g cause led j) d2
  | _, _ => some d

/-- The span of a forme of some payload. -/
def memberSpan (payload : List Byte) : List Nat := l3Span (packSymbols 38400 (dataArea (zeros 512) payload))

/-- A member joins the open group, or opens one, and is added to its accumulator; a group that reaches its size closes full (R179 to R181). -/
def Dev.addMember (d : Dev) (kind : FKind) (flags : Byte) (payload : List Byte) (streamOff firstRec : Nat) : Option Dev :=
  match d.vol.loaded with
  | none => none
  | some v =>
    let d1 := d.openGroup v.nextFolio
    match d1.fm.group with
    | none => none
    | some g =>
      (d1.assemble kind flags g.members.length g.base payload 0 streamOff firstRec []).bind (fun d2 =>
        let d3 := d2.onFm (fun x => { x with group := some { g with
          members := g.members ++ [v.nextFolio]
          acc := l3Add g.acc g.members.length (memberSpan payload)
          recordBase := (if kind = .data then min g.recordBase streamOff else g.recordBase)
          directoryBase := (if kind = .directory then min g.directoryBase streamOff else g.directoryBase) } })
        if g.size ≤ g.members.length + 1 then d3.closeGroup 0 else some d3)

/-- The open data forme closes with what it holds (R178). -/
def Dev.closeData (d : Dev) : Option Dev :=
  if d.fm.openPayload.isEmpty then some d else
  match d.vol.loaded with
  | none => none
  | some v =>
    (d.addMember .data 0 d.fm.openPayload (v.recordLen - d.fm.openPayload.length) (d.fm.openFirst.getD 0xFFFFFFFF)).map (fun d1 =>
      (d1.onFm (fun x => { x with openPayload := [], openFirst := none })).ownStripe v.nextFolio d.fm.openPayload)

/-- A data member assembles a forme of the next stripe with no payload (R346). -/
def Dev.emptyStripe (d : Dev) : Option Dev :=
  match d.vol.loaded with
  | none => none
  | some v => (d.addMember .data 0 [] v.recordLen 0xFFFFFFFF).map (fun d1 => (d1.ownStripe v.nextFolio []).count 0xC0 0 6 1)

/-- Stripes that another data member has assembled are completed at once by a FLUSH (R346). -/
def Dev.padStripes (d : Dev) : Option Dev :=
  if !d.dataMember then some d else
    (List.range (d.cs.stripesKnown - d.cs.stripeFolios.length)).foldlM (fun d _ => d.emptyStripe) d

/-! ### The record stream (R178) -/

/-- The stream offset of a record that is being placed. -/
def Rec.placedAt (r : Rec) : Option Nat :=
  match r.st with
  | .placed off => some off
  | _ => none

/-- Closed records not yet wholly placed, the one with the earliest stamp. -/
def Dev.nextRecord (d : Dev) : Option Rec := (d.cx.recs.filter (fun r => r.st != .open)).foldl earlierRec none

/-- Bytes of a block of a write. -/
def Write.blockLen (w : Write) (k : Nat) : Nat := min w.blockSize (w.len - k * w.blockSize)

/-- The extents of a record placed at a stream offset: one for each write with blocks in it (R219). -/
def Dev.extentsOf (d : Dev) (r : Rec) (off : Nat) : List DirEntry :=
  ((r.blocks.map (fun b => b.1)).eraseDups).filterMap (fun id =>
    match d.write id, r.blocks.filter (fun b => b.1 == id) with
    | some w, b :: bs =>
      let ks := b.2.1 :: bs.map (fun x => x.2.1)
      let k0 := b.2.1
      let last := (w.blockCount - 1 : Nat)
      if w.withdrawn then none else
      some (.extent (b2n (w.kind == .put) + 2 * b2n (k0 == 0) + 4 * b2n (ks.contains last)) w.obj (w.off + k0 * w.blockSize) off b.2.2
        (ks.foldl (fun a k => a + w.blockLen k) 0) d.session w.arrival w.sizeAfter)
    | _, _ => none)

/-- A record wholly placed leaves the cipher complex with its buffer; its extents wait for the next checkpoint. -/
def Dev.recordPlaced (d : Dev) (r : Rec) (off : Nat) : Dev :=
  let d1 := d.onVolume (fun v => { v with fresh := v.fresh ++ d.extentsOf r off })
  let d2 := d1.onCx (fun x => { x with recs := x.recs.filter (fun q => decide (q.id ≠ r.id))
                                       unlogged := if r.logged then x.unlogged else x.unlogged ++ [r] })
  match r.buf with
  | some k => d2.giveBack k
  | none => d2

/-- As much of the next record as fits goes into the open data forme, which is assembled once it is full. -/
def Dev.placeRecord (d : Dev) : Option Dev :=
  match d.nextRecord, d.vol.loaded with
  | some r, some v =>
    if !r.sealed then some d else
    let off := r.placedAt.getD v.recordLen
    let rest := r.body.drop (v.recordLen - off)
    let take := rest.take (191488 - d.fm.openPayload.length)
    let first := if r.placedAt.isNone ∧ d.fm.openFirst.isNone then some d.fm.openPayload.length else d.fm.openFirst
    let d1 := (d.onFm (fun x => { x with openPayload := x.openPayload ++ take, openFirst := first })).onVolume (fun v =>
      { v with recordLen := v.recordLen + take.length })
    let d2 := if take.length = rest.length then d1.recordPlaced r off else d1.onRec r.id (fun r => { r with st := .placed off })
    if d2.fm.openPayload.length = 191488 then d2.closeData else some d2
  | _, _ => some d

/-! ### Checkpoints (R217, R218) -/

/-- The entry of a committed write that has no extents: a DELETE, a withdrawn version, or a PUT of 0 bytes (R219). The marker of a withdrawn PUT
covers every byte of its object, a PATCH's its gap too (R86; log entry 135). -/
def Write.loneEntry (w : Write) (sess : Nat) : Option DirEntry :=
  if w.withdrawn then some (.marker w.obj w.from' (min w.to (2 ^ 48 - 1) - w.from') sess w.arrival)
  else match w.kind with
    | .delete => some (.delete w.obj sess w.arrival)
    | .put => if w.len = 0 then some (.extent 7 w.obj 0 (2 ^ 64 - 1) 0 0 sess w.arrival 0) else none
    | .patch => none

/-- Whether every byte of a version lies in placed records. -/
def Dev.wholePlaced (d : Dev) (w : Write) : Bool :=
  w.withdrawn || (w.isVersion && (d.blocksOf w.id).isEmpty && !d.cx.recs.any (fun r => r.blocks.any (fun b => b.1 == w.id)))

/-- Writes that the next checkpoint names: committed, wholly placed, and in no earlier one. -/
def Dev.unnamed (d : Dev) (vh : W32) : List Write :=
  d.idx.writes.filter (fun w => w.vh == vh && w.isVersion && w.indexed == 0 && d.wholePlaced w)

/-- Entries waiting for a checkpoint: extents of placed records, lone entries, locators. Extents of withdrawn versions go. -/
def Dev.freshEntries (d : Dev) (v : Volume) : List DirEntry :=
  let gone := (d.idx.writes.filter (fun w => w.withdrawn)).map (fun w => (w.obj, v.session, w.arrival))
  (v.fresh.filter (fun e => match e.key with
    | some k => !gone.contains k
    | none => true)) ++ (d.unnamed v.handle).filterMap (fun w => w.loneEntry v.session)

/-- Entries of checkpoints that are not recorded yet. -/
def Dev.pendingEntries (d : Dev) : List DirEntry := d.fm.ckpts.flatMap (fun c => c.entries)

/-- Deltas since the last base and the entries in them: those recorded, and those of checkpoints assembled since. -/
def Dev.deltasSince (d : Dev) (v : Volume) : Nat × Nat :=
  d.fm.ckpts.foldl (fun a c => if c.isBase then (0, 0) else (a.1 + 1, a.2 + c.entries.length)) (v.deltas, v.deltaEntries)

/-- Live entries: those a base would hold, without locators and stripe entries. -/
def liveEntries (all : List DirEntry) : Nat := ((baseEntries all).filter DirEntry.counted).length

/-- Whether the next checkpoint is a base (R216, R218): it is the first, 15 deltas have followed the last one, or the entries in deltas since, those of this one with
them, exceed a quarter of the live entries as they stand before it. -/
def Dev.needBase (d : Dev) (v : Volume) (fresh : Nat) : Bool :=
  let n := d.deltasSince v
  (v.lastCkpt.isNone && d.fm.ckpts.isEmpty) || decide (15 ≤ n.1) || decide (liveEntries (v.entries ++ d.pendingEntries) < 4 * (n.2 + fresh))

/-- Pieces of a byte string of at most a payload. -/
def pieces : Nat → List Byte → List (List Byte)
  | 0, _ => []
  | n + 1, bs => if bs.isEmpty then [] else bs.take 191488 :: pieces n (bs.drop 191488)

/-- The previous checkpoint: the last assembled, or the last recorded. -/
def Dev.prevCkpt (d : Dev) (v : Volume) : Option Ckpt := match d.fm.ckpts.getLast? with
  | some c => some c
  | none => v.lastCkpt

/-- A checkpoint is written to the directory stream and its formes are assembled, the last with checkpoint_end (R217). -/
def Dev.placeCkpt (d : Dev) (request : Stamp) : Option Dev :=
  match d.vol.loaded with
  | none => none
  | some v =>
    let fresh := d.freshEntries v
    let isBase := d.needBase v fresh.length
    let ents := if isBase then baseEntries (v.entries ++ d.pendingEntries ++ fresh) else fresh.mergeSort entryStampLe
    let prev := d.prevCkpt v
    let c : Ckpt := { number := v.ckptNumber, isBase := isBase, session := v.session, entries := ents, firstFolio := v.nextFolio
                      lastFolio := v.nextFolio, recordLen := v.recordLen, request := request, recorded := false, place := (0, 0, 0) }
    let place := match prev with
      | some p => if isBase then (noFolio, 0, 0, 0) else
          (p.firstFolio, p.place.2.2, p.place.1, p.place.2.1)
      | none => (noFolio, 0, 0, 0)
    let ps := pieces (ents.length + 2) (ckptBytes d.clk.adopted c place v.nextFolio)
    let named := (d.unnamed v.handle).map (fun w => w.id)
    let d1 := (d.onVolume (fun v => { v with fresh := [], ckptNumber := v.ckptNumber + 1 })).onIdx (fun x =>
      { x with writes := x.writes.map (fun w => if named.contains w.id then { w with indexed := v.ckptNumber + 1 } else w) })
    let put := fun (s : Nat × Nat × Dev) (p : List Byte) =>
      let first := s.2.2.vol.loaded.map (fun v => v.nextFolio)
      (s.2.2.addMember .directory (if s.1 + 1 = ps.length then 4 else 0) p (v.directoryLen + 191488 * s.1) 0xFFFFFFFF).map (fun d =>
        (s.1 + 1, first.getD 0, d.onVolume (fun v => { v with directoryLen := v.directoryLen + p.length })))
    (ps.foldlM put (0, 0, d1)).map (fun s => s.2.2.onFm (fun x => { x with ckpts := x.ckpts ++ [{ c with lastFolio := s.2.1 }] }))

/-! ### Group closes for FLUSH, SEAL, UNLOAD and R118 (R181, R182) -/

/-- The open data forme closes, the checkpoint is placed, and the group closes with a cause. -/
def Dev.closeWith (d : Dev) (request : Stamp) (cause : Nat) : Option Dev :=
  d.closeData.bind (fun d1 => (if cause = 1 then d1.padStripes else some d1).bind (fun d2 =>
    (d2.placeCkpt request).bind (fun d3 => d3.closeGroup cause)))

/-- Whether every write of a volume that arrived before a stamp has ended or is wholly placed. -/
def Dev.coveredPlaced (d : Dev) (vh : W32) (s : Stamp) : Bool :=
  !d.unenteredBefore vh s && d.idx.writes.all (fun w => !(w.vh == vh && w.arrival.lt s) || d.wholePlaced w)

/-- A FLUSH, SEAL, UNLOAD or MIGRATE needs a checkpoint: all it covers is placed and some of it is in no checkpoint (R91, R182). -/
def Dev.dueFlush (d : Dev) (v : W32 × Stamp) : Bool :=
  d.coveredPlaced v.1 v.2 && d.idx.writes.any (fun w => w.vh == v.1 && w.arrival.lt v.2 && w.isVersion && w.indexed == 0 && !w.durable)

/-- Of two requests, the earlier. -/
def earlierDivider (a : Option (W32 × Stamp)) (v : W32 × Stamp) : Option (W32 × Stamp) :=
  match a with
  | none => some v
  | some x => if v.2.lt x.2 then some v else some x

/-- The request whose close is due, earliest first. -/
def Dev.nextClose (d : Dev) : Option (W32 × Stamp) := (d.dividers.filter d.dueFlush).foldl earlierDivider none

/-- The stamp by which a request is named in its checkpoint: drain-shutdown's is the present. -/
def Dev.requestStamp (d : Dev) (s : Stamp) : Stamp := if s = Stamp.last then ⟨d.clk.now, d.origin 0x14⟩ else s

/-- The assembler waits for a forme buffer, or a directory forme's (R105). -/
def Dev.awaitForme (d : Dev) : Dev :=
  let share : List Holder := [.unit .forme, .unit .encoder, .unit .rewrite]
  (d.await .forme [0] 192000 share).await .directory [0] 192000 share

/-- Index use past 7/8 of a limit (R118). -/
def Dev.indexFull (d : Dev) : Bool := decide (3727360 < d.idx.objects) || decide (14680064 < d.idx.records)

/-- Whether versions can become durable by a close: an open record, payload or group, or a write that no checkpoint names. -/
def Dev.unplacedWork (d : Dev) : Bool :=
  d.fm.group.isSome || !d.fm.openPayload.isEmpty || d.vol.loaded.any (fun v => !(d.unnamed v.handle).isEmpty)
    || d.cx.recs.any (fun r => r.st == .open)

/-- Index use past 7/8 of a limit closes every open record (R142), closes the open group and records a checkpoint (R118). -/
def Dev.forcedClose (d : Dev) : Dev :=
  if d.indexFull ∧ d.unplacedWork then
    let sd := d.stamp 0xC
    let d1 := sd.2.closeOpen (fun _ => true)
    (d1.closeWith sd.1 2).getD d1.awaitForme
  else d

/-- FORME_ASSEMBLE: the assembler's next action: the close that a FLUSH, SEAL or UNLOAD needs, or the next piece of the record
stream, closing the data forme that becomes full (R178, R181, R182). Where a buffer waits it stalls (R16). -/
def execFormeAssemble (s : State) : Out :=
  s.flow (fun d0 =>
    let d := d0.sealRecords
    match d.nextClose with
    | some v => (d.closeWith (d.requestStamp v.2) 1).getD d.awaitForme
    | none => if d.indexFull ∧ d.unplacedWork ∧ !d.nextRecord.any Rec.sealed then d.forcedClose else d.placeRecord.getD d.awaitForme)

/-! ### Coverage and durability (R91, R183) -/

/-- Whether all formes of a closed group have accepted copies (R183). -/
def Dev.groupCovered (d : Dev) (g : Closed) : Bool :=
  d.fm.held.all (fun f => !(decide (g.base ≤ f.folio) && decide (f.folio < g.base + g.k + 4)) || f.accepted.isSome)

/-- A locator where member 0 is the first accepted at or after a multiple of 4,096 positions (R219). -/
def Dev.locate (d : Dev) (g : Closed) : Dev :=
  match d.fm.held.find? (fun f => f.folio == g.base), d.vol.loaded with
  | some f, some v =>
    (match f.accepted with
     | some (sh, pos, slot) =>
       let mark := sh * 2 ^ 32 + pos / 4096 + 1
       if v.lastLocator < mark then
         let beside : List DirEntry := if d.widen then
             [.stripe d.role d.cs.kInForce d.cs.mInForce (d.cs.stripeFolios.filter (fun f => decide (f < g.base))).length g.base] else []
         d.onVolume (fun v => { v with lastLocator := mark
                                       fresh := v.fresh ++ .locator g.base sh pos slot g.k g.recordBase g.directoryBase :: beside })
       else d
     | none => d)
  | _, _ => d

/-- A covered group's formes are held no longer (Table 5.5). -/
def Dev.dropGroup (d : Dev) (g : Closed) : Dev :=
  let mine := fun (f : Forme) => decide (g.base ≤ f.folio) && decide (f.folio < g.base + g.k + 4)
  let d1 := (d.locate g).each (d.fm.held.filter mine) (fun d f => match f.buf with
    | some k => d.giveBack k
    | none => d)
  d1.onFm (fun x => { x with held := x.held.filter (fun f => !mine f), closed := x.closed.filter (fun c => decide (c.base ≠ g.base)) })

/-- Whether a recorded checkpoint makes a write durable: it, or one before it, names the write. -/
def Ckpt.covers (c : Ckpt) (v : Volume) (w : Write) : Bool := w.vh == v.handle && w.indexed != 0 && decide (w.indexed ≤ c.number + 1)

/-- The blocks of a write whose bytes entries of a checkpoint hold: every byte of their galley buffers is durable (R91, R113). -/
def Write.blocksIn (w : Write) (sess : Nat) (es : List DirEntry) : List Nat :=
  (List.range w.blockCount).filter (fun k => es.any (fun e => e.key == some (w.obj, sess, w.arrival)
    && decide (e.span.1 ≤ w.off + k * w.blockSize) && decide (w.off + k * w.blockSize + w.blockLen k ≤ e.span.2)))

/-- An entry supersedes bytes of another. -/
def DirEntry.supersedes (x e : DirEntry) : Bool := x.after e && decide (x.shade.1 < e.span.2) && decide (e.span.1 < x.shade.2)

/-- A superseded extent that an outstanding read may still need: the read is registered before the latest write that supersedes any of its bytes. -/
def Dev.neededBy (d : Dev) (all : List DirEntry) (e : DirEntry) : Bool :=
  match e.key with
  | some (obj, _, _) => shadowed all e && d.idx.reads.any (fun r => r.obj == obj &&
      (all.filter (fun x => x.supersedes e)).any (fun x => match x.key with
        | some (_, s, t) => s == d.session && r.stampAt.lt t
        | none => false))
  | none => false

/-- Entries that stay in the cache although a base leaves them out: superseded ones that an outstanding read may need, and with them all that
supersedes them, so that later lookups and bases see the same order of writes (R220). -/
def Dev.keptEntries (d : Dev) (all : List DirEntry) : List DirEntry :=
  let kept := all.filter (d.neededBy all)
  all.filter (fun x => kept.contains x || kept.any (fun e => x.supersedes e))

/-- A checkpoint is recorded (R91, R217): the cache takes its entries and the writes it names become durable. -/
def Dev.recordCkpt (d : Dev) (c : Ckpt) : Dev :=
  let sd := d.stamp 3
  match sd.2.vol.loaded with
  | none => d
  | some v =>
    let all := v.entries ++ c.entries.filter (fun e => !v.entries.contains e)
    let ents := if c.isBase then c.entries ++ (d.keptEntries all).filter (fun e => !c.entries.contains e) else v.entries ++ c.entries
    let d1 := sd.2.onVolume (fun v => { v with
      lastCkpt := some { c with recorded := true }, entries := ents, coveredLen := c.recordLen
      deltas := (if c.isBase then 0 else v.deltas + 1), deltaEntries := (if c.isBase then 0 else v.deltaEntries + c.entries.length) })
    let d2 := d1.onFm (fun x => { x with ckpts := x.ckpts.filter (fun k => decide (k.number ≠ c.number)) })
    (d2.onIdx (fun x => { x with writes := x.writes.map (fun w =>
      { w with durable := w.durable || c.covers v w, durables := (w.durables ++ w.blocksIn v.session c.entries).eraseDups }) })).reap.reportStripes c.lastFolio

/-- Whether a checkpoint's groups, and every earlier one, are covered. -/
def Dev.ckptDone (d : Dev) (c : Ckpt) : Bool :=
  d.fm.closed.all (fun g => decide (c.lastFolio < g.base)) && (match d.fm.group with
    | some g => decide (c.lastFolio < g.base)
    | none => true)

/-- Whether a forme's L3 group is closed; a colophon or filler has none. -/
def Dev.groupClosed (d : Dev) (f : Forme) : Bool := d.fm.group.all (fun g => !g.members.contains f.folio)

/-- The rewrite queue, as finisher, releases the buffer of every forme that is accepted and whose group is closed (Table 5.5). -/
def Dev.releaseFormes (d : Dev) : Dev :=
  let done := fun (d : Dev) (f : Forme) => f.accepted.isSome && d.groupClosed f
  (d.each (d.fm.held.filter (done d)) (fun d f => d.each f.buf.toList (fun d k => d.letGo k (.unit .rewrite)))).onFm (fun x =>
    { x with held := x.held.map (fun f => if done d f then { f with buf := none } else f) })

/-- Covered groups are dropped, and checkpoints whose groups are covered are recorded, in order. -/
def Dev.settleGroups (d : Dev) : Dev :=
  let d0 := d.releaseFormes
  let d1 := d0.each (d0.fm.closed.filter d0.groupCovered) Dev.dropGroup
  d1.each d1.fm.ckpts (fun d c => if d.ckptDone c then d.recordCkpt c else d)

/-- Whether every write of a volume that arrived before a stamp has ended without committing or is durable (R91). -/
def Dev.coveredDurable (d : Dev) (vh : W32) (s : Stamp) : Bool :=
  !d.unenteredBefore vh s && d.idx.writes.all (fun w => !(w.vh == vh && w.arrival.lt s) || (w.isVersion && w.durable))

/-- Entries reserved by committed writes that are not durable (R221). -/
def Dev.entriesFor (d : Dev) (len : Nat) : Nat := (len + d.recLimit - 1) / d.recLimit + 2
def Dev.reservedEntries (d : Dev) : Nat :=
  (d.idx.writes.filter (fun w => w.isVersion && !w.durable && w.kind != .delete)).foldl (fun a w => a + d.entriesFor w.len) 0

/-- Whether the directory has room for a write of a length (R221). -/
def Dev.entryRoom (d : Dev) (len : Nat) : Bool :=
  match d.vol.loaded with
  | some v => decide ((v.entries.filter DirEntry.counted).length + d.reservedEntries + d.entriesFor len ≤ 33554432)
  | none => false

end Sys2Proof.Machine
end

