-- ==== Sys2Proof/Machine/Geometry.lean ====
section
/-! DEFINITION. Where things lie along the tape (R187, R188, R207, R211, R228), in units of 0.1 µm from the beginning-of-tape mark. -/

namespace Sys2Proof.Machine

/-- 1 mm, and one forme position (70.4 µm). -/
abbrev tapeMm : Nat := 10000
abbrev formeLength : Nat := 704

/-- The bands of Table 9.1. -/
inductive Band where
  | lead | head | data | tail
  deriving DecidableEq, Repr

/-- Where the head band and the data band begin. -/
abbrev headStart : Nat := 12000 * tapeMm
abbrev dataStart : Nat := 28000 * tapeMm

/-- Forme positions of a tape of L mm (R187). -/
def positionsOf (len : Nat) : Nat := (len - 44000) * tapeMm / formeLength

/-- The band of a place on a tape with P positions in each sheaf. -/
def bandAt (positions x : Nat) : Band :=
  if x < headStart then .lead else if x < dataStart then .head else if x < dataStart + formeLength * positions then .data else .tail

/-- The lower edge of a forme position: even sheaves run forward, odd ones in reverse (R188). -/
def positionPlace (positions sheaf pos : Nat) : Nat :=
  dataStart + formeLength * (if sheaf % 2 = 0 then pos else positions - 1 - pos)

/-- Ring entry e, of sheaf 1 (R211), and primer unit u of copy c, of sheaf 0 (R207). -/
def ringPlace (e : Nat) : Nat := headStart + 250 * tapeMm * e
def primerPlace (c u : Nat) : Nat := headStart + 8000 * tapeMm * c + 4208000 * u

/-- The place where the tape stands. -/
def Tc.place (t : Tc) : Int := t.posW / (10 * 2 ^ 24)

/-- A place as the engine holds positions. -/
def placeW (x : Int) : Int := x * (10 * 2 ^ 24)

/-- The distance that a velocity profile from rest to step 15 needs with an acceleration of a m/s² and a jerk of j m/s³ (R228, R266): v(v/a + a/j)/2,
or v √(v/j) where a is not reached. -/
def runUp (a j : Nat) : Nat :=
  if a * a ≤ 6 * j then (6 * (6 * j + a * a) * 10000000 + 2 * a * j - 1) / (2 * a * j) else isqrt (216 * 100000000000000 / j) + 1

/-- How far ahead of a forme the tape stands for a LOCATE (R228). -/
def Dev.standOff (d : Dev) : Nat := runUp (max 1 (d.rf Reg.TC_PROF 15 8)) (max 1 (d.rf Reg.TC_PROF 23 16)) + 64 * formeLength

/-- The place where the tape stands ahead of a forme: on the side from which its sheaf is read, as far as the tape of L mm allows (R228). -/
def Dev.aheadOf (d : Dev) (len positions sheaf pos : Nat) : Nat :=
  let x := positionPlace positions sheaf pos
  if sheaf % 2 = 0 then x - d.standOff else min (x + formeLength + d.standOff) (len * tapeMm)

end Sys2Proof.Machine
end

