-- ==== Sys2Proof/Machine/LinkOps.lean ====
section
/-! DEFINITION. Sending commands and symbol blocks to the head-channel chips (R237, R241, R243, R244, R250), which links are in service (R247),
and the copies that go to the tape with them (R171, R173, R189). -/

namespace Sys2Proof.Machine

/-- A link is ACTIVE; number of such links. -/
def Dev.linkActive (d : Dev) (t : Nat) : Bool := (d.links.get t).st == .active
def Dev.activeLinks (d : Dev) : Nat := (allLinks.filter d.linkActive).length

/-- Some link is FAILED or DISABLED, which only the host can change. -/
def Dev.linkDead (d : Dev) : Bool := allLinks.any (fun t => (d.links.get t).st == .failed || (d.links.get t).st == .disabled)

/-! ### Control blocks (Table 11.3) -/

/-- The control blocks that the device sends: CMD, TICK, and LINK of link t. -/
def cmdBlock (tag : Nat) (c : LinkCmd) : BitVec 256 :=
  ctlBlock (0x2D + c.op * 2 ^ 8 + tag * 2 ^ 16 + c.mask.toNat * 2 ^ 24 + c.a.toNat * 2 ^ 32 + c.b.toNat * 2 ^ 64)
def tickBlock (seq : Nat) : BitVec 256 := ctlBlock (0x33 + seq % 256 * 2 ^ 8)
def linkBlock (t : Nat) : BitVec 256 := ctlBlock (0x78 + 2 ^ 8 + t * 2 ^ 24 + 8 * 2 ^ 64)

/-- A control block leaves. -/
def Link.send (l : Link) (b : BitVec 256) : Link := { l with ctl := l.ctl ++ [b] }

/-- The next queued command goes out once the one before has its STATUS: the tag rises by 1 (R241). -/
def Link.pump (l : Link) : Link :=
  match l.sent, l.queue with
  | none, c :: rest => ({ l with sent := some c, queue := rest, tag := (l.tag + 1) % 256, waited := 0 } : Link).send (cmdBlock ((l.tag + 1) % 256) c)
  | _, _ => l

/-- A command is queued for a link that is ACTIVE. -/
def Link.order (l : Link) (c : LinkCmd) : Link := if l.st = .active then ({ l with queue := l.queue ++ [c] }).pump else l

/-- A command to every ACTIVE link. -/
def Dev.orderAll (d : Dev) (c : LinkCmd) : Dev := d.each allLinks (fun d t => d.onLink t (fun l => l.order c))

/-- Opcodes of Table 11.4. -/
abbrev Hc.reset : Nat := 0x02
abbrev Hc.setRate : Nat := 0x10
abbrev Hc.arm : Nat := 0x11
abbrev Hc.disarm : Nat := 0x12
abbrev Hc.writeCurrent : Nat := 0x13
abbrev Hc.readOn : Nat := 0x20
abbrev Hc.readOff : Nat := 0x21
abbrev Hc.readEq : Nat := 0x22
abbrev Hc.servo : Nat := 0x30

/-- The symbol rate of a step in kSymbol/s (R191, R241). -/
def stepRate (step : Nat) : Nat := 240000 + 48000 * step

/-- A mask of channels. -/
def maskOf (slots : List Nat) : Byte := BitVec.ofNat 8 (slots.foldl (fun a j => a + 2 ^ j) 0)

/-! ### Symbol blocks sent (R237, R243, R244) -/

/-- A transmit symbol block: channel, gate, sequence and 25 symbols in tape order. -/
def txBlock (j : Nat) (gate : Bool) (seq : Nat) (syms : List Nat) : BitVec 256 :=
  BitVec.ofNat 256 (j * 2 ^ 253 + b2n gate * 2 ^ 252 + seq % 4 * 2 ^ 250 + packBlock syms)

/-- A block of a channel leaves with the channel's next sequence. -/
def Link.emit (l : Link) (j : Nat) (gate : Bool) (syms : List Nat) : Link :=
  { l with tx := l.tx ++ [txBlock j gate (l.txSeq.get j) syms], txSeq := l.txSeq.set j ((l.txSeq.get j + 1) % 4) }

/-- Whole blocks of the symbols that wait on a channel leave with gate set, at most `n`. -/
def Link.cut (l : Link) (j : Nat) : Nat → Link
  | 0 => l
  | n + 1 =>
    let s := l.txRest.get j
    if s.length < 25 then l else (({ l with txRest := l.txRest.set j (s.drop 25) } : Link).emit j true (s.take 25)).cut j n

/-- The channels of a link, and those that are not withheld (R243). -/
def allChannels : List Nat := List.range 8
def Link.flowing (l : Link) : List Nat := allChannels.filter (fun j => !l.withheld.getLsbD j)

/-- Whole blocks leave on every channel that is not withheld. -/
def Link.flushTx (l : Link) : Link := l.flowing.foldl (fun l j => l.cut j (l.txRest.get j).length) l

/-- Symbols of which spec/ gives no value. -/
def freeSymbols (draw n : Nat) : List Nat := (List.range n).map (fun i => Config.freeNat (draw + i) % 1024)

/-- `n` blocks with gate clear leave on a channel. -/
def Link.clearBlocks (l : Link) (draw j : Nat) : Nat → Link
  | 0 => l
  | n + 1 => (l.emit j false (freeSymbols (draw + 25 * n) 25)).clearBlocks draw j n

/-- The end of a channel's symbols: a last block that is filled up, then blocks with gate clear until the FIFO has clocked out what it holds. -/
def Link.endChannel (l : Link) (draw j : Nat) : Link :=
  let s := l.txRest.get j
  let l1 := if s.isEmpty then l else ({ l with txRest := l.txRest.set j [] } : Link).emit j true (s ++ freeSymbols draw (25 - s.length))
  l1.clearBlocks (draw + 25) j ((l.fill.getD j 0 + 24) / 25)

/-- A change of every ACTIVE link. -/
def Dev.onLinks (d : Dev) (f : Nat → Link → Link) : Dev := d.each allLinks (fun d t => if d.linkActive t then d.onLink t (f t) else d)

/-- Blocks with gate clear until every FIFO holds 2,048 symbols; what was received before is of no more use (R244). -/
def Dev.primeTx (d : Dev) : Dev :=
  { d with draws := d.draws + 2050 * 128 }.onLinks (fun t l =>
    allChannels.foldl (fun l j => l.clearBlocks (d.draws + 2050 * (8 * t + j)) j 82) { l with tx := [], txRest := Table.empty, rx := Table.empty })

/-- The run's last symbols (R244). -/
def Dev.endTx (d : Dev) : Dev :=
  { d with draws := d.draws + 4200 * 128 }.onLinks (fun t l =>
    allChannels.foldl (fun l j => l.endChannel (d.draws + 4200 * (8 * t + j)) j) { l with tx := [] })

/-! ### Copies on the tape (R171, R173, R189) -/

/-- The symbols of a copy on track `t` of its slot: rows t, t + 16 and so on to t + 160, one frame each. -/
def trackFrames (rows : List (List Nat)) (rewrite folio t : Nat) : List Nat :=
  (List.range 11).flatMap (fun i => rowFrame (t + 16 * i) rewrite folio (rows.getD (t + 16 * i) []))

/-- The rows of a copy go to the tracks of its slot: track t of slot j is channel j of link t. -/
def Dev.sendRows (d : Dev) (slot rewrite folio : Nat) (rows : List (List Nat)) : Dev :=
  d.onLinks (fun t l => { l with txRest := l.txRest.modify slot (fun s => s ++ trackFrames rows rewrite folio t) })

/-- The rows of a forme with a header: L2 over the data area, L1 over every row (R169, R170). -/
def Forme.rows (f : Forme) (header : List Byte) : List (List Nat) := formeRows (packSymbols 38400 (dataArea header f.payload))

/-- A copy is formed for its place and goes to its tracks and onto the tape, over what was there. -/
def Dev.layCopy (d : Dev) (vid : W64) (f : Forme) (sheaf position slot : Nat) : Dev :=
  let h := f.header vid d.session d.clk.adopted sheaf position slot
  (d.sendRows slot f.rewrite f.folio (f.rows h)).onVol (fun v => { v with cart := v.cart.map (fun k =>
    { k with formes := k.formes.filter (fun o => !(o.sheaf == sheaf && o.position == position && o.slot == slot)) ++ [⟨sheaf, position, slot, vid, f, h⟩] }) })

/-- The blocks of a position begin, and what is whole of them leaves. -/
def Dev.beginTx (d : Dev) : Dev := d.onLinks (fun _ l => { l with tx := [] })
def Dev.flushTx (d : Dev) : Dev := d.onLinks (fun _ l => l.flushTx)

/-! ### Symbols received (R189, R238) -/

/-- The symbols of track n that have come: channel n div 16 of link n mod 16. -/
def Dev.trackSymbols (d : Dev) (n : Nat) : List (BitVec 11) := (d.links.get (n % 16)).rx.get (n / 16)

/-- Symbols of a track up to a place are done with. -/
def Dev.dropSymbols (d : Dev) (n k : Nat) : Dev := d.onLink (n % 16) (fun l => { l with rx := l.rx.modify (n / 16) (fun s => s.drop k) })

end Sys2Proof.Machine
end

