-- ==== Sys2Proof/Machine/Sheaf.lean ====
section
/-! DEFINITION. The sheaf scheduler (09_sheaf_proof): write runs, forme positions, proof, rewrites, retirement, the step chooser, sheaf
turns and colophons (R211). -/

namespace Sys2Proof.Machine

/-! ### Configuration as it is treated (Tables 9.10 to 9.15) -/

/-- The configured proof lag (R193). -/
def Dev.lagSet (d : Dev) : Nat := (d.rf Reg.SH_PROOFCFG 11 0 * 10 + 703) / 704 + 2
def Dev.maxCorr (d : Dev) : Nat := min 24 (d.rf Reg.SH_PROOFCFG 28 24)
def Dev.maxCopies (d : Dev) : Nat := min 8 (max 1 (d.rf Reg.SH_RWCFG 27 24))
def Dev.maxSheaves (d : Dev) : Nat := min 4 (max 1 (d.rf Reg.SH_RWCFG 23 20))
def Dev.spliceGap (d : Dev) : Nat := max 4 (d.rf Reg.SH_RUNCFG 23 16)
def Dev.tauMs (d : Dev) : Nat := max 1 (d.rf Reg.SH_RUNCFG 15 0)
def Dev.periodMs (d : Dev) : Nat := max 1 (d.rf Reg.SH_SPDCFG 7 0)
def Dev.stepHold (d : Dev) : Nat := max 1 (d.rf Reg.SH_SPDCFG 15 8)
/-- Highest step: the smaller of SH_SPDCFG.step_max, step 9 in widen mode, less on a hop of fewer lanes (R350), and HK_DRAIN.step in
drain-shutdown (R325). -/
def Dev.stepMax (d : Dev) : Nat :=
  let m := d.rf Reg.SH_SPDCFG 31 28
  let lanes := min 8 (min (if d.cs.c0.st = .active then d.cs.c0.lanes else 8) (if d.cs.c1.st = .active then d.cs.c1.lanes else 8))
  let w := if d.widen then min m ((List.range 10).foldl (fun a s => if (15 + 3 * s) * 8 ≤ (15 + 27) * lanes then s else a) 0) else m
  if d.hk.drain then min w (d.rf Reg.HK_DRAIN 31 28) else w
def Dev.stepMin (d : Dev) : Nat := min (d.rf Reg.SH_SPDCFG 27 24) d.stepMax
/-- A threshold of SH_FILLCFG in bytes: 0 fill_start, 1 fill_lo, 2 fill_hi, 3 fill_max. -/
def Dev.fillAt (d : Dev) (i : Nat) : Rat := ((d.rf Reg.SH_FILLCFG (8 * i + 7) (8 * i) * 2 ^ 30 : Nat) : Rat)

/-- Slots in service. -/
def Sheaf.slots (x : Sheaf) : List Nat := (List.range 8).filter (fun j => !x.slotsOff.contains j)

/-- Forme positions of a sheaf of the loaded volume. -/
def Dev.positions (d : Dev) : Nat := (d.vol.loaded.map (fun v => v.positions)).getD 0

/-- The present sheaf runs in reverse (R188). -/
def Sheaf.reverse (x : Sheaf) : Bool := x.sheaf % 2 == 1

/-! ### Fill and demand (R203) -/

/-- Stored bytes over input bytes of the outcomes within the averaging time, 1 when unknown. -/
def Dev.qRatio (d : Dev) : Rat :=
  let l := d.sh.outs.filter (fun o => decide (d.clk.now ≤ o.1 + d.tauMs * msTicks))
  let n := l.foldl (fun a o => a + o.2.2) 0
  if n = 0 then 1 else ((l.foldl (fun a o => a + o.2.1) 0 : Nat) : Rat) / ((n : Nat) : Rat)

/-- Rewrites over copies of the trailing window. -/
def Sheaf.rwRatio (x : Sheaf) : Rat :=
  if x.copyLog.isEmpty then 0 else ((x.rewrites.length : Nat) : Rat) / ((x.copyLog.length : Nat) : Rat)

/-- Stored bytes of a block that has its outcome: envelope and body (R133). -/
def Block.storedBytes (b : Block) : Option Nat :=
  match b.st with
  | .outcome body _ _ => some (48 + body.length)
  | .passed body _ _ => some (48 + body.length)
  | _ => none

/-- Bytes of a record's ciphertext that are in forme payloads. -/
def Dev.recDone (d : Dev) (r : Rec) : Nat :=
  match r.placedAt, d.vol.loaded with
  | some off, some v => v.recordLen - off - 64
  | _, _ => 0

/-- Where the stored bytes of a record's block end in its plaintext. -/
def Rec.blockEnd (r : Rec) (b : Nat × Nat × Nat) : Nat := b.2.2 + 48 + beNat (sliceBytes r.plain (b.2.2 + 26) 4)

/-- Stored bytes of a record's blocks not yet in a forme payload. -/
def Dev.recUnplaced (d : Dev) (r : Rec) : Nat :=
  r.blocks.foldl (fun a b => a + min (r.blockEnd b - b.2.2) (r.blockEnd b - d.recDone r)) 0

/-- A block belongs to a committed write. -/
def Dev.committedBlock (d : Dev) (b : Block) : Bool :=
  match b.write with
  | some id => (match d.write id with
      | some w => w.isVersion
      | none => false)
  | none => false

/-- The fill f of the step chooser. -/
def Dev.fill (d : Dev) : Rat :=
  let withOut := d.cm.blocks.filter (fun b => b.write.isSome)
  let stored := withOut.foldl (fun a b => a + (b.storedBytes.getD 0)) 0 + d.cx.recs.foldl (fun a r => a + d.recUnplaced r) 0
  let raw := (withOut.filter (fun b => b.storedBytes.isNone && d.committedBlock b)).foldl (fun a b => a + b.data.length) 0
  ((stored : Nat) : Rat) + d.qRatio * ((raw : Nat) : Rat)

/-- Net payload rate of a step in bytes per second with eight slots (Table 9.2), and with the slots in service. -/
def payRate (step : Nat) : Rat := ((8 * 191488 * 8 * (15 + 3 * step) * 1000000 : Nat) : Rat) / ((9 * 704 : Nat) : Rat)
def Dev.capRate (d : Dev) (step : Nat) : Rat := payRate step * ((d.sh.slots.length : Nat) : Rat) / 8

/-- Demand in bytes per second. -/
def Dev.demandRate (d : Dev) : Rat := d.sh.rIn * d.qRatio * (1 + d.sh.rwRatio)

/-- The step wanted. -/
def Dev.wantStep (d : Dev) : Nat :=
  let need := d.demandRate * ((16 + d.rf Reg.SH_SPDCFG 23 20 : Nat) : Rat) / 16
  let w0 := ((List.range 16).find? (fun s => decide (d.stepMin ≤ s) && decide (s ≤ d.stepMax) && decide (need ≤ d.capRate s))).getD d.stepMax
  let f := d.fill
  let w1 := if d.fillAt 2 ≤ f then max w0 (min (d.sh.step + 1) d.stepMax) else w0
  if d.fillAt 3 ≤ f then d.stepMax else w1

/-! ### Commands that wait on tape (R91, R198, R202) -/

/-- FLUSH, SEAL, UNLOAD and MIGRATE flights, and a FORMAT or LOAD that writes formes. -/
def Flight.waitsTape : Flight → Bool
  | .flush _ => true
  | .seal _ _ => true
  | .unload _ _ => true
  | .migrate _ _ => true
  | .format _ n => decide (3 ≤ n)
  | .load n _ => decide (3 ≤ n)
  | _ => false

/-- The colophon forme is held no longer. -/
def Dev.dropColophon (d : Dev) (folio : Nat) : Dev :=
  let d1 := d.each (d.fm.held.filter (fun f => f.folio == folio)) (fun d f => match f.buf with
    | some k => d.giveBack k
    | none => d)
  (d1.onFm (fun x => { x with held := x.held.filter (fun f => decide (f.folio ≠ folio)) })).onSh (fun x => { x with colophon := none })

/-- The colophon that an UNLOAD or SEAL is writing goes. -/
def Dev.forgetColophon (d : Dev) : Dev :=
  match d.sh.colophon with
  | some a => d.dropColophon a.folio
  | none => d


/-- A colophon is to be written (R211). -/
def Dev.colophonDue (d : Dev) : Bool := d.sh.colophon.isSome

/-- A FLUSH, SEAL, UNLOAD, FORMAT, LOAD or drain needs tape: something it covers is not durable, or a colophon is to be written. -/
def Dev.tapeNeeded (d : Dev) : Bool := d.colophonDue || (d.vol.formatting && d.fm.held.any (fun f => f.accepted.isNone)) || d.dividers.any (fun v => !d.coveredDurable v.1 v.2)

/-- Whether a run is under way. -/
def Sheaf.running (x : Sheaf) : Bool := x.run == .starting || x.run == .streaming || x.run == .stopping || x.run == .turning

/-- A write run can start now. -/
def Dev.runReady (d : Dev) : Bool := d.tc.st == .run && d.activeLinks == 16

/-- A run cannot start and nothing in the device will let it (R202). -/
def Dev.runBlocked (d : Dev) : Bool := d.tc.st != .run || d.linkDead

/-- The status with which a FLUSH, SEAL, UNLOAD or MIGRATE ends that waits on tape, or arrives, while writing is halted (R198) or the volume is
full (R206). -/
def Sheaf.refusal (x : Sheaf) : Option W16 :=
  if x.run = .halted then some St.mediumUnrecovered else if x.run = .full then some St.volumeFull else none

/-! ### Ends of a run (R201, R202, R244) -/

/-- The run has stopped: channels disarmed, a velocity profile to 0. -/
def Dev.stopTape (d : Dev) (r : RunSt) : Dev :=
  ((d.orderAll ⟨Hc.disarm, 0xFF, 0, 0⟩).onSh (fun x => { x with run := r, tail := 0 })).stopProfile .scheduler

/-- The stamp of a change of the volume state: of the engine cluster whose context makes it (R212), of cluster 0 where no context does. -/
def Dev.volStamp (d : Dev) (c : Option Nat := none) : Stamp × Dev := d.stamp (c.elim 3 clusterUnit)

/-- Contexts that run FORMAT or LOAD. -/
def Flight.opens : Flight → Bool
  | .format _ _ => true
  | .load _ _ => true
  | _ => false
def Dev.opening (d : Dev) : List Nat := d.flightsThat Flight.opens

/-- A change of the cartridge, and whether one is threaded. -/
def Dev.onCart (d : Dev) (f : Cart → Cart) : Dev := d.onVol (fun v => { v with cart := v.cart.map f })
def Dev.threaded (d : Dev) : Bool := d.vol.cart.any (fun k => k.threaded)

/-- FORMAT or LOAD fails: nothing of its volume stays in the device, the transport stops and the state is PRESENT; after a LOAD the cartridge stays
threaded (R1, R212, R225). -/
def Dev.openFailed (d : Dev) (c : Nat) (s : W16) (d0 : W64 := 0) (d1 : W64 := 0) (cat : Option Nat := none) : Dev :=
  let load := match d.flightOf c with
    | some (.load _ _) => true
    | _ => false
  let op := if load then 0x51 else 0x50
  let a := (if d.sh.running then d.stopTape .idle else d.restTape).orderAll ⟨Hc.readOff, 0xFF, 0, 0⟩
  let b := (a.unmount.onVol (fun v => { v with formatting := false })).onCs (fun x => { x with setPending := x.setPending.filter (fun y => y.1 != op) })
  (if load then b.onCart (fun k => { k with threaded := true }) else (b.volStamp (some c)).2).finish c s none d0 d1 none cat

/-- The flush of a drain-shutdown has failed (R326). -/
def Dev.drainLost (d : Dev) : Dev := d.when (d.hk.drain && !d.hk.drainDone) (fun d => d.onHk (fun h => { h with drainFailed := true }))

/-- Every FLUSH, SEAL, UNLOAD and MIGRATE that waits on tape ends with a status, its volume and handle as they were (R226); a FORMAT or LOAD that
writes formes fails. -/
def Dev.failTape (d : Dev) (s : W16) (d0 d1 : W64) : Dev :=
  (d.each (d.flightsThat Flight.waitsTape) (fun d c =>
    if (d.flightOf c).any Flight.opens then d.openFailed c s d0 d1 else d.failWith c s d0 d1)).forgetColophon.drainLost

/-- Change of one held forme. -/
def Dev.onForme (d : Dev) (folio : Nat) (f : Forme → Forme) : Dev :=
  d.onFm (fun x => { x with held := x.held.map (fun g => if g.folio = folio then f g else g) })

/-- Copies without a verdict count as rejected, are due in the next run, and do not count toward max_copies (R202). A colophon
attempt is written again. -/
def Dev.rejectOpen (d : Dev) : Dev :=
  let mine := fun (k : Copy) => !k.filler && !(d.sh.colophon.any (fun a => a.folio == k.folio))
  let open' := d.sh.copies.filter mine
  let d1 := d.each open' (fun d k => d.onForme k.folio (fun f => { f with copies := f.copies - 1 }))
  d1.onSh (fun x => { x with copies := [], due := x.due ++ open'.map (fun k => ⟨k.folio, k.position, k.slot, 0⟩)
                             colophon := x.colophon.map (fun a => { a with ids := [], accepted := 0 }) })

/-- A ring entry that is being written is broken off: copies without a verdict are not accepted, and the motion to the entry begins anew. -/
def Dev.cutRing (d : Dev) : Dev :=
  d.onSh (fun x => { x with copies := (if x.colophon.any (fun a => a.ring) then [] else x.copies)
                            colophon := x.colophon.map (fun a => if a.ring then { a with ids := [], accepted := 0, moved := 0
                                                                                         attempt := a.attempt + b2n (!a.ids.isEmpty) } else a) })

/-- A run is interrupted (R202): it stops at once. Commands it was needed for end where no run can start. -/
def Dev.interruptRun (d : Dev) (next : RunSt) : Dev :=
  if !d.sh.running then d.cutRing else
  let d1 := ((d.rejectOpen.count 0x60 0 10 1).stopTape next)
  if next = .idle ∧ d1.runBlocked then d1.failTape St.transportFault 0 0 else d1

/-- A transport fault interrupts a run; where it ends the start motion of one, the commands that need it end (R202). -/
def Dev.faultRun (d : Dev) : Dev :=
  let starting := d.sh.run == .starting || d.sh.run == .turning
  let d1 := d.interruptRun .idle
  if starting then d1.failTape St.transportFault 0 0 else d1

/-- Writing halts (R198): a C3 record naming the folio, its group and the sheaf, and commands that wait on tape end. -/
def Dev.haltWriting (d : Dev) (folio : Option Nat) : Dev :=
  let base := (folio.bind (fun f => d.fm.held.find? (fun g => g.folio == f))).map (fun g => g.groupBase)
  let d0 := toW64 (folio.getD 0)
  let d1 := toW64 (base.getD 0 + d.sh.sheaf * 2 ^ 48)
  let a := ((d.interruptRun .halted).onSh (fun x => { x with run := .halted, haltFolio := folio })).raise
    { cls := .c3, unit := ⟨0xC, 0xFFFF⟩, cat := 6, d0 := d0, d1 := d1 }
  a.failTape St.mediumUnrecovered d0 d1

/-! ### Colophons (R210, R211) -/

/-- The colophon of an attempt ending at a position. -/
def Volume.colophon (v : Volume) (sealed : Bool) (folio sheaf endPos : Nat) : Colophon :=
  { sealed := sealed, session := v.session, volumeId := v.volumeId, nextFolio := folio + 1, endSheaf := sheaf, endPos := endPos
    recordLen := v.recordLen, directoryLen := v.directoryLen, nativeUsed := v.nativeUsed, ckptFolio := v.ckptFolio
    ckptPlace := (v.lastCkpt.map (fun c => c.place)).getD (0, 0, 0), blockCode := v.blockCode, len := v.len }

/-- The colophon forme is assembled, once no group is open; it takes a folio (R180, R210). -/
def Dev.colophonForme (d : Dev) (sealed : Bool) : Option Dev :=
  if d.fm.group.isSome then none else
  match d.vol.loaded with
  | none => none
  | some v => (d.assemble .colophon 0 0xFF noFolio [] 0 0 0xFFFFFFFF []).map (fun d1 =>
      (d1.onForme v.nextFolio (fun f => { f with queued := false })).onSh (fun x =>
        { x with colophon := some ⟨v.nextFolio, sealed, 0, false, [], 0, 0, 0, 0⟩ }))

/-- Whether every other member of a set has committed a set-wide operation (R343). -/
def Dev.setDone (d : Dev) (op : Nat) : Bool := d.cs.setPending.all (fun x => x.1 != op)

/-- FLUSH commits, and UNLOAD, SEAL, FORMAT and drain-shutdown go on to their colophon, once all they cover is durable (R91, R216, R226, R325). -/
def Dev.settleFlushes (d : Dev) : Dev :=
  let d1 := d.each (d.flightsThat Flight.waitsTape) (fun d c =>
    let vh := (d.ctxs.get c).vh
    match (d.ctxs.get c).run with
    | .flight (.flush s) => if d.coveredDurable vh s && d.stripesCovered && d.setDone 0x55 then d.finish c St.ok none 0 0 else d
    | .flight (.unload 0 s) => if d.coveredDurable vh s && d.stripesCovered then (d.colophonForme false).elim d (fun d1 => d1.fly c (.unload 1 s)) else d
    | .flight (.format id 3) => if d.vol.loaded.any (fun v => v.lastCkpt.isSome) then (d.colophonForme false).elim d (fun d1 => d1.fly c (.format id 4)) else d
    | .flight (.seal false s) => if d.coveredDurable vh s && d.stripesCovered then (d.colophonForme true).elim d (fun d1 => d1.fly c (.seal true s)) else d
    | _ => d)
  if !d1.drainDivider.isEmpty ∧ d1.sh.colophon.isNone ∧ d1.drainDivider.all (fun v => d1.coveredDurable v.1 v.2) then
    (d1.colophonForme false).getD d1 else d1

/-- Flights that a colophon is being written for. -/
def Flight.closing : Flight → Bool
  | .unload 1 _ => true
  | .seal true _ => true
  | .format _ 4 => true
  | .load 3 _ => true
  | _ => false

/-- No attempt was accepted: the instruction ends with S_MEDIUM_UNRECOVERED, recorded in category 0x06 (R211). -/
def Dev.colophonFailed (d : Dev) (a : ColAttempt) : Dev :=
  (d.each (d.flightsThat Flight.closing) (fun d c =>
    if (d.flightOf c).any Flight.opens then d.openFailed c St.mediumUnrecovered (toW64 a.folio) 0 (some 6)
    else d.finish c St.mediumUnrecovered none (toW64 a.folio) 0 none (some 6))).dropColophon a.folio |>.drainLost

/-- The ring entry is done with: two copies were accepted, or two writings failed and a C1 event says so (R211). The tape comes to rest there. -/
def Dev.ringDone (d : Dev) (a : ColAttempt) : Dev :=
  let d1 := if 2 ≤ a.accepted then d else d.note { cls := .c1, unit := ⟨0xE, 0⟩, cat := 6, d0 := toW64 a.folio }
  ((d1.endTx.orderAll ⟨Hc.disarm, 0xFF, 0, 0⟩).stopProfile .scheduler).dropColophon a.folio

/-- All eight verdicts of a colophon attempt are in. After the end of data the tape is rewound for the ring (R211); in drain-shutdown it is not
(R325). -/
def Dev.colophonJudged (d : Dev) (a : ColAttempt) : Dev :=
  if a.ring then
    (if 2 ≤ a.accepted ∨ a.attempt ≠ 0 then d.ringDone a
     else ((d.orderAll ⟨Hc.disarm, 0xFF, 0, 0⟩).stopProfile .scheduler).onSh (fun x =>
       { x with colophon := some { a with attempt := 1, accepted := 0, moved := 0 } }))
  else if 2 ≤ a.accepted then
    (if d.hk.drain then ((d.onHk (fun h => { h with drainDone := true })).endTx.stopTape .idle).dropColophon a.folio
     else (d.endTx.stopTape .idle).onSh (fun x =>
       { x with colophon := some { a with ring := true, attempt := 0, accepted := 0, endPos := a.position + 1, moved := 0 } }))
  else if a.attempt + 1 < d.maxCopies then d.onSh (fun x => { x with colophon := some { a with attempt := a.attempt + 1, accepted := 0 } })
  else d.colophonFailed a

/-! ### Starting a run (R193, R201, R202, R244) -/

/-- The links are set for a run: rate, blocks with gate clear, then ARM of the slots in service (R244). -/
def Dev.armLinks (d : Dev) (step : Nat) : Dev :=
  ((d.orderAll ⟨Hc.setRate, 0, toW32 (stepRate step), 0⟩).primeTx).orderAll ⟨Hc.arm, maskOf d.sh.slots, 0, 0⟩

/-- A position profile to a place from which a step can be reached in time (R201, R267, log entry 28). -/
def Dev.backUp (d : Dev) (step : Nat) : Dev :=
  { d with draws := d.draws + 1 }.startProfile 2 step d.sh.reverse false (Config.freeNat d.draws : Int) .runStart

/-- The start motion of a run. -/
def Dev.startMotion (d : Dev) : Dev := (d.armLinks d.sh.step).backUp d.sh.step

/-- The head is locked on a sheaf. -/
def Dev.headOn (d : Dev) (n : Nat) : Bool := d.tc.locked && d.tc.headSheaf == n

/-- The scheduler starts a run: splice_gap positions after the last one written, at the chooser's step, once the head is on the sheaf (R187, R201,
R203). -/
def Dev.startRun (d : Dev) : Dev :=
  let sd := d.stamp 3
  let step := sd.2.wantStep
  let pos := min (if d.sh.pos = 0 then 0 else d.sh.pos + d.spliceGap - 1) d.positions
  let d1 := (sd.2.onSh (fun x => { x with run := .starting, pos := pos, step := step, want := step, down := 0, lag := d.lagSet, tail := 0 })).count 0x60 0 9 1
  if d1.headOn d1.sh.sheaf then d1.startMotion else d1.seekHead d1.sh.sheaf none

/-- A run is wanted (R201). -/
def Dev.runWanted (d : Dev) : Bool :=
  (d.vol.st == .opened || (d.vol.loaded.isSome && (d.colophonDue || d.vol.formatting))) && d.sh.run == .idle && !d.sh.readTurn
    && !(d.sh.colophon.any (fun a => a.ring)) && (decide (d.fillAt 0 ≤ d.fill) || d.tapeNeeded)

/-- WRITE_RUN_START: the fill has reached fill_start or a FLUSH, SEAL or UNLOAD needs tape (R201). Where a run cannot start the commands
that need it end (R202). -/
def execWriteRunStart (s : State) : Out :=
  s.whenDev (fun d => d.working && !d.er.halted && d.runWanted) (fun d =>
    if d.runReady then d.startRun
    else if d.runBlocked then d.failTape St.transportFault 0 0 else d)

/-- The back-up of a run start is done: the tape runs up to the step and the run streams (R201). -/
def Dev.runReached (d : Dev) : Dev :=
  if d.sh.run = .starting ∨ d.sh.run = .turning then
    (d.onSh (fun x => { x with run := .streaming })).startProfile 1 d.sh.step d.sh.reverse false 0 .scheduler
  else d

/-- PROOF_LAG_MEASURE: the checkers have searched for the first frames of a run (R193); none found stops the run. -/
def execProofLagMeasure (found : Option Nat) (s : State) : Out :=
  s.whenDev (fun d => d.working && d.sh.run == .streaming) (fun d =>
    let set := d.lagSet
    match found with
    | some m =>
      if m + 8 < set ∨ set + 8 < m then
        (d.raise { cls := .c3, unit := ⟨0x11, 0xFFFF⟩, cat := 9 }).interruptRun .idle
      else if set + 1 < m ∨ m + 1 < set then
        (d.onSh (fun x => { x with lag := m })).note { cls := .c1, unit := ⟨0xE, 0⟩, cat := 7, d0 := toW64 (set * 2 ^ 32 + m) }
      else d.onSh (fun x => { x with lag := set })
    | none => (d.raise { cls := .c3, unit := ⟨0x11, 0xFFFF⟩, cat := 9 }).interruptRun .idle)

/-! ### Forme positions (R176, R177, R196, R199, R204) -/

/-- A copy goes to a slot, its symbols to the head links and it to the tape. -/
def Dev.sendCopy (d : Dev) (f : Forme) (sheaf position slot : Nat) (filler : Bool) : Dev :=
  let id := d.sh.nextCopy
  let vid := (d.vol.loaded.map (fun v => v.volumeId)).getD 0
  let d1 := d.onSh (fun x => { x with nextCopy := id + 1, copies := x.copies ++ [⟨id, f.folio, filler, f.rewrite, sheaf, position, slot, [], false⟩]
                                      copyLog := (if filler then x.copyLog else x.copyLog ++ [x.count]) })
  (d1.layCopy vid f sheaf position slot).count 0x60 0 (if filler then 7 else 0) 1

/-- A filler forme assembled with a stamp, when a checkpoint has been recorded whose first folio is `ckpt` (R177). -/
def fillerForme (s : Stamp) (ckpt : Nat) : Forme :=
  { folio := noFolio, kind := .filler, flags := 0, member := 0xFF, groupBase := noFolio, payload := [], lead := 0, streamOff := 0
    firstRec := 0xFFFFFFFF, stamp := s, lastCkpt := ckpt, ledger := [], enc := 0, buf := none, accepted := none, rewrite := 0, copies := 0
    fullSheaves := 0, fullIn := none, queued := false }

/-- A filler goes to a slot. -/
def Dev.sendFiller (d : Dev) (slot : Nat) : Dev :=
  let sd := d.stamp 0xC
  (sd.2.sendCopy (fillerForme sd.1 ((d.vol.loaded.map Volume.ckptFolio).getD noFolio)) d.sh.sheaf d.sh.pos slot true).count 0x50 0 3 1

/-- Rewrites due at the present position: first the folios carried over from an earlier sheaf, then the earliest rejected (R196, R197, R204). -/
def Sheaf.dueNow (x : Sheaf) : List Rewrite :=
  x.carry.map (fun f => (⟨f, 0, 8, 0⟩ : Rewrite))
    ++ (x.due.filter (fun r => decide (r.due ≤ x.pos))).mergeSort (fun a b => decide (a.rejectedAt ≤ b.rejectedAt))

/-- New formes in folio order. -/
def Dev.newFormes (d : Dev) : List Nat := ((d.fm.held.filter (fun f => f.queued)).map (fun f => f.folio)).mergeSort (fun a b => decide (a ≤ b))

/-- A rewrite takes the first free slot, other than its own where there is one (R196). -/
def pickSlot (free : List Nat) (own : Nat) : Option Nat :=
  match free.find? (fun j => j != own) with
  | some j => some j
  | none => free.head?

/-- Rewrites fill free slots. -/
def Dev.placeRewrites (d : Dev) : List Rewrite → List Nat → List Nat × Dev
  | [], free => (free, d)
  | r :: rest, free =>
    match pickSlot free r.rejectedSlot, d.fm.held.find? (fun f => f.folio == r.folio) with
    | some j, some f =>
      let g := { f with rewrite := f.rewrite + 1, copies := f.copies + 1 }
      let d1 := ((d.onForme f.folio (fun _ => g)).sendCopy g d.sh.sheaf d.sh.pos j false).count 0x60 0 3 1
      let d2 := d1.onSh (fun x => { x with rewrites := x.rewrites ++ [x.count], carry := x.carry.filter (fun y => decide (y ≠ r.folio))
                                           due := x.due.filter (fun y => decide (y.folio ≠ r.folio)) })
      d2.placeRewrites rest (free.filter (fun y => decide (y ≠ j)))
    | some _, none =>
      (d.onSh (fun x => { x with carry := x.carry.filter (fun y => decide (y ≠ r.folio)), due := x.due.filter (fun y => decide (y.folio ≠ r.folio)) })).placeRewrites rest free
    | none, _ => (free, d)

/-- New formes fill free slots. -/
def Dev.placeNew (d : Dev) : List Nat → List Nat → List Nat × Dev
  | f :: rest, j :: free =>
    match d.fm.held.find? (fun g => g.folio == f) with
    | some g =>
      let h := { g with queued := false, copies := g.copies + 1 }
      ((d.onForme f (fun _ => h)).sendCopy h d.sh.sheaf d.sh.pos j false).placeNew rest free
    | none => d.placeNew rest (j :: free)
  | _, free => (free, d)

/-- The eight copies of a colophon attempt go to a position (R211). -/
def Dev.sendColophon (d : Dev) (a : ColAttempt) (sheaf position endPos : Nat) (slots : List Nat) : Dev :=
  match d.vol.loaded, d.fm.held.find? (fun f => f.folio == a.folio) with
  | some v, some f =>
    let c := v.colophon a.sealed a.folio d.sh.sheaf endPos
    let g := { f with rewrite := a.attempt, payload := c.bytes v.positions d.groupSize (stampOnTape v.session d.clk.adopted f.stamp) }
    let first := d.sh.nextCopy
    let d1 := slots.foldl (fun d j => d.sendCopy g sheaf position j false) d
    d1.onSh (fun x => { x with colophon := some { a with ids := (List.range slots.length).map (· + first), accepted := 0, position := position } })
  | _, _ => d

/-- The trailing window and the rewrite budget (R199). -/
def Dev.trailWindow (d : Dev) : Dev :=
  let d1 := d.onSh (fun x => { x with count := x.count + 1, rewrites := x.rewrites.filter (fun n => decide (x.count + 1 ≤ n + 4096))
                                      copyLog := x.copyLog.filter (fun n => decide (x.count + 1 ≤ n + 4096)) })
  let above := decide (d1.rf Reg.SH_RWCFG 15 0 < d1.sh.rewrites.length)
  if above = d1.sh.overBudget then d1 else
    (d1.onSh (fun x => { x with overBudget := above })).note { cls := if above then .c1 else .c0, unit := ⟨0xE, 0⟩, cat := 7
                                                               d0 := toW64 (d1.sh.sheaf * 2 ^ 32 + d1.sh.pos) }

/-- Everything the run was ended for is done: nothing is due, and every copy but fillers has its verdict (R201). -/
def Sheaf.tailDone (x : Sheaf) : Bool := x.run == .stopping && x.tail == 0 && x.due.isEmpty && x.carry.isEmpty && x.copies.all (fun k => k.filler)

/-- One position of a run: rewrites that are due, then the colophon attempt or new formes, then fillers. The last 64 positions of a sheaf
and a run that ends take no new formes. -/
def Dev.sendPosition (d : Dev) : Dev :=
  let a := (d.stamp 0xD).2.beginTx
  let p := a.positions
  let stopping := a.sh.run == .stopping
  let old := stopping || decide (p ≤ a.sh.pos + 64)
  let r := a.placeRewrites a.sh.dueNow a.sh.slots
  let placed := decide (r.1.length < a.sh.slots.length)
  let b := r.2
  let news := if old then [] else b.newFormes
  let c := match b.sh.colophon with
    | some x => if !x.ring && x.ids.isEmpty && news.isEmpty && !old && !placed then
        ([], b.sendColophon x b.sh.sheaf b.sh.pos (b.sh.pos + 1) b.sh.slots) else b.placeNew news r.1
    | none => b.placeNew news r.1
  let e := ((c.1 ++ a.sh.slotsOff).foldl Dev.sendFiller c.2).flushTx
  (e.trailWindow).onSh (fun x => { x with pos := x.pos + 1, tail := (if stopping then (if placed then x.lag else x.tail - 1) else x.tail) })

/-- A run that is done stops; reads that wait take the tape next. -/
def Dev.endRunIfDone (d : Dev) : Dev := if d.sh.tailDone then d.endTx.stopTape .idle else d

/-- The colophon ring (R211): the tape is rewound and the head moved to sheaf 1, the links are set, and the tape runs forward at step 0 to the
entry, where the eight copies go out with the end position of the accepted attempt. -/
def Dev.ringStep (d : Dev) (a : ColAttempt) : Dev :=
  let idle := d.tc.profile.kind == 0
  let moved := fun (d : Dev) (n : Nat) => d.onSh (fun x => { x with colophon := some { a with moved := n } })
  if !d.runReady ∨ d.sh.run ≠ .idle ∨ !a.ids.isEmpty then d
  else if a.moved = 0 then
    (if !idle then d
     else if 2 ≤ a.attempt then d.ringDone a
     else (moved ({ d with draws := d.draws + 1 }.startProfile 2 15 false false (Config.freeNat d.draws : Int) .scheduler) 1).seekHead 1 none)
  else if a.moved = 1 then
    (if !idle || d.tc.seeking then d
     else if d.headOn 1 then (moved (d.armLinks 0) 2).startProfile 1 0 false false 0 .scheduler
     else moved d 0)
  else if !idle then d
  else ((d.stamp 0xD).2.beginTx.sendColophon a 1 (0xFFFF0000 + d.session % 64) a.endPos d.sh.slots).flushTx

/-- FORME_POSITION_SEND: the eight slots of the next forme position are filled and sent (R196); for a colophon's ring entry, the next step
towards it (R211). -/
def execFormePositionSend (s : State) : Out :=
  s.work (fun d =>
    if d.sh.run = .streaming ∨ d.sh.run = .stopping then
      (if d.sh.pos < d.positions then d.sendPosition.endRunIfDone else d)
    else match d.sh.colophon with
      | some a => if a.ring then d.ringStep a else d
      | none => d)

/-! ### Proof (R174, R194, R195, R200) -/

/-- The track of a row of a copy in a slot (R173, R189). -/
def trackOf (slot row : Nat) : Nat := 16 * slot + row % 16

/-- A track's slot is retired for the rest of the sheaf (R200). -/
def Dev.retireSlot (d : Dev) (track : Nat) : Dev :=
  let d1 := ((d.onSh (fun x => { x with slotsOff := x.slotsOff ++ [track / 16], tracks := x.tracks.modify track (fun t => { t with retired := true }) })).count
    0x60 0 11 1).note { cls := .c1, unit := ⟨0xE, track⟩, cat := 7, d0 := toW64 (d.sh.sheaf * 2 ^ 32 + d.sh.pos), d1 := toW64 track }
  if d1.sh.slots.isEmpty then d1.haltWriting none else d1

/-- A row failed on a track. -/
def Dev.rowFailed (d : Dev) (track : Nat) : Dev :=
  let d1 := (d.onSh (fun x => { x with tracks := x.tracks.modify track (fun t =>
    { t with fails := (t.fails ++ [x.count]).filter (fun n => decide (x.count < n + 4096)) }) })).count 0x60 0 5 1
  if d1.rf Reg.SH_TRKCFG 15 0 < (d1.sh.tracks.get track).fails.length ∧ !d1.sh.slotsOff.contains (track / 16) then d1.retireSlot track else d1

/-- PROOF_ROW_RESULT: the checker of the row's track decodes a row of a copy (R194): `mark` is where in the track's symbols it found the sync mark
in the expected frame, none where it did not (log entry 136). The symbols up to the end of the frame are done with. -/
def execProofRowResult (copy row : Nat) (mark : Option Nat) (s : State) : Out :=
  s.work (fun d =>
    match d.sh.copies.find? (fun k => k.id == copy) with
    | none => d
    | some k =>
      if 176 ≤ row ∨ k.rows.contains row then d else
      let n := trackOf k.slot row
      let frame := mark.map (rowFrameAt (d.trackSymbols n))
      let ok := frame.any (fun f => rowPasses f d.maxCorr row k.rewrite k.folio)
      let d1 := (match mark with
        | some p => d.dropSymbols n (p + 4 + frameTail)
        | none => d).onSh (fun x => { x with copies := x.copies.map (fun (c : Copy) =>
          if c.id = copy then { c with rows := c.rows ++ [row], bad := c.bad || !ok } else c) })
      if ok then d1.count 0x60 0 6 ((frame.bind rowCorrections).getD 0) else d1.rowFailed n)

/-- Sheaves in a row in which a folio has used up its copies, with the present one (R198). -/
def Forme.fullRow (f : Forme) (sheaf : Nat) : Nat := if f.fullIn.any (fun n => n + 1 == sheaf) then f.fullSheaves + 1 else 1

/-- A rejected copy is rewritten, or its folio deferred to the next sheaf, or writing halts (R196 to R198). -/
def Dev.reject (d : Dev) (k : Copy) : Dev :=
  match d.fm.held.find? (fun f => f.folio == k.folio) with
  | none => d
  | some f =>
    if f.copies < d.maxCopies then
      d.onSh (fun x => { x with due := x.due ++ [⟨k.folio, k.position, k.slot, k.position + x.lag + 1⟩] })
    else
      let n := f.fullRow d.sh.sheaf
      let d1 := d.onForme k.folio (fun f => { f with fullSheaves := n, fullIn := some d.sh.sheaf })
      if d.maxSheaves ≤ n then d1.haltWriting (some k.folio)
      else ((d1.onSh (fun x => { x with deferred := x.deferred ++ [k.folio] })).count 0x60 0 4 1).note
        { cls := .c1, unit := ⟨0xE, k.slot * 16⟩, cat := 6, d0 := toW64 k.folio, d1 := toW64 (f.groupBase + d.sh.sheaf * 2 ^ 48) }

/-- A copy is accepted: its forme has its place, the checkpoint that begins with it too, and what it covers is settled (R183, R217). -/
def Dev.acceptCopy (d : Dev) (k : Copy) : Dev :=
  (((d.onForme k.folio (fun f => { f with accepted := some (k.sheaf, k.position, k.slot), fullSheaves := 0, fullIn := none })).onFm (fun x =>
    { x with ckpts := x.ckpts.map (fun c => if c.firstFolio = k.folio then { c with place := (k.sheaf, k.position, k.slot) } else c) })).settleGroups).settleFlushes

/-- The verdict of a copy acts on its forme. -/
def Dev.judge (d : Dev) (k : Copy) : Dev :=
  if k.filler then d else
  match d.sh.colophon with
  | some a =>
    if a.folio = k.folio then
      let b := { a with ids := a.ids.filter (fun i => decide (i ≠ k.id)), accepted := a.accepted + b2n (!k.bad) }
      let d1 := d.onSh (fun x => { x with colophon := some b })
      if b.ids.isEmpty then d1.colophonJudged b else d1
    else if k.bad then d.reject k else d.acceptCopy k
  | none => if k.bad then d.reject k else d.acceptCopy k

/-- The accepted copy on the tape is marked. -/
def Dev.markAccepted (d : Dev) (k : Copy) : Dev :=
  if k.bad ∨ k.filler then d else
  d.onCart (fun c => { c with formes := c.formes.map (fun o =>
    if o.sheaf = k.sheaf ∧ o.position = k.position ∧ o.slot = k.slot ∧ o.forme.folio = k.folio then
      { o with forme := { o.forme with accepted := some (k.sheaf, k.position, k.slot) } } else o) })

/-- PROOF_VERDICT: the last row result of a copy is in; the copy is accepted or rejected (R195). -/
def execProofVerdict (copy : Nat) (s : State) : Out :=
  s.work (fun d =>
    match d.sh.copies.find? (fun k => k.id == copy) with
    | none => d
    | some k =>
      if k.rows.length < 176 then d else
      let d1 := (((d.stamp 0xE).2.onSh (fun x => { x with copies := x.copies.filter (fun c => decide (c.id ≠ copy)) })).count 0x60 0 (if k.bad then 2 else 1) 1).markAccepted k
      (d1.judge k).endRunIfDone)

/-! ### Ending and turning (R201, R204, R206) -/

/-- A run begins to end: fillers for λ positions and the rewrites that are due. -/
def Dev.beginStop (d : Dev) : Dev :=
  if d.sh.run = .streaming then d.onSh (fun x => { x with run := .stopping, tail := x.lag }) else d

/-- RUN_IDLE_STOP: the run has idled at step_min for idle_stop (R201). -/
def execRunIdleStop (s : State) : Out :=
  s.whenDev (fun d => d.working && d.sh.run == .streaming && d.rf Reg.SH_RUNCFG 31 24 != 0 && d.sh.step == d.stepMin && decide (d.fill = 0)
      && d.fm.held.isEmpty && d.sh.due.isEmpty) (fun d => d.beginStop)

/-- Tracks at a sheaf turn (R200): those that retired their slot count sheaves in a row; at SH_TRKCFG.persist the slot stays disabled, with a
C3 record. Every other slot returns to service. -/
def Dev.turnTracks (d : Dev) : Dev :=
  let lim := max 1 (d.rf Reg.SH_TRKCFG 19 16)
  d.each (List.range 128) (fun d n =>
    let t := d.sh.tracks.get n
    let m := if t.retired then t.sheaves + 1 else 0
    let persist := t.persistent || decide (lim ≤ m)
    let d1 := d.onSh (fun x => { x with tracks := x.tracks.set n { t with sheaves := m, retired := persist, persistent := persist } })
    if persist && !t.persistent then
      d1.raise { cls := .c3, unit := ⟨0xE, n⟩, cat := 7, d0 := toW64 (d.sh.sheaf * 2 ^ 32 + d.sh.pos), d1 := toW64 n } else d1)

/-- Slots disabled after a turn: those of persistent tracks. -/
def Sheaf.persistentSlots (x : Sheaf) : List Nat := (List.range 8).filter (fun j => (List.range 16).any (fun t => (x.tracks.get (16 * j + t)).persistent))

/-- What is written first in the next sheaf: the halted folio, then in folio order what was deferred or could not be placed (R198, R204). -/
def Sheaf.carried (x : Sheaf) : List Nat :=
  let rest := (x.carry ++ x.deferred ++ x.due.map (fun r => r.folio)).mergeSort (fun a b => decide (a ≤ b))
  (x.haltFolio.toList ++ rest).eraseDups

/-- The scheduler goes to the next sheaf: what could not be placed is carried over and copies count anew (R204). -/
def Dev.nextSheaf (d : Dev) : Dev :=
  let d2 := (d.onSh (fun x => { x with sheaf := x.sheaf + 1, pos := 0, slotsOff := x.persistentSlots, carry := x.carried, deferred := [], due := []
                                       haltFolio := none, tail := 0 })).count 0x60 0 8 1
  d2.onFm (fun x => { x with held := x.held.map (fun f => { f with copies := 0 }) })

/-- A sheaf turn: tracks are judged; where all eight slots stay disabled writing halts (R200), otherwise the tape stops, so that the head can move
to the next sheaf and the run start in the other direction (R204). -/
def Dev.turnSheaf (d : Dev) : Dev :=
  let d1 := d.turnTracks
  if d1.sh.persistentSlots.length = 8 then d1.haltWriting none
  else (((d1.nextSheaf.onSh (fun x => { x with run := .turning })).endTx).orderAll ⟨Hc.disarm, 0xFF, 0, 0⟩).stopProfile .turn

/-- The tape has stopped at a sheaf turn: the head moves to the next sheaf (R204, R268). -/
def Dev.turnStopped (d : Dev) : Dev := if d.sh.run = .turning then d.seekHead d.sh.sheaf none else d

/-- The head has locked at a sheaf turn, or for a run that starts: its start motion begins (R201, R204). -/
def Dev.turnLocked (d : Dev) : Dev := if d.sh.run = .turning ∨ d.sh.run = .starting then d.startMotion else d

/-- SHEAF_TURN: the sheaf is full and its last verdicts are in (R204). After sheaf 159 writing is full where something due is not
accepted (R206), and the run ends otherwise. -/
def execSheafTurn (s : State) : Out :=
  s.whenDev (fun d => d.working && (d.sh.run == .streaming || d.sh.run == .stopping) && decide (d.positions ≤ d.sh.pos)
      && d.sh.copies.all (fun k => k.filler) && d.vol.loaded.isSome) (fun d =>
    let d1 := (d.stamp 3).2.onSh (fun x => { x with copies := [] })
    if d1.sh.sheaf < 159 then d1.turnSheaf
    else if d1.fm.held.any (fun f => f.accepted.isNone) then
      (((d1.interruptRun .full).onSh (fun x => { x with run := .full })).failTape St.volumeFull 0 0).note
        { cls := .c2, unit := ⟨3, 0⟩, cat := 7, d0 := toW64 (d.sh.sheaf * 2 ^ 32 + d.sh.pos), status := St.volumeFull }
    else d1.endTx.stopTape .idle)

/-- Writing goes on after a halt (R198): the scheduler turns to the next sheaf, where the halted folio is written first. -/
def Dev.resumeTurn (d : Dev) : Dev :=
  if 159 ≤ d.sh.sheaf then d.onSh (fun x => { x with run := .full, haltFolio := none, resumeDue := false })
  else
    let d1 := d.onSh (fun x => { x with resumeDue := false })
    if d1.runReady then d1.turnSheaf else d1.turnTracks.nextSheaf.onSh (fun x => { x with run := .idle })

/-- SH_CTL.resume (R198). No effect on a full volume (R206). Writing and reading never share the tape (R17): during a read turn it waits for its
end (log entry 137). -/
def Dev.resumeWriting (d : Dev) : Dev :=
  if d.sh.run = .halted ∧ d.vol.loaded.isSome then
    (if d.sh.readTurn then d.onSh (fun x => { x with resumeDue := true }) else d.resumeTurn)
  else d

end Sys2Proof.Machine
end

