-- ==== Sys2Proof/Machine/Sweeps.lean ====
section
/-! DEFINITION. Read turns and their sweeps along the tape (R17, R227, R228, R247), and the step chooser (R203). -/

namespace Sys2Proof.Machine

/-! ### Where a read lies (R227, R228) -/

/-- Formes of the loaded volume on the tape. -/
def Dev.onTape (d : Dev) : List OnTape :=
  match d.vol.cart, d.vol.loaded with
  | some c, some v => c.formes.filter (fun o => o.volumeId == v.volumeId)
  | _, _ => []

/-- The locator with the greatest record_base not above a record-stream offset: sheaf and position (R228). -/
def Dev.locatorFor (d : Dev) (off : Nat) : Nat × Nat :=
  match d.vol.loaded with
  | none => (0, 0)
  | some v => (v.entries.foldl (fun (a : Option (Nat × Nat × Nat)) e => match e, a with
      | .locator _ sh pos _ _ rb _, none => if rb ≤ off then some (rb, sh, pos) else a
      | .locator _ sh pos _ _ rb _, some x => if rb ≤ off ∧ x.1 ≤ rb then some (rb, sh, pos) else a
      | _, _ => a) none).elim (0, 0) (fun x => x.2)

/-- Sheaf and position of the forme that holds a byte of the record stream, searched from the locator on. -/
def Dev.formeAt (d : Dev) (off : Nat) : Nat × Nat :=
  let a := d.locatorFor off
  match d.onTape.find? (fun o => o.forme.kind == .data && decide (o.forme.streamOff ≤ off) && decide (off < o.forme.streamOff + o.forme.payload.length)
      && (decide (a.1 < o.sheaf) || (o.sheaf == a.1 && decide (a.2 ≤ o.position)))) with
  | some o => (o.sheaf, o.position)
  | none => a

/-- A read of the turn: its context, the sheaf, position and place of the first forme it needs, and its arrival stamp. -/
structure Site where
  ctx : Nat
  sheaf : Nat
  pos : Nat
  place : Nat
  stamp : Stamp
  deriving DecidableEq, Repr

/-- The site of a context's read; none where it needs no tape. -/
def Dev.siteOf (d : Dev) (c : Nat) : Option Site :=
  match d.flightOf c with
  | some (.read r) =>
    let offs := r.plan.filterMap (fun s => match s with
      | .extent e _ _ => some (match e with
          | .extent _ _ _ off _ _ _ _ _ => off
          | _ => 0)
      | _ => none)
    (match offs with
     | [] => none
     | o :: rest =>
       let x := d.formeAt (rest.foldl min o)
       some ⟨c, x.1, x.2, positionPlace d.positions x.1 x.2, r.stampAt⟩)
  | _ => none

/-- Of two reads of a sweep, the one that the tape meets first; at one place, the earlier stamp. -/
def Site.before (rev : Bool) (a b : Site) : Bool :=
  (if rev then decide (b.place < a.place) else decide (a.place < b.place)) || (a.place == b.place && a.stamp.lt b.stamp)

/-- The first of some reads along a direction. -/
def firstSite (rev : Bool) (l : List Site) : Option Site :=
  l.foldl (fun a x => match a with
    | none => some x
    | some y => if x.before rev y then some x else some y) none

/-- Reads of a direction, and those that lie ahead of the tape (R227). -/
def sweepOf (l : List Site) (rev : Bool) : List Site := l.filter (fun s => (s.sheaf % 2 == 1) == rev)
def sweepAhead (l : List Site) (rev : Bool) (x : Int) : List Site :=
  (sweepOf l rev).filter (fun s => if rev then decide ((s.place : Int) ≤ x) else decide (x ≤ (s.place : Int)))

/-- The next read and the direction of its sweep: ahead in the present sweep, ahead in the next, or behind in the one after. -/
def nextSite (l : List Site) (rev : Bool) (x : Int) : Option (Bool × Site) :=
  match firstSite rev (sweepAhead l rev x), firstSite (!rev) (sweepAhead l (!rev) x) with
  | some s, _ => some (rev, s)
  | none, some s => some (!rev, s)
  | none, none => (match firstSite rev (sweepOf l rev), firstSite (!rev) (sweepOf l (!rev)) with
      | some s, _ => some (rev, s)
      | none, some s => some (!rev, s)
      | none, none => none)

/-- The head goes to a sheaf where it is not there. -/
def Dev.headTo (d : Dev) (n : Nat) : Dev := if d.headOn n then d else d.seekHead n none

/-- The tape goes to where a LOCATE leaves it: ahead of its forme, at rest (R228). -/
def Dev.standAhead (d : Dev) (s : Site) : Dev :=
  let len := (d.vol.cart.map (fun k => k.len)).getD 0
  d.startProfile 2 15 false false (placeW (d.aheadOf len d.positions s.sheaf s.pos : Nat)) .scheduler

/-- Whether a context runs a LOCATE. -/
def Dev.locating (d : Dev) (c : Nat) : Bool :=
  match d.flightOf c with
  | some (.read r) => r.opcode == 0x53
  | _ => false

/-- The sweep goes on to its next read where the one it served is done (R227): the head moves between sheaves, the tape runs at step 15 in the
sweep's direction, or to where a LOCATE leaves it. -/
def Dev.retarget (d : Dev) : Dev :=
  if !d.sh.readTurn || d.sh.aim.any (fun c => d.sh.turnReads.any (fun x => x.1 == c)) then d else
  match nextSite (d.sh.turnReads.filterMap (fun x => d.siteOf x.1)) d.sh.sweepRev d.tc.place with
  | none => d.onSh (fun x => { x with aim := none })
  | some (rev, s) =>
    let d1 := (d.onSh (fun x => { x with aim := some s.ctx, sweepRev := rev })).headTo s.sheaf
    if d1.locating s.ctx then d1.standAhead s
    else if d1.tc.profile.vel = 0 ∨ d1.tc.profile.reverse ≠ rev ∨ d1.tc.profile.toZero then d1.startProfile 1 15 rev false 0 .scheduler else d1

/-- The tape stands ahead of the forme that a LOCATE asks for, at rest with the head locked on its sheaf (R228). -/
def Dev.stands (d : Dev) (c : Nat) : Bool :=
  d.sh.readTurn && d.sh.aim == some c && d.tc.profile.kind == 0 && (d.siteOf c).any (fun s => d.headOn s.sheaf)

/-! ### Read turns (R227, R247) -/

/-- Reads that end because fewer than 15 links are ACTIVE, or the engine is not RUN: GETs with their destination zeroed. -/
def Dev.failReads (d : Dev) (cs : List Nat) : Dev := d.each cs (fun d c => d.failRead c St.transportFault)

/-- A read turn begins with the reads that wait: the channels stream, and the first sweep runs in the direction of travel, or with the tape at rest
in that of the sheaf the head stands on (R227, R250). -/
def Dev.startTurn (d : Dev) : Dev :=
  let cs := d.sh.waitTape
  let d1 := (d.stamp 3).2.onSh (fun x => { x with waitTape := [] })
  if d1.activeLinks < 15 ∨ d1.motionRefused then d1.failReads (cs.map (fun x => x.1))
  else
    let rev := if d1.tc.profile.vel = 0 then d1.tc.headSheaf % 2 == 1 else decide (d1.tc.profile.vel < 0)
    let d2 := d1.onSh (fun x => { x with readTurn := true, turnReads := cs, served := false, sweepRev := rev, aim := none })
    (((d2.onLinks (fun _ l => { l with rx := Table.empty })).orderAll ⟨Hc.setRate, 0, toW32 (stepRate 15), 0⟩).orderAll ⟨Hc.readOn, 0xFF, 0, 0⟩).retarget

/-- A turn begins where reads wait and no run is under way. -/
def Dev.tryTurn (d : Dev) : Dev :=
  if d.sh.waitTape.isEmpty ∨ d.sh.readTurn ∨ d.sh.running ∨ d.sh.colophon.any (fun a => a.ring) then d else d.startTurn

/-- The read turn ends: reads not done wait for the next one. A resume that waited for it takes effect (R17, R198). -/
def Dev.endTurn (d : Dev) : Dev :=
  let d1 := ((d.onSh (fun x => { x with readTurn := false, turnReads := [], aim := none, waitTape := x.turnReads ++ x.waitTape })).orderAll
    ⟨Hc.readOff, 0xFF, 0, 0⟩).stopProfile .scheduler
  if d1.sh.resumeDue then d1.resumeWriting else d1

/-- READ_TURN_END: the reads of the turn are done, or the fill has reached fill_max after the earliest was served (R227). -/
def execReadTurnEnd (s : State) : Out :=
  s.whenDev (fun d => d.working && d.sh.readTurn && (d.sh.turnReads.isEmpty || (decide (d.fillAt 3 ≤ d.fill) && d.sh.served))) (fun d =>
    let d1 := (d.stamp 3).2.endTurn
    if d1.tapeNeeded ∨ d1.fillAt 0 ≤ d1.fill then d1 else d1.tryTurn)

/-! ### The step chooser (R203) -/

/-- The averages are updated. -/
def Dev.updateAverages (d : Dev) : Dev :=
  let per : Rat := ((d.periodMs : Nat) : Rat) / 1000
  let tau : Rat := ((d.tauMs : Nat) : Rat) / 1000
  d.onSh (fun x => { x with rIn := x.rIn + (((x.inBytes : Nat) : Rat) / per - x.rIn) * per / tau, inBytes := 0
                            outs := x.outs.filter (fun o => decide (d.clk.now ≤ o.1 + d.tauMs * msTicks)) })

/-- The decision of R203. -/
def Dev.chooseStep (d : Dev) : Dev :=
  if d.tc.profile.kind ≠ 0 ∨ (d.sh.run ≠ .streaming ∧ d.sh.run ≠ .stopping) then d else
  let w := d.wantStep
  let go := fun (d : Dev) (s : Nat) => ((d.onSh (fun x => { x with step := s, want := w, down := 0 })).orderAll
    ⟨Hc.setRate, 0, toW32 (stepRate s), 0⟩).startProfile 1 s d.sh.reverse false 0 .scheduler
  if d.sh.step < w then go d w
  else if w < d.sh.step ∧ d.fill ≤ d.fillAt 1 then
    (if d.stepHold ≤ d.sh.down + 1 then go d (d.sh.step - 1) else d.onSh (fun x => { x with want := w, down := x.down + 1 }))
  else d.onSh (fun x => { x with want := w, down := 0 })

/-- A read is registered and the fill is low, or the earliest has waited 2 s (R227). -/
def Dev.turnDue (d : Dev) : Bool :=
  !d.sh.waitTape.isEmpty && (decide (d.fill ≤ d.fillAt 2) || d.sh.waitTape.any (fun x => decide (x.2 + 2000 * msTicks ≤ d.clk.now)))

/-- STEP_EVAL: the period's averages, the step, and whether a read turn ends the run (R203, R227). -/
def execStepEval (s : State) : Out :=
  s.whenDev (fun d => d.working && d.vol.st == .opened) (fun d =>
    let d1 := ((d.advanceBy (d.periodMs * msTicks)).stamp 3).2.updateAverages
    let d2 := (d1.onSh (fun x => { x with demand := (d1.demandRate / 1000000).floor.toNat })).chooseStep
    if d2.sh.run = .streaming ∧ d2.turnDue then d2.beginStop else d2.tryTurn.retarget)

end Sys2Proof.Machine
end

