-- ==== Sys2Proof/Machine/Restore.lean ====
section
/-! DEFINITION. Bytes coming back from tape: forme decoding and L3 recovery (R229 to R231), records and blocks of a GET (R134, R135, R160,
R161, R232), and cartridges coming and going (R212, R214). -/

namespace Sys2Proof.Machine

/-! ### Formes (R185, R186, R229 to R231) -/

/-- A decoded forme is held for the reads in a buffer of requester 52; where that request waits, so does the decoder. -/
def Dev.holdDecoded (d : Dev) (f : Forme) : Dev :=
  match d.grab .restore [f.folio] 192000 [.unit .restore, .unit .cipher] with
  | (some k, d1) =>
    (d1.letGo k (.unit .restore)).onVol (fun v => { v with decoded := v.decoded ++ [{ f with buf := some k }] })
  | (none, d1) => d1

/-- The frames whose sync marks a restore decoder has found on the tracks of a slot: a track of the slot, and where in its symbols the mark is. -/
def Dev.framesOn (d : Dev) (slot : Nat) (marks : List (Nat × Nat)) : List (List (BitVec 11)) :=
  marks.map (fun m => rowFrameAt (d.trackSymbols (16 * slot + m.1)) m.2)

/-- The symbols of those tracks up to the last frame are done with. -/
def Dev.dropFrames (d : Dev) (slot : Nat) (marks : List (Nat × Nat)) : Dev :=
  d.each (List.range 16) (fun d t =>
    d.dropSymbols (16 * slot + t) ((marks.filter (fun m => m.1 == t)).foldl (fun a m => max a (m.2 + 4 + frameTail)) 0))

/-- Whether a LOAD is reading its tape. -/
def Dev.loading (d : Dev) : Bool := !(d.flightsThat (fun f => (match f with
  | .load n _ => n == 1 || n == 2
  | _ => false))).isEmpty

/-- A copy that a LOAD has read (R223, R224): the first accepted copy of a folio is used, every colophon copy is kept. -/
def Dev.scanCopy (d : Dev) (o : OnTape) : Dev :=
  if o.forme.kind = .filler ∨ (o.forme.kind ≠ .colophon ∧ d.vol.scan.any (fun x => x.forme.folio == o.forme.folio && x.volumeId == o.volumeId)) then d
  else d.onVol (fun v => { v with scan := v.scan ++ [o] })

/-- The decoder reaches a colophon of the volume: where it is that of the end of data, reads of the turn that need a record beyond it end with
S_END_OF_DATA (R233). -/
def Dev.meetColophon (d : Dev) (o : OnTape) : Dev :=
  match colophonFrom o.forme.payload with
  | none => d
  | some k =>
    if k.endSheaf ≠ d.sh.sheaf ∨ k.endPos ≠ d.sh.pos then d else
    d.each (d.sh.turnReads.map (fun x => x.1)) (fun d c => match d.flightOf c with
      | some (.read r) => if r.plan.any (fun x => match x with
          | .extent (.extent _ _ _ off _ len _ _ _) _ _ => decide (k.recordLen ≤ off) && decide (0 < len)
          | _ => false) then d.failRead c St.endOfData else d
      | _ => d)

/-- A copy that a read turn has decoded (R229): the first accepted copy of a folio is used and others are ignored; fillers, colophons and formes of
other volumes are passed over. -/
def Dev.turnCopy (d : Dev) (o : OnTape) : Dev :=
  if !d.vol.loaded.any (fun v => v.volumeId == o.volumeId) then d
  else if o.forme.kind = .colophon then d.meetColophon o
  else if o.forme.kind = .filler ∨ d.vol.decoded.any (fun x => x.folio == o.forme.folio) then d
  else d.holdDecoded o.forme

/-- Whether the tape holds a copy at a place. -/
def Dev.tapeHolds (d : Dev) (sheaf position slot : Nat) : Bool :=
  d.vol.cart.any (fun k => k.formes.any (fun o => o.sheaf == sheaf && o.position == position && o.slot == slot))

/-- FORME_DECODE: a restore decoder finishes the copy that the tape holds at a place under the head (R229), from the frames whose sync marks it found
on the sixteen tracks of the slot. One that does not decode, or that R185 refuses, is lost. Identifiers corrected and copies refused are counted. -/
def execFormeDecode (sheaf position slot : Nat) (marks : List (Nat × Nat)) (s : State) : Out :=
  s.whenDev (fun d => d.working && (d.sh.readTurn || d.loading) && d.tc.headSheaf == sheaf && d.tapeHolds sheaf position slot) (fun d =>
    let frames := d.framesOn slot marks
    let a := ((d.stamp 0xF).2.dropFrames slot marks).count 0x50 0 10 ((frames.filterMap decodeRowId).filter (fun x => x.2.2.2)).length
    match readCopy frames with
    | .lost => a
    | .refused => a.count 0x50 0 9 1
    | .accepted o => if a.sh.readTurn then (a.turnCopy o).retarget else a.scanCopy o)

/-- The number of members of a group: as an accepted parity forme's ledger gives it, or a locator, or as far as its decoded members tell. -/
def Dev.groupSpan (d : Dev) (base : Nat) (fs : List Forme) : Nat :=
  match fs.find? (fun f => f.kind == .parity) with
  | some p => p.ledK
  | none =>
    let loc := (d.vol.loaded.map (fun v => v.entries.findSome? (fun e => match e with
      | .locator b _ _ _ k _ _ => if b = base then some k else none
      | _ => none))).getD none
    loc.getD (fs.foldl (fun a f => max a (f.member + 1)) 0)

/-- Folios of a group of `k` members that have not been decoded. -/
def lostFolios (base k : Nat) (fs : List Forme) : List Nat :=
  ((List.range k).map (fun i => base + i)).filter (fun n => !fs.any (fun f => f.folio == n))

/-- The record-stream interval that lost formes hold (R231): by the group's ledger where one survives, otherwise what lies between the data formes that
were decoded before and after them. -/
def Dev.lostInterval (d : Dev) (base : Nat) (fs : List Forme) (lost : List Nat) : Nat × Nat :=
  match fs.find? (fun f => f.kind == .parity) with
  | some p =>
    (match (lost.map (fun n => n - base)).filter (fun i => p.ledKind i == 1) with
     | [] => (0, 0)
     | i :: rest =>
       let a := rest.foldl (fun a x => min a (p.ledOff x)) (p.ledOff i)
       let b := rest.foldl (fun b x => max b (p.ledOff x + p.ledLen x)) (p.ledOff i + p.ledLen i)
       (a, b - a))
  | none =>
    let data := d.vol.decoded.filter (fun f => f.kind == .data)
    let lo := lost.foldl min (lost.headD 0)
    let hi := lost.foldl max 0
    let a := (data.filter (fun f => decide (f.folio < lo))).foldl (fun a f => max a (f.streamOff + f.payload.length)) 0
    let b := (data.filter (fun f => decide (hi < f.folio))).foldl (fun b f => min b f.streamOff) ((d.vol.loaded.map (fun v => v.recordLen)).getD 0)
    (a, b - a)

/-- Sealed length of a record known to the directory only by where it begins: to the next record that an entry names, or the end. -/
def Dev.recEnd (d : Dev) (off : Nat) : Nat :=
  match d.vol.loaded with
  | none => off
  | some v => v.entries.foldl (fun a e => match e with
      | .extent _ _ _ r _ _ _ _ _ => if off < r then min a r else a
      | _ => a) v.coveredLen

/-- Whether a read needs a record that meets an interval of the record stream, given by its start and length. -/
def Dev.readTouches (d : Dev) (r : ReadOp) (x : Nat × Nat) : Bool :=
  r.plan.any (fun y => match y with
    | .extent (.extent _ _ _ off _ _ _ _ _) _ _ => decide (off < x.1 + x.2) && decide (x.1 < d.recEnd off)
    | _ => false)

/-- A group is unrecovered (R231, R421): every read that needs a record which touches a lost forme ends with S_MEDIUM_UNRECOVERED, its record of
category 0x08 naming the group's folios and the lost interval. -/
def Dev.unrecovered (d : Dev) (base k : Nat) (fs : List Forme) (lost : List Nat) : Dev :=
  let x := d.lostInterval base fs lost
  let d0 := toW64 (base + (k + 3) % 256 * 2 ^ 40)
  let hit := d.flightsThat (fun f => match f with
    | .read r => d.readTouches r x
    | _ => false)
  let b := d.each hit (fun d c => d.failRead c St.mediumUnrecovered d0 (toW64 x.1) (some 8) (toW32 x.2))
  if hit.isEmpty then b.note { cls := .c2, unit := ⟨0xF, 16⟩, cat := 8, d0 := d0, d1 := toW64 x.1, d2 := toW32 x.2 } else b

/-- A lost data forme whose payload the parity units of a widened set have rebuilt: its header from the ledger, or from the member's adjacent data
formes (R349). -/
def Dev.fromSet (d : Dev) (base : Nat) (fs : List Forme) (folio : Nat) (payload : List Byte) : Forme :=
  match fs.find? (fun f => f.kind == .parity) with
  | some p => p.rebuilt (folio - base) payload
  | none =>
    let x := d.lostInterval base [] [folio]
    { (copyFrom (zeros 512)).forme with folio := folio, kind := .data, member := folio - base, groupBase := base, streamOff := x.1,
                                        payload := payload.take (min x.2 191488), firstRec := 0xFFFFFFFF }

/-- The payload of a lost data forme of this member from the other members' formes of its stripe (R349). -/
def Dev.crossRebuilt (d : Dev) (others : List (Nat × List (Nat × List Byte))) (folio : Nat) : Option (List Byte) :=
  if !d.cs.stripeFolios.contains folio then none
  else (others.find? (fun x => x.1 == folio)).bind (fun x => crossPayload d.cs.kInForce d.cs.mInForce d.clk.member.toNat x.2)

/-- L3_RECOVERY_DONE: the recovery of a group ends (R230). Its lost members are rebuilt where at most four formes are lost and a parity forme
survives (R186). A group that cannot be recovered is read twice more at step 7 before it is declared unrecovered. On a data member of a widened set the
parity units rebuild what is lost from the other members' formes of the same stripes: `ok` tells whether these could be had, and `others` gives by
folio the members and their payloads (R349). -/
def execL3RecoveryDone (groupBase : Nat) (ok : Bool) (others : List (Nat × List (Nat × List Byte))) (s : State) : Out :=
  s.whenDev (fun d => d.working && d.sh.readTurn) (fun d =>
    let fs := groupOf d.vol.decoded groupBase
    let k := d.groupSpan groupBase fs
    let lost := lostFolios groupBase k fs
    if lost.isEmpty then d else
    let a := (d.stamp 0xF).2
    let again := fun (d : Dev) (n : Nat) => d.onVol (fun v => { v with rereads := v.rereads.set groupBase n })
    match l3Rebuild fs with
    | some ms => ((again a 0).each ms (fun d f => d.holdDecoded f)).retarget
    | none =>
      let built := lost.filterMap (fun n => (a.crossRebuilt others n).map (fun x => (n, x)))
      if a.dataMember && ok && built.length == lost.length then
        ((again a 0).each built (fun d x => d.holdDecoded (d.fromSet groupBase fs x.1 x.2))).retarget.count 0xC0 0 7 lost.length
      else if d.vol.rereads.get groupBase < 2 then
        (((again a (d.vol.rereads.get groupBase + 1)).orderAll ⟨Hc.setRate, 0, toW32 (stepRate 7), 0⟩).startProfile 1 7 d.sh.sweepRev false 0 .scheduler)
      else ((again a 0).unrecovered groupBase k fs lost).retarget)

/-! ### Records of a GET (R160, R161, R232) -/

/-- Bytes of the record stream from decoded data formes; none while one of them is missing. -/
def streamSlice (fs : List Forme) (off n : Nat) : Nat → Option (List Byte)
  | 0 => if n = 0 then some [] else none
  | fuel + 1 =>
    if n = 0 then some [] else
    match fs.find? (fun f => f.kind == .data && decide (f.streamOff ≤ off) && decide (off < f.streamOff + f.payload.length)) with
    | none => none
    | some f =>
      let piece := (f.payload.drop (off - f.streamOff)).take n
      (streamSlice fs (off + piece.length) (n - piece.length) fuel).map (fun t => piece ++ t)

/-- As much of n bytes of the record stream as has been restored without a gap. -/
def streamPrefix (fs : List Forme) (off n : Nat) : Nat → List Byte
  | 0 => []
  | fuel + 1 =>
    match fs.find? (fun f => f.kind == .data && decide (f.streamOff ≤ off) && decide (off < f.streamOff + f.payload.length)) with
    | none => []
    | some f =>
      let piece := (f.payload.drop (off - f.streamOff)).take n
      if piece.length < n then piece ++ streamPrefix fs (off + piece.length) (n - piece.length) fuel else piece

/-- Bytes of the record stream that have been restored. -/
def Dev.restored (d : Dev) (off n : Nat) : Option (List Byte) := streamSlice d.vol.decoded off n (d.vol.decoded.length + 1)

/-- A record header that Table 7.1 admits. -/
def headerOk (h : List Byte) : Bool :=
  let l := beNat (sliceBytes h 8 4)
  beNat (sliceBytes h 0 4) == 0x43524543 && beNat (sliceBytes h 4 1) == 1 && beNat (sliceBytes h 5 1) == 0 && decide (1 ≤ beNat (sliceBytes h 6 2))
    && l % 8 == 0 && decide (56 ≤ l) && decide (l ≤ 16777136) && allZero (sliceBytes h 12 4) && allZero (sliceBytes h 52 12)

/-- The whole sealed record at a stream offset. -/
def Dev.recordAt (d : Dev) (off : Nat) : Option (List Byte) :=
  (d.restored off 64).bind (fun h => d.restored off (80 + beNat (sliceBytes h 8 4)))

/-- The plaintext of a record under a slot's key. -/
def Dev.plainAt (d : Dev) (off slot : Nat) : Option (List Byte) := (d.recordAt off).bind (openBytes (d.slot slot).key)

/-- What of a record's plaintext can be decrypted ahead of its tag, its header and key ID having been checked (R160). -/
def Dev.plainAhead (d : Dev) (off slot : Nat) : Option (List Byte) :=
  (d.restored off 64).bind (fun h =>
    if !headerOk h || toW64 (beNat (sliceBytes h 16 8)) != (d.slot slot).keyId then none
    else some (gcmXor (d.slot slot).key (sliceBytes h 24 12) 0
      (streamPrefix d.vol.decoded (off + 64) (beNat (sliceBytes h 8 4)) (d.vol.decoded.length + 1))))

/-- The `k`-th source of a read, where it is on tape: its entry and the object bytes wanted of it. -/
def ReadOp.extent (r : ReadOp) (k : Nat) : Option (DirEntry × Nat × Nat) :=
  (r.plan[k]?).bind (fun x => match x with
    | .extent e off len => some (e, off, len)
    | _ => none)

/-- The record-stream offset that an extent names. -/
def DirEntry.recOff : DirEntry → Nat
  | .extent _ _ _ r _ _ _ _ _ => r
  | _ => 0

/-- A read's progress changes. -/
def Dev.onRead (d : Dev) (c : Nat) (f : ReadOp → ReadOp) : Dev :=
  d.onCtx c (fun x => match x.run with
    | .flight (.read r) => { x with run := .flight (.read (f r)) }
    | _ => x)

/-- Where the `j`-th envelope of a walk lies, and the object bytes of the blocks before it. -/
def envelopeAt (plain : List Byte) (pos : Nat) : Nat → Nat × Nat
  | 0 => (pos, 0)
  | j + 1 =>
    let p := envelopeAt plain pos j
    (p.1 + 48 + (beNat (sliceBytes plain (p.1 + 26) 4) + 7) / 8 * 8, p.2 + beNat (sliceBytes plain (p.1 + 22) 4))

/-- A block as the walk from an extent's ciphertext offset finds it: where its envelope lies and the object offset it implies. -/
structure BlockAt where
  env : List Byte
  body : List Byte
  off : Nat
  len : Nat
  index : Nat
  deriving DecidableEq, Repr

/-- The `j`-th block of an extent in a record's plaintext. A PUT's blocks are numbered from the start of its object, a PATCH's from its own
start: where an extent is not the first of its version the first envelope of the walk gives the number (log entry 20). -/
def blockAt (plain : List Byte) (e : DirEntry) (j : Nat) : BlockAt :=
  match e with
  | .extent flags _ off _ ct _ _ _ _ =>
    let p := envelopeAt plain ct j
    let env := sliceBytes plain p.1 48
    let n := beNat (sliceBytes env 22 4)
    let size := match beNat (sliceBytes env 5 1) with
      | 1 => 262144
      | 2 => 1048576
      | _ => 4194304
    let first := if flags % 2 = 1 then off / size else if flags / 2 % 2 = 1 then 0 else beNat (sliceBytes plain (ct + 6) 2)
    ⟨env, sliceBytes plain (p.1 + 48) (beNat (sliceBytes env 26 4)), off + p.2, n, first + j⟩
  | _ => ⟨[], [], 0, 0, 0⟩

/-- The object an entry is of. -/
def DirEntry.obj : DirEntry → W64
  | .extent _ o _ _ _ _ _ _ _ => o
  | .delete o _ _ => o
  | .marker o _ _ _ _ => o
  | _ => 0

/-- Blocks of a GET are numbered 65,536 × source + place in the walk. -/
def blockNo (i j : Nat) : Nat := 65536 * i + j

/-- The blocks of a walk, from block `j` on, that begin before an object offset; one that claims no length ends it. -/
def walkBlocks (plain : List Byte) (e : DirEntry) (stop : Nat) : Nat → Nat → List Nat
  | 0, _ => []
  | n + 1, j =>
    let b := blockAt plain e j
    if stop ≤ b.off then [] else if b.len = 0 then [j] else j :: walkBlocks plain e stop n (j + 1)

/-- The blocks of a walk that a source needs: those that meet the bytes wanted (R232), and one that claims no length, which R134 refuses. -/
def neededBlocks (p : List Byte) (e : DirEntry) (off len k : Nat) : List Nat :=
  ((walkBlocks p e (min (off + len) e.span.2) 65536 0).filter (fun j =>
    decide (off < (blockAt p e j).off + (blockAt p e j).len) || decide ((blockAt p e j).len = 0))).map (blockNo k)

/-- The blocks that the `k`-th source of a read needs. -/
def Dev.blocksWanted (d : Dev) (r : ReadOp) (k : Nat) : List Nat :=
  match r.extent k with
  | none => []
  | some (e, off, len) => ((d.plainAt e.recOff r.slot).map (fun p => neededBlocks p e off len k)).getD []

/-- RESTORE_RECORD_CHECK: the record of the `k`-th source of a GET is decrypted: its header, its key ID and its tag are checked, in that
order (R160, R161, R232). `tagOk` false is a tag that fails although the stored bytes are whole. -/
def execRestoreRecordCheck (c k : Nat) (tagOk : Bool) (s : State) : Out :=
  s.flow (fun d =>
    match d.flightOf c with
    | some (.read r) =>
      (match r.extent k with
       | none => d
       | some (e, _, _) =>
         if r.opcode ≠ 0x42 ∨ r.recsOk.contains k then d else
         match d.restored e.recOff 64 with
         | none => d
         | some h =>
           let kid := toW64 (beNat (sliceBytes h 16 8))
           let a := (d.stamp 0xB).2
           if !headerOk h then (a.bumpW1 Reg.CX_AUTHFAIL 0 15 0).failRead c St.authFailed (toW64 r.slot) kid
           else if kid ≠ (d.slot r.slot).keyId then
             (a.bumpW1 Reg.CX_AUTHFAIL 0 31 16).failRead c St.keyMismatch (toW64 r.slot) kid
           else match d.recordAt e.recOff with
             | none => d
             | some body =>
               if tagOk && (openBytes (d.slot r.slot).key body).isSome then
                 let ks := (d.blocksWanted r k).filter (fun j => !r.ahead.contains j)
                 a.onRead c (fun r => { r with recsOk := r.recsOk ++ [k], todo := r.todo ++ ks })
               else (a.bumpW1 Reg.CX_AUTHFAIL 0 15 0).failRead c St.authFailed (toW64 r.slot) kid)
    | _ => d)

/-! ### Blocks of a GET (R134, R135, R232) -/

/-- Whether a block's body is raw. -/
def BlockAt.raw (b : BlockAt) : Bool := beNat (sliceBytes b.env 4 1) % 2 == 1

/-- Whether R134 accepts a block. -/
def BlockAt.ok (b : BlockAt) (obj : W64) : Bool :=
  let fl := beNat (sliceBytes b.env 4 1)
  let code := beNat (sliceBytes b.env 5 1)
  let n := b.len
  let m := beNat (sliceBytes b.env 26 4)
  beNat (sliceBytes b.env 0 4) == 0x47424C4B && decide (fl < 8) && fl / 2 != 3 && (fl % 2 == 1 || fl / 2 == 0)
    && decide (1 ≤ code) && decide (code ≤ 3) && decide (1 ≤ n) && decide (n ≤ blockBytes code)
    && (if fl % 2 = 1 then m == n else decide (m < n)) && beNat (sliceBytes b.env 6 2) == b.index % 65536
    && beNat (sliceBytes b.env 8 8) == obj.toNat && beNat (sliceBytes b.env 16 6) == b.off
    && (b.raw || frameOk b.body n)

/-- Content of a block. -/
def BlockAt.content (b : BlockAt) : List Byte := if b.raw then b.body else zstdDecode b.body

/-- A block that a GET may have ahead of its record's tag (R160): wholly restored, wanted, accepted by R134, and not delivered yet. What fails
there is judged only once the tag has passed (R161). -/
def Dev.blockAhead (d : Dev) (r : ReadOp) (k : Nat) : Option (Nat × Nat × BlockAt) :=
  if r.recsOk.contains (k / 65536) ∨ r.ahead.contains k then none else
  (r.extent (k / 65536)).bind (fun x => (d.plainAhead x.1.recOff r.slot).bind (fun p =>
    let b := blockAt p x.1 (k % 65536)
    let z := envelopeAt p (match x.1 with
      | .extent _ _ _ _ ct _ _ _ _ => ct
      | _ => 0) (k % 65536 + 1)
    if (neededBlocks p x.1 x.2.1 x.2.2 (k / 65536)).contains k ∧ z.1 ≤ p.length ∧ b.ok x.1.obj then some (x.2.1, x.2.2, b) else none))

/-- The place and bytes of block `k` of a GET, once the record's tag has passed. -/
def Dev.readBlock (d : Dev) (r : ReadOp) (k : Nat) : Option (DirEntry × Nat × Nat × BlockAt) :=
  if !r.recsOk.contains (k / 65536) then none else
  match r.extent (k / 65536) with
  | none => none
  | some (e, off, len) => (d.plainAt e.recOff r.slot).map (fun p => (e, off, len, blockAt p e (k % 65536)))

/-- Bytes of a block that meet [off, off + len) go to the destination. -/
def Dev.deliver (d : Dev) (c : Nat) (r : ReadOp) (off len : Nat) (b : BlockAt) : Dev :=
  let a := max off b.off
  let z := min (off + len) (b.off + b.len)
  if z ≤ a then d else d.writeData c (r.dest + (a - r.off)) (sliceBytes b.content (a - b.off) (z - a))

/-- A block is delivered (R232); a raw body marks the command at once (R139). -/
def Dev.blockDone (d : Dev) (c k : Nat) (r : ReadOp) (off len : Nat) (b : BlockAt) : Dev :=
  (((d.deliver c r off len b).count 0x30 0 6 1).onCtx c (fun x => { x with info := x.info || b.raw })).onRead c (fun r =>
    { r with rawSeen := r.rawSeen || b.raw, todo := r.todo.filter (fun x => decide (x ≠ k)), retry := r.retry.filter (fun x => decide (x.1 ≠ k)) })

/-- Lanes of idle decompressors that restore work may take: the lowest whose island's sharing lets restore start now (R18, R134). -/
def Dev.restoreLane (d : Dev) : Option Nat := (List.range 32).find? (fun l => d.laneIdle l && d.mayStart (l / 8) false)

/-- The lane that retries a block. -/
def Dev.retryLane (d : Dev) (l : Nat) : Option Nat :=
  let i := d.retryIsland l
  if !d.mayStart i false then none else ((List.range 8).map (fun j => 8 * i + j)).find? (fun x => x != l && d.laneIdle x)

/-- Whether the walk of a GET's list has found where a block's bytes go. -/
def Dev.placeWalked (d : Dev) (c : Nat) (r : ReadOp) (off len : Nat) (b : BlockAt) : Bool :=
  d.walked c (r.dest + (min (off + len) (b.off + b.len) - r.off))

/-- The output buffer of a restore block, of requester 49 (Table 5.5). -/
def Dev.laneBuf (d : Dev) (c k : Nat) (b : BlockAt) : Option Nat × Dev := d.grab .decompressor [c, k] (max b.len 1) [.unit .decompressor]

/-- A block decoded ahead of its record's tag goes to the destination (R160). -/
def Dev.decodeAhead (d : Dev) (c k lane : Nat) (r : ReadOp) (off len : Nat) (b : BlockAt) : Dev :=
  if !d.placeWalked c r off len b then d else
  match d.laneBuf c k b with
  | (none, d1) => d1
  | (some key, d1) =>
    let a := (d1.stamp 0xA).2.countStart (lane / 8) false
    ((((a.blockDone c k r off len b).onRead c (fun r => { r with ahead := r.ahead ++ [k] })).giveBack key)).feedVerify

/-- RESTORE_BLOCK_DECODE: a decompressor lane checks and decodes a block (R134), ahead of its record's tag where it can (R160); one that fails
once the tag has passed is retried once (R135). `ok` false is a fault of the lane. Its output buffer is held until the block is delivered. -/
def execRestoreBlockDecode (c k lane : Nat) (ok : Bool) (s : State) : Out :=
  s.flow (fun d =>
    match d.flightOf c with
    | some (.read r) =>
      if d.restoreLane != some lane || !d.mayRequest c || r.opcode != 0x42 then d else
      if !r.todo.contains k then (match d.blockAhead r k with
        | some (off, len, b) => if ok then d.decodeAhead c k lane r off len b else d
        | none => d) else
      (match d.readBlock r k with
       | none => d
       | some (e, off, len, b) =>
         if !d.placeWalked c r off len b then d else
         match d.laneBuf c k b with
         | (none, d1) => d1
         | (some key, d1) =>
           let a := (d1.stamp 0xA).2.countStart (lane / 8) false
           ((if ok && b.ok e.obj then a.blockDone c k r off len b
             else (a.captureVfail true 0 lane 0x7FFFFF).onRead c (fun r =>
               { r with retry := r.retry ++ [(k, lane)], todo := r.todo.filter (fun x => decide (x ≠ k)) })).giveBack key).feedVerify)
    | _ => d)

/-- RESTORE_BLOCK_RETRY: the retry of a block on another island (R135). A pass delivers it, with a C1 event that names the first lane and
its mismatch counted; a second failure ends the GET with S_FRAME_INVALID. -/
def execRestoreBlockRetry (c k lane : Nat) (ok : Bool) (s : State) : Out :=
  s.flow (fun d =>
    match d.flightOf c with
    | some (.read r) =>
      (match r.retry.find? (fun x => x.1 == k), d.readBlock r k with
       | some (_, first), some (e, off, len, b) =>
         if d.retryLane first != some lane || !d.mayRequest c || !d.placeWalked c r off len b then d else
         match d.laneBuf c k b with
         | (none, d1) => d1
         | (some key, d1) =>
           let a := ((d1.stamp 0xA).2.countStart (lane / 8) false).count 0x30 0 7 1
           ((if ok && b.ok e.obj then
             ((a.blockDone c k r off len b).note { cls := .c1, unit := ⟨0xA, first⟩, cat := 4, d0 := laneD0 0 first, d1 := 0x7FFFFF }).mismatch
               (32 + first) 0 first 0x7FFFFF
           else a.failRead c St.frameInvalid (laneD0 0 lane) 0x7FFFFF).giveBack key).feedVerify
       | _, _ => d)
    | _ => d)

/-- Whether every byte that the `k`-th source of a read needs has been delivered. -/
def ReadOp.sourceDone (r : ReadOp) (k : Nat) : Bool :=
  (r.extent k).isNone || (r.recsOk.contains k && r.todo.all (fun b => b / 65536 != k) && r.retry.all (fun b => b.1 / 65536 != k))

/-! ### Cartridges (R212, R214) -/

/-- What a cartridge holds that comes from outside, by draw (log entry 23). -/
opaque Config.cartridge : Nat → Cart

/-- CARTRIDGE_PRESENT: CART_PRESENT and DOOR_CLOSED are both active (R212). What a cartridge holds that comes from outside is a free value; one
that stayed in the drive through a reset is as it was. -/
def execCartridgePresent (s : State) : Out :=
  s.whenDev (fun d => d.working && d.vol.st == .empty && (d.tc.din.get 0).active && (d.tc.din.get 1).active) (fun d =>
    { (d.volStamp.2).onVol (fun v => { v with st := .present, cart := some (v.cart.getD (Config.cartridge d.draws)) }) with draws := d.draws + 2 })

/-- Every version and intent of a volume leaves the index with its buffers, blocks and pins. -/
def Dev.forgetWrites (d : Dev) (vh : W32) : Dev :=
  d.each (d.idx.writes.filter (fun w => w.vh == vh)) (fun d w => d.cancelWrite w)

/-- A volume's formes, records and schedule end with it. -/
def Dev.closeVolume (d : Dev) : Dev :=
  (match d.vol.loaded with
   | some v => d.forgetWrites v.handle
   | none => d).unmount

/-- A command without a commit point ends with a status at a decision of its queue manager: its record, its context's work and a read's
destination (R214, R351). -/
def Dev.endWith (d : Dev) (m : Cmd) (s : W16) : Dev :=
  let sd := d.stamp (qmUnit m.port) m.arrival.after
  let e := match m.ctx with
    | some c => sd.2.failRecord c s false 0 0
    | none => sd.2.note { cls := .c2, unit := ⟨qmUnit m.port, 0xFFFF⟩, cat := failCategory s, status := s, dqn := dqn m.port m.qid
                          cid := m.sqe.cid, domain := some 44 }
  e.cutCommand m s sd.1

/-- Outstanding commands of a volume: by their entry's handle, or by the handle in their context. -/
def Dev.cmdsOfVolume (d : Dev) (vh : W32) : List Cmd :=
  d.cmds.filter (fun m => m.done.isNone && m.fwdTo.isNone && (match m.ctx with
    | some c => (d.ctxs.get c).vh == vh
    | none => m.sqe.vh == vh))

/-- CARTRIDGE_LOSS: CART_PRESENT is inactive (R214): a C3 error, the volume's commands end, the loss is recorded, its versions go, the
state is EMPTY and the order epoch advances (R213). -/
def execCartridgeLoss (s : State) : Out :=
  s.whenDev (fun d => d.working && d.vol.st != .empty && !(d.tc.din.get 0).active) (fun d =>
    let a := d.each d.opening (fun d c => d.openFailed c St.noCartridge)
    let b := match a.vol.loaded with
      | none => a
      | some v =>
        let e : Dev := a.raise { cls := .c3, unit := ⟨0x10, 0xFFFF⟩, cat := 8 }
        let f : Dev := e.each (e.cmdsOfVolume v.handle) (fun d m => d.endWith m St.noCartridge)
        let ws := f.undurable.filter (fun (w : Write) => w.vh == v.handle)
        let sd := (f.loss 4 0 a.er.seq ws).volStamp
        sd.2.closeVolume.epochAdvance sd.1.after
    (b.volStamp.2).onVol (fun v => { v with st := .empty, cart := none, formatting := false }))

end Sys2Proof.Machine
end

