-- ==== Sys2Proof/Machine/Links.lean ====
section
/-! DEFINITION. The head links (11_head_links): training, loss, repair and return, symbol blocks, PES and STATUS. -/

namespace Sys2Proof.Machine

/-! ### Records and settings -/

/-- The code of a link state (Table 11.6). -/
def LinkSt.code : LinkSt → Nat
  | .disabled => 0
  | .detect => 1
  | .adapt => 2
  | .align => 3
  | .config => 4
  | .active => 5
  | .repair => 6
  | .failed => 7

/-- What a lane carries (Table 11.6): the framed states carry 257-bit blocks, 20 to an FEC codeword, an ALIGN block at the head of every 1,024th
(R236). -/
inductive LaneSignal where
  | electricalIdle | prbs31 | idleAndAlign | linkBlocks | allTraffic
  deriving DecidableEq, Repr

/-- What the device sends in each state. -/
def LinkSt.sends : LinkSt → LaneSignal
  | .disabled => .electricalIdle
  | .detect => .prbs31
  | .adapt => .prbs31
  | .align => .idleAndAlign
  | .config => .linkBlocks
  | .active => .allTraffic
  | .repair => .prbs31
  | .failed => .electricalIdle

/-- What a link's transmitter sends: electrical idle in reset and where the device has failed or lost its reference (R13, R235). -/
def Dev.laneSends (d : Dev) (t : Nat) : LaneSignal := if d.working ∧ d.clk.running then (d.links.get t).st.sends else .electricalIdle

/-- IDLE and ALIGN (Table 11.3). -/
def idleBlock : BitVec 256 := 0
def alignBlock : BitVec 256 := BitVec.ofNat 256 (0xA5 + ((List.range 31).foldl (fun a _ => a * 256 + 0x5A) 0) * 256)

/-- Detail words of a head link's record (Table 13.3, category 0x09). -/
def Dev.linkD0 (d : Dev) (t : Nat) : W64 := toW64 (t * 256 + (d.links.get t).st.code)
def Dev.linkD1 (d : Dev) (t : Nat) : W64 := toW64 ((d.links.get t).tag * 256 + (d.links.get t).faults.toNat)

/-- A report about a link, of category 0x09. -/
def Dev.linkReport (d : Dev) (t : Nat) (cls : EClass) : Report :=
  { cls := cls, unit := ⟨0x11, t⟩, cat := 9, d0 := d.linkD0 t, d1 := d.linkD1 t }

/-- A link changes its state, stamped by the head link controller (R246). -/
def Dev.linkTo (d : Dev) (t : Nat) (f : Link → Link) : Dev := (d.stamp 0x11).2.onLink t f

/-- HL_CHSET of a link as the commands that carry it (Table 11.4). -/
def Dev.chset (d : Dev) (t : Nat) : W32 := d.regB Reg.HL_CHSET t
def currentCmd (v : W32) : LinkCmd := ⟨Hc.writeCurrent, 0xFF, toW32 (fieldOf v 31 24), 0⟩
def eqCmd (v : W32) : LinkCmd := ⟨Hc.readEq, 0xFF, toW32 (fieldOf v 19 16), toW32 (fieldOf v 15 8)⟩
def servoCmd (v : W32) : LinkCmd := ⟨Hc.servo, 0, toW32 (fieldOf v 1 0), 0⟩

/-- What is sent again on a return with the epoch unchanged (R250). -/
def Dev.settings (d : Dev) (t : Nat) : List LinkCmd :=
  let v := d.chset t
  [currentCmd v, eqCmd v, ⟨Hc.setRate, 0, toW32 (stepRate (if d.sh.readTurn || d.loading then 15 else d.sh.step)), 0⟩, servoCmd v]
    ++ (if d.sh.readTurn || d.loading then [⟨Hc.readOn, 0xFF, 0, 0⟩] else [])

/-- The commands of a link that returns (R250): the settings and those in flight again, no channel armed; or RESET and the settings of HL_CHSET,
the rest discarded. -/
def Dev.returnQueue (d : Dev) (t : Nat) (l : Link) (kept : Bool) : List LinkCmd :=
  let v := d.chset t
  if kept then d.settings t ++ (l.sent.toList ++ l.queue).filter (fun c => c.op != Hc.arm)
  else [⟨Hc.reset, 0, 0, 0⟩, currentCmd v, eqCmd v, servoCmd v]

/-! ### Too few links for a read turn (R247) -/

/-- Fewer than 15 links are ACTIVE during a read turn: it stops, and each GET that needs tape ends with its destination zeroed. A LOAD that reads
its tape ends so too. -/
def Dev.linkShort (d : Dev) : Dev :=
  if d.loading ∧ d.activeLinks < 15 then d.each d.opening (fun d c => d.openFailed c St.transportFault)
  else if d.sh.readTurn ∧ d.activeLinks < 15 then
    let cs := (d.sh.turnReads ++ d.sh.waitTape).map (fun x => x.1)
    ((d.failReads cs).onSh (fun x => { x with turnReads := [], waitTape := [] })).endTurn
  else d

/-- A link has left ACTIVE: a run is interrupted and a read turn may stop (R202, R247). -/
def Dev.linkGone (d : Dev) : Dev := (d.interruptRun .idle).linkShort

/-! ### Enabling and training (R246, R247) -/

/-- A write of HL_CTL.enable: bits that are 0 put their links in DISABLED, the others take a disabled link to DETECT. -/
def Dev.applyEnables (d : Dev) (en : Nat) : Dev :=
  d.each allLinks (fun d t =>
    let l := d.links.get t
    if en.testBit t then (if l.st = .disabled then d.linkTo t (fun l => { l with st := .detect }) else d)
    else if l.st = .disabled then d
    else
      let d1 := d.linkTo t (fun l => { l.off .disabled with fromRepair := false })
      if l.st = .active then d1.linkGone else d1)

/-- A retry bit: a FAILED link goes to DETECT. -/
def Dev.retryLink (d : Dev) (t : Nat) : Dev :=
  if (d.links.get t).st = .failed then d.linkTo t (fun l => { l with st := .detect, fromRepair := false, attempts := 0 }) else d

/-- A command that acts on a link in one state. -/
def State.whenLink (s : State) (t : Nat) (st : LinkSt) (f : Dev → Dev) : Out :=
  s.whenDev (fun d => d.working && decide (t < 16) && (d.links.get t).st == st) f

/-- LINK_SIGNAL_DETECT: continuous signal for 100 µs takes DETECT or REPAIR to ADAPT. -/
def execLinkSignalDetect (t : Nat) (s : State) : Out :=
  s.whenDev (fun d => d.working && decide (t < 16) && ((d.links.get t).st == .detect || (d.links.get t).st == .repair))
    (fun d => d.linkTo t (fun l => { l with st := .adapt }))

/-- LINK_ADAPT_DONE: the receiver has adapted. -/
def execLinkAdaptDone (t : Nat) (s : State) : Out := s.whenLink t .adapt (fun d => d.linkTo t (fun l => { l with st := .align }))

/-- LINK_ALIGN_LOCK: framing is locked, and the device sends its LINK block. A link that was lost compares the epoch it recorded with the present one (R250). -/
def execLinkAlignLock (t : Nat) (s : State) : Out :=
  s.whenLink t .align (fun d => d.linkTo t (fun l =>
    ({ l with st := .config, kept := l.epochAt.map (fun e => e == d.er.epoch) } : Link).send (linkBlock t)))

/-- A discarded control block is counted (R240). -/
def Dev.discardBlock (d : Dev) (t : Nat) : Dev := d.count 0x70 t 5 1

/-- A link enters FAILED. -/
def Dev.linkFailed (d : Dev) (t : Nat) : Dev := d.linkTo t (fun l => { l.off .failed with fromRepair := false })

/-- Commands of a link are discarded on a return under another epoch: instructions that were waiting on READ_ON, the reads of the turn or a LOAD,
end with S_STALE_EPOCH (R250, log entry 139). -/
def Dev.staleWaits (d : Dev) (l : Link) : Dev :=
  if (l.sent.toList ++ l.queue).all (fun c => c.op != Hc.readOn) then d
  else if d.loading then d.each d.opening (fun d c => d.openFailed c St.staleEpoch)
  else (d.each (d.sh.turnReads.map (fun x => x.1)) (fun d c => d.failRead c St.staleEpoch)).retarget

/-- A link reaches ACTIVE: on a return its commands are sent again or its partner is reset (R250). -/
def Dev.linkUp (d : Dev) (t : Nat) (partner : W32) : Dev :=
  let l := d.links.get t
  let d1 := d.linkTo t (fun l =>
    ({ l with st := .active, partner := BitVec.ofNat 16 partner.toNat, fromRepair := false, epochAt := none, kept := none, silent := 0, sent := none
              stale := l.stale || l.kept == some false, underrun := 0, armed := 0, withheld := 0, rxSeq := Table.empty
              queue := match l.kept with
                | none => []
                | some k => d.returnQueue t l k } : Link).pump)
  match l.kept with
  | none => d1
  | some true => d1.count 0x70 t 7 1
  | some false => ((d1.count 0x70 t 7 1).count 0x70 t 8 1).staleWaits l

/-- LINK: a LINK block of the partner is checked (R246, R243). Its version, channel count and echo wrong are a C3 error, a FIFO that is
too small refuses the link. -/
def execLink (t : Nat) (blk : BitVec 256) (s : State) : Out :=
  s.whenLink t .config (fun d =>
    if !ctlOk blk 0x78 then d.discardBlock t
    else if fieldOf blk 15 8 ≠ 1 ∨ fieldOf blk 71 64 ≠ 8 ∨ fieldOf blk 31 24 ≠ t then
      let d1 := d.linkFailed t
      d1.raise (d1.linkReport t .c3)
    else if fieldOf blk 79 72 * 512 < 4096 then d.linkFailed t
    else d.linkUp t (toW32 (fieldOf blk 63 32)))

/-- LINK_TRAIN_TIMEOUT: an attempt exceeds train_ms (R246). From REPAIR it counts, and the link fails at repair_max. -/
def execLinkTrainTimeout (t : Nat) (s : State) : Out :=
  s.whenDev (fun d => d.working && decide (t < 16) && ((d.links.get t).st == .adapt || (d.links.get t).st == .align)) (fun d =>
    let l := d.links.get t
    let limit := max 1 (d.rf Reg.HL_CFG 3 0)
    let n := l.attempts + 1
    if !l.fromRepair then d.linkTo t (fun l => { l with st := .detect })
    else if limit ≤ n then (d.linkFailed t).onLink t (fun l => { l with attempts := n })
    else d.linkTo t (fun l => { l with st := .detect, attempts := n }))

/-- LINK_READY_DEADLINE: 100 ms after reset release an enabled link is not ACTIVE: a C2 error names it (R247). -/
def execLinkReadyDeadline (t : Nat) (s : State) : Out :=
  s.whenDev (fun d => d.working && decide (t < 16) && (d.links.get t).st != .disabled && (d.links.get t).st != .active) (fun d =>
    let d1 := d.advanceTo (100 * msTicks)
    d1.note (d1.linkReport t .c2))

/-! ### Loss (R241, R248) -/

/-- A link is lost: REPAIR with the epoch recorded, a C3 error, the run interrupted. -/
def Dev.linkLost (d : Dev) (t : Nat) : Dev :=
  let d1 := (d.linkTo t (fun l => { l with st := .repair, fromRepair := true, attempts := 0, epochAt := some d.er.epoch, kept := none
                                           silent := 0, armed := 0, reading := 0 })).count 0x70 t 6 1
  (d1.raise (d1.linkReport t .c3)).linkGone

/-- LINK_LOSS: no signal for 1 µs, or 4 consecutive uncorrectable codewords. -/
def execLinkLoss (t : Nat) (s : State) : Out := s.whenLink t .active (fun d => d.linkLost t)

/-- STATUS_TIMEOUT: no STATUS for 3 tick periods, or none for the command sent (R241, R248). -/
def execStatusTimeout (t : Nat) (s : State) : Out :=
  s.whenDev (fun d => d.working && decide (t < 16) && (d.links.get t).st == .active && 
      (decide (3 ≤ (d.links.get t).silent) || ((d.links.get t).sent.isSome && decide (3 ≤ (d.links.get t).waited))))
    (fun d => d.linkLost t)

/-! ### Blocks received (R237 to R245) -/

/-- Erased symbols in place of lost blocks: flagged, their values open (R239). -/
def erasedSymbols (draw : Nat) : Nat → List (BitVec 11)
  | 0 => []
  | n + 1 => BitVec.ofNat 11 (1024 + Config.freeNat draw % 1024) :: erasedSymbols (draw + 1) n

/-- Item `i` of a receive symbol block (R238). -/
def rxItem (block : BitVec 256) (i : Nat) : BitVec 11 := BitVec.ofNat 11 (fieldOf block (11 * i + 10) (11 * i))

/-- SYMBOL_BLOCK_RX: 22 flagged symbols of a channel, after those of the blocks that the sequence shows lost (R238, R239). -/
def execSymbolBlockRx (t : Nat) (block : BitVec 256) (s : State) : Out :=
  s.whenLink t .active (fun d =>
    let j := fieldOf block 255 253
    let q := fieldOf block 252 250
    let gap := match (d.links.get t).rxSeq.get j with
      | some p => (q + 15 - p) % 8
      | none => 0
    let items := (List.range 22).map (rxItem block)
    let lost := erasedSymbols d.draws (22 * gap)
    ({ d with draws := d.draws + 22 * gap }.count 0x70 t 4 gap).onLink t (fun l =>
      { l with rxSeq := l.rxSeq.set j (some q), rx := l.rx.modify j (fun x => x ++ lost ++ items) }))

/-- A PES sample in nm where it is valid (R242, R269). -/
def pesValue (v : BitVec 16) (quality minQ : Nat) (valid : Bool) : Option Int := if valid ∧ minQ ≤ quality then some v.toInt else none

/-- PES: the servo samples taken at the present TICK (R242). One that answers an earlier TICK is late and was missing. -/
def execPes (t : Nat) (blk : BitVec 256) (s : State) : Out :=
  s.whenLink t .active (fun d =>
    if !ctlOk blk 0x55 then d.discardBlock t
    else if fieldOf blk 15 8 ≠ (d.links.get t).tickSeq then d
    else
      let q := d.rf Reg.TC_PESCFG 15 8
      let v0 := pesValue (blk.extractLsb' 16 16) (fieldOf blk 39 32) q (blk.getLsbD 40)
      let v1 := pesValue (blk.extractLsb' 48 16) (fieldOf blk 71 64) q (blk.getLsbD 72)
      d.onTc (fun x => { x with pes := (x.pes.set (2 * t) v0).set (2 * t + 1) v1 }))

/-- The channels withheld (R243): those reported at 4,095 symbols, until below 3,072. -/
def withholding (old : Byte) (fill : List Nat) : Byte :=
  maskOf ((List.range 8).filter (fun j =>
    let f := fill.getD j 0
    decide (4095 ≤ f) || (old.getLsbD j && decide (3072 ≤ f))))

/-- The FIFO fills that a STATUS reports. -/
def statusFill (b : BitVec 256) : List Nat := allChannels.map (fun j => fieldOf b (64 + 12 * j + 11) (64 + 12 * j))

/-- The underrun mask and the faults that a STATUS reports (Table 11.5). -/
def statusUnderrun (b : BitVec 256) : Byte := b.extractLsb' 48 8
def statusFaults (b : BitVec 256) : Byte := b.extractLsb' 56 8

/-- What a STATUS says of its link is taken over, and the next command may be sent once it answers the one before (R241). -/
def Link.heard (l : Link) (b : BitVec 256) : Link :=
  ({ l with silent := 0, armed := b.extractLsb' 32 8, reading := b.extractLsb' 40 8, underrun := statusUnderrun b, faults := statusFaults b
            fill := statusFill b, withheld := withholding l.withheld (statusFill b)
            sent := if l.tag = fieldOf b 23 16 then none else l.sent } : Link).pump

/-- An underrun reported during a run: a C1 event for each channel, counted (R245). -/
def Dev.underruns (d : Dev) (t : Nat) (js : List Nat) : Dev :=
  d.each js (fun d j => (d.count 0x70 t 9 1).note { (d.linkReport t .c1) with d1 := toW64 ((d.linkD1 t).toNat + j * 65536) })

/-- Blocks of channels that are no longer withheld leave (R243). -/
def Link.unblock (l : Link) (old : Byte) : Link := if old &&& ~~~l.withheld = 0 then l else ({ l with tx := [] } : Link).flushTx

/-- STATUS: command results, masks, FIFO fill and faults (R241, R243, R245, R248, R249). -/
def execStatus (t : Nat) (blk : BitVec 256) (s : State) : Out :=
  s.whenLink t .active (fun d =>
    if !ctlOk blk 0x4B then d.discardBlock t else
    let old := (d.links.get t).underrun
    let js := (List.range 8).filter (fun j => (statusUnderrun blk).getLsbD j && !old.getLsbD j)
    let d1 := d.onLink t (fun l => (l.heard blk).unblock l.withheld)
    let d2 := if d1.sh.running ∧ js ≠ [] then (d1.underruns t js).interruptRun .idle else d1
    let d3 := if (statusFaults blk).getLsbD 3 then (d2.note (d2.linkReport t .c1)).interruptRun .idle else d2
    if (statusFaults blk).getLsbD 2 then d3.linkLost t else d3)

/-- A change of HL_CHSET goes to the partner at once where the link is ACTIVE (11_head_links, HL registers). -/
def Dev.sendChset (d : Dev) (t : Nat) (old new : W32) : Dev :=
  let cs := (if fieldOf old 31 24 = fieldOf new 31 24 then [] else [currentCmd new])
    ++ (if fieldOf old 19 16 = fieldOf new 19 16 ∧ fieldOf old 15 8 = fieldOf new 15 8 then [] else [eqCmd new])
    ++ (if fieldOf old 1 0 = fieldOf new 1 0 then [] else [servoCmd new])
  d.onLink t (fun l => cs.foldl Link.order l)

end Sys2Proof.Machine
end

