-- ==== Sys2Proof/Machine/Servo.lean ====
section
/-! DEFINITION. The eight loop slots of the transport control engine: W32 arithmetic, gain table, notches, saturation, region swaps and
transfers (R253 to R265). -/

namespace Sys2Proof.Machine

/-! ### W32 arithmetic (R253) -/

/-- A W32 number and whether a clamp came about on the way to it. -/
structure Fx where
  v : Int
  c : Bool
  deriving DecidableEq, Repr

/-- An exact number, clamped. -/
def Fx.of (x : Int) (c : Bool := false) : Fx := ⟨w32Clamp x, c || decide (w32Clamp x ≠ x)⟩
/-- A number that lies in the range. -/
def Fx.lit (x : Int) : Fx := ⟨x, false⟩
def Fx.add (a b : Fx) : Fx := Fx.of (a.v + b.v) (a.c || b.c)
def Fx.sub (a b : Fx) : Fx := Fx.of (a.v - b.v) (a.c || b.c)
/-- The product, rounded at bit 23. -/
def Fx.mul (a b : Fx) : Fx := Fx.of ((a.v * b.v + 2 ^ 23) / 2 ^ 24) (a.c || b.c)

/-- S16 to W32. -/
def s16ToW32 (x : BitVec 16) : Int := x.toInt * 2 ^ 9
/-- W32 to S16. -/
def w32ToS16 (x : Int) : BitVec 16 :=
  let n := (x + 2 ^ 8) / 2 ^ 9
  BitVec.ofInt 16 (if n < -32768 then -32768 else if 32767 < n then 32767 else n)

/-- A quotient whose rounding spec/ does not give (log entry 29). -/
def roundDiv (n : Int) (m draw : Nat) : Int := n / (m : Int) + (if n % (m : Int) = 0 then 0 else (b2n (Config.roundUp draw) : Int))

/-! ### Coefficients in force (R264) -/

/-- Base of a slot's registers. -/
def slotReg (a s : Nat) : Nat := a + 0x400 * s

/-- Offsets of the shadowed registers of a slot. -/
def shadowRegs : List Nat :=
  [0x0C, 0x10, 0x24] ++ (List.range 32).map (fun i => 0x80 + 4 * i) ++ (List.range 5).map (fun i => 0x100 + 4 * i)
    ++ (List.range 5).map (fun i => 0x120 + 4 * i) ++ (List.range 64).map (fun i => 0x200 + 4 * i)

/-- The value of a shadowed register in force. -/
def Dev.inForce (d : Dev) (a : Nat) : W32 := (d.tc.force.get a).getD (resetReg a)

/-- The shadow of a slot comes into force. -/
def Dev.takeShadow (d : Dev) (s : Nat) : Dev :=
  d.each shadowRegs (fun d o =>
    let a := Reg.TC_SCFG + 0x400 * s + o
    d.onTc (fun t => { t with force := t.force.set a (if d.reg a = resetReg a then none else some (d.reg a)) }))

/-- A slot's coefficients, limits, gain table and notches as they are in force in a region. -/
structure SlotCfg where
  kp : Fx
  ki : Fx
  kd : Fx
  kf : Fx
  umax : Int
  umin : Int
  lutscale : Nat
  lut : List Int
  n1 : List Fx
  n2 : List Fx
  deriving DecidableEq, Repr

/-- A W32 register in force. -/
def Dev.w32At (d : Dev) (a : Nat) : Fx := Fx.lit (d.inForce a).toInt

/-- The gain table in force: G[0] to G[63] as W32. -/
def Dev.gains (d : Dev) (s : Nat) : List Int :=
  (List.range 64).map (fun i =>
    let w := d.inForce (slotReg Reg.TC_SLUT s + 4 * (i / 2))
    ((fieldOf w (16 * (i % 2) + 15) (16 * (i % 2)) * 2 ^ 12 : Nat) : Int))

/-- What a slot runs with in a region. -/
def Dev.slotCfg (d : Dev) (s region : Nat) : SlotCfg :=
  let q := slotReg Reg.TC_SCOEF s + 16 * region
  { kp := d.w32At q, ki := d.w32At (q + 4), kd := d.w32At (q + 8), kf := d.w32At (q + 12)
    umax := (d.inForce (slotReg Reg.TC_SUMAX s)).toInt, umin := (d.inForce (slotReg Reg.TC_SUMIN s)).toInt
    lutscale := (d.inForce (slotReg Reg.TC_SLUTSCALE s)).toNat, lut := d.gains s
    n1 := (List.range 5).map (fun i => d.w32At (slotReg Reg.TC_SNOTCH1B0 s + 4 * i))
    n2 := (List.range 5).map (fun i => d.w32At (slotReg Reg.TC_SNOTCH2B0 s + 4 * i)) }

/-! ### The equations (R256 to R259) -/

/-- The gain of an error (R259). -/
def SlotCfg.gain (k : SlotCfg) (e : Int) : Fx :=
  let x := e.natAbs * k.lutscale
  if 63 * 2 ^ 36 ≤ x then Fx.lit (k.lut.getD 63 0)
  else
    let n := x / 2 ^ 36
    let g := k.lut.getD n 0
    (Fx.lit g).add ((Fx.lit ((x % 2 ^ 36 / 2 ^ 12 : Nat) : Int)).mul ((Fx.lit (k.lut.getD (n + 1) 0)).sub (Fx.lit g)))

/-- A notch: output and the two states (R257); coefficients b0, b1, b2, a1, a2. -/
def biquad (k : List Fx) (x : Fx) (s1 s2 : Int) : Fx × Fx × Fx :=
  let c := fun i => k.getD i (Fx.lit 0)
  let out := ((c 0).mul x).add (Fx.lit s1)
  (out, (((c 1).mul x).sub ((c 3).mul out)).add (Fx.lit s2), ((c 2).mul x).sub ((c 4).mul out))

/-- The output within the limits; a pair with umin above umax drives umax. -/
def SlotCfg.limit (k : SlotCfg) (u : Int) : Int × Int :=
  if k.umax < u then (k.umax, 1) else if u < k.umin then ((if k.umax < k.umin then k.umax else k.umin), -1)
  else (u, 0)

/-- The integrator that gives `u0` at the kept sample with present coefficients (R262). -/
def Servo.rescaled (v : Servo) (k : SlotCfg) (u0 : Int) : Fx :=
  (Fx.lit u0).sub (((k.kp.mul ((Fx.lit v.g).mul (Fx.lit v.e))).sub (k.kd.mul (Fx.lit v.dy))).add (k.kf.mul (Fx.lit v.dsp)))

/-- A slot that runs, at its sample (R256, R258): `y` none is a missing PES sample (R269), `man` the output in MANUAL. -/
def Servo.sample (v : Servo) (k : SlotCfg) (auto : Bool) (y : Option Fx) (sp : Int) (man : Int) : Servo × Bool :=
  let yy := y.getD (Fx.lit v.yPrev)
  let yPrev := if v.fresh then yy.v else v.yPrev
  let spPrev := if v.fresh then sp else v.spPrev
  let e := (Fx.lit sp).sub yy
  let g := k.gain e.v
  let p := k.kp.mul (g.mul e)
  let step := k.ki.mul e
  let go := auto && y.isSome && (v.satPrev == 0 || step.v.sign != v.satPrev)
  let i := if go then (Fx.lit v.i).add step else Fx.lit v.i
  let dy := yy.sub (Fx.lit yPrev)
  let dsp := (Fx.lit sp).sub (Fx.lit spPrev)
  let u0 := ((p.add i).sub (k.kd.mul dy)).add (k.kf.mul dsp)
  let b1 := biquad k.n1 u0 v.n1a v.n1b
  let b2 := biquad k.n2 b1.1 v.n2a v.n2b
  let lim := if auto then k.limit b2.1.v else ((k.limit man).1, v.satPrev)
  let count := if auto then (if lim.2 = 0 then 0 else min (v.satCount + 1) 0xFFFFFF) else v.satCount
  ({ v with mode := (if auto then .auto else .manual), fresh := false, i := i.v, yPrev := yy.v, spPrev := sp, e := e.v, g := g.v, dy := dy.v
            dsp := dsp.v, u0 := u0.v, n1a := b1.2.1.v, n1b := b1.2.2.v, n2a := b2.2.1.v, n2b := b2.2.2.v, satPrev := lim.2
            satCount := count, satRaised := v.satRaised && count != 0, out := lim.1, missing := y.isNone },
   i.c || (auto && step.c) || u0.c || b1.2.1.c || b1.2.2.c || b2.1.c || b2.2.1.c || b2.2.2.c)

/-- A slot in OFF (R258). -/
def Servo.idle (v : Servo) : Servo :=
  { Servo.reset with region := v.region, pendingCommit := v.pendingCommit, held := v.held }

/-! ### Sources (R254, R255) -/

/-- Field of a slot's routing. -/
def Dev.slotSrc (d : Dev) (s : Nat) : Nat := d.rf (slotReg Reg.TC_SROUTE s) 12 8
def Dev.slotSpSrc (d : Dev) (s : Nat) : Nat := d.rf (slotReg Reg.TC_SROUTE s) 20 16
def Dev.slotDst (d : Dev) (s : Nat) : Nat := d.rf (slotReg Reg.TC_SROUTE s) 28 24
/-- The mode that TC_SnCFG asks for: 3 is treated as OFF. -/
def Dev.slotMode (d : Dev) (s : Nat) : SlotMode :=
  let m := d.rf (slotReg Reg.TC_SCFG s) 1 0
  if m = 1 then .manual else if m = 2 then .auto else .off

/-- A sensor channel 0 to 7 in two's complement. -/
def Dev.sensor (d : Dev) (ch : Nat) : BitVec 16 :=
  let x := d.tc.sensors.get ch
  if d.rf (Reg.TC_SPCFG + 4 * (ch / 4)) 29 29 = 1 then x ^^^ 0x8000 else x

/-- The PES mean of a source in nm × number of values, and that number (R269). -/
def Dev.pesSum (d : Dev) (source : Nat) : Int × Nat :=
  (List.range 16).foldl (fun a t =>
    if (d.rf Reg.TC_PESCFG 31 16).testBit t then (match d.tc.pes.get (2 * t + source) with
      | some v => (a.1 + v, a.2 + 1)
      | none => a) else a) (0, 0)

/-- The PES mean in µm as W32; none in a missing sample. -/
def Dev.pesMean (d : Dev) (source draw : Nat) : Option Int :=
  let x := d.pesSum source
  if x.2 = 0 then none else some (w32Clamp (roundDiv (x.1 * 2 ^ 24) (x.2 * 1000) draw))

/-- Tape position error in mm as W32: the profile position less TC_POS, exact but for its rounding. -/
def Dev.posError (d : Dev) (draw : Nat) : Fx := Fx.of (roundDiv (d.tc.profile.pos - d.tc.posW) 100000 draw)

/-- A slot's input before scaling (Table 12.2): none in a missing PES sample. An undefined code acts as 0. -/
def Dev.slotInput (d : Dev) (src draw : Nat) : Option Fx :=
  if src = 1 then some (Fx.lit d.tc.vel) else if src = 2 then some (d.posError draw) else if src = 3 then some (Fx.lit d.tc.velS)
  else if src = 4 then some (Fx.lit d.tc.velT) else if 8 ≤ src ∧ src < 0x10 then some (Fx.lit (s16ToW32 (d.sensor (src - 8))))
  else if src = 0x10 then d.tc.pesMean0.map Fx.lit else if src = 0x11 then d.tc.pesMean1.map Fx.lit
  else if 0x18 ≤ src then some (Fx.lit (d.tc.servos.get (src - 0x18)).out) else some (Fx.lit 0)

/-- A slot's setpoint. -/
def Dev.slotSet (d : Dev) (s : Nat) : Int :=
  let src := d.slotSpSrc s
  if src = 0 then (d.reg (slotReg Reg.TC_SSETPT s)).toInt else if src = 1 then d.tc.profile.vel else if src = 2 then d.tc.headSet
  else if 0x18 ≤ src then (d.tc.servos.get (src - 0x18)).out else 0

/-! ### One slot at its sample -/

/-- The region of a slot: bands of its reel's radius and of the speed (R260). -/
def Dev.slotRegion (d : Dev) (s : Nat) : Nat :=
  4 * (if d.rf (slotReg Reg.TC_SCFG s) 8 8 = 1 then d.tc.rbandT else d.tc.rbandS) + d.tc.sband

/-- A slot's output goes to its destination as an S16 code. -/
def Dev.drive (d : Dev) (s : Nat) : Dev :=
  let dst := d.slotDst s
  if 8 ≤ dst ∧ dst < 16 then
    d.onTc (fun t => { t with codes := t.codes.set (dst - 8) (w32ToS16 (t.servos.get s).out) })
  else d

/-- Change of a slot. -/
def Dev.onServo (d : Dev) (s : Nat) (f : Servo → Servo) : Dev := d.onTc (fun t => { t with servos := t.servos.modify s f })

/-- A rescaled integrator that clamps: the swap is not bumpless, a C0 event names the slot (R262). -/
def Dev.swapClamped (d : Dev) (s : Nat) (x : Fx) : Dev :=
  if x.c then (d.setW1 (slotReg Reg.TC_SSTAT s) 0 30).note { cls := .c0, unit := ⟨0x10, s⟩, cat := 0x0A, d0 := toW64 (d.w1cB Reg.TC_FAULT 0).toNat, d1 := toW64 s }
  else d

/-- The integrator presets of a sample (R262, R263): after a PES hold, from MANUAL to AUTO, and at a swap. -/
def Dev.preset (d : Dev) (s : Nat) (swap : Bool) (k : SlotCfg) (resume : Bool) : Dev :=
  let v := d.tc.servos.get s
  let auto := d.slotMode s == .auto
  let u0 : Option Int := if v.fresh || !auto then none else if resume then some v.out
    else if v.mode == .manual then some (d.reg (slotReg Reg.TC_SMAN s)).toInt else if swap then some v.u0 else none
  match u0 with
  | none => d
  | some u =>
    let x := v.rescaled k u
    (d.onServo s (fun v => { v with i := x.v })).swapClamped s x

/-- A slot at its sample (R256 to R264, R269). -/
def Dev.slotSample (d : Dev) (s draw : Nat) : Dev :=
  let v := d.tc.servos.get s
  let d1 := if v.commitAsked then (d.takeShadow s).onServo s (fun v => { v with commitAsked := false, pendingCommit := false }) else d
  let region := d1.slotRegion s
  let swap := v.commitAsked || v.region != region
  let d2 := d1.onServo s (fun v => { v with region := region })
  let y := (d2.slotInput (d2.slotSrc s) draw).map (fun x => x.mul (Fx.lit (d2.reg (slotReg Reg.TC_SSCALE s)).toInt))
  if v.held || (v.heldPes && y.isNone) then (d2.onServo s (fun v => { v with missing := y.isNone })).drive s
  else if d2.slotMode s = .off then (d2.onServo s Servo.idle).drive s
  else
    let k := d2.slotCfg s region
    let d3 := (d2.preset s swap k v.heldPes).onServo s (fun v => { v with heldPes := false })
    let r := (d3.tc.servos.get s).sample k (d3.slotMode s == .auto) y (d3.slotSet s) (d3.reg (slotReg Reg.TC_SMAN s)).toInt
    let d4 := (d3.onServo s (fun _ => r.1)).drive s
    if r.2 || y.any (fun f => f.c) then d4.setW1 (slotReg Reg.TC_SSTAT s) 0 30 else d4

/-- Whether a slot runs at a base edge (R252). -/
def Dev.slotDue (d : Dev) (s : Nat) : Bool := d.tc.edges % 2 ^ d.rf (slotReg Reg.TC_SCFG s) 5 4 == 0

/-- The slots that fall due, in index order (R251). -/
def Dev.runSlots (d : Dev) (draw : Nat) : Dev := d.each (List.range 8) (fun d s => if d.slotDue s then d.slotSample s draw else d)

end Sys2Proof.Machine
end

