-- ==== Sys2Proof/Machine/Primer.lean ====
section
/-! DEFINITION. The primer (R207 to R209): its document, its units on the tape, their cells, and the check that LOAD makes. -/

namespace Sys2Proof.Machine

/-- The primer document: 7-bit text of 1 to 65,536 bytes (R208, log entry 42), and its CRC-32C. -/
def primerLength : Nat := Config.primerLength % 65536 + 1
def primerDoc : List Byte := (List.range primerLength).map (fun i => Config.primerByte i &&& 0x7F)
def primerCrc : Nat := crc32c primerDoc

/-- Units of a copy, and the content of one. -/
def primerCount : Nat := (primerLength + 4095) / 4096
def primerContent (u : Nat) : List Byte := (primerDoc.drop (4096 * u)).take 4096

/-- A unit header (Table 9.5). -/
def primerHeader (id : W64) (c u : Nat) : List Byte :=
  beBytes 4 0x41505231 ++ beBytes 1 1 ++ beBytes 1 c ++ beBytes 2 u ++ beBytes 2 primerCount ++ beBytes 2 (primerContent u).length
    ++ beBytes 4 primerLength ++ beBytes 4 primerCrc ++ beBytes 8 id.toNat ++ zeros 4

/-- A unit: header, content and their CRC-32C. -/
def primerUnit (id : W64) (c u : Nat) : List Byte :=
  let b := primerHeader id c u ++ primerContent u
  b ++ beBytes 4 (crc32c b)

/-- Every unit of a primer, copy 0 first. -/
def primerUnits (id : W64) : List (List Byte) := [0, 1].flatMap (fun c => (List.range primerCount).map (primerUnit id c))

/-- Bits of bytes, most significant first. -/
def bitsOf (bs : List Byte) : List Bool := bs.flatMap (fun b => (List.range 8).map (fun i => b.getLsbD (7 - i)))

/-- The cells of a unit on the tape (Table 9.4): preamble, sync, header, content, CRC, postamble. -/
def primerCells (unit : List Byte) : List Bool :=
  List.replicate 512 false ++ bitsOf (beBytes 4 0x5052494D) ++ bitsOf unit ++ List.replicate 64 false

/-- The 2,000 symbols of a cell: a transition at its centre. -/
def cellSymbols (bit : Bool) : List Nat :=
  if bit then List.replicate 1000 0x3FF ++ List.replicate 1000 0 else List.replicate 1000 0 ++ List.replicate 1000 0x3FF

/-- The symbols of a unit. -/
def primerSymbols (unit : List Byte) : List Nat := (primerCells unit).flatMap cellSymbols

/-- A unit is read with a magic, a known version and a valid CRC (R208). -/
def primerOk (b : List Byte) : Bool :=
  let n := beField b 10 2
  beField b 0 4 == 0x41505231 && beField b 4 1 == 1 && decide (1 ≤ n) && decide (n ≤ 4096) && b.length == 36 + n
    && beField b (32 + n) 4 == crc32c (b.take (32 + n))

/-- The volume_id of a cartridge whose primer identifies Aproth-1: that of the first good unit of either copy (R1, R208). -/
def Cart.volumeId (k : Cart) : Option W64 := (k.primer.find? primerOk).map (fun b => toW64 (beField b 20 8))

/-- A channel sends symbols, its last block filled up. -/
def Link.sendAll (l : Link) (draw j : Nat) (syms : List Nat) : Link :=
  let m : Link := { l with txRest := l.txRest.modify j (fun s => s ++ syms) }
  (m.cut j (m.txRest.get j).length).endChannel draw j

/-- The primer is written in the head band of sheaf 0, forward at step 0, with the same symbols on every track (R207). -/
def Dev.sendPrimer (d : Dev) (id : W64) : Dev :=
  let units := primerUnits id
  let a := ((d.headTo 0).armLinks 0).beginTx
  let b := a.each units (fun d u => { d with draws := d.draws + 4200 * 128 }.onLinks (fun t l =>
    allChannels.foldl (fun l j => l.sendAll (d.draws + 4200 * (8 * t + j)) j (primerSymbols u)) l))
  (b.onCart (fun k => { k with primer := units })).startProfile 1 0 false false 0 .scheduler

end Sys2Proof.Machine
end

