-- ==== Sys2Proof/Machine/Loading.lean ====
section
/-! DEFINITION. What a LOAD makes of the copies it has read (R175, R211, R215, R223, R224): the governing colophon, the roll-forward, the checkpoint
chain and the volume that they give. -/

namespace Sys2Proof.Machine

/-! ### The colophon ring (R211, R223) -/

/-- A copy of the colophon ring. -/
def OnTape.inRing (o : OnTape) : Bool := o.sheaf == 1 && decide (0xFFFF0000 ≤ o.position)

/-- The colophon that a copy carries. -/
def OnTape.colophon (o : OnTape) : Option Colophon := if o.forme.kind = .colophon then colophonFrom o.forme.payload else none

/-- Of two colophons, the one of the higher session. -/
def laterColophon (a : Option Colophon) (b : Colophon) : Option Colophon :=
  match a with
  | none => some b
  | some x => if x.session < b.session then some b else some x

/-- The accepted ring copy with the primer's volume_id and the highest session (R223). -/
def ringColophon (id : W64) (scan : List OnTape) : Option Colophon :=
  (((scan.filter OnTape.inRing).filterMap OnTape.colophon).filter (fun c => c.volumeId == id)).foldl laterColophon none

/-! ### Roll-forward (R224) -/

/-- The copies of a volume outside the ring that count for the roll-forward. -/
def dataCopies (id : W64) (scan : List OnTape) : List OnTape :=
  scan.filter (fun o => o.volumeId == id && o.forme.kind != .filler && !o.inRing)

/-- The tape length that the colophons of a volume give. -/
def lengthFrom (id : W64) (scan : List OnTape) : Option Nat :=
  ((scan.filter (fun o => o.volumeId == id)).filterMap OnTape.colophon).head?.map (fun c => c.len)

/-- A position in the order of writing through sheaf turns. -/
def inOrder (positions sheaf pos : Nat) : Nat := sheaf * positions + pos

/-- The roll-forward so far: the governing colophon, the position where the scan goes on, the formes found at or above its next folio, and whether
it has stopped. -/
structure Rolling where
  gov : Option Colophon
  next : Nat
  found : List OnTape
  stopped : Bool
  deriving DecidableEq, Repr

/-- Next folio of the governing colophon. -/
def Rolling.folio (r : Rolling) : Nat := (r.gov.map (fun c => c.nextFolio)).getD 0

/-- One copy, in the order of writing: past 1,024 positions without a forme the scan has stopped; a colophon of a later session becomes the
governing one. -/
def Rolling.meet (positions : Nat) (r : Rolling) (o : OnTape) : Rolling :=
  let x := inOrder positions o.sheaf o.position
  if r.stopped ∨ x < r.next then r
  else if r.next + 1024 ≤ x then { r with stopped := true }
  else match o.colophon with
    | some c =>
      if r.gov.all (fun g => decide (g.session < c.session)) then
        { r with gov := some c, next := inOrder positions c.endSheaf c.endPos, found := [] }
      else if r.folio ≤ o.forme.folio then { r with next := x + 1, found := r.found ++ [o] } else r
    | none => if r.folio ≤ o.forme.folio then { r with next := x + 1, found := r.found ++ [o] } else r

/-- The scan from the governing colophon's end position, or from sheaf 0, position 0. -/
def rollForward (positions : Nat) (ring : Option Colophon) (copies : List OnTape) : Rolling :=
  (copies.mergeSort (fun a b => decide (inOrder positions a.sheaf a.position ≤ inOrder positions b.sheaf b.position))).foldl (Rolling.meet positions)
    ⟨ring, (ring.map (fun c => inOrder positions c.endSheaf c.endPos)).getD 0, [], false⟩

/-! ### Checkpoints (R217, R224) -/

/-- A lost member of a group that L3 has rebuilt, without a place. -/
def rebuiltCopy (id : W64) (f : Forme) : OnTape := ⟨0, 0, 0, id, f, []⟩

/-- Copies read, with the members that L3 rebuilds from them. -/
def healed (id : W64) (copies : List OnTape) : List OnTape :=
  let fs := copies.map (fun o => o.forme)
  let bases := ((fs.filter (fun f => f.kind == .parity)).map (fun f => f.groupBase)).eraseDups
  copies ++ bases.flatMap (fun b => ((l3Rebuild (groupOf fs b)).getD []).map (rebuiltCopy id))

/-- The latest usable checkpoint among the formes that the roll-forward found. -/
def latestUsable (all found : List OnTape) : Option Ckpt :=
  (((found.filter (fun o => o.forme.kind == .directory)).map (fun o => o.forme.folio)).filterMap (fun n => (ckptFrom all n).map (fun x => x.1))).foldl
    (fun (a : Option Ckpt) c => match a with
      | none => some c
      | some x => if x.number < c.number then some c else some x) none

/-- What a chain replays into the cache. -/
def chainEntries (ch : List Ckpt) : List DirEntry := ch.foldl (fun l c => if c.isBase then c.entries else l ++ c.entries) []

/-- A chain exceeds the cache (R220, R225). -/
def chainTooLong (es : List DirEntry) : Bool :=
  decide (33554432 < (es.filter DirEntry.counted).length) || decide (1048576 < (es.filter (fun e => !e.counted)).length)

/-- The latest locator mark among entries. -/
def locatorMark (es : List DirEntry) : Nat :=
  es.foldl (fun a e => match e with
    | .locator _ sh pos _ _ _ _ => max a (sh * 2 ^ 32 + pos / 4096 + 1)
    | _ => a) 0

/-! ### The volume (R213, R215) -/

/-- The highest session found on the medium: in colophons and in the stamps of headers (R215). -/
def highSession (id : W64) (scan : List OnTape) : Nat :=
  (scan.filter (fun o => o.volumeId == id)).foldl (fun a o => max (max a (sessionFrom (sliceBytes o.header 32 16))) ((o.colophon.map (fun c => c.session)).getD 0)) 0

/-- What LOAD finds: the governing colophon, the formes past it, the position after the last of them, the chain, and the highest session. -/
structure Found where
  gov : Colophon
  past : List OnTape
  endSheaf : Nat
  endPos : Nat
  chain : List Ckpt
  high : Nat
  deriving DecidableEq, Repr

/-- The volume ended cleanly: no forme lies past its colophon. -/
def Found.clean (f : Found) : Bool := f.past.isEmpty

/-- The session that opens, and whether the volume is SEALED (R212, R215). -/
def Found.session (f : Found) : Nat := min (f.high + 1) 0xFFFE
def Found.sealed (f : Found) : Bool := f.gov.sealed || decide (0xFFFE ≤ f.high + 1)

/-- What a LOAD lacks: a colophon, or a checkpoint of the chain and where it begins; or what it has found. -/
inductive Search where
  | noColophon
  | lacks (x : CkptAt)
  | tooLong (folio : Nat)
  | found (f : Found)
  deriving DecidableEq, Repr

/-- The search over all the copies that a LOAD has read (R223, R224). -/
def searchScan (id : W64) (tapeLen : Nat) (scan : List OnTape) : Search :=
  let p := positionsOf ((lengthFrom id scan).getD tapeLen)
  let copies := dataCopies id scan
  let r := rollForward p (ringColophon id scan) copies
  match r.gov with
  | none => .noColophon
  | some g =>
    let all := healed id copies
    let newest := if r.found.isEmpty then none else latestUsable all r.found
    let from' : CkptAt := (newest.map (fun c => (c.firstFolio, c.place))).getD (g.ckptFolio, g.ckptPlace)
    match chainFrom all 16 from' with
    | .error x => .lacks x
    | .ok ch => if chainTooLong (chainEntries ch) then .tooLong from'.1
      else .found ⟨g, r.found, r.next / max 1 p, r.next % max 1 p, ch, max g.session (highSession id scan)⟩

/-- The volume as LOAD finds it: its streams go on after the highest offsets seen, its folios above the highest (R175, R224). -/
def Found.volume (f : Found) (id : W64) (handle : Nat) : Volume :=
  let g := f.gov
  let last := f.chain.getLast?
  let es := chainEntries f.chain
  let fs := (f.past.map (fun o => o.forme)).foldl (fun l x => if l.any (fun y => y.folio == x.folio) then l else l ++ [x]) []
  let streamEnd := fun (k : FKind) (n : Nat) => (fs.filter (fun x => x.kind == k)).foldl (fun a x => max a (x.streamOff + x.payload.length)) n
  { handle := toW32 handle, volumeId := id, session := f.session, sealed := f.sealed, len := g.len, positions := positionsOf g.len
    blockCode := g.blockCode, nextFolio := fs.foldl (fun a x => max a (x.folio + 1)) g.nextFolio
    nativeUsed := (fs.filter (fun x => x.kind.member)).foldl (fun a x => a + x.payload.length) g.nativeUsed
    recordLen := streamEnd .data g.recordLen, coveredLen := (last.map (fun c => c.recordLen)).getD 0
    directoryLen := streamEnd .directory g.directoryLen, ckptNumber := (last.map (fun c => c.number + 1)).getD 0, lastCkpt := last
    deltas := f.chain.length - 1, deltaEntries := ((f.chain.drop 1).flatMap (fun c => c.entries)).length, entries := es, fresh := []
    lastLocator := locatorMark es }

/-- Folios of the data formes on a cartridge, in order. -/
def Cart.dataFolios (k : Cart) (id : W64) : List Nat :=
  (((k.formes.filter (fun o => o.volumeId == id && o.forme.kind == .data)).map (fun o => o.forme.folio)).eraseDups).mergeSort

end Sys2Proof.Machine
end

