-- ==== Sys2Proof/Machine/Objects.lean ====
section
/-! DEFINITION. Object instructions (Table 3.7): PUT, PATCH, GET, DELETE, STAT, COMPRESS and DECOMPRESS, the lookup of the version index and
the directory (R87, R88, R114, R220), and the commit of a write (R73, R111). -/

namespace Sys2Proof.Machine


/-! ### What covers a byte (R87, R159, R220) -/

/-- Where a layer's bytes lie: a write of the index, or entries of the directory that one write made. -/
inductive LayerOf where
  | version (w : Write)
  | entries (es : List DirEntry)
  deriving DecidableEq, Repr

/-- One write as a read sees it: session and stamp, and where its bytes lie. -/
structure Layer where
  sess : Nat
  stamp : Stamp
  src : LayerOf
  deriving DecidableEq, Repr

/-- The versions of an object that a read with a stamp sees. -/
def Dev.versionsSeen (d : Dev) (vh : W32) (obj : W64) (s : Stamp) : List Write :=
  d.idx.writes.filter (fun w => w.vh == vh && w.obj == obj && w.isVersion && w.arrival.lt s)

/-- Entries of the directory of an object that a read with a stamp sees. -/
def Dev.entriesSeen (d : Dev) (obj : W64) (s : Stamp) : List DirEntry :=
  match d.vol.loaded with
  | none => []
  | some v => v.entries.filter (fun e => match e.key with
      | some (o, sess, t) => o == obj && laterWrite (sess, t) (v.session, s)
      | none => false)

/-- Order of layers. -/
def Layer.le (a b : Layer) : Bool := !laterWrite (b.sess, b.stamp) (a.sess, a.stamp)

/-- Every write of an object that a read sees, earliest first; a version of the index stands for its entries. -/
def Dev.layers (d : Dev) (vh : W32) (obj : W64) (s : Stamp) : List Layer :=
  let vs := (d.versionsSeen vh obj s).map (fun w => (⟨d.session, w.arrival, .version w⟩ : Layer))
  let es := d.entriesSeen obj s
  let keys := ((es.filterMap (fun e => e.key.map (fun k => (k.2.1, k.2.2)))).eraseDups).filter (fun k => !vs.any (fun l => (l.sess, l.stamp) == k))
  (vs ++ keys.map (fun k => (⟨k.1, k.2, .entries (es.filter (fun e => e.key == some (obj, k.1, k.2)))⟩ : Layer))).mergeSort Layer.le

/-- The object's size after a layer, from the size before it; none where the object does not exist. -/
def Layer.sizeAfter (before : Option Nat) (l : Layer) : Option Nat :=
  match l.src with
  | .version w => if w.kind = .delete then none else some w.sizeAfter
  | .entries es => match es with
    | .extent _ _ _ _ _ _ _ _ size :: _ => some size
    | .marker _ off len _ _ :: _ => some (max (before.getD 0) (off + len))
    | _ => none

/-- The size of an object, none where it does not exist. -/
def sizeOf' (ls : List Layer) : Option Nat := ls.foldl Layer.sizeAfter none

/-- What one byte is read from (R87, R159). -/
inductive Cell where
  | source (s : Source) (buffered : Bool) (keyId : Option W64)
  | revoked
  deriving DecidableEq, Repr

/-- Whether a layer covers a byte. -/
def Layer.covers (l : Layer) (b : Nat) : Bool :=
  match l.src with
  | .version w => w.covers b
  | .entries es => es.any (fun e => decide (e.shade.1 ≤ b) && decide (b < e.shade.2))

/-- The extent among entries that holds a byte. -/
def extentAt (es : List DirEntry) (b : Nat) : Option DirEntry :=
  es.find? (fun e => (match e with
    | .extent _ _ _ _ _ _ _ _ _ => true
    | _ => false) && decide (e.span.1 ≤ b) && decide (b < e.span.2))

/-- What [b, z) is read from in a layer that covers it, where [b, z) crosses no boundary: a galley buffer of the version while the index holds
it, else the extent of the same write, else zero bytes. -/
def Dev.cellIn (d : Dev) (l : Layer) (b z : Nat) : Cell :=
  match l.src with
  | .version w =>
    if w.withdrawn then .revoked
    else if w.kind = .delete ∨ b < w.off ∨ w.off + w.len ≤ b then .source (.gap b (z - b)) true none
    else if w.bufs.any (fun kb => kb.1 == (b - w.off) / w.blockSize) then .source (.version w.id b (z - b)) true (some w.keyId)
    else match extentAt ((d.entriesSeen w.obj ⟨2 ^ 64, 0⟩).filter (fun e => e.key == some (w.obj, l.sess, l.stamp))) b with
      | some e => .source (.extent e b (z - b)) false none
      | none => .source (.gap b (z - b)) false none
  | .entries es =>
    if es.any (fun e => match e with
      | .marker _ _ _ _ _ => true
      | _ => false) then .revoked
    else match extentAt es b with
      | some e => .source (.extent e b (z - b)) false none
      | none => .source (.gap b (z - b)) false none

/-- The bytes of an object at which what covers a byte can change. -/
def Layer.edges (l : Layer) : List Nat :=
  match l.src with
  | .version w => [w.from', w.to, w.off, w.off + w.len] ++ (List.range (w.blockCount + 1)).map (fun k => w.off + k * w.blockSize)
  | .entries es => es.flatMap (fun e => [e.shade.1, e.shade.2, e.span.1, e.span.2])

/-- What [a, z) of an object is read from: the latest layer that covers each byte (R87). -/
def Dev.cells (d : Dev) (ls : List Layer) (a z : Nat) : List Cell :=
  let cuts := ((a :: z :: (ls.flatMap Layer.edges).filter (fun x => decide (a < x) && decide (x < z))).mergeSort (fun x y => decide (x ≤ y))).eraseDups
  (cuts.zip (cuts.drop 1)).map (fun bz => match ls.reverse.find? (fun l => l.covers bz.1) with
    | some l => d.cellIn l bz.1 bz.2
    | none => .source (.gap bz.1 (bz.2 - bz.1)) false none)

/-- Two sources that follow one another in one place join. -/
def joinSource : Source → Source → Option Source
  | .version w o n, .version v p m => if w = v ∧ o + n = p then some (.version w o (n + m)) else none
  | .extent e o n, .extent f p m => if e = f ∧ o + n = p then some (.extent e o (n + m)) else none
  | .gap o n, .gap p m => if o + n = p then some (.gap o (n + m)) else none
  | _, _ => none

/-- The plan of a read: its sources in order. -/
def planOf : List Cell → List Source
  | [] => []
  | .revoked :: t => planOf t
  | .source s _ _ :: t => match planOf t with
    | r :: rest => (match joinSource s r with
        | some j => j :: rest
        | none => s :: r :: rest)
    | [] => [s]

/-- Whether a latest layer is a write that the index still holds. -/
def newestBuffered (ls : List Layer) : Bool :=
  match ls.getLast? with
  | some l => (match l.src with
      | .version _ => true
      | .entries _ => false)
  | none => false

/-! ### Waiting for earlier writes (R88) -/

/-- Whether a write of the volume with an earlier stamp can still enter an intent: an inline one released to no context, or a PATCH or
DELETE that looks its object up; one still to be fetched or issued, until the queue managers' and clusters' horizons have passed; or another
member's horizon has not passed (R341). -/
def Dev.horizonOpen (d : Dev) (vh : W32) (s : Stamp) : Bool :=
  d.unenteredBefore vh s || !d.horizonsPassed s || !([1, 2, 3, 4, 5, 6].all (fun u => d.unitPast u s))

/-- Whether an earlier intent of the object can change what a read that starts at byte `a` sees (R88). `whole` asks for the whole object. -/
def Dev.intentAhead (d : Dev) (vh : W32) (obj : W64) (s : Stamp) (a : Nat) (whole : Bool) : Bool :=
  d.idx.writes.any (fun w => w.vh == vh && w.obj == obj && w.commit.isNone && w.arrival.lt s
    && (whole || w.kind != .patch || decide (a ≤ w.off + w.len)))

/-! ### PUT, PATCH, DELETE -/

/-- The capacity that R205 checks against. -/
def Dev.capacity (d : Dev) (v : Volume) : Nat :=
  let done := d.sh.sheaf * v.positions + d.sh.pos
  min (2 ^ 52 - v.nativeUsed) ((160 * v.positions - done) * 1361692)

/-- Input bytes of blocks of committed writes whose last stored byte is not yet placed (R205). -/
def Dev.unplacedInput (d : Dev) : Nat :=
  (d.cm.blocks.filter d.committedBlock).foldl (fun a b => a + b.data.length) 0
    + d.cx.recs.foldl (fun a r => a + (r.blocks.filter (fun b => decide (d.recDone r < r.blockEnd b))).foldl (fun n b => match d.write b.1 with
        | some w => if w.isVersion then n + w.blockLen b.2.1 else n
        | none => n) 0) 0

/-- Whether a write of a length fits the volume (R205), and the directory has room for it (R221). -/
def Dev.writeFits (d : Dev) (len : Nat) : Bool :=
  match d.vol.loaded with
  | none => false
  | some v =>
    let u := d.unplacedInput
    decide ((len + max 4 (d.rf Reg.SH_EOMCFG 31 24) * 2 ^ 30) * 512 + u * 513 ≤ d.capacity v * 512) && d.entryRoom len

/-- The first check that a PUT or PATCH fails (R54, R66, R72, R156, R205, R221), with the values its record names. One that was pinned at its
release is not refused a pin. -/
def Dev.writeCheck (d : Dev) (c op : Nat) : Option (W16 × W64 × W64) :=
  let x := d.ctxs.get c
  let off := if op = 0x41 then x.gb.toNat else 0
  let n := wImm x.ir % 1024
  match d.stateCheck op with
  | some s => some (s, 0, 0)
  | none =>
    if !d.vhOk x.vh then some (St.badHandle, 0, 0)
    else if 2 ^ 48 < off + x.gd.toNat ∨ d.dataLen c - x.dc < x.gd.toNat then some (St.range, 0, 0)
    else match (if (d.intentIn c).any (fun w => w.pinned) then none else (d.slot n).refusal true) with
      | some s => some (s, toW64 n, (d.slot n).keyId)
      | none => if !d.writeFits x.gd.toNat then some (St.volumeFull, 0, 0) else none

/-- The intent of a context takes the slot and the size of its object, pins, and its data starts to move. -/
def Dev.startWrite (d : Dev) (c : Nat) (before : Option Nat) : Dev :=
  match d.intentIn c with
  | none => d
  | some w =>
    let n := d.newIntent c
    let size := before.getD 0
    (d.onWrite w.id (fun w => { w with slot := n.slot, keyId := n.keyId, blockSize := n.blockSize, byRequest := n.byRequest, pinned := w.kind != .delete
                                       cover := (if w.kind = .patch then min w.off size else 0)
                                       sizeAfter := (match w.kind with
                                         | .put => w.len
                                         | .patch => max size (w.off + w.len)
                                         | .delete => 0) })).fly c (.write w.id)

/-- A write stored raw by request marks its command (R139). -/
def Dev.markRaw (d : Dev) (c : Nat) : Dev := d.onCtx c (fun x => { x with info := x.info || x.ir.getLsbD 12 })

/-- PUT: the checks, the pin, the intent, and the start of its data (R72, R73, R88, R155, R205). Where the slot takes no pin more or the index
has no room for the intent it stalls. -/
def execPut (c : Nat) (s : State) : Out :=
  s.insn c 0x40 (fun d0 =>
    let d := (d0.issue c).markRaw c
    let n := wImm (d.ctxs.get c).ir % 1024
    match d.writeCheck c 0x40 with
    | some (st, a, b) => (d.cancelIntents c).failWith c st a b
    | none =>
      if (d.intentIn c).any (fun w => w.pinned) then d.startWrite c none
      else if !(d.slot n).pinRoom ∨ ((d.intentIn c).isNone ∧ !d.intentRoom c) then d0
      else
        let d1 := d.pin n
        (if (d1.intentIn c).isNone then d1.enterIntent c else d1).startWrite c none)

/-- PATCH: the checks and the pin; whether its object exists is decided by INDEX_LOOKUP, before its intent (R88). -/
def execPatch (c : Nat) (s : State) : Out :=
  s.insn c 0x41 (fun d0 =>
    let d := (d0.issue c).markRaw c
    let n := wImm (d.ctxs.get c).ir % 1024
    match d.writeCheck c 0x41 with
    | some (st, a, b) => d.failWith c st a b
    | none => if !(d.slot n).pinRoom then d0 else (d.pin n).fly c (.existence 0x41))

/-- The checks of an instruction that only needs a state and a handle. -/
def Dev.volumeCheck (d : Dev) (c op : Nat) : Option W16 :=
  match d.stateCheck op with
  | some s => some s
  | none => if checksVh op && !d.vhOk (d.ctxs.get c).vh then some St.badHandle else none

/-- DELETE: whether its object exists is decided by INDEX_LOOKUP, before its intent (R88). -/
def execDelete (c : Nat) (s : State) : Out :=
  s.insn c 0x43 (fun d0 =>
    let d := d0.issue c
    match d.volumeCheck c 0x43 with
    | some st => d.failWith c st
    | none => d.fly c (.existence 0x43))

/-- The latest write of the directory, of the present session, that supersedes a byte of a write: its version may have left the index. -/
def Dev.overOf (d : Dev) (w : Write) : Option Stamp :=
  match d.vol.loaded with
  | none => none
  | some v => (v.entries.filter (fun e => match e.key with
      | some (o, s, t) => o == w.obj && s == v.session && w.arrival.lt t && decide (e.shade.1 < w.to) && decide (w.from' < e.shade.2)
      | none => false)).foldl (fun a e => match e.key with
        | some (_, _, t) => laterOf a t
        | none => a) none

/-- WRITE_COMMIT: the last data of a write is in its galley and its version is inserted (R73, R95): the version index becomes finisher of the
galley (R111), holds are placed (R89), and the index's use is checked (R118). -/
def execWriteCommit (c : Nat) (s : State) : Out :=
  s.flow (fun d =>
    match d.flightOf c with
    | some (.write id) =>
      (match d.write id with
       | none => d
       | some w =>
         if w.data.length ≠ w.len ∨ w.commit.isSome then d else
         let sd := d.stamp 8 w.arrival.after
         let d1 := ((sd.2.onWrite id (fun w => { w with commit := some sd.1, ctx := none, beaten := d.overOf w })).onIdx Index.noteOver)
         let d2 := d1.each w.bufs (fun d kb => d.passFinisher kb.2 (.ctx c) (.unit .index))
         let d3 := if w.pinned && w.len == 0 then (d2.onWrite id (fun w => { w with pinned := false })).unpin w.slot else d2
         let d4 := d3.onCtx c (fun x => { x with dc := x.dc + w.len })
         ((d4.reviewHolds.reap.forcedClose).finish c St.ok none 0 0 (some sd.1)).sealRecords)
    | _ => d)

/-! ### GET, STAT -/

/-- A read that begins, not yet looked up. -/
def newRead (op : Nat) (obj : W64) (off want slot : Nat) (s : Stamp) (dest : Nat) : ReadOp :=
  { opcode := op, obj := obj, off := off, want := want, slot := slot, stampAt := s, resolved := false, size := 0, plan := [], delivered := 0
    dest := dest, recsOk := [], ahead := [], todo := [], retry := [], rawSeen := false }

/-- A read is registered against its object (R89) and waits for its lookup. -/
def Dev.startRead (d : Dev) (c : Nat) (r : ReadOp) : Dev :=
  (d.onIdx (fun x => { x with reads := x.reads ++ [⟨c, r.obj, r.stampAt⟩] })).fly c (.read r)

/-- GET: the checks, the pin, and its registration (R72, R74, R89, R155). A check that fails leaves gd as it was (R54). -/
def execGet (c : Nat) (s : State) : Out :=
  s.insn c 0x42 (fun d0 =>
    let d := d0.issue c
    let x := d.ctxs.get c
    let n := wImm x.ir % 1024
    match d.volumeCheck c 0x42 with
    | some st => d.failWith c st
    | none =>
      if 2 ^ 48 < x.gb.toNat + x.gd.toNat ∨ d.dataLen c - x.dc < x.gd.toNat then d.failWith c St.range else
      match (d.slot n).refusal false with
      | some st => d.failWith c st (toW64 n) (d.slot n).keyId
      | none =>
        if !(d.slot n).pinRoom then d0 else
        (d.pin n).startRead c (newRead 0x42 x.ga x.gb.toNat x.gd.toNat n (d.orderStamp c) x.dc))

/-- STAT: the checks and its registration. -/
def execStat (c : Nat) (s : State) : Out :=
  s.insn c 0x44 (fun d0 =>
    let d := d0.issue c
    let x := d.ctxs.get c
    match d.volumeCheck c 0x44 with
    | some st => d.failWith c st
    | none => if x.gb.toNat % 8 ≠ 0 then d.failWith c St.programFault
      else d.startRead c (newRead 0x44 x.ga 0 0 0 (d.orderStamp c) x.gb.toNat))

/-- LOCATE: the checks and its registration (R228). -/
def execLocate (c : Nat) (s : State) : Out :=
  s.insn c 0x53 (fun d0 =>
    let d := d0.issue c
    let x := d.ctxs.get c
    match d.volumeCheck c 0x53 with
    | some st => d.failWith c st
    | none => d.startRead c (newRead 0x53 x.ga x.gb.toNat 1 0 (d.orderStamp c) 0))

/-! ### INDEX_LOOKUP (R87, R88, R114, R156, R159, R220, R228, R233) -/

/-- Galley buffers that a read copies from. -/
def Dev.buffersOf (d : Dev) (ss : List Source) : List Nat :=
  (ss.flatMap (fun s => match s with
    | .version id off len => (match d.write id with
        | some w => (w.bufs.filter (fun kb => decide (w.off + kb.1 * w.blockSize < off + len) && decide (off < w.off + (kb.1 + 1) * w.blockSize))).map (fun kb => kb.2)
        | none => [])
    | _ => [])).eraseDups

/-- Whether an extent names a stream offset past what the checkpoints cover (R233). A PUT of 0 bytes names none. -/
def Dev.pastEnd (d : Dev) (s : Source) : Bool :=
  match s, d.vol.loaded with
  | .extent e _ _, some v => decide (v.coveredLen ≤ e.recOff)
  | _, _ => false

/-- Whether a source is on tape. -/
def Source.onTape : Source → Bool
  | .extent _ _ _ => true
  | _ => false

/-- A key ID among buffered bytes that is not the slot's (R156). -/
def wrongKey (cells : List Cell) (keyId : W64) : Option W64 :=
  cells.findSome? (fun x => match x with
    | .source _ _ (some k) => if k = keyId then none else some k
    | _ => none)

/-- Whether every cell is served from the index. -/
def allBuffered (cells : List Cell) : Bool :=
  cells.all (fun x => match x with
    | .source _ b _ => b
    | .revoked => true)

/-- A read that has been looked up: the buffers it copies are attached, and it waits for the tape where it needs it (R114, R227). -/
def Dev.resolveRead (d : Dev) (c : Nat) (size n : Nat) (plan : List Source) : Dev :=
  let d1 := (d.each (d.buffersOf plan) (fun d k => d.attach k (.reader c))).onRead c (fun r =>
    { r with resolved := true, size := size, delivered := n, plan := plan })
  if plan.any Source.onTape then (d1.onSh (fun x => { x with waitTape := x.waitTape ++ [(c, d1.clk.now)] })).tryTurn else d1

/-- The status a read of [a, z) ends with at its lookup, with the values its record names; none where it goes on. -/
def Dev.readFault (d : Dev) (r : ReadOp) (cells : List Cell) : Option (W16 × W64 × W64) :=
  if cells.any (fun x => x == .revoked) then some (St.keyRevoked, toW64 r.slot, (d.slot r.slot).keyId)
  else match (if r.opcode = 0x42 then wrongKey cells (d.slot r.slot).keyId else none) with
    | some k => some (St.keyMismatch, toW64 r.slot, k)
    | none => if (planOf cells).any d.pastEnd && r.opcode != 0x44 then some (St.endOfData, 0, 0) else none

/-- A read ends at its lookup: only where directory and medium disagree does a GET zero its destination (R74, R233). -/
def Dev.endLookup (d : Dev) (c : Nat) (s : W16) (a b : W64) : Dev :=
  if s = St.endOfData then d.failRead c s a b else d.refuseRead c s a b

/-- The lookup of a GET, STAT or LOCATE. In DRAIN a GET or STAT that the index does not serve wholly is refused (Table 3.4). -/
def Dev.lookup (d : Dev) (c : Nat) (r : ReadOp) : Dev :=
  let vh := (d.ctxs.get c).vh
  let ls := d.layers vh r.obj r.stampAt
  if d.mode = .drain && !newestBuffered ls then d.refuseRead c St.thermalRefused else
  match sizeOf' ls with
  | none => d.refuseRead c St.noObject
  | some size =>
    if r.opcode = 0x42 ∧ size < r.off then d.refuseRead c St.range
    else if r.opcode = 0x53 ∧ size ≤ r.off then d.refuseRead c St.endOfData
    else
      let z := if r.opcode = 0x44 then size else min size (r.off + r.want)
      let cells := d.cells ls r.off z
      if d.mode = .drain && !allBuffered cells then d.refuseRead c St.thermalRefused else
      match d.readFault r cells with
      | some (st, a, b) => d.endLookup c st a b
      | none =>
        let plan := if r.opcode = 0x44 then [] else planOf cells
        if (d.buffersOf plan).all d.holderRoom then d.resolveRead c size (z - r.off) plan else d

/-- The lookup that decides whether the object of a PATCH or DELETE exists (R88); its intent is entered then. A PATCH of 0 bytes ends here. -/
def Dev.existence (d : Dev) (c op : Nat) : Dev :=
  let x := d.ctxs.get c
  let give := fun (d : Dev) => if op = 0x41 then d.unpin (wImm x.ir % 1024) else d
  match sizeOf' (d.layers x.vh x.ga (d.orderStamp c)) with
  | none => (give d).failWith c St.noObject
  | some size =>
    if op = 0x41 ∧ x.gd = 0 then (give d).finish c St.ok none 0 0
    else if d.intentRoom c then (d.enterIntent c).startWrite c (some size) else d

/-- Whether a directory entry of an object is being reloaded from tape (R222). -/
def Dev.reloading (d : Dev) (obj : W64) : Bool := d.vol.reload.any (fun e => match e.key with
  | some (o, _, _) => o == obj
  | none => false)

/-- INDEX_LOOKUP: the lookup of context `c`, once the horizon has passed its stamp and earlier intents are resolved, and no entry that it needs is
being reloaded. -/
def execIndexLookup (c : Nat) (s : State) : Out :=
  s.flow (fun d =>
    let x := d.ctxs.get c
    let st := d.orderStamp c
    match d.flightOf c with
    | some (.existence op) =>
      if d.horizonOpen x.vh st || d.intentAhead x.vh x.ga st 0 true || d.reloading x.ga then d else d.existence c op
    | some (.read r) =>
      if r.resolved || d.horizonOpen x.vh st || d.intentAhead x.vh r.obj st r.off (r.opcode == 0x44) || d.reloading r.obj then d else d.lookup c r
    | _ => d)

/-! ### COMPRESS and DECOMPRESS (R72, R136 to R138) -/

/-- COMPRESS: its bytes are known to be there and it takes them in, cut into blocks of the size CM_CTL.host_block has as it starts (R125). -/
def execCompress (c : Nat) (s : State) : Out :=
  s.insn c 0x48 (fun d0 =>
    let d := d0.issue c
    let x := d.ctxs.get c
    if d.dataLen c - x.dc < x.gd.toNat then d.failWith c St.range else d.fly c (.compress x.gb.toNat d.hostBlock x.gd.toNat 0))

/-- DECOMPRESS. -/
def execDecompress (c : Nat) (s : State) : Out :=
  s.insn c 0x49 (fun d0 =>
    let d := d0.issue c
    let x := d.ctxs.get c
    if d.dataLen c - x.dc < x.gd.toNat then d.failWith c St.range else d.fly c (.decompress x.gb.toNat x.gd.toNat 0 []))

/-- The whole output is written (R138), once the output list has been walked and requests may be made. -/
def Dev.writeOutput (d : Dev) (c need : Nat) (bs : List Byte) (raw : Bool) : Dev :=
  let o := d.outputWalk c
  if !d.mayRequest c ∨ o.total < bs.length then d else
  (((d.memWrite c (subRanges o.ranges 0 bs.length) bs).onCtx c (fun x => { x with dc := x.dc + need, info := x.info || raw })).dropFlight c).finish c St.ok
    (some (toW64 bs.length)) 0 0

/-- COMPRESS goes on: its frames are written back to back in block order (R137); the first that does not fit ends it (R138). -/
def Dev.compressDone (d : Dev) (c cap size need : Nat) : Dev :=
  match d.compressRun c (blockCountOf need size) 0 cap with
  | (bs, raw, .good) => d.writeOutput c need bs raw
  | (_, _, .full) => d.failOutput c St.outputFull
  | (_, _, .bad) => d

/-- DECOMPRESS goes on, on a lane that restore work may take (R18): the content of its frames is written (R136); the first output that does not fit, and the first input that is not
accepted, end it (R138). -/
def Dev.decompressDone (d : Dev) (c cap need taken : Nat) (got : List Byte) : Dev :=
  match d.restoreLane, hostRun got.length cap got with
  | none, _ => d
  | some _, (_, _, .full) => d.failOutput c St.outputFull
  | some l, (n, bs, .good) => if taken = need then ((d.countStart (l / 8) false).count 0x30 0 9 n).writeOutput c need bs false else d
  | some _, (_, _, .bad) => if taken = need then d.failOutput c St.frameInvalid else d

/-! ### The end of a read (R74, R88, R95, R232, Table 3.8) -/

/-- Bytes [off, off + len) of a version's object from its galley. -/
def Write.slice (w : Write) (off len : Nat) : List Byte := sliceBytes w.data (off - w.off) len

/-- Buffered and gap bytes of a plan go to the destination. -/
def Dev.deliverPlan (d : Dev) (c : Nat) (r : ReadOp) : Dev :=
  d.each r.plan (fun d s => match s with
    | .version id off len => (match d.write id with
        | some w => d.writeData c (r.dest + (off - r.off)) (w.slice off len)
        | none => d)
    | .gap off len => d.writeData c (r.dest + (off - r.off)) (zeros len)
    | .extent _ _ _ => d)

/-- Whether every source on tape has been delivered. -/
def ReadOp.tapeDone (r : ReadOp) : Bool := (List.range r.plan.length).all (fun k => r.sourceDone k)

/-- A read ends with S_OK: its reads are unregistered, and a GET unpins. -/
def Dev.readOk (d : Dev) (c : Nat) (r : ReadOp) (out : Option W64) : Dev :=
  (((if r.opcode = 0x42 then d.unpin r.slot else d)).endReads c).finish c St.ok out 0 0

/-- GET commits: every tag has passed and the last byte is delivered, over ranges that the walk of its list has found (R33). -/
def Dev.getDone (d : Dev) (c : Nat) (r : ReadOp) : Dev :=
  if !r.tapeDone ∨ !d.mayRequest c ∨ !d.walked c (r.dest + r.delivered) then d else
  ((d.deliverPlan c r).onCtx c (fun x => { x with dc := x.dc + r.delivered, info := x.info || r.rawSeen })).readOk c r (some (toW64 r.delivered))

/-- Whether a version's bytes are all on tape: placed, and no forme that may hold them is still to be sent. -/
def Dev.versionOnTape (d : Dev) (w : Write) : Bool :=
  d.wholePlaced w && d.fm.openPayload.isEmpty && d.fm.held.all (fun f => f.kind != .data || !f.queued)

/-- State and key slot of the latest write that a STAT sees (Table 3.8). The directory does not hold the slot of a write: for a write that the
index no longer holds it is a free value (log entry 22). -/
def Dev.statState (d : Dev) (l : Layer) : Nat × Nat :=
  match l.src with
  | .version w => (if w.durable then 2 else if d.versionOnTape w then 1 else 0, w.slot)
  | .entries _ => (2, Config.freeNat d.draws % 1024)

/-- The 16-byte stamp of a write that a STAT reports; the flag of a stamp of an earlier session is as the medium has it, which the model leaves free
(log entry 22). -/
def Dev.statStamp (d : Dev) (l : Layer) : List Byte :=
  let ad := if l.sess = d.session then b2n d.clk.adopted else Config.freeNat (d.draws + 1) % 2
  leBytes 8 l.stamp.t ++ [l.stamp.o, BitVec.ofNat 8 ad] ++ leBytes 2 l.sess ++ zeros 4

/-- The STAT record (Table 3.8). -/
def Dev.statRecord (d : Dev) (vh : W32) (r : ReadOp) (l : Layer) : List Byte :=
  let st := d.statState l
  let n := (d.idx.writes.filter (fun w => w.vh == vh && w.obj == r.obj && w.isVersion && !w.withdrawn && w.kind != .delete)).length
  leBytes 8 r.obj.toNat ++ leBytes 8 r.size ++ d.statStamp l ++ leBytes 1 st.1 ++ zeros 1 ++ leBytes 2 st.2 ++ leBytes 4 n ++ zeros 24

/-- STAT commits: its record is written. -/
def Dev.statDone (d : Dev) (c : Nat) (r : ReadOp) : Dev :=
  let vh := (d.ctxs.get c).vh
  if !d.mayRequest c then d else
  match (d.layers vh r.obj r.stampAt).getLast? with
  | none => d
  | some l => ({ d with draws := d.draws + 2 }.memWrite c [(r.dest, 64)] (d.statRecord vh r l)).readOk c r (some (toW64 r.size))

/-- LOCATE ends: at once where the byte needs no tape, otherwise once the tape stands ahead of its forme in a read turn (R228). -/
def Dev.locateDone (d : Dev) (c : Nat) (r : ReadOp) : Dev :=
  if r.plan.any Source.onTape && !d.stands c then d else d.readOk c r none

/-- A read that has been looked up ends. -/
def Dev.readDone (d : Dev) (c : Nat) (r : ReadOp) : Dev :=
  if !r.resolved then d
  else if r.opcode = 0x42 then d.getDone c r
  else if r.opcode = 0x44 then d.statDone c r
  else d.locateDone c r

/-! ### Index rebuilds (R120) -/

/-- A rebuild of the object table starts, under the salt of BP_IXSALT: cause 1 SRAM error, 2 carve apply, 3 command. The new table is empty:
lookups that miss in it go to the spine. -/
def Dev.startRebuild (d : Dev) (cause : Nat) : Dev :=
  (d.onIdx (fun x => { x with rebuilding := true, saltInForce := d.reg Reg.BP_IXSALT, table := [] })).setW1f Reg.BP_IXCTL 0 30 28 cause

/-- Every object of the spine has its position in the new table, in the order of the spine. -/
def Index.fill (x : Index) : Index := x.spine.foldl (fun x o => x.place o.1 o.2.1 o.2.2) x

/-- INDEX_REBUILD_DONE: a rebuild ends; its time is in units of 16 µs (BP_IXTIME). A rebuild that an error of the table SRAM began is a recovery,
whose return test follows. -/
def execIndexRebuildDone (micros16 : Nat) (s : State) : Out :=
  s.whenDev (fun d => d.working && d.idx.rebuilding) (fun d =>
    ((d.onIdx (fun x => { x.fill with rebuilding := false })).bumpW1 Reg.BP_IXTIME 0 31 16).setW1f Reg.BP_IXTIME 0 15 0 (min micros16 65535))

end Sys2Proof.Machine
end

