-- ==== Sys2Proof/Machine/Volumes.lean ====
section
/-! DEFINITION. Volumes (10_restore_directory): FORMAT, LOAD, UNLOAD, SEAL, FLUSH and MIGRATE, and how instructions that take time finish
(R95). -/

namespace Sys2Proof.Machine

/-! ### Set-wide operations (R339, R343) -/

/-- Whether a context runs a set-wide operation for the master. -/
def Dev.forSet (d : Dev) (c : Nat) : Bool := (d.cmdOf c).any (fun m => m.qid == setQid)

/-- The start of a set-wide operation, with its argument and the mode in force. -/
def Dev.setStart (d : Dev) (op : Nat) (arg : W64) : List Byte :=
  leBytes 1 0 ++ leBytes 1 op ++ leBytes 8 arg.toNat ++ leBytes 1 d.cs.modeInForce ++ leBytes 1 d.cs.kInForce ++ leBytes 1 d.cs.mInForce

/-- The master of a widened set starts an operation on every other member (R343). -/
def Dev.startSet (d : Dev) (op : Nat) (arg : W64) : Dev :=
  if d.widen ∧ d.cs.st = .master then
    let sd := d.stamp 0x15
    (sd.2.broadcast .setOp sd.1 (sd.2.setStart op arg)).onCs (fun x =>
      { x with setPending := x.setPending ++ d.others.map (fun m => (op, m)) })
  else d

/-- Mode, k and m as CS_MODE asks for them (Table 16.6); mode 3 is treated as 0. -/
def Dev.modeAsked (d : Dev) : Nat × Nat × Nat :=
  let m := d.rf Reg.CS_MODE 31 30
  (if m = 3 then 0 else m, d.rf Reg.CS_MODE 2 0, d.rf Reg.CS_MODE 9 8)

/-- The mode a FORMAT or LOAD works in: a pending change takes effect with it (R339). -/
def Dev.modeNext (d : Dev) : Nat × Nat × Nat := if d.cs.modePending then d.modeAsked else (d.cs.modeInForce, d.cs.kInForce, d.cs.mInForce)

/-- A change of mode takes effect at a FORMAT or LOAD, on every member (R339). -/
def Dev.takeMode (d : Dev) : Dev :=
  if !d.cs.modePending then d else
  let x := d.modeNext
  let d1 := d.onCs (fun c => { c with modePending := false, modeInForce := x.1, kInForce := x.2.1, mInForce := x.2.2 })
  if d1.cs.st = .master then
    let sd := d1.stamp 0x15
    sd.2.broadcast .setOp sd.1 (sd.2.setStart 0 0)
  else d1

/-- A widened FORMAT or LOAD whose members do not number k + m is refused (Table 16.6). -/
def Dev.badSet (d : Dev) : Bool :=
  let x := d.modeNext
  d.cs.inRing && x.1 == 2 && (decide (x.2.1 < 2) || x.2.1 + x.2.2 != d.cs.size)

/-! ### FORMAT (R187, R207, R209, R216) -/

/-- A volume_id that is drawn: never 0 and never all ones (R216); where eight draws in a row are one of these, 1. -/
def Dev.drawId (d : Dev) : Nat → W64 × Dev
  | 0 => (1, d)
  | n + 1 =>
    let r := d.randoms 8
    let v := toW64 (leNat r.1)
    if v = 0 ∨ v = toW64 (2 ^ 64 - 1) then r.2.drawId n else (v, r.2)

/-- The first LOAD or FORMAT after a reset moves the head to sheaf 0 once the cartridge is threaded (R396). -/
def Dev.firstSeek (d : Dev) (c : Nat) : Dev :=
  if d.vol.firstDone || !d.tc.posValid then d else (d.onVol (fun v => { v with firstDone := true })).seekHead 0 (some c)

/-- Whether a LOAD or FORMAT still waits for its cartridge to be threaded or for its head seek. -/
def Dev.notThreaded (d : Dev) (c : Nat) : Bool := !d.tc.posValid || !d.vol.firstDone || d.tc.seekFor == some c

/-- FORMAT: the checks, and its start (R65, R75, R267): the cartridge is threaded. -/
def execFormat (c : Nat) (s : State) : Out :=
  s.insn c 0x50 (fun d0 =>
    let d := d0.issue c
    let x := d.ctxs.get c
    match d.stateCheck 0x50 with
    | some st => d.failWith c st
    | none =>
      if d.badSet then d.failWith c St.wrongState
      else if wImm x.ir / 256 ≠ 0x4150524F then d.failWith c St.range
      else if d.motionRefused then d.failWith c St.transportFault
      else
        let d1 := ((d.supersede.firstSeek c).threadTape false).takeMode
        let d2 := d1.onVol (fun v => { v with formatting := true })
        if d2.forSet c then d2.fly c (.format (some (d2.ctxs.get c).ga) 0)
        else if d2.widen ∧ d2.cs.st = .master then
          let r := d2.drawId 8
          (r.2.startSet 0x50 r.1).fly c (.format (some r.1) 0)
        else d2.fly c (.format none 0))

/-- The volume that FORMAT writes, before its first forme; its first checkpoint holds the stripe entry of a widened set (R347). -/
def Dev.freshVolume (d : Dev) (id : W64) (len code : Nat) : Volume :=
  { handle := 0, volumeId := id, session := 1, sealed := false, len := len, positions := positionsOf len, blockCode := code
    nextFolio := 0, nativeUsed := 0, recordLen := 0, coveredLen := 0, directoryLen := 0, ckptNumber := 0, lastCkpt := none, deltas := 0
    deltaEntries := 0, entries := [], fresh := (if d.widen then [.stripe d.role d.cs.kInForce d.cs.mInForce 0 0] else []), lastLocator := 0 }

/-- FORMAT is threaded: the tape runs to its end at step 15, so that L is measured (R216). -/
def Dev.formatThreaded (d : Dev) (c : Nat) (id : Option W64) : Dev :=
  if d.notThreaded c then d else (d.startProfile 1 15 false false 0 .scheduler).fly c (.format id 1)

/-- L is measured: a tape under 100 m is refused, the volume_id is drawn and the primer written (R187, R207, R216). -/
def Dev.formatMeasured (d : Dev) (c : Nat) (id : Option W64) : Dev :=
  match d.vol.cart with
  | none => d
  | some k =>
    if k.len < 100000 then d.openFailed c St.noCartridge
    else if id.isNone && d.rngFenced then d.openFailed c St.rngFailed
    else if d.activeLinks < 16 then d.openFailed c St.transportFault
    else
      let r := match id with
        | some i => (i, d)
        | none => d.drawId 8
      (r.2.sendPrimer r.1).fly c (.format (some r.1) 2)

/-- A primer is good where every unit of both copies is good on at least 64 tracks (R209). -/
def primerGood (good : List Nat) : Bool := good.length == 2 * primerCount && good.all (fun n => decide (64 ≤ n))

/-- The primer has been read back: a bad one ends FORMAT, a good one is followed by session 1's base checkpoint, folio 0, in a group of one with its
parity formes, folios 1 to 4, at sheaf 0, position 0 (R209, R216). Where a buffer waits, so does FORMAT. -/
def Dev.formatChecked (d : Dev) (c : Nat) (id : W64) (good : List Nat) : Dev :=
  if !primerGood good then d.openFailed c St.mediumUnrecovered else
  let code := wImm (d.ctxs.get c).ir % 4
  let len := (d.vol.cart.map (fun k => k.len)).getD 0
  let sd := d.restTape.stamp (clusterUnit c)
  let e := sd.2.onVol (fun v => { v with loaded := some (sd.2.freshVolume id len (if code = 0 then 2 else code)) })
  match (e.placeCkpt sd.1).bind (fun e1 => e1.closeGroup 1) with
  | some f => (f.resetStripes []).fly c (.format (some id) 3)
  | none => d.awaitForme

/-- The tape is rewound at step 15 to the beginning-of-tape mark (R216, R226). -/
def Dev.rewind (d : Dev) : Dev := d.startProfile 2 15 false false 0 .scheduler

/-- FORMAT's colophon is written, at the end of data and in ring entry 1: the tape is rewound. -/
def Dev.formatWritten (d : Dev) (c : Nat) (id : Option W64) : Dev :=
  if d.sh.colophon.isSome ∨ d.sh.running ∨ d.tc.profile.kind ≠ 0 then d else d.rewind.fly c (.format id 5)

/-- FORMAT ends in PRESENT (R212, R216). -/
def Dev.formatDone (d : Dev) (c : Nat) : Dev :=
  if d.tc.profile.kind ≠ 0 ∨ !d.setDone 0x50 then d else
  (((d.volStamp (some c)).2.unmount).onVol (fun v => { v with formatting := false, st := .present })).finish c St.ok none 0 0

/-- A stage of FORMAT is done: threading, the measuring pass, the writing of the colophon, the rewind. -/
def Dev.formatStep (d : Dev) (c : Nat) (id : Option W64) (stage : Nat) : Dev :=
  match stage with
  | 0 => d.formatThreaded c id
  | 1 => d.formatMeasured c id
  | 3 => d.settleFlushes
  | 4 => d.formatWritten c id
  | 5 => d.formatDone c
  | _ => d

/-! ### LOAD (R1, R208, R212 to R215, R223 to R225) -/

/-- LOAD: the checks, and its start: the cartridge is threaded. -/
def execLoad (c : Nat) (s : State) : Out :=
  s.insn c 0x51 (fun d0 =>
    let d := d0.issue c
    match d.stateCheck 0x51 with
    | some st => d.failWith c st
    | none => if d.badSet then d.failWith c St.wrongState
      else if d.motionRefused then d.failWith c St.transportFault
      else ((((d.supersede.firstSeek c).threadTape false).takeMode).startSet 0x51 0).fly c (.load 0 0))

/-- LOAD is threaded: the primer is checked, then the colophon ring is read in one pass of sheaf 1's head band (R208, R223). -/
def Dev.loadThreaded (d : Dev) (c : Nat) : Dev :=
  if d.notThreaded c then d else
  match d.vol.cart.bind Cart.volumeId with
  | none => d.openFailed c St.noCartridge
  | some _ =>
    if d.activeLinks < 15 then d.openFailed c St.transportFault else
    let a := (d.onVol (fun v => { v with scan := [] })).onLinks (fun _ l => { l with rx := Table.empty })
    ((((a.headTo 1).orderAll ⟨Hc.setRate, 0, toW32 (stepRate 15), 0⟩).orderAll ⟨Hc.readOn, 0xFF, 0, 0⟩).startProfile 1 15 false false 0
      .scheduler).fly c (.load 1 0)

/-- The tape goes to a position of the data band, ahead of it on the side from which its sheaf is read, with the head on the sheaf (R223, R228). -/
def Dev.locateTo (d : Dev) (len sheaf pos : Nat) : Dev :=
  (d.headTo sheaf).startProfile 2 15 false false (placeW (d.aheadOf len (positionsOf len) sheaf pos : Nat)) .scheduler

/-- The ring is read: the end of data of its best colophon is located, or sheaf 0, position 0 (R223, R224). -/
def Dev.loadRing (d : Dev) (c : Nat) : Dev :=
  let g : Option Colophon := (d.vol.cart.bind Cart.volumeId).bind (fun id => ringColophon id d.vol.scan)
  let len := (g.map (fun x => x.len)).getD ((d.vol.cart.map (fun k => k.len)).getD 0)
  (d.locateTo len ((g.map (fun x => x.endSheaf)).getD 0) ((g.map (fun x => x.endPos)).getD 0 - 1)).fly c (.load 2 0)

/-- The volume opens: its handle, state and session (R212, R213), and in a widened set its stripes (R347). -/
def Dev.openVolume (d : Dev) (c : Nat) (v : Volume) : Dev :=
  let d1 := ((d.volStamp (some c)).2).onVol (fun x => { x with st := (if v.sealed then .sealed else .opened), loads := x.loads + 1 })
  let fs := (d1.vol.cart.map (fun k => k.dataFolios v.volumeId)).getD []
  ((if d1.widen then d1.resetStripes fs else d1).onCart (fun k => { k with threaded := true })).onCtx c (fun x => { x with vh := v.handle })

/-- A volume whose end was unclean is recovered (R224): a C1 event names the session and the checkpoint, and the order epoch advances (R213). -/
def Dev.recovered (d : Dev) (c : Nat) (v : Volume) : Dev :=
  let ck := (v.lastCkpt.map (fun k => (k.firstFolio, k.request.t))).getD (0, 0)
  (d.note { cls := .c1, unit := ⟨clusterUnit c, 0xFFFF⟩, cat := 8, d0 := toW64 ((v.session - 1) * 2 ^ 48 + ck.1), d1 := toW64 ck.2 }).epochAdvance

/-- LOAD opens the volume that it has in hand, after an unclean end with its recovery. -/
def Dev.loadEnd (d : Dev) (c : Nat) (unclean : Bool) : Dev :=
  match d.vol.loaded with
  | none => d
  | some v =>
    if !d.setDone 0x51 then d else
    let e := (d.openVolume c v).when unclean (fun e => e.recovered c v)
    e.finish c St.ok (some (toW64 v.handle.toNat)) 0 0

/-- LOAD has found its volume: it is taken in hand; after an unclean end of one that is not sealed a colophon is written first, in a run of
its own (R224). Where its buffer waits, so does LOAD. -/
def Dev.loadFound (d : Dev) (c : Nat) (id : W64) (f : Found) : Dev :=
  if !d.setDone 0x51 then d else
  let handle := d.clk.member.toNat * 2 ^ 29 + (d.vol.loads + 1) % 8192 * 2 ^ 16 + f.session
  let a := (d.restTape.orderAll ⟨Hc.readOff, 0xFF, 0, 0⟩).onVol (fun v => { v with loaded := some (f.volume id handle), scan := [] })
  let b := a.onSh (fun x => { x with run := .idle, sheaf := f.endSheaf, pos := f.endPos })
  if f.clean ∨ f.sealed then b.loadEnd c (!f.clean)
  else match b.colophonForme false with
    | some e => e.fly c (.load 3 0)
    | none => d.awaitForme

/-- A pass of LOAD over the data band is done: the volume is found, or a checkpoint of the chain is located that has not been read, or LOAD
fails and names the folio concerned (R223 to R225). -/
def Dev.loadSearch (d : Dev) (c aim : Nat) : Dev :=
  match d.vol.cart with
  | none => d
  | some k =>
    match k.volumeId with
    | none => d.openFailed c St.noCartridge
    | some id =>
      match searchScan id k.len d.vol.scan with
      | .noColophon => d.openFailed c St.mediumUnrecovered
      | .tooLong folio => d.openFailed c St.volumeFull (toW64 folio)
      | .lacks x => if aim = x.1 + 1 then d.openFailed c St.mediumUnrecovered (toW64 x.1)
          else (d.locateTo ((lengthFrom id d.vol.scan).getD k.len) x.2.1 x.2.2.1).fly c (.load 2 (x.1 + 1))
      | .found f => d.loadFound c id f

/-- A stage of LOAD is done: threading, the ring pass, a pass over the data band, the writing of a colophon. -/
def Dev.loadStep (d : Dev) (c stage aim : Nat) : Dev :=
  match stage with
  | 0 => d.loadThreaded c
  | 1 => d.loadRing c
  | 2 => d.loadSearch c aim
  | _ => if d.sh.colophon.isSome ∨ d.sh.running then d else d.loadEnd c true

/-! ### FLUSH, UNLOAD and SEAL (R91, R200, R226) -/

/-- A flush part starts: the records it needs are sealed, and it ends at once where nothing waits (R91, R142), or where writing is halted or the
volume is full (R198, R206). -/
def Dev.startFlush (d : Dev) (c : Nat) (f : Flight) (op : Nat) : Dev :=
  let e := ((d.startSet op 0).fly c f).sealRecords.settleFlushes
  match e.sh.refusal with
  | some st => if (e.flightOf c).any Flight.waitsTape then e.failWith c st (toW64 (e.sh.haltFolio.getD 0)) else e
  | none => e

/-- FLUSH. -/
def execFlush (c : Nat) (s : State) : Out :=
  s.insn c 0x55 (fun d0 =>
    let d := d0.issue c
    match d.volumeCheck c 0x55 with
    | some st => d.failWith c st
    | none => d.startFlush c (.flush (d.orderStamp c)) 0x55)

/-- UNLOAD: of an OPEN volume its flush part starts; of a SEALED one nothing is written (R226). -/
def execUnload (c : Nat) (s : State) : Out :=
  s.insn c 0x52 (fun d0 =>
    let d := d0.issue c
    match d.volumeCheck c 0x52 with
    | some st => d.failWith c st
    | none =>
      if d.motionRefused then d.failWith c St.transportFault
      else if d.vol.st = .sealed then (d.startSet 0x52 0).fly c (.unload 2 (d.orderStamp c))
      else d.startFlush c (.unload 0 (d.orderStamp c)) 0x52)

/-- SEAL. -/
def execSeal (c : Nat) (s : State) : Out :=
  s.insn c 0x54 (fun d0 =>
    let d := d0.issue c
    match d.volumeCheck c 0x54 with
    | some st => d.failWith c st
    | none => if d.motionRefused then d.failWith c St.transportFault
      else d.startFlush c (.seal false (d.orderStamp c)) 0x54)

/-- UNLOAD's colophon is written: the tape is rewound (R226). -/
def Dev.unloadWritten (d : Dev) (c : Nat) (at' : Stamp) : Dev :=
  if d.sh.colophon.isSome ∨ d.sh.running ∨ d.tc.st ≠ .run ∨ d.tc.profile.kind ≠ 0 then d else d.rewind.fly c (.unload 2 at')

/-- UNLOAD finishes with the tape rewound: the cartridge is unthreaded, the state PRESENT, the handle invalid; the order epoch advances (R213, R226). -/
def Dev.unloadDone (d : Dev) (c : Nat) : Dev :=
  if d.tc.st ≠ .run ∨ d.tc.profile.kind ≠ 0 ∨ !d.setDone 0x52 then d else
  let sd := d.volStamp (some c)
  let e := sd.2.closeVolume.onVol (fun v => { v with st := .present, cart := v.cart.map (fun k => { k with threaded := false }) })
  ((e.onTc (fun t => { t with posValid := false })).epochAdvance sd.1.after).finish c St.ok none 0 0

/-- SEAL finishes: the volume is SEALED (R226). -/
def Dev.sealDone (d : Dev) (c : Nat) : Dev :=
  if d.sh.colophon.isSome ∨ d.sh.running ∨ !d.setDone 0x54 then d else
  ((((d.volStamp (some c)).2).onVolume (fun v => { v with sealed := true })).onVol (fun v => { v with st := .sealed })).finish c St.ok none 0 0

/-! ### MIGRATE (R234) -/

/-- MIGRATE: the checks; the handle of its target names another member that is in the ring. -/
def execMigrate (c : Nat) (s : State) : Out :=
  s.insn c 0x56 (fun d0 =>
    let d := d0.issue c
    match d.volumeCheck c 0x56 with
    | some st => d.failWith c st
    | none =>
      let t := (d.ctxs.get c).ga
      if 2 ^ 32 ≤ t.toNat ∨ !d.cs.inRing ∨ !d.others.contains (fieldOf t 31 29) then d.failWith c St.badHandle
      else d.startFlush c (.migrate (toW32 t.toNat) (d.orderStamp c)) 0)

/-- Sealed length of the record at a stream offset, as its header on the tape gives it. -/
def Dev.recordBytes (d : Dev) (off : Nat) : Nat :=
  let fs := d.onTape.map (fun o => o.forme)
  match streamSlice fs off 64 (fs.length + 1) with
  | some h => 80 + beNat (sliceBytes h 8 4)
  | none => 0

/-- Records that hold a byte visible at a stamp: their stream offsets, in source order. -/
def Dev.visibleRecords (d : Dev) (s : Stamp) : List Nat :=
  match d.vol.loaded with
  | none => []
  | some v =>
    let es := v.entries.filter (fun e => match e.key with
      | some (_, sess, t) => laterWrite (sess, t) (v.session, s)
      | none => false)
    (((es.filter (fun e => !(visibleOf es e).isEmpty)).filterMap (fun e => match e with
      | .extent _ _ _ r _ _ _ _ _ => some r
      | _ => none)).eraseDups).mergeSort (fun a b => decide (a ≤ b))

/-- MIGRATE finishes: gd is the total length of the records copied. -/
def Dev.migrateDone (d : Dev) (c : Nat) (s : Stamp) : Dev :=
  if !d.coveredDurable (d.ctxs.get c).vh s then d else
  d.finish c St.ok (some (toW64 ((d.visibleRecords s).foldl (fun a r => a + d.recordBytes r) 0))) 0 0

/-! ### Threading (R78, R274) -/

/-- THREAD finishes once LEADER_SENSE has gone inactive in forward motion, so that TC_POS is valid. -/
def Dev.threadDone (d : Dev) (c : Nat) : Dev :=
  if !d.tc.posValid then d else (d.restTape.onCart (fun k => { k with threaded := true })).finish c St.ok none 0 0

/-- Unthreading finishes; TC_POS is no longer valid. -/
def Dev.unthreadDone (d : Dev) (c : Nat) : Dev :=
  ((d.restTape.onCart (fun k => { k with threaded := false })).onTc (fun t => { t with posValid := false })).finish c St.ok none 0 0

/-! ### FENCE, ABORT and key erases -/

/-- Whether a FENCE still waits: a command of its handle that arrived before it has not completed (Table 3.12). -/
def Dev.fenceWaits (d : Dev) (c : Nat) : Bool :=
  match d.cmdOf c with
  | none => false
  | some m => d.cmds.any (fun e => e.id != m.id && e.sqe.vh == (d.ctxs.get c).vh && e.arrival.lt m.arrival && e.done.isNone)

/-- FENCE finishes, with every engine's instruction cache invalidated where asked (R61). -/
def Dev.fenceDone (d : Dev) (c : Nat) (inv : Bool) : Dev :=
  if d.fenceWaits c then d else
  (if inv then { d with engines := ⟨(d.engines.cells.map (fun e => (e.1, { e.2 with lines := [] }))).filter (fun e => decide (e.2 ≠ Engine.reset))⟩ }
   else d).finish c St.ok none 0 0

/-- Whether a completion of a command that a revocation ended is still to be written (R158). -/
def Dev.revokedLeft (d : Dev) : Bool := d.cmds.any (fun m => m.done.any (fun k => k.status == St.keyRevoked))

/-- Whether a KEY.ERASE.NOW of a slot is under way: a KEY.ERASE completes after it (Table 7.6). -/
def Dev.erasingNow (d : Dev) (n : Nat) : Bool := !(d.flightsThat (fun f => match f with
  | .eraseNow t _ _ => t == n
  | _ => false)).isEmpty

/-! ### INSTRUCTION_FINISH (R95) -/

/-- Statuses that a cause outside the device gives an instruction that is under way. -/
def Flight.mayFail (f : Flight) (s : W16) : Bool :=
  match f with
  | .read r => s == (if r.opcode = 0x53 then St.endOfData else St.programFault) || (r.opcode != 0x44 && s == St.transportFault)
  | .compress _ _ _ _ => s == St.programFault
  | .decompress _ _ _ _ => s == St.programFault
  | .format _ _ => s == St.transportFault
  | .load _ _ => s == St.transportFault
  | .unload _ _ => s == St.transportFault
  | .seal _ _ => s == St.transportFault
  | .migrate _ _ => s == St.badHandle || s == St.wrongState || s == St.mediumUnrecovered || s == St.volumeFull || s == St.transportFault || s == St.memberLost
  | .move => s == St.transportFault
  | .seek => s == St.transportFault
  | .thread => s == St.transportFault
  | .unthread => s == St.transportFault
  | _ => false

/-- An instruction under way fails for a cause outside the device. -/
def Dev.flightFailed (d : Dev) (c : Nat) (f : Flight) (s : W16) : Dev :=
  match f with
  | .read _ => d.failRead c s
  | .compress _ _ _ _ => d.failOutput c s
  | .decompress _ _ _ _ => d.failOutput c s
  | .format _ _ => d.openFailed c s
  | .load _ _ => d.openFailed c s
  | .unload _ _ => d.forgetColophon.failWith c s
  | .seal _ _ => d.forgetColophon.failWith c s
  | .move => (d.dropMotion c).failWith c s
  | .seek => (d.dropMotion c).failWith c s
  | _ => d.failWith c s

/-- An instruction under way finishes, if its work is done. Moves and seeks finish at PROFILE_COMPLETE and HEAD_LOCK. -/
def Dev.flightDone (d : Dev) (c : Nat) (f : Flight) : Dev :=
  match f with
  | .read r => d.readDone c r
  | .compress cap size need _ => d.compressDone c cap size need
  | .decompress cap need taken got => d.decompressDone c cap need taken got
  | .format id n => d.formatStep c id n
  | .load n aim => d.loadStep c n aim
  | .unload 1 t => d.unloadWritten c t
  | .unload 2 _ => d.unloadDone c
  | .unload _ _ => d.settleFlushes
  | .seal true _ => d.sealDone c
  | .seal false _ => d.settleFlushes
  | .flush _ => d.settleFlushes
  | .migrate _ s => d.migrateDone c s
  | .erase n gone => if gone ∧ !d.erasingNow n then d.finish c St.ok none 0 0 else d
  | .eraseNow _ k gone => if gone ∧ !d.revokedLeft then d.finish c St.ok (some (toW64 k)) 0 0 else d
  | .abortWait t => if (d.cmd t).isNone then d.finish c St.ok (some 1) 0 0 else d
  | .fence inv _ => d.fenceDone c inv
  | .thread => d.threadDone c
  | .unthread => d.unthreadDone c
  | _ => d

/-- Instructions that a C4 halt leaves under way: the wait of an ABORT, and erases, whose slots are kept (R288). -/
def Flight.outlastsHalt : Flight → Bool
  | .abortWait _ => true
  | .erase _ _ => true
  | .eraseNow _ _ _ => true
  | _ => false

/-- INSTRUCTION_FINISH: the device instruction of context `c` reaches its end, or is stopped by a cause outside the device. -/
def execInstructionFinish (c : Nat) (cause : FinishCause) (s : State) : Out :=
  s.work (fun d =>
    match d.flightOf c with
    | none => d
    | some f =>
      if d.er.halted && !f.outlastsHalt then d else
      match cause with
      | .done => (d.flightDone c f).retarget
      | .checked good => (match f with
          | .format (some id) 2 => d.formatChecked c id good
          | _ => d)
      | .failed st => if f.mayFail st then d.flightFailed c f st else d)

end Sys2Proof.Machine
end

