-- ==== Sys2Proof/Machine/Transport.lean ====
section
/-! DEFINITION. The transport control engine: base edges, encoders, profiles, head seeks, inputs, faults and reactions, arming (R251, R252,
R260, R261, R265 to R279). -/

namespace Sys2Proof.Machine

/-! ### Reactions (R276, R277) -/

/-- The engine as a unit, or one of its slots. -/
def tcUnit : UnitId := ⟨0x10, 0xFFFF⟩

/-- TC_FAULT as it reads: bit 8 is the OR of sat_slot (Table 12.9). -/
def Dev.faultWord (d : Dev) : W32 :=
  let v := d.w1cB Reg.TC_FAULT 0
  putField v 8 8 (b2n (fieldOf v 18 11 != 0))

/-- A reaction by its code in TC_REACT and TC_SnCFG (Table 12.10). -/
def reactOf (x : Nat) : React :=
  if x = 0 then .log else if x = 1 then .hold else if x = 2 then .stop else if x = 3 then .quickstop else .safe

/-- Severity, and the code of TC_STAT.reaction. -/
def React.code : React → Nat
  | .log => 0
  | .hold => 1
  | .stop => 2
  | .quickstop => 3
  | .safe => 4

/-- A move instruction, a LOCATE, or a FORMAT or LOAD, which a transport fault ends (R225, R277; log entry 101). -/
def Flight.moves : Flight → Bool
  | .format _ _ => true
  | .load _ _ => true
  | .move => true
  | .seek => true
  | .thread => true
  | .unthread => true
  | .unload 2 _ => true
  | .read r => r.opcode == 0x53
  | _ => false

/-- Every move instruction, LOCATE, FORMAT and LOAD in flight ends with S_TRANSPORT_FAULT; a run and a read turn are interrupted (R277). -/
def Dev.motionEnds (d : Dev) : Dev :=
  let d1 := d.each (d.flightsThat Flight.moves) (fun d c => match d.flightOf c with
    | some f => d.flightFailed c f St.transportFault
    | none => d)
  let d2 := d1.faultRun
  if d2.sh.readTurn then
    ((d2.failReads ((d2.sh.turnReads ++ d2.sh.waitTape).map (fun x => x.1))).onSh (fun x => { x with turnReads := [], waitTape := [] })).endTurn
  else d2

/-- STOP and QUICKSTOP: a profile to 0, then SAFE. -/
def Dev.beginStopping (d : Dev) (quick : Bool) : Dev :=
  let d1 := (d.onTc (fun t => { t with st := .stopping, reaction := (if quick then .quickstop else .stop), stopHold := 0, seeking := false, seekFor := none })).motionEnds
  (d1.stopProfile .stopFor).onTc (fun t => { t with profile := { t.profile with quick := quick } })

/-- The SAFE reaction. -/
def Dev.goSafe (d : Dev) : Dev := (d.onTc Tc.toSafe).motionEnds

/-- A reaction is taken where it is more severe than the one in force (R277); `slots` are those a HOLD freezes. -/
def Dev.react (d : Dev) (r : React) (slots : List Nat) : Dev :=
  match r with
  | .log => d
  | .hold => if d.tc.st = .safe then d else
      d.onTc (fun t => { t with servos := slots.foldl (fun m s => m.modify s (fun v => { v with held := true })) t.servos
                                reaction := if t.reaction = .log then .hold else t.reaction })
  | .stop => if d.tc.st = .run ∨ d.tc.st = .releasing then d.beginStopping false else d
  | .quickstop =>
    if d.tc.st = .run ∨ d.tc.st = .releasing then d.beginStopping true
    else if d.tc.st = .stopping ∧ d.tc.reaction = .stop then
      d.onTc (fun t => { t with reaction := .quickstop, profile := { t.profile with quick := true } })
    else d
  | .safe => if d.tc.st = .safe then d else d.goSafe

/-- All eight slots. -/
def allSlots : List Nat := List.range 8

/-- A fault (Table 12.4): latched, recorded with TC_FAULT and what it names, and its reaction taken. -/
def Dev.tcFault (d : Dev) (bit : Nat) (cls : EClass) (inst : Nat) (names : W64) (r : React) : Dev :=
  let d1 := d.setW1 Reg.TC_FAULT 0 bit
  (d1.raise { cls := cls, unit := ⟨0x10, inst⟩, cat := 0x0A, d0 := toW64 d1.faultWord.toNat, d1 := names }).react r allSlots

/-- A reaction field of TC_REACT. -/
def Dev.reactField (d : Dev) (hi lo : Nat) : React := reactOf (d.rf Reg.TC_REACT hi lo)

/-! ### Encoders (R261, R272) -/

/-- A 32-bit signed count. -/
def wrap32 (x : Int) : Int := (BitVec.ofInt 32 x).toInt

/-- Counts per revolution; 0 is treated as 1. -/
def Dev.cpr (d : Dev) : Nat := max 1 (d.rf Reg.TC_ENCCFG 31 16)

/-- The +1 or -1 of a ×4 decode from old to new levels of A and B when one of them changed. -/
def quadStep (a0 a1 b1 : Bool) : Int :=
  -- A leading B: 00, 10, 11, 01
  let fwd := if a0 != a1 then (a1 != b1) else (a1 == b1)
  if fwd == Config.encALeads then 1 else -1

/-- Levels of an encoder in `encAB`: bits 0 and 1 supply A and B, bits 2 and 3 take-up. -/
def Tc.encLevel (t : Tc) (i : Nat) : Bool := t.encAB.testBit i

/-- Storing new levels. -/
def setLevels (v base : Nat) (a b : Bool) : Nat :=
  v - (b2n (v.testBit base) * 2 ^ base + b2n (v.testBit (base + 1)) * 2 ^ (base + 1)) + (b2n a * 2 ^ base + b2n b * 2 ^ (base + 1))

/-- QUADRATURE_EDGE: a filtered edge changes a count, or, with both channels changed, counts a count error (R272). -/
def execQuadratureEdge (takeUp a b : Bool) (s : State) : Out :=
  s.live (fun d =>
    let base := if takeUp then 2 else 0
    let a0 := d.tc.encLevel base
    let b0 := d.tc.encLevel (base + 1)
    let d1 := d.onTc (fun t => { t with encAB := setLevels t.encAB base a b })
    if a0 ≠ a ∧ b0 ≠ b then
      let d2 := if takeUp then d1.bumpW1 Reg.TC_ENCERR 0 31 16 else d1.bumpW1 Reg.TC_ENCERR 0 15 0
      (d2.onTc (fun t => { t with errAt := (t.errAt.filter (fun x => decide (d.clk.now < x + msTicks))) ++ [d.clk.now] })).note
        { cls := .c1, unit := tcUnit, cat := 0x0A, d0 := toW64 d2.faultWord.toNat, d1 := toW64 (b2n takeUp) }
    else if a0 = a ∧ b0 = b then d1
    else
      let n := quadStep a0 a b
      d1.onTc (fun t => if takeUp then { t with encT := wrap32 (t.encT + n) } else { t with encS := wrap32 (t.encS + n) }))

/-- A root in µm whose rounding spec/ does not give. -/
def rootOf (num den draw : Nat) : Nat :=
  if den = 0 then 0 else
  let r := isqrt (num / den)
  r + (if r * r * den = num then 0 else b2n (Config.roundUp draw))

/-- Counts moved over the window. -/
def moved (w : List Int) : Int :=
  match w, w.getLast? with
  | x :: _, some y => wrap32 (y - x)
  | _, _ => 0

/-- The number of thresholds passed, with hysteresis `h` (R260). -/
def bandOf (cur x h : Nat) (ths : List Nat) : Nat :=
  let up := (ths.filter (fun t => decide (t + h ≤ x))).length
  let down := (ths.filter (fun t => decide (t < x + h))).length
  max up (min cur down)

/-- Tape velocity in m/s as W32: a reel's rate in rev/s as W32 times 2π times its radius in µm (R261; log entries 29 and 30). -/
def turnSpeed (rate : Int) (radius draw : Nat) : Int := w32Clamp (roundDiv (rate * (radius : Int) * 6283185307179586476925) (10 ^ 27) draw)

/-- The latch of both counters: window, overspeed, radii, tape velocity and position, bands (R251, R260, R261, R272). The second part tells
whether more than max_counts fell in the period. -/
def Dev.latchEncoders (d : Dev) (draw : Nat) : Bool × Dev :=
  let t := d.tc
  let keep := fun (w : List Int) (x : Int) => let l := w ++ [x]; l.drop (l.length - 1025)
  let ws := keep t.winS t.encS
  let wt := keep t.winT t.encT
  let cs := (moved ws).natAbs
  let ct := (moved wt).natAbs
  let k := d.rf Reg.TC_REELK 23 0
  let ok := decide (64 ≤ cs) && decide (64 ≤ ct)
  let rS := if ok then rootOf (k * 10000 * ct * ct) (cs * cs + ct * ct) draw else t.rS
  let rT := if ok then rootOf (k * 10000 * cs * cs) (cs * cs + ct * ct) (draw + 1) else t.rT
  let div := d.rf Reg.TC_TIMER 12 0
  let velS := Config.reelRate ws d.cpr div
  let velT := Config.reelRate wt d.cpr div
  let vel := if rT = 0 then 0 else turnSpeed velT rT (draw + 2)
  let rad := [d.rf Reg.TC_RADBND 9 0 * 100, d.rf Reg.TC_RADBND 19 10 * 100, d.rf Reg.TC_RADBND 29 20 * 100]
  let spd := [d.rf Reg.TC_SPDBND 3 0, d.rf Reg.TC_SPDBND 7 4, d.rf Reg.TC_SPDBND 11 8].map (fun s => (150 + 30 * s) * 2 ^ 24)
  let lim := d.rf Reg.TC_ENCCFG 15 8
  let above := decide (lim < (wrap32 (t.encS - t.latchS)).natAbs) || decide (lim < (wrap32 (t.encT - t.latchT)).natAbs)
  (above, d.onTc (fun t =>
    { t with winS := ws, winT := wt, latchS := t.encS, latchT := t.encT, rS := rS, rT := rT, velS := velS, velT := velT, vel := vel
             posW := t.posW + vel * (div : Int)
             rbandS := (if rS = 0 then t.rbandS else bandOf t.rbandS rS 250 rad), rbandT := (if rT = 0 then t.rbandT else bandOf t.rbandT rT 250 rad)
             sband := bandOf t.sband (vel.natAbs * 100) (15 * 2 ^ 24) spd }))

/-! ### The profile generator (R266, R267) -/

/-- A velocity profile's target in m/s as W32, rounded towards 0 (`up` 0) or away from it (`up` 1). -/
def Profile.goal (p : Profile) (up : Nat) : Int :=
  if p.toZero then 0 else
  let v := ((((15 + 3 * p.step) * 2 ^ 24 + 9 * up) / 10 : Nat) : Int)
  if p.reverse then -v else v

/-- The limit of the acceleration, in m/s² × 2^24: TC_PROF.accel, or q_accel in a QUICKSTOP (Table 12.11, R276). -/
def Dev.accLimit (d : Dev) : Int :=
  (((if d.tc.profile.quick then d.rf Reg.TC_PROF 31 24 else max 1 (d.rf Reg.TC_PROF 15 8)) * 2 ^ 24 / 10 : Nat) : Int)

/-- The most by which the acceleration changes in a base period, in m/s² × 2^24: TC_PROF.jerk; a QUICKSTOP has no such limit. -/
def Dev.jerkLimit (d : Dev) : Int := ((max 1 (d.rf Reg.TC_PROF 23 16) * 2 ^ 24 * d.rf Reg.TC_TIMER 12 0 / 10 ^ 7 : Nat) : Int)

/-- The nearest number of a range. -/
def clampTo (lo hi x : Int) : Int := if x < lo then lo else if hi < x then hi else x

/-- The acceleration of the next base period: one that the limits of R266 allow, otherwise a free value (log entry 8). -/
def Dev.nextAcc (d : Dev) : Int :=
  let p := d.tc.profile
  let a := Config.profileAcc d.draws
  let j := d.jerkLimit
  clampTo (-d.accLimit) d.accLimit (if p.quick then a else clampTo (p.acc - j) (p.acc + j) a)

/-- The setpoints one base period on; a position profile does not go beyond its cruise speed; while the brake is being released the velocity is held at 0 (R278). -/
def Dev.profileEdge (d : Dev) : Dev :=
  let p := d.tc.profile
  if d.tc.st = .safe ∨ d.tc.st = .releasing then d else
  let div : Int := d.rf Reg.TC_TIMER 12 0
  let acc := if p.kind = 0 then 0 else d.nextAcc
  let v := w32Clamp (p.vel + roundDiv (acc * div) (10 ^ 8) (d.draws + 1))
  let top : Int := max ((15 + 3 * p.step) * 2 ^ 24 / 10 : Nat) p.vel.natAbs
  let vel := if p.kind = 2 then clampTo (-top) top v else v
  ({ d with draws := d.draws + 2 }).onTc (fun t => { t with profile := { p with acc := acc, vel := vel, pos := p.pos + vel * div } })

/-- The setpoint has reached the target of its profile: the velocity of a step, or rest at a position to the micrometre that TC_POS counts in,
with no more acceleration left than the jerk limit takes off in a period (R266). -/
def Dev.profileThere (d : Dev) : Bool :=
  let p := d.tc.profile
  (p.quick || decide (p.acc.natAbs ≤ d.jerkLimit.natAbs))
    && (if p.kind = 2 then p.vel == 0 && decide ((p.pos - p.target).natAbs < 100 * 2 ^ 24) && decide (64 ≤ p.tolCount)
        else p.vel == p.goal 0 || p.vel == p.goal 1)

/-- PROFILE_COMPLETE: the setpoint has reached its target, at a position within pos_tol for 64 periods (R266). The instruction, the run start
or the turn that asked for it goes on (R267, R192). -/
def execProfileComplete (s : State) : Out :=
  s.whenDev (fun d => d.working && d.tc.profile.kind != 0 && d.profileThere) (fun d0 =>
    let d := (d0.stamp 0x10).2
    let p := d.tc.profile
    let q : Profile := { p with kind := 0, asker := .none, acc := 0, quick := false, pos := if p.kind = 2 then p.target else p.pos }
    let d1 := d.onTc (fun t => { t with profile := q })
    match p.asker with
    | .insn c => d1.finish c St.ok none 0 0
    | .runStart => d1.runReached
    | .turn => d1.turnStopped
    | _ => d1)

/-! ### Faults that the engine finds itself (R265, R269, R270, R272) -/

/-- A slot is in use with a source. -/
def Dev.slotUses (d : Dev) (src s : Nat) : Bool := d.slotSrc s == src && d.slotMode s != .off

/-- SATURATION_FAULT: satcount exceeds the slot's limit, once per run of saturated samples (R265). -/
def execSaturationFault (slot : Nat) (s : State) : Out :=
  s.whenDev (fun d =>
      let lim := d.rf (slotReg Reg.TC_SSATLIM slot) 23 0
      d.alive && decide (slot < 8) && lim != 0 && decide (lim < (d.tc.servos.get slot).satCount) && !(d.tc.servos.get slot).satRaised)
    (fun d =>
      let d1 := (d.onServo slot (fun v => { v with satRaised := true })).setW1 Reg.TC_FAULT 0 (11 + slot)
      (d1.note { cls := .c2, unit := ⟨0x10, slot⟩, cat := 0x0A, d0 := toW64 d1.faultWord.toNat, d1 := toW64 slot }).react
        (reactOf (d.rf (slotReg Reg.TC_SCFG slot) 18 16)) [slot])

/-- Consecutive missing samples of a PES source, and whether their fault has been raised. -/
def Tc.missOf (t : Tc) (source : Nat) : Nat × Bool := if source = 0 then (t.miss0, t.pesRaised0) else (t.miss1, t.pesRaised1)
def Dev.missLimit (d : Dev) : Nat := max 1 (d.rf Reg.TC_PESCFG 3 0)

/-- PES_FAULT: miss_limit consecutive samples of a source are missing: HOLD of the slots that use it, the run interrupted (R269). -/
def execPesFault (source : Nat) (s : State) : Out :=
  s.whenDev (fun d => d.alive && decide (source < 2) && d.tc.st != .safe && decide (d.missLimit ≤ (d.tc.missOf source).1) && !(d.tc.missOf source).2
      && allSlots.any (d.slotUses (0x10 + source))) (fun d =>
    let slots := allSlots.filter (d.slotUses (0x10 + source))
    let d1 := d.onTc (fun t => { t with pesRaised0 := t.pesRaised0 || source == 0, pesRaised1 := t.pesRaised1 || source != 0
                                        reaction := if t.reaction = .log then .hold else t.reaction
                                        servos := slots.foldl (fun m j => m.modify j (fun v => { v with heldPes := true })) t.servos })
    (d1.tcFault 9 .c2 0xFFFF (toW64 source) .log).faultRun)

/-- SENSOR_RAIL_FAULT: a value has stood at a rail for more than the rail count (R270). -/
def execSensorRailFault (port channel : Nat) (s : State) : Out :=
  s.whenDev (fun d =>
      let n := d.rf (Reg.TC_SPCFG + 4 * port) 7 0
      d.alive && decide (port < 2) && decide (channel < 4) && n != 0 && decide (n < d.tc.rails.get (4 * port + channel))
        && d.tc.rails.get (8 + 4 * port + channel) == 0)
    (fun d => (d.onTc (fun t => { t with rails := t.rails.set (8 + 4 * port + channel) 1 })).tcFault 10 .c2 0xFFFF
      (toW64 (port * 256 + channel)) (d.reactField 14 12))

/-- Count errors of the last millisecond. -/
def Dev.countErrors (d : Dev) : Nat := (d.tc.errAt.filter (fun x => decide (d.clk.now < x + msTicks))).length

/-- ENCODER_FAULT: more than err_limit count errors in 1 ms (R272); TC_POS is no longer valid (R274). -/
def execEncoderFault (s : State) : Out :=
  s.whenDev (fun d => d.alive && decide (d.rf Reg.TC_ENCCFG 7 0 < d.countErrors)) (fun d =>
    (d.onTc (fun t => { t with posValid := false, errAt := [] })).tcFault 6 .c2 0xFFFF 0 (d.reactField 11 9))

/-! ### The base edge (R251) -/

/-- The codes at the DACs: those computed in the previous period, in the port's coding, on the channels that the port shifts (R271). -/
def Dev.applyOutputs (d : Dev) : Dev :=
  d.each (List.range 8) (fun d ch =>
    let c := d.tc.codes.get ch
    let x := if d.rf (Reg.TC_DPCFG + 4 * (ch / 4)) 29 29 = 1 then c ^^^ 0x8000 else c
    if ch % 4 ≤ d.rf (Reg.TC_DPCFG + 4 * (ch / 4)) 31 30 then d.onTc (fun t => { t with shifted := t.shifted.set ch x }) else d)

/-- The sensor ports are read: channels in use, and the samples at a rail in a row (R270). -/
def Dev.readSensors (d : Dev) (codes : List (BitVec 16)) : Dev :=
  d.each (List.range 8) (fun d ch =>
    if ch % 4 ≤ d.rf (Reg.TC_SPCFG + 4 * (ch / 4)) 31 30 then
      let d1 := d.onTc (fun t => { t with sensors := t.sensors.set ch (codes.getD ch 0) })
      let x := d1.sensor ch
      if x = 0x8000 ∨ x = 0x7FFF then d1.onTc (fun t => { t with rails := t.rails.modify ch (· + 1) })
      else d1.onTc (fun t => { t with rails := (t.rails.set ch 0).set (ch + 8) 0 })
    else d)

/-- TICK on every ACTIVE link (R242); a TICK more without a STATUS. -/
def Dev.sendTicks (d : Dev) : Dev :=
  (d.each allLinks (fun d t => if d.linkActive t then
    d.onLink t (fun l =>
      { l with tickSeq := (l.tickSeq + 1) % 256, silent := l.silent + 1, waited := l.waited + 1, ctl := [tickBlock (l.tickSeq + 1)] }) else d)).onTc (fun t => { t with tick := t.tick + 1 })

/-- The PES samples of the TICK before: their means, and the missing samples in a row (R242, R269, log entry 33). -/
def Dev.collectPes (d : Dev) (draw : Nat) : Dev :=
  let m0 := d.pesMean 0 draw
  let m1 := d.pesMean 1 (draw + 1)
  d.onTc (fun t => { t with pesMean0 := m0, pesMean1 := m1, miss0 := (if m0.isNone then t.miss0 + 1 else 0), miss1 := (if m1.isNone then t.miss1 + 1 else 0)
                            pesRaised0 := t.pesRaised0 && m0.isNone, pesRaised1 := t.pesRaised1 && m1.isNone })

/-- The PES source of the head: that of the slot whose setpoint is the head sheaf position, PES0 if there is none (log entry 34). -/
def Dev.headPes (d : Dev) : Nat := if allSlots.any (fun s => d.slotSpSrc s == 2 && d.slotSrc s == 0x11) then 1 else 0

/-- Base periods in a row within the lock window (R268), within the position tolerance (R266), and at zero velocity in a stop (R276). -/
def Dev.countHolds (d : Dev) : Dev :=
  let x := d.pesSum d.headPes
  let locked := x.2 != 0 && decide (x.1.natAbs ≤ d.rf Reg.TC_HEADCFG 31 16 * x.2)
  let p := d.tc.profile
  let near := p.kind == 2 && d.tc.posValid && decide ((d.tc.posW - p.target).natAbs ≤ d.rf Reg.TC_PROF 7 0 * 100000 * 2 ^ 24)
  d.onTc (fun t => { t with lockCount := (if t.seeking && locked then t.lockCount + 1 else 0)
                            stopHold := (if t.st = .stopping ∧ p.kind = 0 then t.stopHold + 1 else 0)
                            profile := { p with tolCount := if near then p.tolCount + 1 else 0 } })

/-- TC_FAULT bits are set again (R277). -/
def Dev.relatch (d : Dev) : Dev :=
  ({ d with w1c := d.w1c.set (regKey Reg.TC_FAULT 0) (d.w1cB Reg.TC_FAULT 0 ||| toW32 d.tc.relatch) }).onTc (fun t => { t with relatch := 0 })

/-- The time of an edge, and the outputs it applies; in SAFE the drive goes off and the brake is applied (R251, R276). -/
def Dev.edgeOutputs (d : Dev) : Dev :=
  let d1 := ({ d with draws := d.draws + 6 }).advanceBy (d.rf Reg.TC_TIMER 12 0 * 1024 / 100)
  (d1.applyOutputs.onTc (fun t => if t.st = .safe then t.unpower else t)).relatch

/-- What an edge samples: sensors, encoders with their overspeed fault, the PES of the TICK before; then TICK (R251). -/
def Dev.edgeInputs (d : Dev) (codes : List (BitVec 16)) (draw : Nat) : Dev :=
  let e := (d.readSensors codes).latchEncoders draw
  let f := if e.1 ∧ e.2.tc.st ≠ .safe then e.2.tcFault 7 .c3 0xFFFF 0 .safe else e.2
  (((f.collectPes (draw + 3)).countHolds).sendTicks).onTc (fun t => { t with pes := Table.empty })

/-- SAMPLE_TIMER_EDGE: one base edge and the computation that follows it; `codes` are what the sensor ports read (R251, R252). The timer runs
from REFCLK, so none comes once that is lost (R13). -/
def execSampleTimerEdge (codes : List (BitVec 16)) (s : State) : Out :=
  s.whenDev (fun d => d.alive && d.clk.running) (fun d0 =>
    let k := d0.draws
    let h := (d0.edgeOutputs.edgeInputs codes k).profileEdge
    if h.tc.st = .safe then h else (h.runSlots (k + 5)).onTc (fun t => { t with edges := t.edges + 1 }))

/-! ### Head seeks (R268) -/

/-- HEAD_LOCK: the PES mean has stayed within lock_nm for lock_samples periods. -/
def execHeadLock (s : State) : Out :=
  s.whenDev (fun d => d.working && d.tc.seeking && decide (max 1 (d.rf Reg.TC_HEADCFG 15 0) ≤ d.tc.lockCount)) (fun d0 =>
    let d := ((d0.stamp 0x10).2).onTc (fun t => { t with seeking := false, seekFor := none, locked := true })
    match d0.tc.seekFor with
    | some c => (match d0.flightOf c with
        | some .seek => d.finish c St.ok none 0 0
        | _ => d)
    | none => d.turnLocked)

/-- HEAD_SEEK_TIMEOUT: 500 ms without lock; the head is left under the slot's control. What the seek was for ends with S_TRANSPORT_FAULT: the
instruction, the commands that a run was starting for, the read that a sweep was on its way to. -/
def execHeadSeekTimeout (s : State) : Out :=
  s.whenDev (fun d => d.working && d.tc.seeking) (fun d0 =>
    let d := ((d0.stamp 0x10).2).onTc (fun t => { t with seeking := false, seekFor := none })
    match d0.tc.seekFor with
    | some c => (match d0.flightOf c with
        | some f => d.flightFailed c f St.transportFault
        | none => d)
    | none =>
      let e := d.note { cls := .c2, unit := tcUnit, cat := 0x0A, d0 := toW64 d.faultWord.toNat, status := St.transportFault }
      if e.sh.run = .turning ∨ e.sh.run = .starting then e.faultRun
      else match (if e.sh.readTurn then e.sh.aim else none) with
        | some c => (e.failRead c St.transportFault).retarget
        | none => e.each e.opening (fun d c => d.openFailed c St.transportFault))

/-! ### Discrete inputs (R273 to R275) -/

/-- Whether the tape moves. -/
def Dev.tapeMoves (d : Dev) : Bool := d.tc.profile.kind != 0 || d.tc.profile.vel != 0 || d.tc.vel != 0

/-- Whether the tape moves forward: by its profile, by the take-up count, or because it is being threaded. -/
def Dev.tapeForward (d : Dev) : Bool :=
  decide (0 < d.tc.profile.vel) || decide (0 < moved (d.tc.winT ++ [d.tc.encT]))
    || !(d.flightsThat (fun f => match f with
        | .thread => true
        | .load _ _ => true
        | .format _ _ => true
        | _ => false)).isEmpty

/-- Contexts whose instruction is threading the cartridge. -/
def Dev.threading (d : Dev) : List Nat := d.flightsThat (fun f => match f with
  | .thread => true
  | .load n _ => n == 0
  | .format _ n => n == 0
  | _ => false)

/-- The beginning-of-tape mark: TC_POS is 0 there and valid (R274); the cartridge is threaded, and where it was being threaded the tape comes to
rest (R78). The first LOAD or FORMAT then seeks the head (R396). -/
def Dev.beginningOfTape (d : Dev) : Dev :=
  let d0 := (d.onTc (fun t => { t with posW := 0, posValid := true })).onCart (fun k => { k with threaded := true })
  let d1 := if d0.threading.isEmpty then d0 else d0.restTape
  match d1.opening with
  | c :: _ => if d1.vol.firstDone then d1 else (d1.onVol (fun v => { v with firstDone := true })).seekHead 0 (some c)
  | [] => d1

/-- The active level of an input (TC_DINCFGn.pol); ESTOP_N is active low. -/
def Dev.dinPol (d : Dev) (n : Nat) : Bool := n != 3 && d.rf (Reg.TC_DINCFG + 4 * n) 31 31 == 1

/-- M of an input's filter (R273). -/
def Dev.dinM (d : Dev) (n : Nat) : Nat := d.rf (Reg.TC_DINCFG + 4 * n) 30 27 + 1

/-- N of an input's filter: one outside floor(M ÷ 2) + 1 to M is treated as M (R273). -/
def Dev.dinN (d : Dev) (n : Nat) : Nat :=
  let k := d.rf (Reg.TC_DINCFG + 4 * n) 26 23 + 1
  if d.dinM n / 2 < k ∧ k ≤ d.dinM n then k else d.dinM n

/-- How many of an input's last M samples stand at a level; before the first sample it stood inactive (R273). -/
def Dev.dinCount (d : Dev) (n : Nat) (level : Bool) : Nat :=
  let w := (d.tc.din.get n).window
  let w := w.drop (w.length - d.dinM n)
  (w.filter (· == level)).length + (if level = d.dinPol n then 0 else d.dinM n - w.length)

/-- What a change of an input's filtered level does (R274, Table 12.4). -/
def Dev.dinChanged (d : Dev) (n : Nat) (act : Bool) : Dev :=
    if n = 0 ∧ !act ∧ d.threaded then d.tcFault 1 .c2 0xFFFF 0 .safe
    else if n = 1 ∧ !act ∧ d.tapeMoves then d.tcFault 2 .c2 0xFFFF 0 (d.reactField 2 0)
    else if n = 2 ∧ !act ∧ d.tapeForward then d.beginningOfTape
    else if n = 3 ∧ act then d.tcFault 0 .c2 0xFFFF 0 .safe
    else d

/-- A 1 MHz sample of an input, taken at time `at_`: its window and raw transitions, and the filtered level where N of the last M samples agree
on another (R273, R274). -/
def Dev.dinSample (d0 : Dev) (n at_ : Nat) (level : Bool) : Dev :=
  let d := d0.onTc (fun t => { t with din := t.din.modify n (fun x =>
    { x with raw := level, window := (x.window ++ [level]).drop (x.window.length + 1 - 16)
             flips := if level = x.raw then x.flips else (x.flips.filter (fun y => decide (at_ < y + 255 * msTicks))) ++ [at_] }) })
  let was := (d.tc.din.get n).active
  let goes := if was then !d.dinPol n else d.dinPol n
  if d.dinN n ≤ d.dinCount n goes then
    (d.onTc (fun t => { t with din := t.din.modify n (fun x => { x with active := !was, stuck := false, since := at_ }) })).dinChanged n (!was)
  else d

/-- DISCRETE_INPUT_CHANGE: 1 MHz samples of input `n`, the last of them now, go through its filter; its level changes once N of the last M samples
agree (R273). -/
def execDiscreteInputChange (n : Nat) (levels : List Bool) (s : State) : Out :=
  s.whenDev (fun d => d.alive && decide (n < 4)) (fun d0 =>
    let t0 := d0.clk.now
    d0.each (List.range levels.length) (fun d i => d.dinSample n (t0 - 1024 * (levels.length - 1 - i)) (levels.getD i false)))

/-- Raw transitions of an input within its window, up to now (R274). -/
def Dev.dinFlips (d : Dev) (n : Nat) : Nat :=
  ((d.tc.din.get n).flips.filter (fun y => decide (d.clk.now < y + d.rf (Reg.TC_DINCFG + 4 * n) 15 8 * msTicks))).length

/-- CHATTER_FAULT: more raw transitions of an input within its window than are allowed (R274). The transitions counted do not raise it again. -/
def execChatterFault (n : Nat) (s : State) : Out :=
  s.whenDev (fun d => d.alive && decide (n < 4) && decide (d.rf (Reg.TC_DINCFG + 4 * n) 22 16 < d.dinFlips n))
    (fun d => (d.onTc (fun t => { t with din := t.din.modify n (fun x => { x with flips := [] }) })).tcFault 3 .c2 0xFFFF (toW64 n) (d.reactField 5 3))

/-- Whether an input may be found stuck: LEADER_SENSE by TC_POS while it is valid, otherwise by the stuck field (R274). -/
def Dev.stuckPossible (d : Dev) (n : Nat) : Bool :=
  (d.tc.din.get n).active && (if n = 2 ∧ d.tc.posValid then decide (((d.rf Reg.TC_LEADCFG 15 0 * 100000 * 2 ^ 24 : Nat) : Int) < d.tc.posW)
    else d.rf (Reg.TC_DINCFG + 4 * n) 7 0 != 0)

/-- When an input becomes stuck: LEADER_SENSE by position at once, otherwise once it has been active for its limit (R274). -/
def Dev.stuckAt (d : Dev) (n : Nat) : Nat :=
  if n = 2 ∧ d.tc.posValid then d.clk.now else (d.tc.din.get n).since + d.rf (Reg.TC_DINCFG + 4 * n) 7 0 * 100 * msTicks + 1

/-- STUCK_FAULT: an input has been active past its limit. -/
def execStuckFault (n : Nat) (s : State) : Out :=
  s.whenDev (fun d => d.alive && decide (n < 4) && d.stuckPossible n && !(d.tc.din.get n).stuck) (fun d =>
    ((d.advanceTo (d.stuckAt n)).onTc (fun t => { t with din := t.din.modify n (fun x => { x with stuck := true }) })).tcFault (if n = 2 then 4 else 5) .c2 0xFFFF (toW64 n)
      (d.reactField 8 6))

/-- The last two samples of ESTOP_N are low. -/
def Dev.estopLow (d : Dev) : Bool :=
  let w := (d.tc.din.get 3).window
  decide (2 ≤ w.length) && (w.drop (w.length - 2)).all (!·)

/-- ESTOP_GATE: two samples of ESTOP_N low drive both outputs low in hardware until the next accepted arm (R275). -/
def execEstopGate (s : State) : Out :=
  s.whenDev (fun d => d.alive && d.estopLow) (fun d => d.onTc (fun t => { t.unpower with estopGate := true }))

/-! ### Arming and stopping (R276, R278) -/

/-- A sensor port's read ends within 6 µs (R270). -/
def Dev.portFits (d : Dev) (p : Nat) : Bool :=
  let a := Reg.TC_SPCFG + 4 * p
  let dv := d.rf a 15 8
  let sclk := if 2 ≤ dv ∧ dv ≤ 32 then dv else 32
  decide (d.rf a 23 16 * 20 + 16 * (d.rf a 31 30 + 1) * sclk * 10 ≤ 6000)

/-- Two slots route to the same drive channel. -/
def Dev.doubleRoute (d : Dev) : Bool :=
  allSlots.any (fun i => allSlots.any (fun j => decide (i < j) && decide (8 ≤ d.slotDst i) && decide (d.slotDst i < 16) && d.slotDst i == d.slotDst j))

/-- The first failing check of an arm (Table 12.7); 0 where it is accepted. -/
def Dev.armCheck (d : Dev) : Nat :=
  if d.tc.st ≠ .safe then 6 else if d.w1cB Reg.TC_FAULT 0 ≠ 0 then 1 else if (d.tc.din.get 3).active then 2
  else if d.rf Reg.TC_REELK 23 0 = 0 then 3 else if d.doubleRoute then 4 else if !(d.portFits 0 && d.portFits 1) then 5 else 0

/-- An accepted arm: drive enabled, the slots run anew with the profile velocity at 0. -/
def Tc.armed (t : Tc) : Tc :=
  { t with st := .releasing, reaction := .log, driveEn := true, estopGate := false, edges := 0, miss0 := 0, miss1 := 0, pesRaised0 := false
           pesRaised1 := false, stopHold := 0, codes := Table.empty
           servos := (List.range 8).foldl (fun m s => m.modify s (fun v => { Servo.reset with pendingCommit := v.pendingCommit, commitAsked := v.commitAsked, region := v.region })) t.servos
           profile := { t.profile with kind := 0, vel := 0, acc := 0, asker := .none } }

/-- TC_CTL.arm (R278): the outcome is in TC_STAT.arm_result; a refusal is a C0 event of the write. -/
def Dev.arm (d : Dev) (path : Path) (value : W32) : Dev :=
  let r := d.armCheck
  let d1 := d.setW1f Reg.TC_STAT 0 29 27 r
  if r = 0 then (d1.stamp 0x10).2.onTc Tc.armed else d1.regEvent path Reg.TC_CTL value

/-- BRAKE_RELEASE: release_ms after an accepted arm the engine enters RUN. -/
def execBrakeRelease (s : State) : Out :=
  s.whenDev (fun d => d.alive && d.tc.st == .releasing) (fun d =>
    (d.advanceBy (d.rf Reg.TC_BRKCFG 15 8 * msTicks)).onTc (fun t => { t with st := .run, brakeN := !t.estopGate }))

/-- STOP_HOLD_EXPIRE: 64 periods at zero velocity; the brake is applied. -/
def execStopHoldExpire (s : State) : Out :=
  s.whenDev (fun d => d.alive && d.tc.st == .stopping && decide (64 ≤ d.tc.stopHold) && d.tc.brakeN)
    (fun d => d.onTc (fun t => { t with brakeN := false }))

/-- DRIVE_DISABLE: apply_ms after the brake the drive goes off and the engine is SAFE. -/
def execDriveDisable (s : State) : Out :=
  s.whenDev (fun d => d.alive && d.tc.st == .stopping && decide (64 ≤ d.tc.stopHold) && !d.tc.brakeN) (fun d =>
    (d.advanceBy (d.rf Reg.TC_BRKCFG 7 0 * msTicks)).onTc (fun t => { t.toSafe with driveEn := false, reaction := t.reaction }))

/-- TC_FAULT bits whose cause is still present (R277). -/
def Dev.faultCauses (d : Dev) : Nat :=
  let bit := fun (n : Nat) (b : Bool) => if b then 2 ^ n else 0
  let lim := d.rf Reg.TC_ENCCFG 15 8
  let last := fun (w : List Int) => moved (w.drop (w.length - 2))
  bit 0 (d.tc.din.get 3).active + bit 1 (!(d.tc.din.get 0).active && d.threaded) + bit 2 (!(d.tc.din.get 1).active && d.tapeMoves)
    + bit 4 (d.tc.din.get 2).stuck + bit 5 ([0, 1, 3].any (fun n => (d.tc.din.get n).stuck)) + bit 6 (decide (d.rf Reg.TC_ENCCFG 7 0 < d.countErrors))
    + bit 7 (decide (lim < (last d.tc.winS).natAbs) || decide (lim < (last d.tc.winT).natAbs))
    + bit 9 (d.tc.pesRaised0 || d.tc.pesRaised1) + bit 10 ((List.range 8).any (fun c => d.tc.rails.get (8 + c) != 0))
    + allSlots.foldl (fun a j => a + bit (11 + j) (d.tc.servos.get j).satRaised) 0

/-- Writing 1 to TC_FAULT bits clears them; those whose cause is present are set again at the next base edge (R277). -/
def Dev.clearFaults (d : Dev) (value : W32) : Dev :=
  let old := d.w1cB Reg.TC_FAULT 0
  let hit := old &&& value
  ({ d with w1c := d.w1c.set (regKey Reg.TC_FAULT 0) (old &&& ~~~value) }).onTc (fun t => { t with relatch := t.relatch ||| (hit.toNat &&& d.faultCauses) })

/-- TC_SnCFG.commit (R264): the shadow applies at the slot's next sample. -/
def Dev.commitSlot (d : Dev) (s : Nat) : Dev := d.onServo s (fun v => { v with commitAsked := true, pendingCommit := true })

/-! ### The end of drain-shutdown (R325, R326) -/

/-- DRAIN_HALT: drain-shutdown has nothing left to write. The transport stops with the STOP reaction, and once the engine is SAFE the device halts. -/
def execDrainHalt (s : State) : Out :=
  s.whenDev (fun d => d.working && d.drained) (fun d => if d.tc.st = .safe then d.drainStop else d.react .stop [])

end Sys2Proof.Machine
end

