-- ==== Sys2Proof/Machine/Patches.lean ====
section
/-! DEFINITION. Microcode patches and engine sleep (18_engines_microcode_debug): patch images, quiescing clusters, malformed microwords and
the moves of contexts away from a fenced cluster. -/

namespace Sys2Proof.Machine

/-! ### Patch images (R373, R374) -/

/-- The number in bytes [a, a + n) of an image. -/
def imgField (bs : List Byte) (a n : Nat) : Nat := leNat (sliceBytes bs a n)

/-- Match entries, patch words and length of an image (Table 18.2). -/
def imgMatches (bs : List Byte) : Nat := imgField bs 12 2
def imgWords (bs : List Byte) : Nat := imgField bs 14 2
def imgLen (m w : Nat) : Nat := 32 + 8 * m + 20 * w + 196

/-- Match entry `i` of an image: ROM address, patch address and its zero field. -/
def imgMatch (bs : List Byte) (i : Nat) : Nat × Nat × Nat :=
  (imgField bs (32 + 8 * i) 2, imgField bs (34 + 8 * i) 2, imgField bs (36 + 8 * i) 4)

/-- Patch word `i` of an image. -/
def imgWord (bs : List Byte) (i : Nat) : BitVec 160 := BitVec.ofNat 160 (imgField bs (32 + 8 * imgMatches bs + 20 * i) 20)

/-- The header fields of an image but its stepping. -/
def imgHeaderOk (bs : List Byte) : Bool :=
  imgField bs 0 4 == 0x48435450 && imgField bs 4 2 == 1 && imgField bs 7 1 != 0 && decide (imgField bs 7 1 < 16)
    && decide (imgMatches bs ≤ 32) && decide (imgWords bs ≤ 512) && imgField bs 16 4 == imgLen (imgMatches bs) (imgWords bs)
    && imgField bs 20 12 == 0 && imgField bs (32 + 8 * imgMatches bs + 20 * imgWords bs + 97) 3 == 0

/-- The match entries of an image: permitted fields, and no ROM address twice. -/
def imgMatchesOk (bs : List Byte) : Bool :=
  let es := (List.range (imgMatches bs)).map (imgMatch bs)
  es.all (fun e => decide (e.1 < 0x4000) && decide (e.2.1 < imgWords bs) && e.2.2 == 0)
    && (es.map (fun e => e.1)).eraseDups.length == es.length

/-- The first check of R374 that fails, as EN_PSTAT.result; 0 where the image is accepted. -/
def Dev.imageCheck (d : Dev) (bs : List Byte) : Nat :=
  let body := 32 + 8 * imgMatches bs + 20 * imgWords bs
  let key := sliceBytes bs body 97
  if !imgHeaderOk bs then 1
  else if imgField bs 6 1 ≠ leNat (d.fuseBytes 5 1) then 2
  else if !imgMatchesOk bs then 3
  else if sha384 key ≠ d.fuseBytes 132 48 then 4
  else if !ecdsaOk key (bs.take body) (sliceBytes bs (body + 100) 96) then 5 else 0

/-- The patch state that an image gives a cluster. -/
def imgCluster (bs : List Byte) : Cluster :=
  { matches_ := (List.range (imgMatches bs)).foldl (fun t i => t.set i ⟨true, (imgMatch bs i).1, (imgMatch bs i).2.1⟩) Table.empty
    patch := (List.range (imgWords bs)).foldl (fun t i => t.set i (imgWord bs i)) Table.empty
    words := imgWords bs, version := toW32 (imgField bs 8 4), quiescing := false, unsigned := false }

/-- Clusters of an image's mask, lowest first. -/
def imgClusters (bs : List Byte) : List Nat := (List.range 4).filter (fun c => (imgField bs 7 1).testBit c)

/-- A cluster takes an image's patch state. -/
def Dev.install (d : Dev) (bs : List Byte) (cl : Nat) : Dev :=
  d.onEn (fun x => { x with clusters := x.clusters.set cl { imgCluster bs with quiescing := (x.clusters.get cl).quiescing } })

/-- A C0 event of an engine cluster's microcode (category 0x0E). -/
def Dev.patchEvent (d : Dev) (result : Nat) : Dev := d.c0 ⟨3, 0xFFFF⟩ 0x0E 0 (toW64 result)

/-- The result of a load. -/
def Dev.setPatchResult (d : Dev) (r : Nat) : Dev := d.setW1f Reg.EN_PSTAT 0 30 27 r

/-! ### Quiescing (R375, R376, R386) -/

/-- Whether a cluster holds no occupied context. -/
def Dev.clusterIdle (d : Dev) (cl : Nat) : Bool :=
  (List.range 64).all (fun i => (d.ctxs.get (64 * cl + i)).run == .free) && (cl != 3 || !d.er.recovering)

/-- The cluster a JTAG patch write names (Table 18.5). -/
def jtagCluster (v : BitVec 185) : Nat := fieldOf v 1 0

/-- A cluster begins to quiesce, or stops where nothing waits for it. -/
def Dev.quiesceFor (d : Dev) : Dev :=
  d.onEn (fun x =>
    let want := fun cl => (x.busy && x.todo.head? == some cl) || x.jtagWaiting.any (fun v => jtagCluster v == cl)
    { x with clusters := (List.range 4).foldl (fun (t : Table Cluster Cluster.reset) cl =>
        t.modify cl (fun k => { k with quiescing := want cl })) x.clusters })

/-- The load ends with a result. -/
def Dev.endLoad (d : Dev) (r : Nat) : Dev :=
  ((d.onEn (fun x => { x with busy := false, todo := [] })).setPatchResult r).quiesceFor

/-- An image staged from host memory is checked; where it is accepted its clusters quiesce one after the other. -/
def Dev.loadImage (d : Dev) (bs : List Byte) : Dev :=
  let r := d.imageCheck bs
  if r = 0 then
    (d.onEn (fun x => { x with staged := bs, retained := some bs, busy := true, todo := imgClusters bs })).quiesceFor
  else (d.setPatchResult r).patchEvent r

/-- The bytes of an image in host memory: its header gives its length, at most 10,724. -/
def Dev.imageBytes (d : Dev) (p : PortId) (a : Nat) : List Byte :=
  let h := d.hostRead p a 32
  d.hostRead p a (min (imgLen (imgMatches h) (imgWords h)) 10724)

/-- PATCH_LOAD_START: the effect of EN_PCTL.start (R375, R376). `ok` is whether the host completed the reads. -/
def Dev.patchStart (d : Dev) (path : Path) (v : W32) (mem : HostWrites) (ok : Bool) : Dev :=
  if d.en.busy then d.regEvent path Reg.EN_PCTL v else
  let p := portOf (fieldOf v 29 29)
  let a := d.addrB Reg.EN_PADDR_LO 0
  if a % 8 ≠ 0 then (d.setPatchResult 1).patchEvent 1
  else if !ok || !(d.port p).busMaster || !(d.port p).linkUp then d.setPatchResult 6
  else
    let d1 := d.place p mem
    d1.loadImage (d1.imageBytes p a)

/-- PATCH_LOAD_CANCEL: the effect of EN_PCTL.cancel (R376). -/
def Dev.patchCancel (d : Dev) : Dev := if d.en.busy then d.endLoad 7 else d

/-- A JTAG patch word is written (R386). -/
def Dev.jtagWrite (d : Dev) (v : BitVec 185) : Dev :=
  let a := fieldOf v 10 2
  d.onEn (fun x => { x with clusters := x.clusters.modify (jtagCluster v) (fun k =>
    { k with patch := k.patch.set a (BitVec.ofNat 160 (fieldOf v 170 11)), words := max k.words (a + 1), unsigned := true }) })

/-- JTAG words that wait for a cluster are written, in order. -/
def Dev.jtagWrites (d : Dev) (cl : Nat) : Dev :=
  (d.each (d.en.jtagWaiting.filter (fun v => jtagCluster v == cl)) Dev.jtagWrite).onEn (fun x =>
    { x with jtagWaiting := x.jtagWaiting.filter (fun v => jtagCluster v != cl) })

/-- CLUSTER_QUIESCED: a quiescing cluster holds no occupied context; it is written and takes commands again (R375, R386). -/
def execClusterQuiesced (cl : Nat) (s : State) : Out :=
  s.whenDev (fun d => d.working && decide (cl < 4) && (d.en.clusters.get cl).quiescing && d.clusterIdle cl) (fun d =>
    let mine := d.en.busy && d.en.todo.head? == some cl
    let d1 := if mine then (d.install d.en.staged cl).onEn (fun x => { x with todo := x.todo.drop 1 }) else d
    let d2 := d1.jtagWrites cl
    if mine && d2.en.todo.isEmpty then d2.endLoad 0 else d2.quiesceFor)

/-! ### Sleep (R378) -/

/-- The recovery context keeps engine 31 occupied while a recovery runs. -/
def Dev.engineIdle (d : Dev) (e : Nat) : Bool :=
  (List.range 8).all (fun i => (d.ctxs.get (8 * e + i)).run == .free) && (e != 31 || !d.er.recovering)

/-- ENGINE_SLEEP: an engine with no occupied context for idle_us, with 0 treated as 1, sleeps and records the order epoch. -/
def execEngineSleep (e : Nat) (s : State) : Out :=
  s.whenDev (fun d => d.working && decide (e < 32) && d.rf Reg.EN_SLEEP 31 31 == 1 && (d.engines.get e).asleep.isNone && d.engineIdle e)
    (fun d => (d.advanceTo ((d.engines.get e).idleFrom + max 1 (d.rf Reg.EN_SLEEP 15 0) * usTicks)).onEngine e (fun x => { x with asleep := some d.er.epoch }))

/-- An engine comes back: a stale epoch discards its instruction cache (R294, R295). -/
def Engine.back (x : Engine) (was now : Nat) : Engine := if was = now then { x with asleep := none } else { x with lines := [], asleep := none }

/-- ENGINE_WAKE: a sleeping engine that R63 gives a command wakes. -/
def execEngineWake (e : Nat) (s : State) : Out :=
  s.whenDev (fun d => d.working && decide (e < 32) && (List.range 8).any (fun i => (d.nextFor (8 * e + i)).any (fun m => d.chooseEngine m == some e)))
    (fun d => match (d.engines.get e).asleep with
      | some was => d.onEngine e (fun x => x.back was d.er.epoch)
      | none => d)

/-! ### Contexts of a fenced engine or cluster (R287, R377) -/

/-- A holder under a context's new number. -/
def Holder.renumber (a b : Nat) : Holder → Holder
  | .ctx c => .ctx (if c = a then b else c)
  | .reader c => .reader (if c = a then b else c)
  | h => h

/-- A context number, with one renumbered. -/
def renum (a b c : Nat) : Nat := if c = a then b else c

/-- The tag of work that belongs to a context, under the context's new number. -/
def retag (a b : Nat) (u : BufUnit) (t : List Nat) : List Nat :=
  if u = .compressor ∨ u = .decompressor then
    (match t with
     | [c, n] => [renum a b c, n]
     | [w, c, k] => [w, renum (a + 1) (b + 1) c, k]
     | _ => t)
  else t

/-- The buffers a context holds, reads or waits for go with it. -/
def Dev.moveBufs (d : Dev) (a b : Nat) : Dev :=
  (d.onPools (fun p => { p with waiters := p.waiters.map (fun w => { w with tag := retag a b w.unit w.tag, share := w.share.map (Holder.renumber a b) })
                                ready := p.ready.map (fun r => (r.1, retag a b r.1 r.2.1, r.2.2)) })).each (tableKeys d.pools.bufs) (fun d k => d.onPools (fun p => { p with bufs := p.bufs.modify k (fun x => x.map (fun x =>
    { x with holders := x.holders.map (Holder.renumber a b), finisher := x.finisher.renumber a b })) }))

/-- Who asked for a profile, under a context's new number. -/
def Asker.renumber (a b : Nat) : Asker → Asker
  | .insn c => .insn (renum a b c)
  | x => x

/-- The commands, writes and reads of a context follow it. -/
def Dev.moveOwned (d : Dev) (a b : Nat) : Dev :=
  let d1 := { d with cmds := d.cmds.map (fun (m : Cmd) => { m with ctx := m.ctx.map (renum a b) }) }
  d1.onIdx (fun x => { x with writes := x.writes.map (fun (w : Write) => { w with ctx := w.ctx.map (renum a b) })
                              reads := x.reads.map (fun (r : RegRead) => { r with ctx := renum a b r.ctx }) })

/-- FIFOs and blocks of a context follow it. -/
def Dev.moveStaged (d : Dev) (a b : Nat) : Dev :=
  d.onCm (fun x =>
    let fs := x.fifos.cells.map (fun (kf : Nat × Option Fifo) => (kf.1, kf.2.map (fun (f : Fifo) => { f with ctx := renum a b f.ctx })))
    { x with fifos := ⟨fs⟩, blocks := x.blocks.map (fun (k : Block) => { k with ctx := k.ctx.map (renum a b) }) })

/-- The work of other units that reports to a context reports to its new place (R377). -/
def Dev.moveWork (d : Dev) (a b : Nat) : Dev :=
  let d1 := ((d.moveOwned a b).moveStaged a b).onSh (fun x =>
    { x with waitTape := x.waitTape.map (fun (w : Nat × Nat) => (renum a b w.1, w.2)), turnReads := x.turnReads.map (fun (w : Nat × Nat) => (renum a b w.1, w.2))
             aim := x.aim.map (renum a b) })
  let d2 := d1.onCs (fun x => { x with lendAsks := x.lendAsks.map (fun (w : Nat × Nat × Nat) => (renum a b w.1, w.2)) })
  d2.onTc (fun t => { t with seekFor := t.seekFor.map (renum a b), profile := { t.profile with asker := t.profile.asker.renumber a b } })

/-- A context's state, taken at its last instruction boundary, moves to another context. One that waited for a line asks for it again. -/
def Dev.moveCtx (d : Dev) (a b : Nat) : Dev :=
  let x := d.ctxs.get a
  let d1 := (d.moveBufs a b).moveWork a b
  let d2 := ({ d1 with ctxs := d1.ctxs.set b { x with at_ := none } }).freeCtx a
  match x.run with
  | .line _ => d2.fetch b
  | _ => d2

/-- A free context of an engine and cluster in service that may take moved state; those kept for URGENT commands are not used. -/
def Dev.placeToMove (d : Dev) : Option Nat := (List.range 255).find? (fun c => d.openCtx c && !urgentOnly c)

/-- Whether a context runs on a fenced engine or cluster. -/
def Dev.onFenced (d : Dev) (c : Nat) : Bool := d.isFenced (engineUnit c) || d.isFenced ⟨clusterUnit c, 0xFFFF⟩

/-- Occupied contexts of fenced engines and clusters move; one that finds no free context waits in place. -/
def Dev.moveFenced (d : Dev) : Dev :=
  d.each ((List.range 255).filter (fun c => (d.ctxs.get c).run != .free && d.onFenced c)) (fun d c =>
    match d.placeToMove with
    | some b => d.moveCtx c b
    | none => d)

/-- A cluster reloads its patch state from the retained copy, checked again; a cluster outside its mask, or with no copy that
passes, runs ROM microcode only (R377). -/
def Dev.reloadCluster (d : Dev) (cl : Nat) : Dev :=
  let clean := d.onEn (fun x => { x with clusters := x.clusters.modify cl (fun k => { Cluster.reset with quiescing := k.quiescing }) })
  match d.en.retained with
  | some bs => if (imgClusters bs).contains cl && d.imageCheck bs == 0 then d.install bs cl else clean
  | none => clean

/-- The unit of an engine cluster (Table 13.8). -/
def clusterUid (cl : Nat) : UnitId := ⟨3 + cl, 0xFFFF⟩

/-- A fault of a cluster's patch RAM, match registers or microcode: fenced as one C3 unit, its contexts moved (R377). -/
def Dev.clusterFault (d : Dev) (cl : Nat) (d0 d1 : W64) : Dev :=
  (d.raise { cls := .c3, unit := clusterUid cl, cat := 0x0E, d0 := d0, d1 := d1 }).moveFenced

/-- MICROWORD_MALFORMED: a context's microthread, run from its last instruction boundary, fetches a malformed microword; its cluster is fenced
(R370, R377). -/
def execMicrowordMalformed (run : MicroRun) (s : State) : Out :=
  s.whenDev (fun d => d.working && decide (run.ctx < 256) && d.occupied run.ctx && (d.microFault run).isSome) (fun d =>
    match d.microFault run with
    | some pc => d.clusterFault (run.ctx / 64) (toW64 (run.ctx / 8 * 256 + run.ctx % 8)) (toW64 pc)
    | none => d)

end Sys2Proof.Machine
end

