-- ==== Sys2Proof/Machine/Recovery.lean ====
section
/-! DEFINITION. Errors and recovery (13_errors_recovery): what a fault of a unit does to its work, the recovery context, C3 and C4
recoveries, returns under the order epoch, and the release of records. -/

namespace Sys2Proof.Machine

/-! ### Units (Table 13.8) -/

/-- Whether a unit exists. -/
def unitExists (u : UnitId) : Bool :=
  let o := u.origin
  let i := u.inst
  if 3 ≤ o ∧ o ≤ 6 then i == 0xFFFF || (decide (i < 32) && i / 8 == o - 3) else
  if o = 7 then decide (i < 6) || i == 0xFFFF else
  if o = 9 ∨ o = 0xA then decide (i < 32) else
  if o = 0xB then decide (i < 19) else
  if o = 0xC then decide (i < 20) || i == 0xFFFF else
  if o = 0xD then decide (i < 16) else
  if o = 0xE then decide (i < 128) else
  if o = 0xF then decide (i < 20) else
  if o = 0x10 ∨ o = 0x15 then decide (i < 8) || i == 0xFFFF else
  if o = 0x11 then decide (i < 16) || i == 0xFFFF else
  if o = 0x13 then decide (i < 4) else
  if o = 0x14 then i == 0 else decide (o ≤ 0x16) && i == 0xFFFF

/-- The category of a unit's own fault (Table 13.3). -/
def unitCategory (o : Nat) : Nat :=
  if o = 1 ∨ o = 2 then 0x10 else
  if 3 ≤ o ∧ o ≤ 6 then 0xE else
  if o = 7 ∨ o = 8 then 3 else
  if o = 9 ∨ o = 0xA then 4 else
  if o = 0xB then 5 else
  if o = 0xC then 6 else
  if o = 0xD ∨ o = 0xE then 7 else
  if o = 0xF then 8 else
  if o = 0x10 then 0xA else
  if o = 0x11 then 9 else
  if o = 0x13 then 0xB else
  if o = 0x14 then 0xC else
  if o = 0x15 then 0xD else
  if o = 0x16 then 0xE else 0xF

/-- The detail words that name a unit in a record of its category. -/
def Dev.unitD0 (d : Dev) (u : UnitId) : W64 :=
  let k := unitCategory u.origin
  let i := if u.inst = 0xFFFF then 0 else u.inst
  if k = 0xE ∧ u.origin ≤ 6 then toW64 (i * 256) else
  if u.origin = 7 then toW64 (i * 2 ^ 56) else
  if u.origin = 9 then toW64 (i * 256) else
  if u.origin = 0xA then toW64 i else
  if k = 9 then d.linkD0 i else
  if k = 0xA then toW64 d.faultWord.toNat else
  if k = 0xB then toW64 (256 * i) else
  if k = 0xC then d.hk.detail else
  if k = 0xD then toW64 (i * 256) else 0
def Dev.unitD1 (d : Dev) (u : UnitId) : W64 :=
  if u.origin = 0xE then toW64 u.inst else
  if u.origin = 0x11 then d.linkD1 u.inst else
  if u.origin = 0x15 then toW64 (d.cs.memberEpochs.get u.inst) else 0

/-- The report of a unit's fault. -/
def Dev.unitReport (d : Dev) (u : UnitId) (cls : EClass) : Report :=
  { cls := cls, unit := u, cat := unitCategory u.origin, d0 := d.unitD0 u, d1 := d.unitD1 u }

/-! ### Restarting work (step 2 of R287) -/

/-- A record in a fenced pipeline is encrypted again with its own IV on another (R141). -/
def Dev.restartPipe (d : Dev) (p : Nat) : Dev :=
  (d.onCx (fun x => { x with recs := x.recs.map (fun r => if r.st = .inPipe p then { r with st := .waiting } else r) })).feedPipes 16

/-- The formes of a fenced L2 encoder that have not been sent go to the lowest one in service (R184). -/
def Dev.restartL2 (d : Dev) (n : Nat) : Dev :=
  d.onFm (fun x => { x with held := x.held.map (fun f => if f.queued ∧ f.enc = n then { f with enc := d.l2Encoder } else f) })

/-- The group of a fenced L3 encoder goes to the lowest one in service (R184). -/
def Dev.restartEncoder (d : Dev) (n : Nat) : Dev :=
  match (List.range 4).find? (fun i => !d.isFenced ⟨0xC, 16 + i⟩) with
  | some i => d.onFm (fun x => { x with group := x.group.map (fun g => if g.encoder = n then { g with encoder := i } else g) })
  | none => d

/-- The work in flight of a unit that is fenced restarts on another unit of its kind, under the rule of its own chapter. -/
def Dev.restartWork (d : Dev) (u : UnitId) : Dev :=
  if !d.isFenced u then d else
  if 3 ≤ u.origin ∧ u.origin ≤ 6 then d.moveFenced else
  if u.origin = 9 then d.restartLane false u.inst else
  if u.origin = 0xA then (d.restartLane true u.inst).feedVerify else
  if u.origin = 0xB then d.restartPipe u.inst else
  if u.origin = 0xC ∧ u.inst < 16 then d.restartL2 u.inst else
  if u.origin = 0xC ∧ 16 ≤ u.inst then d.restartEncoder (u.inst - 16) else d

/-- A C3 fault of a unit. -/
def Dev.faultC3 (d : Dev) (u : UnitId) : Dev := (d.raise (d.unitReport u .c3)).restartWork u

/-- ERROR_RAISE: an error or event is classified, recorded and acted on by its class (R281). -/
def execErrorRaise (cls : EClass) (u : UnitId) (category : Nat) (d0 d1 : W64) (s : State) : Out :=
  s.live (fun d => (d.raise { cls := cls, unit := u, cat := category, d0 := d0, d1 := d1 }).restartWork u)

/-- Whether a unit can fault now: it is in service, or its recovery is not done. -/
def Dev.canFault (d : Dev) (u : UnitId) : Bool := unitExists u && (!d.isFenced u || d.er.pend.any (fun p => decide (p.unit = u)))

/-- UNIT_FAULT: a unit faults. One of the stamp service or a queue manager is a C5 (R289); a link that is ACTIVE is lost (R248); the version
index is rebuilt (R120); the transport engine goes SAFE (R276). -/
def execUnitFault (u : UnitId) (s : State) : Out :=
  s.whenDev (fun d => d.working && d.canFault u) (fun d =>
    if u.origin ≤ 2 then d.raise (d.unitReport u .c5)
    else if u.origin = 0x11 ∧ u.inst < 16 then (if d.linkActive u.inst then d.linkLost u.inst else d)
    else if u.origin = 8 then (d.faultC3 u).startRebuild 1
    else if u.origin = 0x10 then (d.faultC3 u).react .safe allSlots
    else d.faultC3 u)

/-! ### The pending list (R286, R290) -/

/-- The order of waiting recoveries: C4 first; in a class one that was preempted, then stamps. -/
def Pend.before (a b : Pend) : Bool :=
  (a.cls == .c4 && b.cls != .c4) || (a.cls == b.cls && ((a.head && !b.head) || (a.head == b.head && a.stamp.lt b.stamp)))

/-- The recovery that runs next. -/
def Errors.next (e : Errors) : Option Pend :=
  (e.pend.filter (fun p => p.st == .waiting)).foldl (fun (a : Option Pend) p => match a with
    | none => some p
    | some x => if p.before x then some p else some x) none

/-- The active recovery. -/
def Errors.active (e : Errors) : Option Pend := e.pend.find? (fun p => p.st == .active)

/-- Change of one entry. -/
def Dev.onPend (d : Dev) (seq : Nat) (f : Pend → Pend) : Dev :=
  d.onEr (fun e => { e with pend := e.pend.map (fun p => if p.seq = seq then f p else p) })

/-- Whether a logged record is that of an overspeed: transport, with TC_FAULT bit 7 set. -/
def Errors.overspeed (e : Errors) (seq : Nat) : Bool := e.log.any (fun r => r.seq == seq && r.category == 0xA && r.d0.getLsbD 7)

/-- What a recovery waits for outside the device (R286), none where it waits for nothing, and whether it has come: a link ACTIVE or FAILED
(R250), the next accepted arm after an overspeed (R276), AVS answering again (R321), writing resumed (R198), a member back (R296). -/
def Dev.awaits (d : Dev) (p : Pend) : Option Bool :=
  let u := p.unit
  if p.cls = .c4 then none
  else if u.origin = 0x11 ∧ u.inst < 16 then some ((d.links.get u.inst).st == .active || (d.links.get u.inst).st == .failed)
  else if u = ⟨0x10, 0xFFFF⟩ ∧ d.er.overspeed p.seq then some (d.tc.st != .safe)
  else if u = hkUnit then some (!d.hk.avsFault)
  else if u = ⟨0xC, 0xFFFF⟩ then some (d.sh.run != .halted)
  else if u.origin = 0x15 ∧ u.inst < 8 then some (d.cs.present.contains u.inst)
  else none

/-! ### Completion (R287, R288, R294, R295) -/

/-- A unit returns to service; retained state that is stale is discarded (Table 13.6). A cluster reloads its microcode (R377); with a
memory stack, the directory entries that it held are back from tape (R222). -/
def Dev.returnUnit (d : Dev) (p : Pend) : Dev :=
  let u := p.unit
  let d1 := d.unfence u
  if 3 ≤ u.origin ∧ u.origin ≤ 6 then
    (if u.inst = 0xFFFF then d1.reloadCluster (u.origin - 3)
     else d1.onEngine u.inst (fun x => if p.epochAt = d.er.epoch then x else { x with lines := [] }))
  else if u.origin = 9 then d1.onCm (fun m => { m with mismatches := m.mismatches.set u.inst 0 })
  else if u.origin = 0xA then (d1.onCm (fun m => { m with mismatches := m.mismatches.set (32 + u.inst) 0 })).feedVerify
  else if u.origin = 0xB then d1.feedPipes 16
  else if u.origin = 0x13 then d1.onVol (fun v => { v with reload := [] }) else d1

/-- The data path goes on after a C4 (step 6 of R288): contexts that waited for a line ask for it again. -/
def Dev.resumePath (d : Dev) : Dev :=
  (((d.onEr (fun e => { e with halted := false })).feedPipes 16).feedVerify).each
    ((List.range 256).filter (fun c => (match (d.ctxs.get c).run with
      | .line _ => true
      | _ => false))) (fun d c => d.fetch c)

/-- A recovery completes: its entry goes and the order epoch advances (R293). -/
def Dev.endRecovery (d : Dev) (p : Pend) : Dev :=
  let d1 := d.onEr (fun e => { e with pend := e.pend.filter (fun q => decide (q.seq ≠ p.seq)) })
  (if p.cls = .c4 then d1.resumePath else d1).epochAdvance

/-- The record of a unit left fenced has flag bit 4 (R287). -/
def Dev.leftFenced (d : Dev) (seq : Nat) : Dev :=
  d.onEr (fun e => { e with log := e.log.map (fun r => if r.seq = seq then { r with flags := r.flags ||| 0x10 } else r) })

/-- RETURN_TEST_DONE: the reinitialized unit of the active recovery finishes its return test (R287): it returns, tries again, or is left
fenced after return_tries. -/
def execReturnTestDone (pass : Bool) (s : State) : Out :=
  s.work (fun d =>
    match d.er.active with
    | none => d
    | some p =>
      if pass then (d.returnUnit p).endRecovery p
      else if p.tries + 1 < max 1 (d.rf Reg.ER_CFG 3 0) then d.onPend p.seq (fun p => { p with tries := p.tries + 1 })
      else ((d.fence p.unit).leftFenced p.seq).endRecovery p)

/-! ### C4 (R288) -/

/-- A write before its commit point starts again: its intent and stamps stay, its galley is refilled from the host. -/
def Dev.restartWrite (d : Dev) (c id : Nat) : Dev :=
  match d.write id with
  | none => d
  | some w =>
    let d1 := (d.dropFifos c).dropBlocks (fun b => b.write == some id)
    let d2 := d1.each w.bufs (fun d kb => (d.release kb.2 (.ctx c) w.group).2)
    (d2.onWrite id (fun w => { w with data := [], bufs := [], passed := [], durables := [] })).onCtx c (fun x => { x with walk := Walk.none })

/-- A context's instruction is issued again, with the stamp it had. -/
def Dev.issueAgain (d : Dev) (c : Nat) : Dev := d.onCtx c (fun x => { x with run := .ready, keep := true, walk := Walk.none, owalk := Walk.none })

/-- A device instruction that has not reached its commit point is cancelled inside the device and starts again after resumption (step 2 of
R288). Those that hold nothing yet, and those that wait on other commands, stay as they are. -/
def Dev.haltFlight (d : Dev) (c : Nat) (f : Flight) : Dev :=
  match f with
  | .write id => d.restartWrite c id
  | .read r => (d.fly c (.read { r with delivered := 0, recsOk := [], todo := [], retry := [], rawSeen := false })).onCtx c (fun x => { x with walk := Walk.none })
  | .compress cap size need _ =>
    (((d.dropFifos c).dropBlocks (fun b => b.ctx == some c)).fly c (.compress cap size need 0)).onCtx c (fun x => { x with walk := Walk.none, owalk := Walk.none })
  | .decompress cap need _ _ => ((d.dropFifos c).fly c (.decompress cap need 0 [])).onCtx c (fun x => { x with walk := Walk.none, owalk := Walk.none })
  | .format _ _ => ((d.dropMotion c).unmount.onVol (fun v => { v with formatting := false })).issueAgain c
  | .load _ _ => ((d.dropMotion c).orderAll ⟨Hc.readOff, 0xFF, 0, 0⟩).unmount.issueAgain c
  | .unload _ _ => d.forgetColophon.issueAgain c
  | .seal _ _ => d.forgetColophon.issueAgain c
  | .move => (d.dropMotion c).issueAgain c
  | .seek => (d.dropMotion c).issueAgain c
  | .thread => (d.dropMotion c).issueAgain c
  | .unthread => (d.dropMotion c).issueAgain c
  | _ => d

/-- A record in a pipeline waits for one again. -/
def Rec.outOfPipe (r : Rec) : Rec :=
  match r.st with
  | .inPipe _ => { r with st := .waiting }
  | _ => r

/-- An engine whose instruction cache is lost. -/
def Engine.cold (x : Engine) : Engine := { x with lines := [], reading := [] }

/-- The units of the data path are reinitialized: instruction caches, lanes and pipelines lose their state, and the work in them is done
again from its held inputs (steps 4 and 5 of R288). -/
def Dev.reinitPath (d : Dev) : Dev :=
  let es := (d.engines.cells.map (fun (e : Nat × Engine) => (e.1, e.2.cold))).filter (fun (e : Nat × Engine) => decide (e.2 ≠ Engine.reset))
  let d1 := { d with engines := ⟨es⟩ }
  let d2 := d1.each (List.range 32) (fun d l => (d.restartLane true l).restartLane false l)
  let d3 := d2.onCm (fun m => { m with blocks := m.blocks.map (fun (b : Block) => if b.framedBy.isSome then { b with st := .ready } else b) })
  d3.onCx (fun x => { x with recs := x.recs.map Rec.outOfPipe })

/-- The halt of a C4: instructions in flight are cancelled, the run or read turn is interrupted, the data path is reinitialized, and a suspect
version index is rebuilt (R120). -/
def Dev.haltPath (d : Dev) (u : UnitId) : Dev :=
  let d1 := d.onEr (fun e => { e with halted := true })
  let d2 := d1.each (List.range 255) (fun d c => match d.flightOf c with
    | some f => d.haltFlight c f
    | none => d)
  let d3 := d2.interruptRun .idle
  let d4 := (if d3.sh.readTurn then d3.endTurn else d3).reinitPath
  if u.origin = 8 ∧ !d4.idx.rebuilding then d4.startRebuild 1 else d4

/-- RECOVERY_START: the recovery context takes the next recovery: it runs, or parks where it waits for something outside (R286). -/
def execRecoveryStart (s : State) : Out :=
  s.work (fun d =>
    if d.er.recovering then d else
    match d.er.next with
    | none => d
    | some p =>
      if (d.awaits p).isSome then d.onPend p.seq (fun p => { p with st := .parked })
      else
        let d1 := d.onPend p.seq (fun q => { q with st := .active, tries := 0, head := false, began := d.clk.now })
        if p.cls = .c4 then d1.haltPath p.unit else d1)

/-- RECOVERY_RESUME: what a parked recovery waits for has come, and it completes. -/
def execRecoveryResume (u : UnitId) (s : State) : Out :=
  s.work (fun d =>
    match d.er.pend.find? (fun p => decide (p.unit = u) && p.st == .parked && d.awaits p == some true) with
    | some p => (d.returnUnit p).endRecovery p
    | none => d)

/-- C4_TIMEOUT: a C4 recovery has not completed within c4_ms: it escalates to a C5. -/
def execC4Timeout (s : State) : Out :=
  s.work (fun d =>
    match d.er.active with
    | none => d
    | some p =>
      if p.cls ≠ .c4 then d else
        (d.advanceTo (p.began + max 1 (d.rf Reg.ER_CFG 31 16) * msTicks)).raise
          { cls := .c5, unit := ⟨0x12, 0xFFFF⟩, cat := 0xF, d0 := toW64 p.seq, d1 := toW64 d.er.pend.length, flags := 1, related := p.seq })

/-! ### Releases (R284, R285, R379) -/

/-- ER_REL: a pinned record is unpinned. -/
def Dev.releaseRecord (d : Dev) (path : Path) (seq : W32) : Dev :=
  if d.er.log.any (fun r => r.seq == seq.toNat && r.pinned) then
    d.onEr (fun e => { e with log := e.log.map (fun r => if r.seq = seq.toNat then { r with pinned := false, flags := r.flags &&& 0xFB } else r) })
  else d.regEvent path Reg.ER_REL seq

/-- ER_LREL: a loss record is freed. -/
def Dev.releaseLoss (d : Dev) (path : Path) (v : W32) : Dev :=
  let i := fieldOf v 5 0
  if (d.er.losses.get i).isSome then d.onEr (fun e => { e with losses := e.losses.set i none }) else d.regEvent path Reg.ER_LREL v

end Sys2Proof.Machine
end

