-- ==== Sys2Proof/Machine/Cascade.lean ====
section
/-! DEFINITION. Cascades (16_cascade): discovery and joining, time and the order epoch on the ring, forwarding, lending, set-wide operations
and stripes, and the loss of hops and members. -/

namespace Sys2Proof.Machine

/-! ### Hops -/

/-- A cascade port's hop. -/
def Cascade.hop (c : Cascade) : CasPort → Hop
  | .c0 => c.c0
  | .c1 => c.c1

/-- Change of a hop. -/
def Dev.onHop (d : Dev) (p : CasPort) (f : Hop → Hop) : Dev := d.onCs (fun c => c.onHop (p == .c0) f)

/-- The number of a cascade port, and its domain (Table 13.8). -/
def casPortNo : CasPort → Nat
  | .c0 => 0
  | .c1 => 1
def casDomain (p : CasPort) : Nat := 67 + casPortNo p

/-- This device's member index. -/
def Dev.self (d : Dev) : Nat := d.clk.member.toNat

/-- Detail words of a cascade record: the member concerned with the port, and that member's order epoch. -/
def casD0 (m port : Nat) : W64 := toW64 (m * 256 + port)
def Dev.casD1 (d : Dev) (m : Nat) : W64 := toW64 (d.cs.memberEpochs.get m)

/-! ### Discovery and joining (R332, R336) -/

/-- Discovery ends, and start-up's step 7 with it (R392). -/
def Dev.discovered (d : Dev) (st : CasState) : Dev :=
  (d.onCs (fun c => { c with st := st })).onBoot (fun b => { b with discoveryDone := true })

/-- The device is alone: no ring, no hops, the mode of a standalone device. -/
def Dev.standAlone (d : Dev) : Dev :=
  (d.onCs (fun c => { c with size := 0, present := [], c0 := { c.c0 with partner := none }, c1 := { c.c1 with partner := none }, offset := 0
                             modeInForce := 0, modePending := false, unacked := [], asks := [], txSeq := Table.empty, rxSeq := Table.empty
                             acks := Table.empty, horizons := Table.empty, setPending := [] })).discovered .standalone

/-- Discovery runs on both ports. -/
def Dev.startDiscovery (d : Dev) : Dev :=
  d.onCs (fun c => { c with st := .discovering, discoverAt := d.clk.now, c0 := { Hop.reset with st := .detect }, c1 := { Hop.reset with st := .detect } })

/-- DISCOVERY_TIMEOUT: no partner within 100 ms: the device is standalone (R332). -/
def execDiscoveryTimeout (s : State) : Out :=
  s.whenDev (fun d => d.working && d.cs.st == .discovering && d.cs.c0.partner.isNone && d.cs.c1.partner.isNone)
    (fun d => (d.advanceTo (d.cs.discoverAt + 100 * msTicks)).standAlone)

/-- Whether the index of a partner fits the ring (R331, R332): member n's C0 leads to n + 1 or round to 0, its C1 to n − 1, from 0 to the last. -/
def partnerFits (self : Nat) (cp : CasPort) (sender : Nat) : Bool :=
  sender != self && (match cp with
    | .c0 => sender == self + 1 || sender == 0
    | .c1 => sender + 1 == self || self == 0)

/-- Discovery finds a fault: a C3 error that names both indices, this member's as its instance, and the device stays standalone (R332). -/
def Dev.discoveryFault (d : Dev) (cp : CasPort) (sender epoch : Nat) : Dev :=
  (d.standAlone).raise { cls := .c3, unit := ⟨0x15, d.self⟩, cat := 0x0D, d0 := casD0 sender (casPortNo cp), d1 := toW64 epoch
                         domain := some (casDomain cp) }

/-- The device is idle: no volume loaded, no write buffered, no command outstanding (R336). -/
def Dev.idle (d : Dev) : Bool := d.vol.loaded.isNone && d.idx.writes.isEmpty && d.cmds.isEmpty

/-- This device's JOIN block; its serial's first eight bytes are the identity record's bytes 8 to 15 (Table 17.2). -/
def Dev.ownJoin (d : Dev) : BitVec 256 := joinFields d.self d.er.epoch (d.cs.st == .master) (!d.idle) (leNat (d.fuseBytes 8 8))

/-- A partner's JOIN is taken and answered with this device's, and the first ECHO goes out: the hop is ACTIVE, the ring's size is one more than the
highest index known, and a device that discovers joins, or is master where its index is 0. -/
def Dev.joinHop (d : Dev) (cp : CasPort) (b : BitVec 256) : Dev :=
  let m := joinSender b
  let d1 := d.onHop cp (fun h => (({ h with st := .active, lanes := (if h.lanes = 0 then 8 else h.lanes), partner := some m, echoes := 0, delay := 0 }).control
    d.ownJoin).control (echoBlock false d.clk.now))
  let d2 := d1.onCs (fun c => { c with size := max c.size (max d.self m + 1), memberEpochs := c.memberEpochs.set m (joinEpoch b)
                                       busy := c.busy.filter (fun x => x != m) ++ (if joinHolds b then [m] else []) })
  if d2.cs.st ≠ .discovering then d2
  else if d.self = 0 then d2.onCs (fun c => { c with st := .master, present := [0], modePending := true })
  else d2.onCs (fun c => { c with st := .joining })

/-- JOIN: a JOIN block arrives on a port (R332, R334, R336). -/
def execJoin (cp : CasPort) (blk : BitVec 256) (s : State) : Out :=
  s.whenDev (fun d => d.working && ctlOk blk 0x61 && d.cs.st != .standalone) (fun d =>
    if joinVersion blk ≠ 1 ∨ !partnerFits d.self cp (joinSender blk) then
      (if d.cs.st = .discovering then d.discoveryFault cp (joinSender blk) (joinEpoch blk) else d)
    else d.joinHop cp blk)

/-- ECHO: a request is answered; a reply is one of the 16 round trips whose mean half is the hop's delay (R336). Until the last, `delay` holds
their sum, and each reply but the last is followed by another request. -/
def execEcho (cp : CasPort) (reply : Bool) (t : W64) (s : State) : Out :=
  s.whenDev (fun d => d.working && (d.cs.hop cp).partner.isSome
      && (!reply || (decide ((d.cs.hop cp).echoes < 16) && decide (t.toNat ≤ d.clk.now))))
    (fun d => d.onHop cp (fun h =>
      if !reply then h.control (echoBlock true t.toNat) else
      let sum := h.delay + (d.clk.now - t.toNat)
      if h.echoes = 15 then { h with echoes := 16, delay := sum / 32 }
      else ({ h with echoes := h.echoes + 1, delay := sum }).control (echoBlock false d.clk.now)))

/-- Stale state of a member that returns goes (R296, R353): lent buffers, partials, undelivered messages. -/
def Dev.dropStale (d : Dev) : Dev :=
  let d1 := (d.each d.cs.lentBufs (fun d x => d.giveBack x.2)).each d.cs.partials Dev.dropPartial
  (d1.onCs (fun c => { c with lentBufs := [], unacked := [] })).count 0xC0 0 9 1

/-- This member is admitted: the count and the order epoch of the master (R336). One that returns in its adopted device epoch discards stale
state first (R353). -/
def Dev.admitted (d : Dev) (count epoch : Nat) : Dev :=
  let back := d.clk.adopted
  let d1 := if back ∧ d.er.epoch ≠ epoch then d.dropStale else d
  let t := count + d.cs.c1.delay
  let d2 := d1.onClk (fun c => { c with now := (if back then max c.now t else t), adopted := true, last := (if back then c.last else Table.empty) })
  let d3 := (d2.onCs (fun c => { c with st := .member, present := [0, d.self].eraseDups, misaligned := 0 })).onBoot (fun b => { b with discoveryDone := true })
  let d4 := d3.onBoot (fun b => { b with began := b.began + ((d3.clk.now : Int) - (d.clk.now : Int)) })
  (d4.epochTo epoch 0).2

/-- Every member the master knows of is present. -/
def Dev.allPresent (d : Dev) : Bool := (List.range d.cs.size).all (fun m => d.cs.present.contains m)

/-- A member joins the ring as others see it; the master advances the order epoch (R293, R336). -/
def Dev.addMemberOf (d : Dev) (m : Nat) : Dev :=
  let d1 := d.onCs (fun c => { c with present := (c.present ++ [m]).mergeSort, size := max c.size (m + 1) })
  if d.cs.st = .master then
    let d2 := d1.epochAdvance
    if d2.allPresent then d2.onBoot (fun b => { b with discoveryDone := true }) else d2
  else d1

/-- MEMBER_ADMIT: the master admits member `m`, whose join has measured its hops and which is idle, or returns in its adopted device epoch
(R336, R353). A member whose order epoch is beyond the master's has outlived a reset of the master, and must be idle. -/
def execMemberAdmit (m masterCount masterEpoch : Nat) (s : State) : Out :=
  s.whenDev (fun d => d.working && decide (m < 8) && decide (0 < m)) (fun d =>
    if d.cs.st = .joining ∧ m = d.self then
      (if d.idle || (d.clk.adopted && decide (d.er.epoch ≤ masterEpoch)) then d.admitted masterCount masterEpoch else d)
    else if d.cs.inRing ∧ m ≠ d.self ∧ !d.cs.present.contains m ∧ (d.cs.st ≠ .master ∨ !d.cs.busy.contains m ∨ d.cs.former.contains m) then
      d.addMemberOf m
    else d)

/-! ### The loss of members (R351, R352) -/

/-- A command forwarded to a lost member ends with S_CASCADE_MEMBER_LOST; the whole destination of an inline GET is zeroed. -/
def Dev.loseForwarded (d : Dev) (c : Cmd) (m : Nat) : Dev :=
  let sd := d.stamp (qmUnit c.port) c.arrival.after
  let len := c.sqe.len.toNat
  let w := Walk.runAll (sd.2.host c.port) len 65536 (Walk.start c.sqe.desc.toNat)
  let get := c.sqe.kind == 1 && wOp c.sqe.word == 0x42
  let d1 := if get then sd.2.onHost c.port (fun t => writeRanges t (subRanges w.ranges 0 len) (zeros len)) else sd.2
  (d1.latch c.id ⟨St.memberLost, 0, 0, sd.1⟩).note
    { cls := .c2, unit := ⟨qmUnit c.port, 0xFFFF⟩, cat := 0x0D, d0 := casD0 m 0, d1 := d.casD1 m, status := St.memberLost, dqn := dqn c.port c.qid
      cid := c.sqe.cid }

/-- A command that a lost member forwarded here ends as on a port loss (R24); nothing is posted for it. -/
def Dev.loseForeign (d : Dev) (c : Cmd) : Dev :=
  let d1 := if c.done.isNone then
      (let sd := d.stamp (qmUnit c.port) c.arrival.after
       sd.2.cutCommand c St.aborted sd.1) else d
  d1.forget c.id

/-- Galley buffers of a write on a lost member. -/
def Write.lentOn (w : Write) (m : Nat) : Bool := w.bufs.any (fun x => isLent x.2 && x.2 / 2 ^ 40 == m + 1)

/-- A committed write whose only copy is lost: named in the loss record, its version goes. -/
def Dev.loseWrite (d : Dev) (w : Write) : Dev :=
  let d1 := d.dropBlocks (fun b => b.write == some w.id)
  let d2 := d1.each (w.bufs.filter (fun x => !isLent x.2)) (fun d x => d.giveBack x.2)
  let d3 := d2.onIdx (fun x => x.settle (x.writes.filter (fun v => decide (v.id ≠ w.id))))
  if w.pinned then d3.unpin w.slot else d3

/-- Writes with a galley on a lost member: those completed and not durable are lost (cause 1), those before their commit point start again. -/
def Dev.loseLent (d : Dev) (m seq : Nat) : Dev :=
  let ws := d.undurable.filter (fun w => w.lentOn m)
  let d1 := (d.loss 1 m seq ws).each ws Dev.loseWrite
  (d1.each (d1.idx.writes.filter (fun w => w.commit.isNone && w.lentOn m)) (fun d w => match w.ctx with
    | some c => d.restartWrite c w.id
    | none => d)).reviewHolds.reap

/-- Writing of a widened set halts after a loss; FLUSH, SEAL and UNLOAD of the set end (R350, R351). -/
def Dev.haltSet (d : Dev) (m : Nat) : Dev :=
  if !d.widen then d else
    ((d.interruptRun .halted).onSh (fun x => { x with run := .halted })).failTape St.memberLost (casD0 m 0) (d.casD1 m)

/-- What every member does on the loss of another (R351), but for the advance of the order epoch. -/
def Dev.memberGone (d : Dev) (m : Nat) : Dev :=
  let seq := d.er.seq
  let d1 := (d.raise { cls := .c3, unit := ⟨0x15, m⟩, cat := 0x0D, d0 := casD0 m 0, d1 := d.casD1 m }).count 0xC0 0 8 1
  let d2 := d1.each (d1.cmds.filter (fun c => c.fwdTo == some m && c.done.isNone)) (fun d c => d.loseForwarded c m)
  let d3 := d2.each (d2.cmds.filter (fun c => c.fwdFrom == some m)) (fun d c => d.loseForeign c)
  let d4 := (d3.loseLent m seq).haltSet m
  let d5 := d4.each (d4.cs.lentBufs.filter (fun x => x.1 == m)) (fun d x => d.giveBack x.2)
  d5.onCs (fun c => { c with present := c.present.filter (fun x => x != m), former := (c.former ++ [m]).eraseDups, lentBufs := c.lentBufs.filter (fun x => x.1 != m)
                             borrowed := c.borrowed.filter (fun x => x.1 != m), lendAsks := c.lendAsks.filter (fun x => x.2.2 != m)
                             asks := c.asks.filter (fun x => x.1 != m), unacked := c.unacked.filter (fun x => x.dst != m)
                             horizons := c.horizons.set m 0, setPending := c.setPending.filter (fun x => x.2 != m)
                             c0 := (if c.c0.partner = some m then { c.c0 with st := .repair, partner := none } else c.c0)
                             c1 := (if c.c1.partner = some m then { c.c1 with st := .repair, partner := none } else c.c1) })

/-- The ring dissolves for this device: every other member is lost to it, and it counts on alone in its device epoch (R352). -/
def Dev.dissolve (d : Dev) : Dev := (((d.each d.others (fun d m => d.memberGone m)).standAlone).epochTo (d.er.epoch + 1) 0).2

/-- The master tells the ring of a loss and advances the order epoch once. -/
def Dev.declareLoss (d : Dev) (m : Nat) : Dev :=
  let sd := d.stamp 0x15
  let d1 := sd.2.each (sd.2.others.filter (fun x => x != m)) (fun d x => d.send .loss x sd.1 (leBytes 1 m))
  (d1.memberGone m).epochAdvance

/-- MEMBER_LOSS: no message from member `m` for loss_us (R351). The master declares it; the loss of the master dissolves the ring (R352);
on any other member it is the master's to declare. -/
def execMemberLoss (m : Nat) (s : State) : Out :=
  s.whenDev (fun d => d.working && d.cs.inRing && m != d.self && d.cs.present.contains m) (fun d =>
    if d.cs.st = .master then d.declareLoss m else if m = 0 then d.dissolve else d)

/-- Messages that wait for their acknowledgement on a hop that is down go the other way (R335). -/
def Dev.reroute (d : Dev) (cp : CasPort) : Dev :=
  let mine := fun (m : Msg) => m.clockwise == (cp == .c0)
  (d.onCs (fun c => { c with unacked := c.unacked.filter (fun m => !mine m) })).each (d.cs.unacked.filter mine) (fun d m =>
    d.sendWay m.kind m.src m.dst m.stamp (!m.clockwise) m.payload)

/-- A member that was discovered and not admitted is no longer reached: it has failed discovery, and the master waits for those left (R392). -/
def Dev.discoveryFailed (d : Dev) (cp : CasPort) (m : Nat) : Dev :=
  if d.cs.st ≠ .master ∨ d.cs.present.contains m then d else
    let d1 := d.onHop cp (fun h => { h with partner := none })
    let known := d1.cs.present ++ d1.cs.c0.partner.toList ++ d1.cs.c1.partner.toList
    let d2 := d1.onCs (fun c => { c with size := known.foldl max 0 + 1 })
    if d2.allPresent then d2.onBoot (fun b => { b with discoveryDone := true }) else d2

/-- HOP_LOSS: a port loses its signal, or lanes of it (R333, R351): it retrains on four or two lanes, or is down. A C3 error names it. -/
def Dev.hopLost (d : Dev) (cp : CasPort) (lanesLeft : Nat) : Dev :=
  let m := (d.cs.hop cp).partner.getD 0
  let n := if 4 ≤ lanesLeft then 4 else if 2 ≤ lanesLeft then 2 else 0
  let d0 := (d.onHop cp (fun h => { h with lanes := n, st := if n = 0 then .repair else .detect })).reroute cp
  let d1 := if n = 0 then d0.discoveryFailed cp m else d0
  let d2 := d1.raise { cls := .c3, unit := ⟨0x15, 0xFFFF⟩, cat := 0x0D, d0 := casD0 m (casPortNo cp), d1 := d.casD1 m, domain := some (casDomain cp) }
  if n = 0 ∧ d2.widen then (d2.interruptRun .halted).onSh (fun x => { x with run := .halted }) else d2

/-- HOP_LOSS. -/
def execHopLoss (cp : CasPort) (lanesLeft : Nat) (s : State) : Out :=
  s.whenDev (fun d => d.working && (d.cs.hop cp).st == .active && decide (lanesLeft < 8)) (fun d => d.hopLost cp lanesLeft)

/-! ### Messages (R335) -/

/-- The carried stamp of a message. -/
def headStamp (h : MsgHead) : Stamp := ⟨h.stampT, h.stampO⟩

/-- A message arrives on a hop: out of sequence or with a bad CRC it is refused with a negative ACK; otherwise acknowledged, and forwarded in the
same direction where another member is its destination. Its receipt is stamped by the cascade controller, after the stamp it carries (R83, R85). -/
def State.message (s : State) (k : MsgKind) (h : MsgHead) (payload : List Byte) (f : Dev → Dev) : Out :=
  s.whenDev (fun d => d.working && d.cs.inRing) (fun d =>
    let q := b2n (!h.clockwise)
    let want := d.cs.rxSeq.get q
    let ack := fun (d : Dev) (neg : Bool) => d.onCs (fun c =>
      ({ c with acks := c.acks.set q (some (want, neg)) }).onHop (!h.clockwise) (fun x => x.control (ackBlock want neg)))
    if !headWhole h payload || h.seq != want then ack d true
    else
      let d1 := ack (d.onCs (fun c => { c with rxSeq := c.rxSeq.set q ((want + 1) % 2 ^ 32) })) false
      if h.dst = d.self then f ((d1.stamp 0x15 (headStamp h).after).2.count 0xC0 0 1 1) else d1.sendWay k h.src h.dst (headStamp h) h.clockwise payload)

/-- ACK: messages of a direction up to the one named are delivered; a negative ACK makes the sender send again all from the one named. -/
def execAck (cp : CasPort) (seq : Nat) (negative : Bool) (s : State) : Out :=
  s.whenDev (fun d => d.working && d.cs.inRing) (fun d =>
    let mine := fun (m : Msg) => m.clockwise == (cp == .c0)
    if negative then
      (let again := d.cs.unacked.filter (fun m => mine m && decide (seq ≤ m.seq))
       (d.onCs (fun c => c.onHop (cp == .c0) (fun h => again.foldl Hop.message h))).count 0xC0 0 2 again.length)
    else d.onCs (fun c => { c with unacked := c.unacked.filter (fun m => !(mine m && decide (m.seq ≤ seq))) }))

/-! ### Time and the order epoch (R337, R338) -/

/-- The payload of TIME: count and arrival horizon. -/
def timeBytes (count horizon : Nat) : List Byte := leBytes 8 count ++ leBytes 8 horizon

/-- TIME_SEND: every 1,024 ticks TIME goes out in both directions (R337); a member's carries its arrival horizon (R341). No fetched command
is unforwarded between commands, so the horizon is the present. -/
def execTimeSend (s : State) : Out :=
  s.whenDev (fun d => d.working && d.cs.inRing) (fun d =>
    let d1 := d.advanceTo ((d.clk.now / 1024 + 1) * 1024)
    let sd := d1.stamp 0x15
    let p := timeBytes sd.2.clk.now sd.2.clk.now
    (sd.2.onCs (fun c => { c with c0 := { c.c0 with tx := [] }, c1 := { c.c1 with tx := [] } })).each sd.2.others (fun d m =>
      (d.sendWay .time d.self m sd.1 true p).sendWay .time d.self m sd.1 false p))

/-- The largest absolute offset seen (CS_OFFSET.max_abs). -/
def Dev.noteOffset (d : Dev) (n : Nat) : Dev :=
  if d.w1f Reg.CS_OFFSET 0 15 8 < min n 255 then d.setW1f Reg.CS_OFFSET 0 15 8 (min n 255) else d

/-- A member slews its count toward the master's: up to 16 ticks on between two TIMEs where it is behind; where it is ahead, up to 16 ticks are left
out of the time that passes until the next. The 16th offset in a row past 8 ticks makes it leave (R337). -/
def Dev.slew (d : Dev) (count : Nat) (clockwise : Bool) : Dev :=
  let want := count + (if clockwise then d.cs.c1.delay else d.cs.c0.delay)
  let off : Int := (d.clk.now : Int) - (want : Int)
  let d1 := (d.onCs (fun c => { c with offset := off })).noteOffset off.natAbs
  let d2 := if off < 0 then d1.onClk (fun c => { c with now := c.now + min off.natAbs 16, ahead := 0 })
    else d1.onClk (fun c => { c with ahead := min off.natAbs 16 })
  if 8 < off.natAbs then
    let d3 := (d2.onCs (fun c => { c with misaligned := c.misaligned + 1 })).count 0xC0 0 10 1
    if 16 ≤ d3.cs.misaligned then d3.dissolve else d3
  else d2.onCs (fun c => { c with misaligned := 0 })

/-- TIME: the master's count, and the sender's arrival horizon (R337, R341). -/
def execTime (h : MsgHead) (count horizon : Nat) (s : State) : Out :=
  s.message .time h (timeBytes count horizon) (fun d =>
    let d1 := d.onCs (fun c => { c with horizons := c.horizons.modify h.src (fun x => max x horizon) })
    if h.src = 0 ∧ d1.cs.st = .member then d1.slew count h.clockwise else d1)

/-- EPOCH: the master's order epoch on a member, or at the master a member's advance (R338). -/
def execEpoch (h : MsgHead) (value : Nat) (s : State) : Out :=
  s.message .epoch h (leBytes 6 value) (fun d =>
    if d.cs.st = .master then d.epochAdvance (headStamp h).after
    else
      let d1 := (d.epochTo value (headStamp h).after).2
      d1.onCs (fun c => { c with memberEpochs := d1.cs.present.foldl (fun t m => t.set m (value % 2 ^ 48)) c.memberEpochs }))

/-! ### Forwarding (R340, R341) -/

/-- The 64 bytes of a forwarded entry. -/
def sqeBytes (v : BitVec 512) : List Byte := leBytes 64 v.toNat

/-- FORWARD: a fetched command of another member, with its arrival stamp and device queue number, enters the pending store. -/
def execForward (h : MsgHead) (sqe : BitVec 512) (arrivalT : Nat) (arrivalO : BitVec 8) (q : Nat) (s : State) : Out :=
  s.message .forward h (leBytes 8 arrivalT ++ [arrivalO] ++ leBytes 2 q ++ sqeBytes sqe) (fun d =>
    let id := d.arb.nextCmd
    let m : Cmd := { id := id, port := portOf (q / 512 % 2), qid := q % 512, sqe := sqeOf (sqeBytes sqe), arrival := ⟨arrivalT, arrivalO⟩, ctx := none
                     done := none, fwdTo := none, fwdFrom := some h.src, orphan := false }
    ({ d with cmds := d.cmds ++ [m] }.onArb (fun a => { a with nextCmd := id + 1 })).count 0xC0 0 4 1)

/-- An ABORT that waits for a command which has ended otherwise finishes with result 2 (Table 3.12). -/
def Dev.abortLate (d : Dev) (id : Nat) (p : PortId) (k : Completion) : Dev :=
  d.each (d.flightsThat (fun f => f == .abortWait id)) (fun d c =>
    let sd := d.stamp (qmUnit p) k.stamp.after
    sd.2.finish c St.ok (some 2) 0 0 (some sd.1))

/-- The completion that a RESULT carries (Table 2.5). -/
def resultOf (bs : List Byte) : Completion :=
  ⟨BitVec.ofNat 16 (leNat (sliceBytes bs 4 2)), bs.getD 7 0, toW64 (leNat (sliceBytes bs 8 8)), ⟨leNat (sliceBytes bs 16 8), bs.getD 24 0⟩⟩

/-- RESULT: the completion of a command forwarded to another member is latched, to be posted here (R36, R340). -/
def execResult (h : MsgHead) (cqe : BitVec 256) (s : State) : Out :=
  let bs := leBytes 32 cqe.toNat
  s.message .result h bs (fun d =>
    let q := leNat (sliceBytes bs 2 2)
    match d.cmds.find? (fun m => m.fwdTo == some h.src && m.done.isNone && m.sqe.cid.toNat == leNat (sliceBytes bs 0 2) && dqn m.port m.qid == q) with
    | none => d
    | some m =>
      let k := resultOf bs
      let d1 := d.latch m.id k
      if k.status = St.aborted then d1 else d1.abortLate m.id m.port k)

/-- The port through which a member's forwarded commands reach host memory: that of the first outstanding one. -/
def Dev.portFor (d : Dev) (m : Nat) : PortId := ((d.cmds.find? (fun c => c.fwdTo == some m && c.done.isNone)).map (fun c => c.port)).getD .a

/-- DMA_RD: host memory is read for another member and returned as DMA_DATA (R340). -/
def execDmaRd (h : MsgHead) (addr len : Nat) (s : State) : Out :=
  s.message .dmaRd h (leBytes 8 addr ++ leBytes 4 len) (fun d =>
    let p := d.portFor h.src
    let sd := d.stamp 0x15 (headStamp h).after
    let ok := (d.port p).busMaster && (d.port p).linkUp
    sd.2.send .dmaData h.src sd.1 (leBytes 1 (b2n ok) ++ (if ok then d.hostRead p addr len else [])))

/-- DMA_DATA: the answer to the first read asked of a member. -/
def execDmaData (h : MsgHead) (data : List Byte) (ok : Bool) (s : State) : Out :=
  s.message .dmaData h (leBytes 1 (b2n ok) ++ data) (fun d =>
    match d.cs.asks.find? (fun a => a.1 == h.src) with
    | none => d
    | some a =>
      let d1 := d.onCs (fun c => { c with asks := c.asks.erase a })
      if ok then { d1 with hostR := d1.hostR.modify (2 * a.1 + a.2.1) (fun m => writeBytes m a.2.2.1 (data.take a.2.2.2)) } else d1)

/-- DMA_WR: host memory is written for another member (R340). -/
def execDmaWr (h : MsgHead) (addr : Nat) (data : List Byte) (s : State) : Out :=
  s.message .dmaWr h (leBytes 8 addr ++ data) (fun d => d.hostWrite (d.portFor h.src) addr data)

/-- ABORT_DECIDE: an abort decision for a command that this member runs (R96, R340). -/
def execAbortDecide (h : MsgHead) (cid : W16) (q : Nat) (s : State) : Out :=
  s.message .abortDecide h (leBytes 2 cid.toNat ++ leBytes 2 q) (fun d =>
    match d.cmds.find? (fun m => m.fwdFrom == some h.src && m.sqe.cid == cid && dqn m.port m.qid == q && m.done.isNone) with
    | some m =>
      let sd := d.stamp (qmUnit m.port) (headStamp h).after
      sd.2.cutCommand m St.aborted sd.1
    | none => d)

/-! ### Lending (R342) -/

/-- Bytes lent now. -/
def Cascade.lentBytes (c : Cascade) : Nat := c.lentBufs.foldl (fun a x => a + poolBytes (bufPool x.2)) 0
def Cascade.borrowedBytes (c : Cascade) : Nat := c.borrowed.foldl (fun a x => a + poolBytes (bufPool x.2)) 0

/-- The buffer number that refuses a loan. -/
def noLoan : Nat := 0xFFFFFFFF

/-- A loan of a buffer of a pool: within CS_LEND.limit, the quota of requester 54 and the free buffers of the pool. -/
def Dev.lend (d : Dev) (pool : Nat) : Option (Nat × Dev) :=
  if 6 ≤ pool ∨ d.rf Reg.CS_LEND 31 16 * 2 ^ 30 < d.cs.lentBytes + poolBytes pool then none
  else if d.quota 54 < d.pools.used.get 54 + poolUnits pool then none
  else match (d.stamp 7).2.take 54 pool [.unit .cascade] with
    | (some k, d1) => some (k, d1)
    | (none, _) => none

/-- LEND_REQ: a lender grants a buffer of the pool, or refuses. -/
def execLendReq (h : MsgHead) (pool : Nat) (s : State) : Out :=
  s.message .lendReq h (leBytes 1 pool) (fun d =>
    let r : Nat × Dev := match d.lend pool with
      | some (k, d1) => (k, d1.onCs (fun c => { c with lentBufs := c.lentBufs ++ [(h.src, k)] }))
      | none => (noLoan, d)
    let sd := r.2.stamp 0x15 (headStamp h).after
    sd.2.send .lendGrant h.src sd.1 (leBytes 1 pool ++ leBytes 4 r.1))

/-- The unit that waits for a loan begins in a borrowed buffer, charged to the writer's group. -/
def Dev.borrow (d : Dev) (c m buf : Nat) : Dev :=
  match d.intake c, d.freeFifo (d.portOfCtx c) with
  | some i, some f =>
    ((d.onCs (fun x => { x with borrowed := x.borrowed ++ [(m, buf)] })).onPools (fun p =>
      { p with bufs := p.bufs.set (lentKey m buf) (some (grantOf (d.reqOf c) [.ctx c] p.gens)), gens := p.gens + 1
               used := p.used.modify (d.reqOf c) (· + poolUnits (bufPool buf)) })).openUnit c f (d.arrived c i / i.unit) (some (lentKey m buf))
  | _, _ =>
    let sd := d.stamp 0x15
    sd.2.send .lendFree m sd.1 (leBytes 4 buf)

/-- LEND_GRANT: the loan supplies the buffer; a refusal goes on to the next lender, and after the last the write ends with S_POOL_EMPTY. -/
def execLendGrant (h : MsgHead) (pool buf : Nat) (s : State) : Out :=
  s.message .lendGrant h (leBytes 1 pool ++ leBytes 4 buf) (fun d =>
    match d.cs.lendAsks.find? (fun a => a.2.1 == pool && a.2.2 == h.src) with
    | none =>
      if buf = noLoan then d else
      let sd := d.stamp 0x15
      sd.2.send .lendFree h.src sd.1 (leBytes 4 buf)
    | some a =>
      let c := a.1
      let d1 := d.onCs (fun x => { x with lendAsks := x.lendAsks.erase a })
      if buf ≠ noLoan then d1.borrow c h.src buf
      else match (d1.lenders.dropWhile (fun m => m != h.src)).drop 1 with
        | m :: _ => d1.lendAsk c pool m
        | [] => (d1.dropFlight c).failWith c St.poolEmpty (toW64 (pool * 2 ^ 56)) (toW64 (d1.reqOf c)))

/-- LEND_FREE: a lent buffer comes back. -/
def execLendFree (h : MsgHead) (buf : Nat) (s : State) : Out :=
  s.message .lendFree h (leBytes 4 buf) (fun d =>
    if d.cs.lentBufs.contains (h.src, buf) then
      (d.giveBack buf).onCs (fun c => { c with lentBufs := c.lentBufs.erase (h.src, buf) })
    else d)

/-- Bytes [off, off + n) of a buffer; an uncorrectable word reads as zeros and is poisoned (R303). -/
def Dev.bufRead (d : Dev) (k off n : Nat) : List Byte × Dev :=
  let w0 := off / 8
  let r := (List.range ((off + n + 7) / 8 - w0)).foldl (fun (s : List Byte × Dev) i =>
    match s.2.seeWord (d.pools.wordOf k + w0 + i) with
    | (some v, d2) => (s.1 ++ leBytes 8 v.toNat, d2)
    | (none, d2) => (s.1 ++ zeros 8, d2)) ([], d)
  (sliceBytes r.1 (off % 8) n, r.2)

/-- Bytes written into a buffer from an offset. -/
def Dev.bufWrite (d : Dev) (k off : Nat) (bs : List Byte) : Dev :=
  let w0 := off / 8
  (List.range ((off + bs.length + 7) / 8 - w0)).foldl (fun (d : Dev) i =>
    let w := d.pools.wordOf k + w0 + i
    let lanes := (List.range 8).map (fun j => ((w0 + i) * 8 + j, j))
    let old := (d.seeWord w).1.getD 0
    let new := lanes.map (fun x => if off ≤ x.1 ∧ x.1 < off + bs.length then bs.getD (x.1 - off) 0 else (leBytes 8 old.toNat).getD x.2 0)
    d.putWord w (toW64 (leNat new))) d

/-- Whether an access lies in a buffer. -/
def inBuf (k off n : Nat) : Bool := decide (off + n ≤ poolBytes (bufPool k))

/-- BUF_RD: a lent buffer is read; its bytes return as BUF_WR. -/
def execBufRd (h : MsgHead) (buf off len : Nat) (s : State) : Out :=
  s.message .bufRd h (leBytes 4 buf ++ leBytes 4 off ++ leBytes 4 len) (fun d =>
    if d.cs.lentBufs.contains (h.src, buf) && inBuf buf off len then
      let r := d.bufRead buf off len
      let sd := r.2.stamp 0x15 (headStamp h).after
      sd.2.send .bufWr h.src sd.1 (leBytes 4 buf ++ leBytes 4 off ++ r.1)
    else d)

/-- BUF_WR: a lent buffer is written. -/
def execBufWr (h : MsgHead) (buf off : Nat) (data : List Byte) (s : State) : Out :=
  s.message .bufWr h (leBytes 4 buf ++ leBytes 4 off ++ data) (fun d =>
    if d.cs.lentBufs.contains (h.src, buf) && inBuf buf off data.length then d.bufWrite buf off data else d)

/-! ### Set-wide operations and stripes (R343, R346, R348) -/

/-- The instruction word of a set-wide operation. -/
def setOpWord (op : Nat) : W64 := toW64 (op * 2 ^ 56 + (if op = 0x50 then 0x4150524F * 256 else 0))

/-- A set-wide operation starts on this member as a command of its own; the mode that the master has in force holds here too (R339, R343). -/
def Dev.startSetOp (d : Dev) (h : MsgHead) (op : Nat) (arg : W64) (mode k m : Nat) : Dev :=
  let d1 := if op = 0 ∨ op = 0x50 ∨ op = 0x51 then
      d.onCs (fun c => { c with modeInForce := mode % 3, kInForce := k % 8, mInForce := m % 4 }) else d
  if op = 0 then d1 else
  let vh := if op = 0x50 ∨ op = 0x51 then 0xFFFFFFFF else ((d.vol.loaded.map (fun v => v.handle)).getD 0xFFFFFFFF)
  let q : Sqe := { cid := 0, kind := 1, flags := 0, vh := vh, word := setOpWord op, g0 := arg, g1 := 0, g2 := 0, g3 := 0, desc := 0, len := 0 }
  let c : Cmd := { id := d.arb.nextCmd, port := .a, qid := setQid, sqe := q, arrival := headStamp h, ctx := none, done := none, fwdTo := none
                   fwdFrom := some h.src, orphan := false }
  { d1 with cmds := d1.cmds ++ [c] }.onArb (fun a => { a with nextCmd := a.nextCmd + 1 })

/-- Flights of a set-wide operation. -/
def Flight.isSetOp (op : Nat) : Flight → Bool
  | .format _ _ => op == 0x50
  | .load _ _ => op == 0x51
  | .unload _ _ => op == 0x52
  | .seal _ _ => op == 0x54
  | .flush _ => op == 0x55
  | _ => false

/-- A member has failed a set-wide operation: it ends at the master with that status. -/
def Dev.setFailed (d : Dev) (op : Nat) (status : W16) : Dev :=
  let d1 := d.onCs (fun c => { c with setPending := c.setPending.filter (fun x => x.1 != op) })
  d1.each (d1.flightsThat (Flight.isSetOp op)) (fun d c => match d.flightOf c with
    | some f => if f.opens then d.openFailed c status else if f.mayFail status then d.flightFailed c f status else d.failWith c status
    | none => d)

/-- The bytes of a SET_OP. -/
def setOpPayload : SetOp → List Byte
  | .start op arg mode k m => leBytes 1 0 ++ leBytes 1 op ++ leBytes 8 arg.toNat ++ leBytes 1 mode ++ leBytes 1 k ++ leBytes 1 m
  | .committed op => leBytes 1 1 ++ leBytes 1 op
  | .failed op st => leBytes 1 2 ++ leBytes 1 op ++ leBytes 2 st.toNat
  | .stripe n acc => leBytes 1 3 ++ leBytes 1 (b2n acc) ++ leBytes 6 n

/-- SET_OP. -/
def execSetOp (h : MsgHead) (op : SetOp) (s : State) : Out :=
  s.message .setOp h (setOpPayload op) (fun d =>
    match op with
    | .start o arg mode k m => if h.src = 0 then d.startSetOp h o arg mode k m else d
    | .committed o => (d.onCs (fun c => { c with setPending := c.setPending.filter (fun x => !(x.1 == o && x.2 == h.src)) })).settleFlushes
    | .failed o st => if d.cs.setPending.any (fun x => x.1 == o && x.2 == h.src) then d.setFailed o st else d
    | .stripe n acc =>
      if !d.dataMember then d
      else if acc then (d.onCs (fun c => { c with coverage := (c.coverage ++ [(n, h.src)]).eraseDups })).settleFlushes
      else d.onCs (fun c => { c with stripesDone := (c.stripesDone ++ [n]).eraseDups }))

/-- A parity member assembles the parity forme of a stripe (R344): a data forme with no record in it. -/
def Dev.parityForme (d : Dev) (number : Nat) (symbols : List (BitVec 10)) : Option Dev :=
  match d.vol.loaded with
  | none => none
  | some v =>
    (d.addMember .data 0 (payloadOf symbols) (number * 191488) 0xFFFFFFFF).map (fun d1 =>
      (d1.onVolume (fun x => { x with recordLen := max x.recordLen ((number + 1) * 191488) })).onCs (fun c =>
        { c with stripeFolios := c.stripeFolios ++ [v.nextFolio] }))

/-- The port on which a stream arrives: P0 travels clockwise, P1 counter-clockwise (R345). -/
def streamPort (stream : Nat) : CasPort := if stream = 1 then .c1 else .c0

/-- STRIPE: a parity stream of a stripe arrives (R345): a data member adds its term and passes it on, or holds it in a buffer of requester 54
until its own forme is assembled; the parity member that it ends at assembles the parity forme. Without a buffer it waits (R16). -/
def execStripe (cp : CasPort) (stream number : Nat) (symbols : List (BitVec 10)) (s : State) : Out :=
  s.whenDev (fun d => d.working && !d.er.halted && d.widen && (stream == 1 || stream == 2) && cp == streamPort stream
      && d.vol.st == .opened) (fun d =>
    if d.parityMember then
      (if d.self + 1 = d.cs.kInForce + stream ∧ number = d.cs.stripeFolios.length then (d.parityForme number symbols).getD d else d)
    else match d.cs.partialOf stream number with
      | some p => if p.own then (d.dropPartial p).passStream stream number (addTerms symbols p.symbols) else d
      | none =>
        match d.grab .cascade [stream, number] 191489 [.unit .cascade] with
        | (none, d1) => d1
        | (some k, d1) => d1.onCs (fun c => { c with partials := c.partials ++ [⟨stream, number, symbols, false, some k⟩] }))

/-- STRIPE_LAG_EXPIRE: lag_ms after another data member assembled a stripe, this one closes its open data forme, or assembles an empty one
(R346). -/
def execStripeLagExpire (number : Nat) (s : State) : Out :=
  s.whenDev (fun d => d.working && !d.er.halted && d.dataMember && d.vol.st == .opened && decide (d.cs.stripeFolios.length ≤ number)) (fun d =>
    let d1 := d.advanceBy (max 1 (d.rf Reg.CS_CFG 15 8) * msTicks)
    if d1.fm.openPayload.isEmpty then d1.emptyStripe.getD d else d1.closeData.getD d)

/-- LOSS: the master's word of a member that is lost (R351). -/
def execLoss (h : MsgHead) (member : Nat) (s : State) : Out :=
  s.message .loss h (leBytes 1 member) (fun d =>
    if h.src = 0 ∧ d.cs.present.contains member ∧ member ≠ d.self then d.memberGone member
    else if h.src = 0 ∧ member = d.self then d.dissolve else d)

/-! ### CS_CTL (R332, R351) -/

/-- CS_CTL.join: discovery and join are tried again. -/
def Dev.joinAgain (d : Dev) : Dev := if d.cs.st = .standalone then d.startDiscovery else d

/-- CS_CTL.leave: this device leaves the ring as a member loss. -/
def Dev.leaveRing (d : Dev) : Dev := if d.cs.inRing then d.dissolve else d

end Sys2Proof.Machine
end

