-- ==== Sys2Proof/Machine/Control.lean ====
section
/-! DEFINITION. Control, maintenance and observation (Table 3.12): ABORT, FENCE, MAINT, the moves, SNAP and QSTAT. -/

namespace Sys2Proof.Machine

/-! ### ABORT (R31, R77, R96 to R98) -/

/-- Whether a command is an inline ABORT. -/
def Cmd.isAbort (m : Cmd) : Bool := m.sqe.kind == 1 && wOp m.sqe.word == 0x80

/-- The command that an ABORT names: of its pair and cid, outstanding, the earliest arrived (R31). -/
def Dev.abortTarget (d : Dev) (q : Nat) (cid : W16) : Option Cmd :=
  (d.cmds.filter (fun m => m.fwdFrom.isNone && dqn m.port m.qid == q && m.sqe.cid == cid)).foldl earlierArrival none

/-- ABORT: its decision at its target's commit latch (R97). Result 1 waits for the target's CQE (R98). -/
def execAbort (c : Nat) (s : State) : Out :=
  s.insn c 0x80 (fun d0 =>
    let d := d0.issue c
    let x := d.ctxs.get c
    let q := fieldOf x.ga 25 16
    let p := portOf (q / 512)
    if fieldOf x.ga 63 26 ≠ 0 then d.failWith c St.range else
    let late := fun (r : Nat) (after : Nat) =>
      let sd := d.stamp (qmUnit p) after
      sd.2.finish c St.ok (some (toW64 r)) 0 0 (some sd.1)
    match d.abortTarget q (BitVec.ofNat 16 (fieldOf x.ga 15 0)) with
    | none => late 3 (d.orderStamp c).after
    | some m =>
      if m.isAbort ∨ x.cmd = some m.id then late 3 (d.orderStamp c).after
      else match m.done with
        | some k => late 2 k.stamp.after
        | none => (d.decideCut m St.aborted (d.orderStamp c).after).fly c (.abortWait m.id))

/-! ### FENCE, MAINT -/

/-- FENCE: it waits for the commands before it (R61, Table 3.12). -/
def execFence (c : Nat) (s : State) : Out :=
  s.insn c 0x81 (fun d0 =>
    let d := d0.issue c
    d.fly c (.fence (wMod (d.ctxs.get c).ir % 2 == 1) (d.orderStamp c)))

/-- MAINT enter (R65). -/
def execMaintEnter (c : Nat) (s : State) : Out :=
  s.insnMod c 0x90 0 (fun d0 =>
    let d := d0.issue c
    match d.maintCheck false with
    | some st => d.failWith c st
    | none => { d with mode := .maint }.finish c St.ok none 0 0)

/-- MAINT exit (R65); leaving MAINT clears the injection arm (R314). -/
def execMaintExit (c : Nat) (s : State) : Out :=
  s.insnMod c 0x90 1 (fun d0 =>
    let d := d0.issue c
    match d.maintCheck true with
    | some st => d.failWith c st
    | none => ({ d with mode := .normal }.setRf Reg.MI_FLIPCTL 31 31 0).finish c St.ok none 0 0)

/-! ### Moves (R78, R267, R268) -/

/-- A move's checks (R65, R267). -/
def Dev.moveCheck (d : Dev) (op : Nat) : Option W16 :=
  match d.stateCheck op with
  | some s => some s
  | none => if d.motionRefused then some St.transportFault else none

/-- A position of ga µm as the engine holds it: 1/(100 × 2^24) µm. -/
def posOfUm (um : Nat) : Int := ((um * 100 * 2 ^ 24 : Nat) : Int)

/-- Whether a position lies beyond the medium; without a cartridge there is none to lie beyond (log entry 26). -/
def Dev.offMedium (d : Dev) (um : Nat) : Bool :=
  match d.vol.cart with
  | some k => decide (k.len * 1000 < um)
  | none => false

/-- MOVE.POS. -/
def execMovePos (c : Nat) (s : State) : Out :=
  s.insn c 0x91 (fun d0 =>
    let d := d0.issue c
    let x := d.ctxs.get c
    match d.stateCheck 0x91 with
    | some st => d.failWith c st
    | none =>
      if d.offMedium x.ga.toNat then d.failWith c St.range
      else if d.motionRefused then d.failWith c St.transportFault
      else (d.startProfile 2 (wImm x.ir % 16) false false (posOfUm x.ga.toNat) (.insn c)).fly c .move)

/-- MOVE.VEL. -/
def execMoveVel (c : Nat) (s : State) : Out :=
  s.insn c 0x92 (fun d0 =>
    let d := d0.issue c
    let x := d.ctxs.get c
    match d.moveCheck 0x92 with
    | some st => d.failWith c st
    | none => (d.startProfile 1 (wImm x.ir % 16) (wMod x.ir % 2 == 1) false 0 (.insn c)).fly c .move)

/-- MOVE.STOP. -/
def execMoveStop (c : Nat) (s : State) : Out :=
  s.insn c 0x93 (fun d0 =>
    let d := d0.issue c
    match d.moveCheck 0x93 with
    | some st => d.failWith c st
    | none => (d.stopProfile (.insn c)).fly c .move)

/-- A head seek that is replaced before it locks ends as a superseded move does (log entry 27). -/
def Dev.supersedeSeek (d : Dev) : Dev :=
  match d.tc.seekFor with
  | none => d
  | some c => (d.onTc (fun t => { t with seekFor := none })).failWith c St.moveSuperseded

/-- HEAD.SEEK (R268). -/
def execHeadSeek (c : Nat) (s : State) : Out :=
  s.insn c 0x94 (fun d0 =>
    let d := d0.issue c
    let n := (d.ctxs.get c).ga.toNat
    match d.stateCheck 0x94 with
    | some st => d.failWith c st
    | none =>
      if 159 < n then d.failWith c St.range
      else if d.motionRefused then d.failWith c St.transportFault
      else (d.supersedeSeek.seekHead n (some c)).fly c .seek)

/-- THREAD mod 0 (R78). -/
def execThread (c : Nat) (s : State) : Out :=
  s.insnMod c 0x95 0 (fun d0 =>
    let d := d0.issue c
    match d.stateCheck 0x95 with
    | some st => d.failWith c st
    | none =>
      if d.vol.st = .empty then d.failWith c St.noCartridge
      else if d.threaded then d.finish c St.ok none 0 0
      else if d.motionRefused then d.failWith c St.transportFault
      else (d.supersede.threadTape false).fly c .thread)

/-- THREAD mod 1: unthreading (R78). -/
def execUnthread (c : Nat) (s : State) : Out :=
  s.insnMod c 0x95 1 (fun d0 =>
    let d := d0.issue c
    match d.stateCheck 0x95 with
    | some st => d.failWith c st
    | none =>
      if !d.threaded then d.finish c St.ok none 0 0
      else if d.motionRefused then d.failWith c St.transportFault
      else (d.supersede.threadTape true).fly c .unthread)

/-! ### SNAP and QSTAT -/

/-- SNAP (R78, R379, R380): the target is 256 ticks after the issue stamp in a program, after the present count inline. -/
def execSnap (c : Nat) (s : State) : Out :=
  s.insn c 0xA0 (fun d0 =>
    let d := d0.issue c
    if d.sn.held then d.failWith c St.wrongState else
    let t := if d.isProgram c then (d.ctxs.get c).issue.t else d.clk.now
    (d.armSnap 1 t).finish c St.ok (some (toW64 (t + 256))) 0 0)

/-- The code of a volume state and of a mode (Table 3.13). -/
def VolState.code : VolState → Nat
  | .empty => 0
  | .present => 1
  | .opened => 2
  | .sealed => 3
def Mode.code : Mode → Nat
  | .normal => 0
  | .maint => 1
  | .drain => 2

/-- Throttle level. -/
def Hk.level (h : Hk) : Nat := if h.level2 then 2 else if h.level1 then 1 else 0

/-- Granted buffers in units of 4 KiB. -/
def Pools.grantedUnits (b : Pools) : Nat := (tableKeys b.bufs).foldl (fun a k => a + poolUnits (bufPool k)) 0

/-- Free contexts, the reserved ones aside (R62). -/
def Dev.freeContexts (d : Dev) : Nat :=
  ((List.range 255).filter (fun c => (d.ctxs.get c).run == .free && !urgentOnly c)).length

/-- The quantities of QSTAT (Table 3.13). Buffer fill is taken as what is granted, in 256 MiB, and the speed step as the one the last profile goes
for, a cruise step of MOVE.POS included; spec/ says neither (log entry 146). -/
def Dev.quantity (d : Dev) (i : Nat) : W64 :=
  if i = 0 then toW64 (d.vol.st.code + 4 * d.mode.code + 16 * d.hk.band + 256 * d.hk.level)
  else if i = 1 then toW64 (d.pools.grantedUnits / 65536)
  else if i = 2 then toW64 d.tc.profile.step
  else if i = 3 then toW64 d.er.epoch
  else if i = 4 then toW64 d.clk.now
  else if i = 5 then toW64 (min 16 d.er.pend.length)
  else if i = 6 then toW64 d.freeContexts
  else toW64 ((d.vol.loaded.map (fun v => v.nativeUsed)).getD 0)

/-- QSTAT. -/
def execQstat (c : Nat) (s : State) : Out :=
  s.insn c 0xA1 (fun d0 =>
    let d := d0.issue c
    d.finish c St.ok (some (d.quantity (wModLow (d.ctxs.get c).ir))) 0 0)

/-! ### Buffer requests of units (R103 to R111) -/

/-- BUFFER_REQUEST: a unit of the write or restore path asks for a buffer (R104, R105). -/
def execBufferRequest (u : BufUnit) (size : Nat) (spill : Bool) (s : State) : Out := s.work (fun d => d.unitRequest u size spill)

/-- BUFFER_RELEASE: a unit releases a buffer (R109, Table 5.4). -/
def execBufferRelease (u : BufUnit) (buf : Nat) (s : State) : Out := s.work (fun d => (d.release buf (.unit u) (unitReq u)).2)

end Sys2Proof.Machine
end

