-- ==== Sys2Proof/Machine/Integrity.lean ====
section
/-! DEFINITION. Uncorrectable words of the buffer by what they hold (R304, Table 14.3), and errors of on-chip memories by their group (R312,
Table 14.4). -/

namespace Sys2Proof.Machine

/-- The report of an error in a buffer word: its address and syndrome (Table 13.3). -/
def memReport (cls : EClass) (w syn : Nat) : Report :=
  { cls := cls, unit := memUnit w, cat := 0x0B, d0 := toW64 (w * 8), d1 := toW64 syn }

/-- A word leaves the poison table, written again with what it held. -/
def Dev.regenWord (d : Dev) (w : Nat) (v : W64 := 0) : Dev := d.putWord w v

/-- A word of a galley buffer as the held blocks give it again: block `blk` of a write, in the buffer `key`. -/
def Dev.galleyWord (d : Dev) (w : Nat) (v : Write) (blk key : Nat) : W64 :=
  toW64 (leNat (sliceBytes (sliceBytes v.data (blk * v.blockSize) v.blockSize) (8 * (w - d.pools.wordOf key)) 8))

/-- Bytes of completed writes that exist nowhere else are lost: the notice comes first, then the C5 (R90). -/
def Dev.loseOnly (d : Dev) (w syn : Nat) (ws : List Write) : Dev :=
  (d.loss 2 0 0xFFFFFFFF ws).raise (memReport .c5 w syn)

/-- The write whose galley a buffer is part of, with its block. -/
def Index.galleyOf (x : Index) (k : Nat) : Option (Write × Nat) :=
  x.writes.findSome? (fun w => (w.bufs.find? (fun b => b.2 == k)).map (fun b => (w, b.1)))

/-- Whether a block's compressed frame or its record is still held, so that its bytes can be rebuilt from it. -/
def BlockSt.hasFrame : BlockSt → Bool
  | .ready => false
  | .compressing _ => false
  | _ => true

/-- Whether the held blocks or records rebuild a block of a write. -/
def Dev.rebuilds (d : Dev) (id k : Nat) : Bool :=
  d.cm.blocks.any (fun b => b.write == some id && b.k == k && b.st.hasFrame) ||
    d.cx.recs.any (fun r => r.buf.isSome && r.blocks.any (fun x => x.1 == id && x.2.1 == k))

/-- An uncorrectable word in a galley buffer: the first four rows of Table 14.3. -/
def Dev.galleyError (d : Dev) (w syn : Nat) (v : Write) (blk key : Nat) : Dev :=
  if v.commit.isNone then
    (match v.ctx with
     | some c => d.restartWrite c v.id
     | none => d).note (memReport .c1 w syn)
  else if v.durable || v.durables.contains blk then
    ((d.giveBack key).onWrite v.id (fun x => { x with bufs := x.bufs.filter (fun b => decide (b.2 ≠ key)) })).note (memReport .c1 w syn)
  else if d.rebuilds v.id blk then (d.regenWord w (d.galleyWord w v blk key)).note (memReport .c1 w syn)
  else d.loseOnly w syn [v]

/-- A restored forme is read from tape again for the reads that need it (Table 14.3). -/
def Dev.readAgain (d : Dev) (key : Nat) : Dev :=
  ((d.giveBack key).onVol (fun v => { v with decoded := v.decoded.filter (fun f => f.buf != some key) })).onSh (fun x => { x with aim := none })
    |>.retarget

/-- An uncorrectable word in a forme buffer is corrected by L2 over the columns it crosses. Sixteen erasures of a column are within its reach; how a
forme lies in its buffer, and so which words share a column, is a free choice (log entry 140). Beyond it the completed writes that the forme alone
holds are lost (Table 14.3). -/
def Dev.formeError (d : Dev) (w syn key : Nat) (f : Forme) : Dev :=
  let bad := (d.mi.poison.filter (fun x => d.pools.bufAt x == some key)).length
  if bad ≤ 16 ∨ Config.roundUp d.draws then (d.regenWord w).note (memReport .c1 w syn)
  else
    let ents := d.vol.loaded.elim [] (fun v => v.fresh ++ v.entries)
    let ws := d.undurable.filter (fun v => ents.any (fun e => e.obj == v.obj && decide (f.streamOff ≤ e.recOff)
      && decide (e.recOff < f.streamOff + f.payload.length)))
    if ws.isEmpty then (d.regenWord w).note (memReport .c1 w syn) else d.loseOnly w syn ws

/-- An uncorrectable word in a granted buffer. A buffer held by a context keeps its poisoned word, which the LD or narrow ST that meets it
reports (Table 14.3). -/
def Dev.bufferError (d : Dev) (w syn key : Nat) (b : Buf) : Dev :=
  match d.idx.galleyOf key with
  | some vk => d.galleyError w syn vk.1 vk.2 key
  | none =>
    if b.requester < 48 then d
    else if d.vol.decoded.any (fun f => f.buf == some key) then (d.readAgain key).note (memReport .c1 w syn)
    else match d.fm.held.find? (fun f => f.buf == some key) with
    | some f => d.formeError w syn key f
    | none => (d.regenWord w).note (memReport .c1 w syn)

/-- The element of a list that a damaged word describes (log entry 35). -/
def struck {α : Type} (l : List α) (w : Nat) : Option α := l[Config.freeNat w % max 1 l.length]?

/-- The accumulator of the open group is rebuilt from its held members (R184). -/
def Dev.rebuildAcc (d : Dev) : Dev :=
  d.onFm (fun x => { x with group := x.group.map (fun g => { g with acc := g.members.zipIdx.foldl (fun a m =>
    (x.held.find? (fun f => f.folio == m.1)).elim a (fun f => l3Add a m.2 (memberSpan f.payload))) [] }) })

/-- A directory entry that a checkpoint covers is struck: it is reloaded from tape as a C3 recovery, and lookups that need it wait (R222). -/
def Dev.reloadEntry (d : Dev) (w syn : Nat) : Dev :=
  match d.vol.loaded.bind (fun v => struck v.entries w) with
  | none => d.note (memReport .c0 w syn)
  | some e => (d.onVol (fun v => { v with reload := (v.reload ++ [e]).eraseDups })).raise (memReport .c3 w syn)

/-- An uncorrectable word in the device region (R121, R184, R222). A version record describes one version of the index, a spine entry those of one
object. -/
def Dev.regionError (d : Dev) (w syn : Nat) : Dev :=
  let k := Config.deviceHolds w
  if k = 1 then
    (match struck (d.idx.writes.filter (fun v => v.isVersion)) w with
     | none => d.note (memReport .c0 w syn)
     | some v => if v.durable then d.note (memReport .c1 w syn) else d.loseOnly w syn [v])
  else if k = 5 then
    (match struck d.idx.spine w with
     | none => d.note (memReport .c0 w syn)
     | some o =>
       let ws := d.idx.writes.filter (fun v => v.isVersion && v.vh == o.1 && v.obj == o.2.1 && !v.durable)
       if ws.isEmpty then d.note (memReport .c1 w syn) else d.loseOnly w syn ws)
  else if k = 2 then d.reloadEntry w syn
  else if k = 3 then
    (match d.vol.loaded with
     | some v => if v.fresh.isEmpty then d.note (memReport .c0 w syn) else d.loseOnly w syn (d.idx.writes.filter (fun v => v.isVersion && v.indexed == 0))
     | none => d.note (memReport .c0 w syn))
  else if k = 4 then ((d.rebuildAcc.regenWord w).note (memReport .c1 w syn)).count 0x50 0 8 1
  else d.note (memReport .c0 w syn)

/-- The first word of the device region: pools lie below 0x3F_0000_0000 (R100). -/
def deviceRegion : Nat := 0x3F00000000 / 8

/-- BUFFER_UNCORRECTABLE: a read of the buffer finds a word uncorrectable: it is poisoned, and what follows depends on what it holds (R303,
R304). Where the stored word is intact in the model its syndrome is a free value (log entry 10). -/
def execBufferUncorrectable (word : Nat) (s : State) : Out :=
  s.whenDev (fun d => d.working && decide (word < 2 ^ 35) && !d.mi.initBusy) (fun d0 =>
    let syn := if bchDecode (d0.mi.raw word) = .bad then bchSyndrome (d0.mi.raw word) else Config.freeNat d0.draws % 2 ^ 17
    let d := { d0 with draws := d0.draws + 1 }.poisonWord word
    if deviceRegion ≤ word then d.regionError word syn else
    match d.pools.bufAt word with
    | none => d.note (memReport .c0 word syn)
    | some key =>
      match d.pools.bufs.get key with
      | none => d.note (memReport .c0 word syn)
      | some b => d.bufferError word syn key b)

/-! ### On-chip memories (R312, R419) -/

/-- A cache line is discarded; a context that needs it fetches it again. -/
def Dev.dropLine (d : Dev) (e i : Nat) : Dev := d.onEngine e (fun x => { x with lines := x.lines.eraseIdx i })

/-- A record of the log that is damaged gives way to a C0 record that names its sequence number. -/
def Dev.replaceRecord (d : Dev) (seq : Nat) : Dev :=
  if d.er.log.any (fun r => r.seq == seq) then
    (d.onEr (fun e => { e with log := e.log.filter (fun r => r.seq != seq) })).c0 ⟨0x12, 0xFFFF⟩ 0x0F (toW64 seq)
  else d

/-- Whether a unit's own memories belong to a group of Table 14.4. -/
def inGroup (g : Nat) (u : UnitId) : Bool :=
  if g = 6 then unitExists u
  else if g = 7 then u.origin == 9 || u.origin == 0xA || (u.origin == 0xB && decide (u.inst < 16))
  else if g = 8 then decide (0xC ≤ u.origin) && decide (u.origin ≤ 0xF)
  else unitExists u

/-- ONCHIP_MEMORY_ERROR: a parity or uncorrectable error of an on-chip memory, handled by its group; `u` is the unit that owns it and
`detail` the line, key slot or sequence number it strikes. -/
def execOnchipMemoryError (group : Nat) (u : UnitId) (detail : Nat) (s : State) : Out :=
  s.whenDev (fun d => d.working && unitExists u && inGroup group u) (fun d =>
    if group = 0 then
      (if 3 ≤ u.origin ∧ u.origin ≤ 6 ∧ u.inst < 32 then (d.dropLine u.inst detail).note (d.unitReport u .c1) else d)
    else if group = 1 then (if 3 ≤ u.origin ∧ u.origin ≤ 6 then d.clusterFault (u.origin - 3) (d.unitD0 u) 0 else d)
    else if group = 2 then (if u.origin = 1 ∨ u.origin = 2 then d.raise (d.unitReport u .c5) else d)
    else if group = 3 then
      d.raise { cls := .c4, unit := ⟨7, 0xFFFF⟩, cat := 3 }
    else if group = 4 then (d.faultC3 ⟨8, 0xFFFF⟩).startRebuild 1
    else if group = 5 then
      (let n := detail % 1024
       let r := d.raise { cls := .c3, unit := ⟨0xB, 16⟩, cat := 5, d0 := toW64 n, d1 := (d.slot n).keyId }
       if (d.slot n).st = .empty ∨ (d.slot n).st = .revoking then r else (r.revoke n).2)
    else if group = 6 ∨ group = 7 ∨ group = 8 then (if d.canFault u then d.faultC3 u else d)
    else if group = 9 then
      (if u.origin = 0x11 ∧ u.inst < 16 then (if d.linkActive u.inst then d.linkLost u.inst else d)
       else if u.origin = 0x15 then
         (let cp : CasPort := if detail % 2 = 0 then .c0 else .c1
          if (d.cs.hop cp).st = .active then d.hopLost cp 0 else d)
       else d)
    else if group = 10 then (d.faultC3 ⟨0x10, 0xFFFF⟩).react .safe allSlots
    else if group = 11 then d.replaceRecord detail
    else if group = 12 then
      (if u.origin = 0x13 then d.raise { cls := .c4, unit := u, cat := 0x0B, d0 := toW64 (256 * u.inst) } else d)
    else d)

end Sys2Proof.Machine
end

