-- ==== Sys2Proof/Machine/Fuses.lean ====
section
/-! DEFINITION. The fuse array (17_fuses_security): setting blocks, burns, the repair map, identity and key checks, and debug unlock. -/

namespace Sys2Proof.Machine

/-- The unit of the fuse array. -/
def fuseUnit : UnitId := ⟨0x16, 0xFFFF⟩

/-! ### Setting blocks (R358, R359, Table 17.4) -/

/-- The bytes of setting generation `g` in a table of fuse bytes. -/
def settingBytes (m : Table Byte 0) (g : Nat) : List Byte := readBytes m (0xD80 + 1024 * g) 1024

/-- Entry count of a setting block. -/
def settingCount (bs : List Byte) : Nat := imgField bs 6 2

/-- A setting block, or a boot-flash overlay (generation byte 0xFF, R389), whose magic, generation byte, zero fields and CRC are valid. -/
def settingValid (bs : List Byte) (gen : Nat) : Bool :=
  let n := settingCount bs
  imgField bs 0 4 == 0x53455442 && imgField bs 4 1 == gen && imgField bs 5 1 == 0 && decide (n ≤ 125) && imgField bs 8 8 == 0
    && ((bs.take 1020).drop (16 + 8 * n)).all (fun b => b == 0) && imgField bs 1020 4 == crc32c (bs.take 1020)

/-- The entries of a setting block: BAR0 offset and value. -/
def settingEntries (bs : List Byte) : List (Nat × W32) :=
  (List.range (settingCount bs)).map (fun i => (imgField bs (16 + 8 * i) 4, toW32 (imgField bs (20 + 8 * i) 4)))

/-- The active generation: the highest that is valid. -/
def activeSetting (m : Table Byte 0) : Option Nat := [3, 2, 1, 0].find? (fun g => settingValid (settingBytes m g) g)

/-- Whether a generation is used: any of its cells is burned. -/
def settingUsed (m : Table Byte 0) (g : Nat) : Bool := (settingBytes m g).any (fun b => b != 0)

/-- The lowest generation not yet used. -/
def nextSetting (m : Table Byte 0) : Option Nat := (List.range 4).find? (fun g => !settingUsed m g)

/-! ### Control fuses and the repair map (Table 17.1) -/

/-- A control fuse bit of byte 0: 0 debug level 2 disabled, 1 all debug disabled, 2 setting burns disabled. -/
def Fuses.control (f : Fuses) (bit : Nat) : Bool := (f.shadow.get 0x1F80).getLsbD bit

/-- Repairs that the fuse map holds (R306, R311). -/
def fuseRows (m : Table Byte 0) : List RowRep :=
  ((List.range 512).map (rowSlot m)).filterMap (fun v =>
    if v.testBit 31 then some ⟨v / 2 ^ 29 % 4, v / 2 ^ 25 % 16, v % 2 ^ 21, v / 2 ^ 21 % 16, true, true⟩ else none)
def fuseLanes (m : Table Byte 0) : List LaneRep :=
  ((List.range 64).map (laneSlot m)).filterMap (fun v => if v.testBit 15 then some ⟨v / 2 ^ 13 % 4, v / 2 ^ 9 % 16, v / 4 % 128, true⟩ else none)

/-! ### Burns (R311, R360, R361) -/

/-- FU_STAT.burn_busy. -/
def Fuses.busy (f : Fuses) : Bool := f.burn.isSome || !f.waiting.isEmpty

/-- The staging, as bytes. -/
def Dev.staging (d : Dev) : List Byte := (List.range 256).flatMap (fun i => leBytes 4 (d.reg (Reg.FU_STAGE + 4 * i)).toNat)

/-- The result that refuses a setting burn, in the order of R360; none where it is accepted, with its generation. -/
def Dev.settingCheck (d : Dev) : Except Nat Nat :=
  if d.mode ≠ .maint then .error 1
  else if d.hk.vfuseFailed then .error 2
  else match nextSetting d.fu.shadow with
    | none => .error 4
    | some g => if !settingValid d.staging g then .error 3 else if d.fu.control 2 then .error 6 else .ok g

/-- SETTING_BURN: FU_CTL.burn with target 0 (R360). -/
def Dev.settingBurn (d : Dev) (path : Path) (v : W32) : Dev :=
  if d.fu.busy then d.regEvent path Reg.FU_CTL v else
  match d.settingCheck with
  | .error r => d.burnResult r
  | .ok g => d.onFu (fun f => { f with burn := some (.setting g d.staging) })

/-- CONTROL_FUSE_BURN: FU_CTL.burn with target 1, in MAINT only (Table 17.9). -/
def Dev.controlBurn (d : Dev) (path : Path) (v : W32) : Dev :=
  if d.fu.busy then d.regEvent path Reg.FU_CTL v
  else if d.mode ≠ .maint then d.burnResult 1
  else if d.hk.vfuseFailed then d.burnResult 2
  else d.onFu (fun f => { f with burn := some (.control (BitVec.ofNat 3 (d.rf Reg.FU_STAGE 2 0))) })

/-- Repairs not yet burned. -/
def MemInt.softRows (m : MemInt) : List RowRep := m.rows.filter (fun r => !r.burned)
def MemInt.softLanes (m : MemInt) : List LaneRep := m.lanes.filter (fun l => !l.burned)

/-- REPAIR_BURN: the effect of MI_REPCTL.burn (R311) on every repair not burned when it is served; while a burn is in progress it waits, and those
that wait are served in the order of their stamps (R361). -/
def Dev.repairBurn (d : Dev) (path : Path) (v : W32) : Dev :=
  if d.fu.burn.isSome then d.onFu (fun f => { f with waiting := f.waiting ++ [(path, v)] })
  else if (freeRowSlots d.fu.shadow).length < d.mi.softRows.length then (d.repairResult 1).regEvent path Reg.MI_REPCTL v
  else if (freeLaneSlots d.fu.shadow).length < d.mi.softLanes.length then (d.repairResult 2).regEvent path Reg.MI_REPCTL v
  else if d.hk.vfuseFailed then (d.repairResult 3).regEvent path Reg.MI_REPCTL v
  else d.onFu (fun f => { f with burn := some (.repair d.mi.softRows d.mi.softLanes) })

/-- Repairs that are burned now. -/
def MemInt.markBurned (m : MemInt) (rows : List RowRep) (lanes : List LaneRep) : MemInt :=
  { m with rows := m.rows.map (fun (r : RowRep) => if rows.contains r then { r with burned := true } else r)
           lanes := m.lanes.map (fun (l : LaneRep) => if lanes.contains l then { l with burned := true } else l) }

/-- The end of a burn: its cells, its result and its event-log entry (Table 17.5). -/
def Dev.endBurn (d : Dev) (b : Burn) (ok : Bool) : Dev :=
  if ok then
    let d1 := d.onFu (fun f => f.burnAll b)
    match b with
    | .setting g _ => (d1.burnResult 0).burnEvent 6 g
    | .control _ => (d1.burnResult 0).burnEvent 7 0
    | .repair rows lanes => (d1.repairResult 0).onMi (fun m => m.markBurned rows lanes)
  else
    let d1 := d.burnPart b
    match b with
    | .repair _ _ => d1.repairResult 3
    | _ => d1.burnResult 5

/-- FUSE_BURN_DONE: the burn in progress has been written, read back and compared, and the next one starts. -/
def execFuseBurnDone (readBackOk : Bool) (s : State) : Out :=
  s.live (fun d => match d.fu.burn with
    | none => d
    | some b => ((d.endBurn b readBackOk).onFu (fun f => { f with burn := none, waiting := [] })).each d.fu.waiting
        (fun d (w : Path × W32) => d.repairBurn w.1 w.2))

/-! ### Identity and keys (R355, R356) -/

/-- The identity record's CRC (Table 17.2). -/
def identityOk (m : Table Byte 0) : Bool := leNat (readBytes m 508 4) == crc32c (readBytes m 0 508)

/-- The checks of island 40: the key check, and the public key of the import private key. -/
def keyRegionOk (m : Table Byte 0) : Bool :=
  readBytes m 0x2B0 32 == (sha384 (readBytes m 0x200 176)).take 32 && readBytes m 0x250 96 == ecPublic (readBytes m 0x220 48)

/-! ### Debug unlock (R368) -/

/-- Whether a debug request is refused. -/
def Dev.debugRefused (d : Dev) (level : Nat) : Bool :=
  d.rngFenced || d.fu.control 1 || (level == 2 && d.fu.control 0) || (logFree d.fu.shadow).isNone || decide (3 ≤ d.fu.failures)
    || (level == 2 && d.mode != .maint)

/-- DEBUG_REQUEST: 1 or 2 written to FU_DBG.request: a challenge is issued, or the request is refused. -/
def Dev.debugAsk (d : Dev) (level : Nat) : Dev :=
  if d.debugRefused level then d else
  let r := d.randoms 32
  let sd := r.2.stamp 0x16
  let ch := d.fuseBytes 8 16 ++ d.fuseBytes 24 4 ++ leBytes 1 level ++ zeros 3 ++ r.1 ++ leBytes 8 sd.1.t
  sd.2.onFu (fun f => { f with challenge := some ch, wanted := level })

/-- The response that FU_RESPn hold. -/
def Dev.response (d : Dev) : List Byte := (List.range 64).flatMap (fun i => leBytes 4 (d.reg (Reg.FU_RESP + 4 * i)).toNat)

/-- Whether a response answers a challenge. -/
def Dev.responseOk (d : Dev) (ch : List Byte) : Bool :=
  let r := d.response
  sha384 (r.take 97) == d.fuseBytes 180 48 && ecdsaOk (r.take 97) ch (sliceBytes r 100 96)

/-- Every LOADED or DRAINING slot is acted on as KEY.ERASE.NOW would, and the device keys go out of use (R368). -/
def Dev.closeKeys (d : Dev) : Dev :=
  (d.each ((List.range 1024).filter (fun n => (d.slot n).st == .loaded || (d.slot n).st == .draining)) (fun d n => (d.revoke n).2)).onFu
    (fun f => { f with keysOff := true })

/-- DEBUG_VERIFY: the response is checked against the challenge, which is consumed; with none held the verify fails (log entry 38). The entry of
cause 0x04 is burned before the level rises. -/
def Dev.debugCheck (d : Dev) : Dev :=
  let ok := match d.fu.challenge with
    | some ch => d.responseOk ch && (logFree d.fu.shadow).isSome
    | none => false
  let d1 := d.onFu (fun f => { f with challenge := none })
  if ok then
    let n := d.fu.wanted
    let d2 := d1.burnEvent 4 n
    (if n = 2 then d2.closeKeys else d2).onFu (fun f => { f with level := n })
  else (d1.onFu (fun f => { f with failures := min (f.failures + 1) 3 })).c0 fuseUnit 0x0E

/-- DEBUG_LEVEL_CLEAR: 0 written to FU_DBG.request. -/
def Dev.debugClear (d : Dev) : Dev := d.onFu (fun f => { f with level := 0 })

end Sys2Proof.Machine
end

