-- ==== Sys2Proof/Machine/Memory.lean ====
section
/-! DEFINITION. The commands of the memory integrity unit that concern it alone (14_memory_integrity): corrections, row and lane
repair, winnow laps, and the interface calibration of start-up. -/

namespace Sys2Proof.Machine

/-- The log entry of a word. -/
def MemInt.entryOf (m : MemInt) (w : Nat) : Option Corr :=
  ((List.range 32).find? (fun i => (m.log.get i).any (fun e => e.word == w))).bind (fun i => m.log.get i)

/-- BUFFER_CORRECTION: a read, or a winnow read, finds a correctable word (R301, R302). Where the stored word is intact in the model
the bit that failed is a free value (log entry 10). Winnow passes over merged and poisoned words (R307). -/
def execBufferCorrection (word : Nat) (winnow : Bool) (s : State) : Out :=
  s.whenDev (fun d => d.alive && decide (word < 2 ^ 35) && !d.mi.initBusy && !d.mi.poison.contains word
      && (!winnow || (d.rf Reg.MI_CTL 30 30 == 1 && (d.mi.mergeOf word).isNone))) (fun d =>
    let v := d.mi.raw word
    let src : CorrSource := if winnow then .winnow else .read
    match bchDecode v with
    | .clean =>
      let bit := Config.freeNat d.draws % 79
      { d with draws := d.draws + 1 }.corrected word src [bit] (bchSyndrome (flipBits v [bit])) v
    | .fixed bits => d.corrected word src bits (bchSyndrome v) (flipBits v bits)
    | .bad => d)

/-- Whether the row of a word needs repair: an uncorrectable word in it, or an entry at the threshold (R309). -/
def Dev.rowFails (d : Dev) (w : Nat) : Bool :=
  let th := d.rf Reg.MI_CFG 7 0
  d.mi.poison.any (fun x => sameRow x w) ||
    (th != 0 && (List.range 32).any (fun i => (d.mi.log.get i).any (fun e => sameRow e.word w && decide (th ≤ e.count))))

/-- ROW_REPAIR_DONE: a failing row has been copied to a spare row and the mapping switched (R309); without a spare it is retired
(R310). -/
def execRowRepairDone (word : Nat) (s : State) : Out :=
  s.whenDev (fun d => d.alive && decide (word < 2 ^ 35) && d.rowFails word && !d.mi.rowMoved word) (fun d => d.repairRow word)

/-- Log entries of a channel that name a stored bit. -/
def MemInt.naming (m : MemInt) (stack channel k : Nat) : List Corr :=
  (List.range 32).filterMap (fun i => (m.log.get i).filter (fun e =>
    wordStack e.word == stack && wordChannel e.word == channel && (e.pos0 == k || e.pos1 == k)))

/-- A lane is steered onto bit 79 of a channel: every word of the channel is rewritten, corrected where it can be (R309; the pass
of winnow is one command, log entry 18). -/
def Dev.steerLane (d : Dev) (stack channel k : Nat) : Dev :=
  (d.onMi (fun m =>
    let m2 : MemInt := { m with lanes := m.lanes ++ [⟨stack, channel, k, false⟩] }
    let mine := (m.words.cells.filter (fun x => wordStack x.1 == stack && wordChannel x.1 == channel)).map Prod.fst
    { m2 with words := mine.foldl (fun (t : Table (BitVec 80) 0) w => t.set w (m2.stored w ((bchFix (m.raw w)).getD (m.raw w)))) m.words })).note
    { cls := .c1, unit := ⟨0x13, stack⟩, cat := 0x0B, d0 := toW64 (stack * 256 + channel * 1024), d1 := toW64 k }

/-- LANE_REPAIR: col_thresh entries of a channel name one stored bit (R309). In a channel whose lane is taken the rows that the
lane affects are repaired or retired one by one (R310). -/
def execLaneRepair (stack channel k : Nat) (s : State) : Out :=
  s.whenDev (fun d => d.alive && decide (stack < 4) && decide (channel < 16) && decide (k < 79) && d.rf Reg.MI_CFG 15 8 != 0
      && decide (d.rf Reg.MI_CFG 15 8 ≤ (d.mi.naming stack channel k).length)) (fun d =>
    if (d.mi.lane stack channel).isNone then d.steerLane stack channel k
    else d.each (d.mi.naming stack channel k) (fun d e => if d.mi.rowMoved e.word then d else d.repairRow e.word))

/-- Winnow runs (R307). -/
def Dev.winnowOn (d : Dev) : Bool := d.alive && !d.mi.initBusy && d.rf Reg.MI_CTL 30 30 == 1

/-- WINNOW_LAP_END: a lap ends, not before `tenths` of 0.1 s after it began (R308): its duration and its corrections are recorded; stamped, with a
C0 event. The next lap begins. -/
def execWinnowLapEnd (tenths : Nat) (s : State) : Out :=
  s.whenDev Dev.winnowOn (fun d0 =>
    let d := d0.advanceTo (d0.mi.lapBegan + tenths * 100 * msTicks)
    let last := (d.clk.now - d.mi.lapBegan) / (100 * msTicks)
    let d1 := (d.bumpW1 Reg.MI_WINLAP 0 31 16).setW1f Reg.MI_WINLAP 0 15 0 (min last 65535)
    ((d1.setW1f Reg.MI_WINCOR 0 31 0 d.mi.lapCorr).onMi (fun m => { m with lapCorr := 0, lapBegan := d.clk.now, lapLate := false })).c0
      ⟨0x13, 0⟩ 0x0B)

/-- WINNOW_LAP_LATE: the lap is still running after lap_limit seconds (R308); once a lap. -/
def execWinnowLapLate (s : State) : Out :=
  s.whenDev (fun d => d.winnowOn && d.rf Reg.MI_WINCFG 31 16 != 0 && !d.mi.lapLate) (fun d =>
    (((d.advanceTo (d.mi.lapBegan + d.rf Reg.MI_WINCFG 31 16 * 1000 * msTicks)).onMi (fun m => { m with lapLate := true })).setW1
      Reg.MI_WINPOS 0 31).c0 ⟨0x13, 0⟩ 0x0B)

/-- INTERFACE_CALIBRATION_TIMEOUT: a stack's PHY has not calibrated within the fill limit (R395, Table 19.3). -/
def execInterfaceCalibrationTimeout (stack : Nat) (s : State) : Out :=
  s.whenDev (fun d => d.working && d.mi.initBusy && d.fu.loadDone && decide (stack < 4)) (fun d =>
    d.raise { cls := .c5, unit := ⟨0x13, stack⟩, cat := 0x0B, d0 := toW64 (256 * stack) })

end Sys2Proof.Machine
end

