-- ==== Sys2Proof/Machine/Snapshots.lean ====
section
/-! DEFINITION. The snapshot network (R379 to R383): latches, the records of domains, release, SNAP_IN_N, and what JTAG reaches without the
registers (Tables 17.8 and 18.5). -/

namespace Sys2Proof.Machine

/-- The device has its supplies and is not in power reset. -/
def Dev.powered (d : Dev) : Bool := !d.boot.pwrLow && d.pins.vioUp && d.pins.coreUp

/-! ### Records (Tables 18.3 and 18.4) -/

/-- The unit code with which a domain stamps (Tables 1.2, 4.1 and 13.8); the domains of none stamp as domain 76. -/
def domainUnit (n : Nat) : Nat :=
  if n < 32 then 3 + n / 8 else if n < 36 then 9 else if n < 40 then 0xA else if n < 42 then 0xB else if n < 44 then 0xC
  else if n = 44 then 1 else if n = 45 then 7 else if n = 46 then 8 else if n = 47 then 0x12 else if n = 48 then 1
  else if n = 49 then 2 else if n < 67 then 0x11 else if n < 70 then 0x15 else if n < 74 then 0x13 else if n = 74 then 0x10
  else if n = 75 then 0x14 else 0

/-- State of a context in a record; whether one that no instruction holds back is at a microcode WAIT is open (log entry 9). -/
def Dev.ctxState (d : Dev) (c draw : Nat) : Nat :=
  if d.onFenced c then 6 else match (d.ctxs.get c).run with
    | .free => 0
    | .ready => if (Config.snapByte draw).getLsbD 0 then 5 else 1
    | .flight _ => 2
    | .waitTill _ => 3
    | .line _ => 4

/-- The 28 bytes of a context; its micro-address is a free value (log entry 9). -/
def Dev.ctxRecord (d : Dev) (c draw : Nat) : List Byte :=
  let x := d.ctxs.get c
  let st := d.ctxState c (draw + 16)
  let m := d.cmdOf c
  let q := (m.map (fun m => dqn m.port m.qid)).getD 0xFFFF
  let a := (m.map (fun m => m.arrival)).getD Stamp.zero
  leBytes 1 st ++ leBytes 1 (b2n x.z * 8 + b2n x.n * 4 + b2n x.c * 2 + b2n x.v) ++ leBytes 2 q
    ++ leBytes 2 ((m.map (fun m => m.sqe.cid.toNat)).getD 0) ++ leBytes 2 x.pc ++ leBytes 1 (if st = 2 then wOp x.ir else 0) ++ [0]
    ++ [Config.snapByte draw, Config.snapByte (draw + 1)] ++ leBytes 8 a.t ++ [a.o] ++ zeros 7

/-- Bytes 24 to 255 of a domain's record, from draws that begin at `draw`. -/
def Dev.domainContent (d : Dev) (n draw : Nat) : List Byte :=
  if n < 32 then sliceBytes ((List.range 8).flatMap (fun j => d.ctxRecord (8 * n + j) (draw + 2 * j))) 0 232
  else (List.range 232).map (fun i => Config.snapByte (draw + i))

/-- A domain latches at a stamp (R380): its record without the fields that Table 18.3 gives the whole snapshot. -/
def Dev.latchDomain (d : Dev) (n t : Nat) (supplied : Bool) : Dev :=
  let s : Stamp := ⟨t, d.origin (if supplied then 0 else domainUnit n)⟩
  ({ d with draws := d.draws + 256 }).onSn (fun x => { x with latches := x.latches.set n (some
    { stamp := s, supplied := supplied, epoch := d.er.epoch % 2 ^ 32, content := d.stampBytes s ++ d.domainContent n d.draws }) })

/-- The record of a domain (Table 18.3): zero while no snapshot is held, or where the domain has not latched. -/
def Snap.record (s : Snap) (n : Nat) : List Byte :=
  match s.latches.get n with
  | none => zeros 256
  | some l =>
    if s.held then l.content.take 16 ++ leBytes 2 n ++ leBytes 1 s.source ++ leBytes 1 (b2n l.supplied + 2 * b2n s.prior) ++ leBytes 4 l.epoch
      ++ l.content.drop 16
    else zeros 256

/-! ### Latching (R380) -/

/-- Domains that have not latched. -/
def Snap.unlatched (s : Snap) : List Nat := (List.range 80).filter (fun n => (s.latches.get n).isNone)

/-- DOMAIN_LATCH_SUPPLY: a domain has had no event boundary by target + 16, and one is supplied from domain 76; its stamp is at most target + 32. -/
def execDomainLatchSupply (domain : Nat) (s : State) : Out :=
  s.whenDev (fun d => d.powered && d.sn.armed && decide (domain < 80) && (d.sn.latches.get domain).isNone) (fun d =>
    let d1 := d.advanceTo (d.sn.target + 16)
    { d1 with draws := d1.draws + 1 }.latchDomain domain (d1.sn.target + 16 + Config.freeNat d1.draws % 17) true)

/-- The first and the last latch of a snapshot: stamps, and the domain of the last. -/
def Snap.first (s : Snap) : Nat := (List.range 80).foldl (fun a n => match s.latches.get n with
  | some l => min a l.stamp.t
  | none => a) (s.target + 32)
def Snap.lastLatch (s : Snap) : Stamp × Nat := (List.range 80).foldl (fun (a : Stamp × Nat) n => match s.latches.get n with
  | some l => if a.1.lt l.stamp then (l.stamp, n) else a
  | none => a) (Stamp.zero, 0)

/-- A snapshot leaves the device. -/
def Dev.freeSnap (d : Dev) : Dev := { d with sn := Snap.reset }.onEr (fun e => { e with snapSeq := none })

/-- Every domain has latched: the spread is set and SNAP_OUT_N rises; a release that waited is done. -/
def Dev.closeSnap (d : Dev) : Dev :=
  let l := d.sn.lastLatch
  let d1 := (d.onSn (fun s => { s with armed := false, spread := l.1.t - s.first, lastDomain := l.2 })).onPins (fun p => { p with snapOutLow := false })
  if d1.sn.releaseAsked then d1.freeSnap else d1

/-- The domains left latch on boundaries of their own between target and target + 16. -/
def Dev.latchRest (d : Dev) : Dev :=
  d.each d.sn.unlatched (fun d n => { d with draws := d.draws + 1 }.latchDomain n (d.sn.target + Config.freeNat d.draws % 17) false)

/-- SNAPSHOT_LATCHED. -/
def execSnapshotLatched (s : State) : Out :=
  s.whenDev (fun d => d.powered && d.sn.armed) (fun d =>
    let d1 := d.latchRest
    (d1.advanceTo d1.sn.lastLatch.1.t).closeSnap)

/-- At WARM_RESET_N a snapshot whose domains have not all latched is completed on supplied boundaries, and a held one becomes a prior one
(R383, log entry 39). -/
def Dev.snapOverReset (d : Dev) : Dev :=
  if !d.sn.held then d else
  let d1 := if d.sn.armed then (d.each d.sn.unlatched (fun d n => d.latchDomain n (d.sn.target + 16) true)).closeSnap else d
  if d1.sn.held then d1.onSn (fun s => { s with prior := true }) else d1

/-! ### Arming and release (R379, R382) -/

/-- A request of SNAP_IN_N. -/
def Dev.snapRequest (d : Dev) : Dev :=
  if d.sn.held then (d.bumpW1 Reg.SN_STAT 0 7 0).c0 ⟨0, 0xFFFF⟩ 0x0E
  else
    let sd := d.stamp 0
    sd.2.armSnap 3 sd.1.t

/-- SNAP_IN: SNAP_IN_N low for two samples, while SN_CTL.in_en is 1. -/
def execSnapIn (s : State) : Out := s.whenDev (fun d => d.alive && d.rf Reg.SN_CTL 29 29 == 1) Dev.snapRequest

/-- SNAPSHOT_RELEASE: SN_CTL.release or ER_CTL.snap_release; a release before every domain has latched waits. -/
def Dev.releaseSnap (d : Dev) : Dev :=
  if !d.sn.held then d else if d.sn.armed then d.onSn (fun s => { s with releaseAsked := true }) else d.freeSnap

/-! ### JTAG (R367, R384 to R386) -/

/-- The instruction register selects BYPASS. -/
def jtagBypass : BitVec 8 := 0xFF

/-- An instruction is loaded. -/
def Dev.jtagLoad (d : Dev) (code : BitVec 8) : Dev := d.onPins (fun p => { p with jtag := code })

/-- The debug level in force; none is while a reset is asserted. -/
def Dev.debugLevel (d : Dev) : Nat := if d.boot.pwrLow || d.boot.warmLow then 0 else d.fu.level

/-- DBG_SNAP: 0x7F arms a snapshot as SNAP_IN_N does; any other domain's record is captured. -/
def execDbgSnap (domain : BitVec 7) (s : State) : Out :=
  s.whenDev Dev.powered (fun d =>
    if d.debugLevel = 0 then d.jtagLoad jtagBypass
    else if domain = 0x7F then (d.jtagLoad 0x41).snapRequest
    else (d.jtagLoad 0x41).onPins (fun p => { p with jtagCapture := d.sn.record domain.toNat }))

/-- Loading DBG_SCAN: the excluded cells hold zero, and a C5 is raised before any chain shifts (R367, R385). -/
def Dev.enterScan (d : Dev) : Dev :=
  ((d.jtagLoad 0x48).zeroKeys).raiseC5 { cls := .c5, unit := fuseUnit, cat := 0x0E, domain := some 77 } 3 0x0E

/-- DBG_SCAN. -/
def execDbgScan (s : State) : Out :=
  s.whenDev Dev.powered (fun d => if d.debugLevel = 2 then d.enterScan else d.jtagLoad jtagBypass)

/-- DBG_PATCH: the word waits for its cluster to quiesce (R386). -/
def execDbgPatch (data : BitVec 185) (s : State) : Out :=
  s.whenDev Dev.powered (fun d =>
    if d.debugLevel = 2 then ((d.jtagLoad 0x49).onEn (fun x => { x with jtagWaiting := x.jtagWaiting ++ [data] })).quiesceFor
    else d.jtagLoad jtagBypass)

/-- Whether an instruction is of the boundary scan, which EXTEST and its kin run. -/
def isBoundary (code : BitVec 8) : Bool := !([0x40, 0x41, 0x48, 0x49, jtagBypass].contains code) && Config.jtagClass code == 1

/-- The IDCODE (R415): GL_ID.stepping, 0x9200, 0x2B5 and 1. -/
def Dev.idCode (d : Dev) : W32 := toW32 (d.stepping * 2 ^ 28 + 0x9200 * 2 ^ 12 + 0x2B5 * 2 + 1)

/-- JTAG_INSTRUCTION: an instruction is selected, or BYPASS where Table 17.8 refuses it. Boundary scan drives the pins, with values that come
through it from outside (log entry 37). IDCODE captures the identification word (R415). -/
def execJtagInstruction (code : BitVec 8) (s : State) : Out :=
  s.whenDev (fun d => d.pins.vioUp && d.pins.coreUp) (fun d =>
    if code = 0x40 ∨ code = 0x41 then d.jtagLoad (if 1 ≤ d.debugLevel then code else jtagBypass)
    else if code = 0x48 then (if d.debugLevel = 2 then d.enterScan else d.jtagLoad jtagBypass)
    else if code = 0x49 then d.jtagLoad (if d.debugLevel = 2 then code else jtagBypass)
    else if isBoundary code then
      (if d.boot.pwrLow then
        ({ d with draws := d.draws + 2 }.jtagLoad code).onTc (fun t =>
          { t with driveEn := Config.freeNat d.draws % 2 == 1, brakeN := Config.freeNat (d.draws + 1) % 2 == 1 })
       else d.jtagLoad jtagBypass)
    else if Config.jtagClass code = 2 then (d.jtagLoad code).onPins (fun p => { p with jtagCapture := leBytes 4 d.idCode.toNat })
    else d.jtagLoad code)

end Sys2Proof.Machine
end

