-- ==== Sys2Proof/Machine/Reads.lean ====
section
/-! DEFINITION. What every register reads as (R5, R9, R19, R99, and the register tables of every chapter of spec/). -/

namespace Sys2Proof.Machine

/-! ### Places of a register's copies -/

/-- The bank of the copy that a register path reaches: port, pair, vector, requester or link; 0 for a register held once (R25). -/
def Dev.bankOf (d : Dev) (p : PortId) (a : Nat) : Nat :=
  if a = Reg.QM_QSEL ∨ a = Reg.QM_VSEL ∨ a = Reg.QM_NOTICE ∨ a = Reg.QM_DBERR ∨ a = Reg.QM_PORT then portNo p
  else if Reg.QM_SQBASE_LO ≤ a ∧ a ≤ Reg.QM_QSTAT then dqn p (d.rfB Reg.QM_QSEL (portNo p) 8 0)
  else if a = Reg.QM_VCOAL then vecBank p (d.rfB Reg.QM_VSEL (portNo p) 9 0)
  else if a = Reg.BP_QLIMIT ∨ a = Reg.BP_QUSED then d.rf Reg.BP_QSEL 5 0
  else if a = Reg.HL_TXEQ ∨ a = Reg.HL_CHSET ∨ a = Reg.HL_LSTAT then d.rf Reg.HL_LSEL 3 0
  else 0

/-- The per-port registers of block QM (R25, R414). -/
def perPort (a : Nat) : Bool := decide (Reg.QM_QSEL ≤ a) && decide (a ≤ Reg.QM_PORT) && a != Reg.QM_ARB

/-- A value in field [hi:lo] of a word. -/
def at' (hi lo v : Nat) : Nat := v % 2 ^ (hi + 1 - lo) * 2 ^ lo
/-- A bit in a word. -/
def bit' (n : Nat) (b : Bool) : Nat := if b then 2 ^ n else 0
/-- Bits 0 to n − 1 from a predicate. -/
def bits' (n : Nat) (f : Nat → Bool) : Nat := (List.range n).foldl (fun a i => a + bit' i (f i)) 0

/-! ### Codes -/

def PairState.code : PairState → Nat
  | .disabled => 0
  | .active => 1
  | .deleting => 2
  | .error => 3
def SlotState.code : SlotState → Nat
  | .empty => 0
  | .loaded => 1
  | .draining => 2
  | .revoking => 3
def RunSt.code : RunSt → Nat
  | .idle => 0
  | .starting => 1
  | .streaming => 2
  | .stopping => 3
  | .turning => 4
  | .halted => 5
  | .full => 6
def TcState.code : TcState → Nat
  | .safe => 0
  | .releasing => 1
  | .run => 2
  | .stopping => 3
def CasState.code : CasState → Nat
  | .standalone => 0
  | .discovering => 1
  | .joining => 2
  | .member => 3
  | .master => 4
def CorrSource.code : CorrSource → Nat
  | .read => 0
  | .winnow => 1
  | .merge => 2

/-! ### Pins (R416) -/

/-- Whether a GPIO pin is driven by the device. -/
def Dev.gpioDrives (d : Dev) (n : Nat) : Bool :=
  (d.rf Reg.GL_GPIO 31 24).testBit n && !(d.rf Reg.FU_TAMPER 31 31 == 1 && d.rf Reg.FU_TAMPER 29 27 == n)

/-- The level of a GPIO pin: what the device drives, or what another chip drives. -/
def Dev.gpioIn (d : Dev) (n : Nat) : Bool := if d.gpioDrives n then (d.rf Reg.GL_GPIO 23 16).testBit n else Config.pinLevel d.clk.now n

/-! ### Blocks GL, ST, QM and DB -/

/-- GL_BOOT.elapsed, frozen at READY or at failure (Table 19.4). -/
def Dev.elapsed (d : Dev) : Nat := d.boot.frozen.getD d.sinceRelease

def Dev.roGL (d : Dev) (a : Nat) : Nat :=
  if a = Reg.GL_ID then at' 31 28 (d.fu.shadow.get 4).toNat + at' 27 24 (d.fu.shadow.get 5).toNat + 0x9200
  else if a = Reg.GL_PACE then
    bit' 31 d.hk.belowRated + bit' 30 d.hk.level2 + (if d.hk.rounds = 0 then 0 else at' 29 24 d.hk.slowest) + at' 15 0 d.hk.minSpeed
  else if a = Reg.GL_ISLSPD then
    let i := d.rf Reg.GL_ISLSEL 5 0
    if i < 48 ∧ d.hk.rounds ≠ 0 then 2 ^ 31 + (d.hk.speeds.get i).toNat else 0
  else if a = Reg.GL_BOOT then
    at' 31 28 d.boot.stage + bit' 27 d.boot.flashPresent + bit' 26 d.boot.overlayApplied + bit' 25 d.boot.patchLoaded + bit' 24 d.boot.failed
      + at' 23 20 d.boot.failedStage + d.elapsed
  else if a = Reg.GL_GPIO then at' 15 8 (bits' 8 d.gpioIn)
  else 0

def Dev.roST (d : Dev) (a : Nat) : Nat :=
  if a = Reg.ST_ID then bit' 31 d.clk.running + bit' 30 d.clk.adopted + d.clk.member.toNat
  else if a = Reg.ST_SESSION then
    if d.vol.loaded.isSome || d.vol.formatting then 2 ^ 31 + at' 15 0 d.session else 0
  else if a = Reg.ST_LEAD then at' 20 16 d.clk.leadUnit
  else 0

def Dev.roQM (d : Dev) (p : PortId) (a : Nat) : Nat :=
  if a = Reg.QM_QSTAT then
    let x := d.pairs.get (d.bankOf p a)
    at' 31 30 x.st.code + at' 29 27 x.createResult + at' 26 24 (if x.errorCause = 3 then 1 else x.errorCause) + at' 13 0 x.sqHead
  else if a = Reg.QM_NOTICE then (d.port p).held.length
  else if a = Reg.QM_PORT then
    let x := d.port p
    bit' 31 x.linkUp + bit' 30 (x.linkUp && x.flit) + at' 27 24 x.speed + at' 20 16 x.width
  else if a = Reg.QM_DBERR then (d.w1cB a (portNo p)).toNat
  else 0

/-- A doorbell reads as the last accepted value (Table 2.6). -/
def Dev.roDB (d : Dev) (p : PortId) (a : Nat) : Nat :=
  let x := d.pairs.get (dqn p ((a - Reg.DB_SQT) / 16 % 512))
  if a % 16 = 0 then x.sqTail else x.cqHead

/-! ### Blocks BP, CM, CX, FM and SH -/

def Dev.roBP (d : Dev) (a : Nat) : Nat :=
  if Reg.BP_FREE ≤ a ∧ a < Reg.BP_FREE + 24 then
    let p := (a - Reg.BP_FREE) / 4
    bit' 31 (d.pools.waiters.any (fun w => w.pools.contains p)) + at' 25 0 (d.pools.free p)
  else if a = Reg.BP_QUSED then at' 26 0 (d.pools.used.get (d.rf Reg.BP_QSEL 5 0))
  else if a = Reg.BP_IXCTL then bit' 31 d.idx.rebuilding + at' 30 28 (d.w1f a 0 30 28)
  else if a = Reg.BP_IXOBJ then at' 22 0 d.idx.objects
  else if a = Reg.BP_IXVER then at' 24 0 d.idx.records
  else (d.w1cB a 0).toNat

/-- FIFOs of a port that carry a unit (CM_FIFOSTAT). -/
def Dev.fifosBusy (d : Dev) (p : PortId) : Nat := ((List.range 32).filter (fun i => (d.cm.fifos.get (32 * portNo p + i)).isSome)).length

def Dev.roCM (d : Dev) (a : Nat) : Nat :=
  if a = Reg.CM_FIFOSTAT then at' 21 16 (d.fifosBusy .b) + at' 5 0 (d.fifosBusy .a)
  else if a = Reg.CM_CLANES then d.inService 9 0 32
  else if a = Reg.CM_DLANES then d.inService 0xA 0 32
  else if a = Reg.CM_LFAULT then
    let l := d.rf Reg.CM_LSEL 5 0
    bit' 31 (d.isFenced (if l < 32 then ⟨9, l⟩ else ⟨0xA, l - 32⟩)) + min 0xFF (d.cm.mismatches.get l)
  else (d.w1cB a 0).toNat

def Dev.roCX (d : Dev) (a : Nat) : Nat :=
  let x := d.slot (d.rf Reg.CX_SLOTSEL 9 0)
  if a = Reg.CX_SLOTSTAT then
    at' 31 30 x.st.code + (if x.st = .empty then 0 else at' 29 29 (b2n (x.usage.getLsbD 1)) + at' 28 28 (b2n (x.usage.getLsbD 0))) + at' 23 0 x.pins
  else if a = Reg.CX_SLOTPFX then (if x.st = .empty then 0 else x.pfx.toNat)
  else if a = Reg.CX_PIPES then bit' 31 d.rngFenced + d.inService 0xB 0 16
  else if Reg.CX_IMPPUB ≤ a then beNat (d.fuseBytes (0x250 + (a - Reg.CX_IMPPUB)) 4)
  else (d.w1cB a 0).toNat

def Dev.roFM (d : Dev) (a : Nat) : Nat :=
  if a = Reg.FM_GROUP then
    match d.fm.group with
    | some g => 2 ^ 31 + at' 9 8 g.encoder + at' 5 0 g.members.length
    | none => 0
  else if a = Reg.FM_ENC then d.inService 0xC 16 4 * 2 ^ 16 + d.inService 0xC 0 16
  else 0

/-- Failed rows of a track over the trailing 4,096 positions. -/
def Sheaf.trackFails (x : Sheaf) (t : Nat) : Nat := ((x.tracks.get t).fails.filter (fun n => decide (x.count ≤ n + 4096))).length

def Dev.roSH (d : Dev) (a : Nat) : Nat :=
  let x := d.sh
  if a = Reg.SH_STAT then
    at' 31 29 x.run.code + bit' 28 x.overBudget + bit' 27 x.reverse + at' 23 16 (bits' 8 (fun j => !x.slotsOff.contains j)) + at' 7 0 x.sheaf
  else if a = Reg.SH_POS then (if d.vol.loaded.isSome then 2 ^ 31 + at' 24 0 x.pos else 0)
  else if a = Reg.SH_GEOM then (if d.vol.loaded.isSome then 2 ^ 31 + at' 24 0 d.positions else 0)
  else if a = Reg.SH_PROOFCFG then at' 21 16 x.lag
  else if a = Reg.SH_SPEED then at' 31 28 x.step + at' 27 24 x.want + at' 17 0 x.demand
  else if a = Reg.SH_FILL then at' 31 24 (min 0xFF x.due.length) + at' 18 0 ((d.fill / 2 ^ 20).floor.toNat)
  else if a = Reg.SH_EOMCFG then at' 22 0 ((d.vol.loaded.map (fun v => d.capacity v / 2 ^ 30)).getD 0)
  else if a = Reg.SH_TRKSTAT then
    let t := d.rf Reg.SH_TRKSEL 6 0
    let k := x.tracks.get t
    bit' 31 k.retired + at' 27 24 (min 15 k.sheaves) + at' 15 0 (min 0xFFFF (x.trackFails t))
  else if a = Reg.SH_PRIMER then 2 ^ 24 + at' 16 0 primerLength
  else if a = Reg.SH_PRIMERCRC then at' 31 0 primerCrc
  else 0

/-! ### Blocks HL and TC -/

def Dev.roHL (d : Dev) (a : Nat) : Nat :=
  if a = Reg.HL_UP then
    bits' 16 (fun t => (d.links.get t).st == .failed) * 2 ^ 16 + bits' 16 d.linkActive
  else if a = Reg.HL_LSTAT then
    let l := d.links.get (d.rf Reg.HL_LSEL 3 0)
    at' 31 29 l.st.code + bit' 28 l.stale + at' 27 24 l.attempts + at' 23 16 l.faults.toNat + l.partner.toNat
  else 0

/-- A signed value in a field. -/
def sat' (n : Nat) (v : Int) : Nat := toField n v

def Dev.roTC (d : Dev) (a : Nat) : Nat :=
  let t := d.tc
  if Reg.TC_SCFG ≤ a then
    let v := t.servos.get ((a - Reg.TC_SCFG) / 0x400)
    let o := a % 0x400
    if o = Reg.TC_SSTAT % 0x400 then
      bit' 31 v.pendingCommit + bit' 30 (d.w1f a 0 30 30 == 1) + bit' 29 (v.held || v.heldPes) + bit' 28 v.missing
        + at' 9 8 (if v.satPrev = 0 then 0 else if v.satPrev = 1 then 1 else 3) + at' 3 0 v.region
    else if o = Reg.TC_SSATCNT % 0x400 then min 0xFFFFFF v.satCount
    else if o = Reg.TC_SOUT % 0x400 then sat' 32 v.out
    else if o = Reg.TC_SINT % 0x400 then sat' 32 v.i
    else 0
  else if a = Reg.TC_STAT then
    at' 31 30 t.st.code + at' 29 27 (d.w1f a 0 29 27) + at' 26 24 t.reaction.code + bit' 23 (t.profile.kind != 0) + bit' 22 t.profile.reverse
      + bit' 21 t.posValid + bit' 20 t.brakeN + bit' 19 t.driveEn + at' 18 16 t.profile.kind + at' 3 0 t.profile.step
  else if a = Reg.TC_POS then sat' 32 (roundDiv t.posW (100 * 2 ^ 24) d.draws)
  else if a = Reg.TC_VEL then sat' 16 (roundDiv (1000 * t.vel) (2 ^ 24) d.draws)
  else if a = Reg.TC_RADIUS then at' 15 0 t.rT * 2 ^ 16 + at' 15 0 t.rS
  else if a = Reg.TC_ENCS then sat' 32 t.encS
  else if a = Reg.TC_ENCT then sat' 32 t.encT
  else if a = Reg.TC_DINSTAT then bits' 4 (fun n => (t.din.get n).raw) * 16 + bits' 4 (fun n => (t.din.get n).active)
  else if a = Reg.TC_FAULT then d.faultWord.toNat
  else (d.w1cB a 0).toNat

/-! ### Blocks ER and MI -/

/-- The 16-byte form of a stamp with the session and flag it was issued under (Table 0.5). -/
def stampForm (s : Stamp) (adopted : Bool) (session : Nat) : List Byte := leBytes 8 s.t ++ [s.o, BitVec.ofNat 8 (b2n adopted)] ++ leBytes 2 session ++ zeros 4

/-- The 64 bytes of an error record (Table 13.2). -/
def ErrRec.bytes (r : ErrRec) : List Byte :=
  stampForm r.stamp r.adopted r.session ++ leBytes 1 (classNo r.cls) ++ leBytes 1 r.origin ++ leBytes 1 r.domain ++ [r.flags]
    ++ leBytes 2 r.inst ++ leBytes 2 r.status.toNat ++ leBytes 2 r.dqn ++ leBytes 2 r.cid.toNat ++ leBytes 1 r.category ++ zeros 3
    ++ leBytes 4 r.seq ++ leBytes 4 r.epoch ++ leBytes 8 r.d0.toNat ++ leBytes 8 r.d1.toNat ++ leBytes 4 r.related ++ leBytes 4 r.d2.toNat

/-- The 64 bytes of a loss record (Table 13.4). -/
def LossRec.bytes (r : LossRec) : List Byte :=
  stampForm r.first r.form.2 r.sess ++ stampForm r.last r.form.2 r.sess ++ leBytes 4 r.vh.toNat ++ leBytes 4 r.writes ++ leBytes 1 r.cause ++ leBytes 1 r.member
    ++ leBytes 1 (b2n r.merged) ++ zeros 1 ++ leBytes 4 r.seq ++ stampForm r.stampAt r.form.2 r.form.1

/-- The record that ER_RSEL selects. -/
def Dev.selected (d : Dev) : Option ErrRec := d.er.log.find? (fun r => decide (r.seq = (d.reg Reg.ER_RSEL).toNat))

/-- The pending list in the order in which it will run: the active recovery, those that wait, those that are parked. -/
def Errors.inOrder (e : Errors) : List Pend :=
  let of := fun (s : PendSt) => (e.pend.filter (fun p => decide (p.st = s))).mergeSort (fun a b => !b.before a)
  of .active ++ of .waiting ++ of .parked

/-- Word `n` of bytes, little-endian. -/
def wordAt (bs : List Byte) (n : Nat) : Nat := leNat (sliceBytes bs (4 * n) 4)

def Dev.roER (d : Dev) (a : Nat) : Nat :=
  let e := d.er
  if a = Reg.ER_STAT then
    at' 31 29 (if e.failed then 5 else e.activeClass) + bit' 28 e.halted + bit' 27 e.failed
      + at' 20 16 ((e.active.map (fun p => p.unit.origin)).getD 0) + at' 12 8 (min 16 e.pend.length)
      + at' 4 0 (e.pend.filter (fun p => decide (p.st = .parked))).length
  else if a = Reg.ER_EPOCH then at' 31 0 e.epoch
  else if a = Reg.ER_EPOCHX then at' 15 0 (e.epoch / 2 ^ 32)
  else if a = Reg.ER_SEQ then at' 31 0 e.seq
  else if a = Reg.ER_RSTAT then
    match d.selected with
    | some r => 2 ^ 31 + bit' 30 r.pinned
    | none => 0
  else if a = Reg.ER_LOGSTAT then at' 24 16 e.pinnedCount
  else if a = Reg.ER_SNAP then
    match e.snapSeq with
    | some q => 2 ^ 31 + at' 30 0 q
    | none => 0
  else if Reg.ER_RDATA ≤ a ∧ a < Reg.ER_LSEL then (d.selected.map (fun r => wordAt r.bytes ((a - Reg.ER_RDATA) / 4))).getD 0
  else if a = Reg.ER_LSTAT then
    let n := ((List.range 64).filter (fun i => (e.losses.get i).isSome)).length
    match e.losses.get (d.rf Reg.ER_LSEL 5 0) with
    | some r => 2 ^ 31 + bit' 30 r.merged + n
    | none => n
  else if Reg.ER_LDATA ≤ a ∧ a < Reg.ER_PEND then
    ((e.losses.get (d.rf Reg.ER_LSEL 5 0)).map (fun r => wordAt r.bytes ((a - Reg.ER_LDATA) / 4))).getD 0
  else if Reg.ER_PEND ≤ a then
    match e.inOrder[(a - Reg.ER_PEND) / 4]? with
    | some p => 2 ^ 31 + bit' 30 (p.st == .active) + bit' 29 (p.st == .parked) + at' 26 24 (classNo p.cls) + at' 20 16 p.unit.origin + at' 15 0 p.seq
    | none => 0
  else 0

def Dev.roMI (d : Dev) (a : Nat) : Nat :=
  let m := d.mi
  let e := m.log.get (d.rf Reg.MI_LOGSEL 4 0)
  if a = Reg.MI_STAT then
    bit' 31 m.initBusy + bit' 30 m.bistDone + bit' 29 (d.w1cB Reg.MI_BIST 0 != 0) + at' 25 24 m.refresh
  else if a = Reg.MI_LOGSTAT then ((List.range 32).filter (fun i => (m.log.get i).isSome)).length
  else if a = Reg.MI_LOGADDR then (e.map (fun x => at' 31 0 (x.word * 8))).getD 0
  else if a = Reg.MI_LOGINFO then
    match e with
    | some x => 2 ^ 31 + at' 30 29 x.source.code + at' 28 21 (min 0xFF x.count) + at' 20 14 x.pos1 + at' 13 7 x.pos0 + at' 5 0 (x.word * 8 / 2 ^ 32)
    | none => 0x7F * 2 ^ 14 + 0x7F * 2 ^ 7
  else if a = Reg.MI_LOGTIME then (e.map (fun x => at' 31 0 (x.t / 1024))).getD 0
  else if a = Reg.MI_WINPOS then at' 9 0 (Config.freeNat d.draws)
  else if a = Reg.MI_REPSTAT then
    at' 31 24 m.lanes.length + at' 23 12 (m.rows.filter (fun r => !r.hard)).length + at' 11 0 (m.rows.filter (fun r => r.hard)).length
  else if a = Reg.MI_REPCTL then at' 30 28 (d.w1f a 0 30 28) + at' 10 0 (m.softRows.length + m.softLanes.length)
  else if a = Reg.MI_RETIRED then min 0xFFFF m.retired.length
  else (d.w1cB a 0).toNat

/-! ### Blocks HK, CS, FU, EN and SN -/

def Dev.roHK (d : Dev) (a : Nat) : Nat :=
  let h := d.hk
  if a = Reg.HK_STAT then
    at' 31 29 h.band + at' 28 27 h.level + bit' 26 h.grace + bit' 25 h.drain + bit' 24 h.diodeFault + bit' 23 h.tripBlanked + at' 15 12 h.duty
      + at' 11 0 h.rounds
  else if a = Reg.HK_TEMP then bit' 31 (h.rounds != 0) + bit' 30 h.diodeFault + sat' 16 h.reading
  else if a = Reg.HK_AVS then bit' 31 h.avsFault + bit' 30 h.vCap.isSome + (if h.commanded then at' 15 0 h.v else 0)
  else if a = Reg.HK_PWR then (if h.avsFault then 0 else at' 15 0 h.vcoreW)
  else if a = Reg.HK_CHDATA then
    let c := d.rf Reg.HK_CHSEL 4 0
    let x := h.chans.get c
    bit' 31 (h.rounds != 0) + bit' 30 x.out + (if 24 ≤ c then 0 else at' 27 16 x.code.toNat) + x.value.toNat
  else 0

def Dev.roCS (d : Dev) (a : Nat) : Nat :=
  let c := d.cs
  if a = Reg.CS_STAT then
    at' 31 29 c.st.code + bit' 28 d.clk.adopted + bit' 27 c.modePending + bit' 26 (c.c0.st == .active) + bit' 25 (c.c1.st == .active)
      + at' 23 20 c.size + at' 15 8 (bits' 8 (fun n => c.present.contains n)) + d.clk.member.toNat
  else if a = Reg.CS_OFFSET then at' 31 16 c.c1.delay + sat' 8 c.offset
  else if a = Reg.CS_LEND then at' 15 0 (c.lentBytes / 2 ^ 30)
  else if a = Reg.CS_LANES then at' 31 16 (c.borrowedBytes / 2 ^ 30) + at' 7 4 c.c1.lanes + at' 3 0 c.c0.lanes
  else 0

/-- Entries of the event log that are used and cannot be read (R363). -/
def logBad (m : Table Byte 0) : List Nat :=
  (logUsed m).filter (fun i => let v := logEntry m i; !(v.testBit 63 && v / 2 ^ 56 % 128 == crc7 v 56 0))

/-- A word of the fuse array: the key region reads zero (Table 17.11). -/
def Dev.fuseWord (d : Dev) (n : Nat) : Nat := if 128 ≤ n ∧ n ≤ 191 then 0 else leNat (d.fuseBytes (4 * n) 4)

def Dev.roFU (d : Dev) (a : Nat) : Nat :=
  let f := d.fu
  if a = Reg.FU_STAT then
    bit' 31 f.loadDone + bit' 30 f.keyOk + bit' 29 f.busy + at' 28 26 (d.w1f a 0 28 26) + (if f.genValid then at' 25 24 f.activeGen else 0)
      + bits' 4 (fun g => settingUsed f.shadow g) * 2 ^ 20 + bit' 19 (logFree f.shadow).isNone + at' 18 12 (logUsed f.shadow).length
      + bit' 11 f.genValid + at' 7 0 (logBad f.shadow).length
  else if a = Reg.FU_DATA then d.fuseWord (d.rf Reg.FU_ADDR 10 0)
  else if a = Reg.FU_DBG then
    at' 31 30 f.level + bit' 27 f.challenge.isSome + at' 25 24 f.failures + bit' 23 (f.control 1) + bit' 22 (f.control 0)
  else if Reg.FU_CHAL ≤ a ∧ a < Reg.FU_CHAL + 64 then (f.challenge.map (fun c => wordAt c ((a - Reg.FU_CHAL) / 4))).getD 0
  else 0

def Dev.roEN (d : Dev) (a : Nat) : Nat :=
  let c := d.rf Reg.EN_CSEL 1 0
  let k := d.en.clusters.get c
  if a = Reg.EN_AWAKE then bits' 32 (fun n => (d.engines.get n).asleep.isNone)
  else if a = Reg.EN_PSTAT then bit' 31 d.en.busy + at' 30 27 (d.w1f a 0 30 27) + bits' 4 (fun n => d.en.todo.contains n) * 2 ^ 23
  else if a = Reg.EN_CSTAT then
    bit' 31 (d.isFenced (clusterUid c)) + bit' 30 k.quiescing + bit' 29 k.unsigned + at' 15 6 k.words
      + ((List.range 32).filter (fun n => (k.matches_.get n).enable)).length
  else if a = Reg.EN_CVER then k.version.toNat
  else if Reg.EN_MATCH ≤ a then
    let m := k.matches_.get ((a - Reg.EN_MATCH) / 4)
    bit' 31 m.enable + at' 24 16 m.patch + at' 13 0 m.rom
  else 0

def Dev.roSN (d : Dev) (a : Nat) : Nat :=
  let s := d.sn
  if a = Reg.SN_STAT then bit' 31 s.held + bit' 30 s.armed + bit' 29 s.prior + at' 28 27 s.source
  else if a = Reg.SN_SPREAD then at' 22 16 s.lastDomain + at' 5 0 s.spread
  else if Reg.SN_DATA ≤ a then
    let n := d.rf Reg.SN_DSEL 6 0
    if n < 80 then wordAt (s.record n) ((a - Reg.SN_DATA) / 4) else 0
  else 0

/-! ### Latched pairs (R99) -/

/-- The number of an access path. -/
def pathNo : Path → Nat
  | .port p => portNo p
  | .i2c _ => 2
  | .jtag _ => 3
  | .fuse => 4
  | .overlay => 5

/-- The key of a path's shadow of a HI register. -/
def shadowKey (path : Path) (hi : Nat) : Nat := regKey hi (pathNo path)

/-- An event counter of a block, 0 past its last index. -/
def Dev.counter (d : Dev) (blk sub sel last : Nat) : Nat := if sel ≤ last then d.cnt blk sub sel else 0

/-- The 64-bit value of the latched pair whose LO register is at an offset; none for any other register. Counters 0 to 3 of a head
link count codewords, which no command of the table shows (log entry 10). -/
def Dev.pairValue (d : Dev) (a : Nat) : Option Nat :=
  let x := d.slot (d.rf Reg.CX_SLOTSEL 9 0)
  if a = Reg.ST_NOW_LO then some d.seen
  else if a = Reg.CM_CNT_LO then some (d.counter 0x30 0 (d.rf Reg.CM_CNTSEL 3 0) 9)
  else if a = Reg.CX_SLOTKID_LO then some (if x.st = .empty then 0 else x.keyId.toNat)
  else if a = Reg.CX_SLOTCTR_LO then some (if x.st = .empty then 0 else x.counter % 2 ^ 64)
  else if a = Reg.FM_FOLIO_LO then some ((d.vol.loaded.map (fun v => v.nextFolio)).getD 0 % 2 ^ 40)
  else if a = Reg.FM_GBASE_LO then some ((d.fm.group.map (fun g => g.base)).getD 0 % 2 ^ 40)
  else if a = Reg.FM_CNT_LO then some (d.counter 0x50 0 (d.rf Reg.FM_CNTSEL 3 0) 10)
  else if a = Reg.SH_CNT_LO then some (d.counter 0x60 0 (d.rf Reg.SH_CNTSEL 3 0) 11)
  else if a = Reg.HL_CNT_LO then
    let i := d.rf Reg.HL_CNTSEL 3 0
    some (if i < 4 then Config.freeNat d.draws % 2 ^ 64 else d.counter 0x70 (d.rf Reg.HL_LSEL 3 0) i 9)
  else if a = Reg.CS_CNT_LO then some (d.counter 0xC0 0 (d.rf Reg.CS_CNTSEL 3 0) 10)
  else if a = Reg.SN_TARGET_LO then some (d.sn.target % 2 ^ 64)
  else none

/-- Offsets of the LO registers of the latched pairs. -/
def latchedLo : List Nat :=
  [Reg.ST_NOW_LO, Reg.CM_CNT_LO, Reg.CX_SLOTKID_LO, Reg.CX_SLOTCTR_LO, Reg.FM_FOLIO_LO, Reg.FM_GBASE_LO, Reg.FM_CNT_LO, Reg.SH_CNT_LO,
    Reg.HL_CNT_LO, Reg.CS_CNT_LO, Reg.SN_TARGET_LO]

/-! ### A read -/

/-- The bits of a register that no write of it holds: RO and W1C fields. -/
def Dev.roWord (d : Dev) (p : PortId) (a : Nat) : Nat :=
  let b := a / 65536 % 1024
  if b = 0 then d.roGL a else if b = 1 then d.roST a else if b = 2 then d.roQM p a else
  if b = 0x10 then d.roDB p a else if b = 0x20 then d.roBP a else if b = 0x30 then d.roCM a else
  if b = 0x40 then d.roCX a else if b = 0x50 then d.roFM a else if b = 0x60 then d.roSH a else
  if b = 0x70 then d.roHL a else if b = 0x80 then d.roTC a else if b = 0x90 then d.roER a else
  if b = 0xA0 then d.roMI a else if b = 0xB0 then d.roHK a else if b = 0xC0 then d.roCS a else
  if b = 0xD0 then d.roFU a else if b = 0xE0 then d.roEN a else if b = 0xF0 then d.roSN a else 0

/-- The W1C bits of a register: two of them are derived from other state (Tables 11.13 and 12.9). -/
def Dev.w1Word (d : Dev) (p : PortId) (a : Nat) : W32 :=
  if a = Reg.HL_LSTAT then toW32 (d.roHL a) else if a = Reg.TC_FAULT then d.faultWord else d.w1cB a (d.bankOf p a)

/-- One field of a register as it reads. -/
def readField (stored : W32) (ro w1 : W32) (f : FieldDesc) : Nat :=
  match f.acc with
  | .rw => fieldOf stored f.hi f.lo
  | .rwl => fieldOf stored f.hi f.lo
  | .ro => fieldOf ro f.hi f.lo
  | .w1c => fieldOf w1 f.hi f.lo
  | .wo => 0

/-- What a register reads as, the HI half of a latched pair aside: reserved bits and offsets that no block decodes read zero (R5, R9). -/
def Dev.plainRead (d : Dev) (p : PortId) (a : Nat) : W32 :=
  match findReg a with
  | none => 0
  | some r =>
    if 0x00100000 ≤ a ∧ a < 0x00102000 then toW32 (d.roDB p a) else
    let st := d.regB a (d.bankOf p a)
    let ro := toW32 (d.roWord p a)
    let w1 := d.w1Word p a
    r.fields.foldl (fun v f => v ||| toW32 (readField st ro w1 f * 2 ^ f.lo)) 0

/-- A read on an access path (R99): a LO register latches its HI half in the path's shadow, a HI register reads that shadow. -/
def Dev.readReg (d : Dev) (path : Path) (a : Nat) : W32 × Dev :=
  match d.pairValue a with
  | some v => (toW32 v, { d with shadow := d.shadow.set (shadowKey path (a + 4)) (toW32 (v / 2 ^ 32)), draws := d.draws + 1 })
  | none =>
    if 4 ≤ a ∧ latchedLo.contains (a - 4) then (d.shadow.get (shadowKey path a), d)
    else (d.plainRead (pathPort path) a, { d with draws := d.draws + 1 })

/-! ### Commands that read -/

/-- Whether a register path can be reached: a port in L0; the JTAG path at debug level 1 to read (Table 18.5). -/
def Dev.readOpen (d : Dev) : Path → Bool
  | .port p => d.alive && (d.port p).linkUp
  | .i2c _ => d.powered && !d.boot.warmLow && d.fu.loadDone
  | .jtag _ => d.powered && decide (1 ≤ d.debugLevel)
  | .fuse => false
  | .overlay => false

/-- LATCHED_LO_READ: a read of the LO register of a latched pair (R99); the low half read is in `pins.loOut`. -/
def execLatchedLoRead (path : Path) (addr : W32) (s : State) : Out :=
  s.whenDev (fun d => d.readOpen path && latchedLo.contains addr.toNat) (fun d =>
    let r := d.readReg path addr.toNat
    r.2.onPins (fun p => { p with loOut := r.1 }))

/-- I2C_READ (R414): bit 31 of the offset selects port B's copies of the per-port registers, and reads zero with any other; the
value read is in `pins.i2cOut`. -/
def execI2cRead (offset : W32) (s : State) : Out :=
  s.whenDev (fun d => d.readOpen (.i2c .a)) (fun d =>
    let a := offset.toNat % 2 ^ 31
    let p := portOf (offset.toNat / 2 ^ 31)
    let r := if p = .b ∧ !(perPort a || a / 65536 = 0x10) then (0, d) else d.readReg (.i2c p) a
    r.2.onPins (fun x => { x with i2cOut := r.1 }))

end Sys2Proof.Machine
end

