-- ==== Sys2Proof/Machine/Endpoint.lean ====
section
/-! DEFINITION. The configuration identity of the two endpoints (R20, R21). -/

namespace Sys2Proof.Machine

/-- Vendor and device identity (Table 2.1). -/
def pciVendor : Nat := 0xBD1A
def pciDevice : Nat := 0x9200
/-- Class code, subclass and programming interface. -/
def pciClass : Nat := 0x018000
/-- Sizes of BAR0 and BAR2. -/
def bar0Size : Nat := 64 * 1024 * 1024
def bar2Size : Nat := 32 * 1024

/-- Revision ID: GL_ID.stepping. -/
def Dev.pciRevision (d : Dev) : Nat := d.stepping

/-- A 64-bit, non-prefetchable base address register: its low and its high dword (log entry 132). -/
def barLow (base : W64) (size : Nat) : W32 := toW32 (base.toNat / size * size % 2 ^ 32 + 4)
def barHigh (base : W64) : W32 := base.extractLsb' 32 32

/-- A dword of the configuration header of a port (Table 2.1): what is not implemented reads as zero. -/
def Dev.pciHeader (d : Dev) (p : PortId) (a : Nat) : W32 :=
  let c := (d.port p).cfg
  if a = 0x00 then toW32 (pciDevice * 2 ^ 16 + pciVendor)
  else if a = 0x04 then toW32 (b2n (d.port p).busMaster * 4)
  else if a = 0x08 then toW32 (pciClass * 2 ^ 8 + d.pciRevision)
  else if a = 0x10 then barLow c.bar0 bar0Size
  else if a = 0x14 then barHigh c.bar0
  else if a = 0x18 then barLow c.bar2 bar2Size
  else if a = 0x1C then barHigh c.bar2
  else 0

/-- Non-posted requests that may be outstanding on a port (Table 2.2). -/
def Port.maxRequests (x : Port) : Nat := if x.cfg.tags10 then 768 else 256

/-- Largest payload and read request of a port: what the host set, within the device's limits (Table 2.2). -/
def Port.maxPayload (x : Port) : Nat := min x.cfg.payload 512
def Port.maxReadRequest (x : Port) : Nat := min x.cfg.readReq 4096

/-- What a write to host memory is (R22). -/
inductive HostWriteKind where
  | data | zeroFill | completion | msix
  deriving DecidableEq, Repr

/-- Whether the device may set the relaxed ordering attribute on a write (R22). -/
def Port.mayRelax (x : Port) (k : HostWriteKind) : Bool := x.cfg.relaxed && (k == .data || k == .zeroFill)

end Sys2Proof.Machine
end

