-- ==== Sys2Proof/Machine/Registers.lean ====
section
/-! DEFINITION. Register writes (R5, R9, R25, R394, R418, R420): the field rules, what each operation bit does, and the commands of the table
that are writes of one register. -/

namespace Sys2Proof.Machine

/-! ### Fields (R5, R418) -/

/-- What comes of writing one field: it takes a value, is passed over, or is refused with a C0 event. -/
inductive Take where
  | value (x : Nat)
  | keep
  | refuse
  deriving DecidableEq, Repr

/-- The register that locks the block of an offset (Table 0.4); none for the blocks GL, ST, QM and DB. -/
def lockOf (a : Nat) : Option Nat :=
  let b := a / 65536 % 1024
  if b % 16 = 0 ∧ 0x20 ≤ b ∧ b ≤ 0xF0 then some (b * 65536) else none

/-- Whether the block of an offset is locked. -/
def Dev.locked (d : Dev) (a : Nat) : Bool :=
  match lockOf a with
  | some r => d.rf r 31 31 == 1
  | none => false

/-- A protected field acts only on a write that would change it (R5). -/
def guarded (shut : Bool) (old new : Nat) : Take := if shut then (if old = new then .keep else .refuse) else .value new

/-- Source codes of Table 12.2. -/
def definedSrc (x : Nat) : Bool := decide (x ≤ 4) || (decide (8 ≤ x) && decide (x ≤ 0x11)) || decide (0x18 ≤ x)

/-- Fields that only the SAFE state lets change (R279). -/
def safeOnly (r lo : Nat) : Bool :=
  r == Reg.TC_SROUTE || (r == Reg.TC_SCFG && (lo == 4 || lo == 8)) || r == Reg.TC_TIMER || (r == Reg.TC_ENCCFG && lo == 16) || r == Reg.TC_SPCFG
    || r == Reg.TC_DPCFG || r == Reg.TC_REELK

/-- The head of the IV log may move up to the tail, within the ring. -/
def Dev.ivlHeadOk (d : Dev) (new : Nat) : Bool :=
  let n := d.ivlSize
  decide (new < n) && decide ((new + n - d.ivlHead % n) % n ≤ (d.ivlTail + n - d.ivlHead % n) % n)

/-- The rule of one field of the register whose row begins at `r`, besides its block's lock. A write of a class to a pair 0 is ignored (R26) with no
C0 event, active or not; spec/ does not say whether R27's event belongs to it (log entry 143). -/
def Dev.fieldRule (d : Dev) (p : PortId) (r : Nat) (f : FieldDesc) (old new : Nat) : Take :=
  if (Reg.QM_SQBASE_LO ≤ r ∧ r ≤ Reg.QM_CQBASE_HI) ∨ (r = Reg.QM_QCFG ∧ f.lo ≤ 4) then
    let x := d.pairs.get (d.bankOf p r)
    if r = Reg.QM_QCFG ∧ f.lo = 4 ∧ d.bankOf p r % 512 = 0 then .keep else guarded (x.st == .active || x.st == .deleting) old new
  else if r = Reg.BP_QMAP then (if 48 ≤ new then .refuse else .value new)
  else if r = Reg.CM_CTL ∧ f.lo = 29 then (if new = 0 then .refuse else .value new)
  else if r = Reg.CX_IVLBASE_LO ∨ r = Reg.CX_IVLBASE_HI then guarded d.ivlOn old new
  else if r = Reg.CX_IVLHEAD then (if d.ivlHeadOk new then .value new else .refuse)
  else if r = Reg.SH_PROOFCFG ∧ f.lo = 0 then (if new < 500 ∨ 3000 < new then .refuse else .value new)
  else if r = Reg.TC_TIMER then (if new < 1000 ∨ 5000 < new then .refuse else guarded (d.tc.st != .safe) old new)
  else if r = Reg.TC_SROUTE ∧ f.lo = 8 then guarded (d.tc.st != .safe) old (if definedSrc new then new else 0)
  else if safeOnly r f.lo then guarded (d.tc.st != .safe) old new
  else if r = Reg.MI_FLIPCTL then (if new = 1 ∧ d.mode ≠ .maint then .refuse else .value new)
  else if r = Reg.FU_DBG then (if new = 3 then .refuse else .value new)
  else if r = Reg.CS_MODE then guarded (d.cs.st == .member) old new
  else .value new

/-- What comes of writing one field. -/
def Dev.takeField (d : Dev) (p : PortId) (r : RegDesc) (a : Nat) (f : FieldDesc) (old new : Nat) : Take :=
  match f.acc with
  | .ro => .keep
  | .wo => .keep
  | .w1c => .keep
  | .rw => d.fieldRule p r.base f old new
  | .rwl => if d.locked a then guarded true old new else d.fieldRule p r.base f old new

/-- Whether the description of a register leaves all of it unchanged on a value written: taps above 64 (Table 11.14), thresholds that break
R322. -/
def breaksWhole (r : Nat) (v : W32) : Bool :=
  if r = Reg.HL_TXEQ then decide (64 < fieldOf v 29 24 + fieldOf v 23 18 + fieldOf v 17 12 + fieldOf v 11 6 + fieldOf v 5 0)
  else if r = Reg.HK_BANDTHR then
    let t1 := fieldOf v 7 0
    let t2 := fieldOf v 15 8
    let t3 := fieldOf v 23 16
    let t4 := fieldOf v 31 24
    !(decide (t1 < t2) && decide (t2 < t3) && decide (t3 < t4) && decide (t4 ≤ 105))
  else false

/-- The written fields of a register after a write, and whether a field was refused. -/
def Dev.takeFields (d : Dev) (p : PortId) (r : RegDesc) (a : Nat) (old v : W32) : W32 × Bool :=
  r.fields.foldl (fun (acc : W32 × Bool) f =>
    match d.takeField p r a f (fieldOf old f.hi f.lo) (fieldOf v f.hi f.lo) with
    | .value x => (putField acc.1 f.hi f.lo x, acc.2)
    | .keep => acc
    | .refuse => (acc.1, true)) (old, false)

/-- The W1C bits that a write clears. -/
def w1cMask (r : RegDesc) (v : W32) : W32 :=
  r.fields.foldl (fun m f => if f.acc = .w1c then m ||| (v &&& toW32 ((2 ^ (f.hi + 1 - f.lo) - 1) * 2 ^ f.lo)) else m) 0

/-- W1C bits written 1 are cleared (Table 0.4); TC_FAULT follows R277, HL_LSTAT.stale and ST_LEAD.unit live elsewhere. -/
def Dev.clearBits (d : Dev) (a bank : Nat) (m : W32) : Dev :=
  if m = 0 then d
  else if a = Reg.TC_FAULT then d.clearFaults m
  else if a = Reg.HL_LSTAT then d.onLink bank (fun l => { l with stale := false })
  else
    let d1 := { d with w1c := d.w1c.set (regKey a bank) (d.w1cB a bank &&& ~~~m) }
    if a = Reg.ST_LEAD ∧ fieldOf m 6 0 ≠ 0 then d1.onClk (fun c => { c with leadUnit := 0 }) else d1

/-! ### Operation bits -/

/-- BP_CTL.apply (R101). A retired row keeps its bytes out of the new carve (R310). -/
def Dev.applyCarve (d : Dev) (path : Path) (v : W32) : Dev :=
  let r := d.carveCheck
  if r = 0 then
    let d1 := (d.setW1f Reg.BP_CTL 0 29 27 0).installCarve
    (d1.onPools (fun b => { b with retiredBufs := (d1.mi.retired.flatMap (fun (x : Nat × Nat × Nat) => b.rowBufs x.1 x.2.1 x.2.2)).eraseDups })).startRebuild 2
  else ((d.setW1f Reg.BP_CTL 0 29 27 r).restoreCarve).regEvent path Reg.BP_CTL v

/-- BP_IXCTL.rebuild (R120, R121): refused while a rebuild runs. -/
def Dev.rebuildIndex (d : Dev) (path : Path) (v : W32) : Dev :=
  if d.idx.rebuilding then d.regEvent path Reg.BP_IXCTL v else d.startRebuild 3

/-- The retry bits of HL_CTL: bit t − 1 of the field for link t. -/
def Dev.retryLinks (d : Dev) (v : W32) : Dev := d.each (List.range 15) (fun d i => if bitOf v (16 + i) then d.retryLink (i + 1) else d)

/-- MI_LOGCLR (R301). -/
def Dev.clearLog (d : Dev) (v : W32) : Dev :=
  d.onMi (fun m => { m with log := (if bitOf v 31 then Table.empty else m.log.set (fieldOf v 4 0) none) })

/-- FU_CTL.burn (R360, Table 17.9): targets 2 and 3 are refused with result 3. -/
def Dev.burnTarget (d : Dev) (path : Path) (v : W32) : Dev :=
  let t := d.rf Reg.FU_CTL 29 28
  if t = 0 then d.settingBurn path v else if t = 1 then d.controlBurn path v else d.burnResult 3

/-- FU_DBG: a write that verifies does not act on request (log entry 40). -/
def Dev.debugWrite (d : Dev) (v : W32) : Dev :=
  if bitOf v 26 then d.debugCheck
  else
    let n := fieldOf v 29 28
    if n = 0 then d.debugClear else if n = 3 then d else d.debugAsk n

/-- A change of CS_MODE waits for the next FORMAT or LOAD (R339); on a device alone it is in force then too. -/
def Dev.modeAsk (d : Dev) : Dev := d.onCs (fun c => { c with modePending := decide (d.modeAsked ≠ (c.modeInForce, c.kInForce, c.mInForce)) })

/-- A shadowed register of a slot written: the shadow awaits a commit (R264). -/
def Dev.shadowWritten (d : Dev) (r a : Nat) : Dev :=
  if Reg.TC_SCFG ≤ r ∧ shadowRegs.contains (a % 0x400) then d.onServo ((a - Reg.TC_SCFG) / 0x400) (fun v => { v with pendingCommit := true }) else d

/-- Operations that wait for READY (R394). -/
def Dev.heldBack (d : Dev) (a : Nat) (v : W32) : Bool :=
  !d.boot.ready && !d.boot.failed &&
    ((a == Reg.QM_QCTL && (fieldOf v 1 0 == 1 || fieldOf v 1 0 == 2)) || (a == Reg.BP_CTL && bitOf v 30) || (a == Reg.TC_CTL && bitOf v 30)
      || (a == Reg.EN_PCTL && bitOf v 31))

/-- Writes held, up to 256 in all (R394). -/
def Boot.heldCount (b : Boot) : Nat := b.heldWrites.length + b.heldOps.length

/-- The operation of a register that R394 holds until READY, carried out. -/
def Dev.lateOp (d : Dev) (h : HeldWrite) : Dev :=
  if !d.working then d
  else if h.addr = Reg.QM_QCTL then d.queueOp (pathPort h.path) h.qid (fieldOf h.value 1 0)
  else if h.addr = Reg.BP_CTL then d.applyCarve h.path h.value
  else if h.addr = Reg.TC_CTL then d.arm h.path h.value
  else if h.addr = Reg.EN_PCTL then d.patchStart h.path h.value [] true
  else d

/-- An operation that R394 names: held during start-up, carried out at once after it. -/
def Dev.startOp (d : Dev) (path : Path) (a : Nat) (v : W32) : Dev :=
  let h : HeldWrite := ⟨path, .bar0, a, v, d.bankOf (pathPort path) a % 512⟩
  if d.heldBack a v then
    (if 256 ≤ d.boot.heldCount then d.regEvent path a v else d.onBoot (fun b => { b with heldOps := b.heldOps ++ [h] }))
  else d.lateOp h

/-- What a write does besides its fields: the operation bits, and changes of fields that act at once. `old` and `new` are the written
fields before and after. -/
def Dev.regHook (d : Dev) (path : Path) (r a bank : Nat) (old new v : W32) : Dev :=
  if a = Reg.QM_QCTL then d.startOp path a v
  else if a = Reg.BP_CTL then (if bitOf v 30 then d.startOp path a v else d)
  else if a = Reg.BP_QLIMIT then d.each (List.range 6) (fun d p => d.serveWaiter p)
  else if a = Reg.BP_IXCTL then (if bitOf v 0 ∧ d.working then d.rebuildIndex path v else d)
  else if a = Reg.SH_CTL then
    let d1 := if bitOf v 30 ∧ d.working then d.resumeWriting else d
    if bitOf v 29 ∧ d.working then d1.beginStop else d1
  else if a = Reg.HL_CTL then
    if d.working && d.fu.loadDone then (if fieldOf old 15 0 = fieldOf new 15 0 then d else d.applyEnables (fieldOf new 15 0)).retryLinks v else d
  else if a = Reg.HL_RETRY0 then (if bitOf v 0 && d.working && d.fu.loadDone then d.retryLink 0 else d)
  else if a = Reg.HL_CHSET then (if d.working then d.sendChset bank old new else d)
  else if a = Reg.TC_CTL then
    let d1 := if bitOf v 29 then d.react .safe [] else d
    if bitOf v 30 then d1.startOp path a v else d1
  else if r = Reg.TC_SCFG ∧ bitOf v 31 then d.commitSlot ((a - Reg.TC_SCFG) / 0x400)
  else if a = Reg.ER_CTL then (if bitOf v 30 then d.releaseSnap else d)
  else if a = Reg.ER_REL then d.releaseRecord path v
  else if a = Reg.ER_LREL then d.releaseLoss path v
  else if a = Reg.MI_REPCTL then (if bitOf v 31 ∧ d.working then d.repairBurn path v else d)
  else if a = Reg.MI_LOGCLR then d.clearLog v
  else if a = Reg.HK_THRRATE then (if old ≠ new ∧ d.hk.level1 then d.hkNotice .throttleRequest d.paceRate else d)
  else if a = Reg.HK_CTL then d.hkPacing
  else if a = Reg.CS_MODE then (if old = new then d else d.modeAsk)
  else if a = Reg.CS_CTL then
    let d1 := if bitOf v 30 ∧ d.working ∧ d.fu.loadDone then d.joinAgain else d
    if bitOf v 29 ∧ d.working then d1.leaveRing else d1
  else if a = Reg.FU_CTL then (if bitOf v 30 ∧ d.working then d.burnTarget path v else d)
  else if a = Reg.FU_DBG then d.debugWrite v
  else if Reg.FU_RESP ≤ a ∧ a < Reg.FU_RESP + 256 then d.setReg a v
  else if a = Reg.EN_PCTL then
    let d1 := if bitOf v 30 ∧ d.working then d.patchCancel else d
    if bitOf v 31 then d1.startOp path a v else d1
  else if a = Reg.SN_CTL then
    let d1 := if bitOf v 30 then d.releaseSnap else d
    d1.onPins (fun p => { p with snapOutLow := d1.sn.armed && d1.rf Reg.SN_CTL 28 28 == 1 })
  else d.shadowWritten r a

/-! ### A write -/

/-- A write of a register that a block decodes. -/
def Dev.writeKnown (d : Dev) (path : Path) (r : RegDesc) (a : Nat) (v : W32) : Dev :=
  let p := pathPort path
  let bank := d.bankOf p a
  let old := d.regB a bank
  if breaksWhole r.base v ∧ (!d.locked a ∨ (d.takeFields p r a old v).2) then d.regEvent path a v
  else
    let t := d.takeFields p r a old v
    let d1 := if t.2 then d.regEvent path a v else d
    ((d1.setRegB a bank t.1).clearBits a bank (w1cMask r v)).regHook path r.base a bank old t.1 v

/-- A register write on an access path. An offset that no block decodes, or an unaligned one, is discarded with a C0 event (R9). -/
def Dev.writeReg (d : Dev) (path : Path) (a : Nat) (v : W32) : Dev :=
  match findReg a with
  | none => d.regEvent path a v
  | some r =>
    if r.base = Reg.DB_SQT then d.doorbell (pathPort path) false ((a - Reg.DB_SQT) / 16) v
    else if r.base = Reg.DB_CQH then d.doorbell (pathPort path) true ((a - Reg.DB_CQH) / 16) v
    else if a = Reg.CX_IVLCTL then d.writeIvlCtl path v
    else d.writeKnown path r a v

/-- A write of the MSI-X table in BAR2 (R45): 16-byte entries of address, data and vector control, whose bit 0 masks. -/
def Dev.writeMsix (d : Dev) (p : PortId) (a : Nat) (v : W32) : Dev :=
  let n := a / 16
  if 1024 ≤ n ∨ a % 4 ≠ 0 then d
  else if a % 16 = 0 then d.onVec p n (fun x => { x with addr := (x.addr.extractLsb' 32 32) ++ v })
  else if a % 16 = 4 then d.onVec p n (fun x => { x with addr := v ++ (x.addr.extractLsb' 0 32) })
  else if a % 16 = 8 then d.onVec p n (fun x => { x with data := v })
  else if bitOf v 0 then d.onVec p n (fun x => { x with masked := true })
  else d.unmask p n

/-- A read in BAR2 (R45): the MSI-X table, and from 0x4000 the pending-bit array of 128 bytes. -/
def Dev.readMsix (d : Dev) (p : PortId) (a : Nat) : W32 :=
  let x := (d.port p).vecs.get (a / 16)
  if a % 4 ≠ 0 then 0
  else if a < 0x4000 then
    (if a % 16 = 0 then x.addr.extractLsb' 0 32 else if a % 16 = 4 then x.addr.extractLsb' 32 32
     else if a % 16 = 8 then x.data else toW32 (b2n x.masked))
  else if a < 0x4080 then toW32 (bits' 32 (fun i => ((d.port p).vecs.get (8 * (a - 0x4000) + i)).pending))
  else 0

/-- Whether a path can write: a port in L0, or JTAG at debug level 2 (Table 18.5); I2C never writes (R414). The setting block and the
overlay write within the start-up steps that apply them. -/
def Dev.pathOpen (d : Dev) : Path → Bool
  | .port p => d.alive && (d.port p).linkUp
  | .i2c _ => false
  | .jtag _ => d.alive && d.debugLevel == 2
  | .fuse => false
  | .overlay => false

/-- A write that arrives before the boot flash has been applied is held, up to 256 (R394); doorbells are refused at once. -/
def Dev.arrive (d : Dev) (path : Path) (bar : Bar) (a : Nat) (v : W32) : Dev :=
  if d.boot.bootDone ∨ d.boot.failed ∨ (0x00100000 ≤ a ∧ a < 0x00110000 ∧ bar = .bar0) then
    (match bar, path with
     | .bar0, _ => d.writeReg path a v
     | .bar2, .port p => d.writeMsix p a v
     | .bar2, _ => d)
  else if 256 ≤ d.boot.heldCount then d.regEvent path a v
  else d.onBoot (fun b => { b with heldWrites := b.heldWrites ++ [⟨path, bar, a, v, 0⟩] })

/-- A command that is a register write. -/
def State.write (s : State) (path : Path) (a : Nat) (v : Dev → W32) : Out :=
  s.whenDev (fun d => d.pathOpen path) (fun d => d.arrive path .bar0 a (v d))

/-- What a register holds, with an operation bit set beside it: the write that asks for one operation and leaves the fields as they are. -/
def Dev.withBit (d : Dev) (path : Path) (a n : Nat) : W32 := d.regB a (d.bankOf (pathPort path) a) ||| toW32 (2 ^ n)

/-- REGISTER_WRITE. -/
def execRegisterWrite (path : Path) (bar : Bar) (addr value : W32) (s : State) : Out :=
  s.whenDev (fun d => d.pathOpen path) (fun d => d.arrive path bar addr.toNat value)

/-! ### Writes that are rows of the table -/

/-- QUEUE_CREATE and QUEUE_DELETE: 0b01 or 0b10 written to QM_QCTL.op (R26, R28). -/
def execQueueCreate (path : Path) (s : State) : Out := s.write path Reg.QM_QCTL (fun _ => 1)
def execQueueDelete (path : Path) (s : State) : Out := s.write path Reg.QM_QCTL (fun _ => 2)
/-- INDEX_REBUILD: 1 written to BP_IXCTL.rebuild (R120). -/
def execIndexRebuild (path : Path) (s : State) : Out := s.write path Reg.BP_IXCTL (fun _ => 1)
/-- CARVE_APPLY: 1 written to BP_CTL.apply (R101). -/
def execCarveApply (path : Path) (s : State) : Out := s.write path Reg.BP_CTL (fun d => d.withBit path Reg.BP_CTL 30)
/-- IV_LOG_ENABLE: a write of CX_IVLCTL (R148). -/
def execIvLogEnable (path : Path) (value : W32) (s : State) : Out := s.write path Reg.CX_IVLCTL (fun _ => value)
/-- END_RUN and RESUME: 1 written to SH_CTL.end_run or resume (R198, R201). -/
def execEndRun (path : Path) (s : State) : Out := s.write path Reg.SH_CTL (fun d => d.withBit path Reg.SH_CTL 29)
def execResume (path : Path) (s : State) : Out := s.write path Reg.SH_CTL (fun d => d.withBit path Reg.SH_CTL 30)
/-- LINK_ENABLE: a write of HL_CTL (R246). -/
def execLinkEnable (path : Path) (value : W32) (s : State) : Out := s.write path Reg.HL_CTL (fun _ => value)
/-- LINK_RETRY: 1 written to the retry bit of link `t` (R246). -/
def execLinkRetry (path : Path) (t : Nat) (s : State) : Out :=
  if t = 0 then s.write path Reg.HL_RETRY0 (fun _ => 1)
  else if t < 16 then s.write path Reg.HL_CTL (fun d => d.withBit path Reg.HL_CTL (15 + t)) else .next s
/-- CHSET_WRITE: a write of HL_CHSET (Table 11.15). -/
def execChsetWrite (path : Path) (value : W32) (s : State) : Out := s.write path Reg.HL_CHSET (fun _ => value)
/-- TC_ARM and TC_SAFE: 1 written to TC_CTL.arm or safe (R276, R278). -/
def execTcArm (path : Path) (s : State) : Out := s.write path Reg.TC_CTL (fun d => d.withBit path Reg.TC_CTL 30)
def execTcSafe (path : Path) (s : State) : Out := s.write path Reg.TC_CTL (fun d => d.withBit path Reg.TC_CTL 29)
/-- FAULT_CLEAR: a write of TC_FAULT (R277). -/
def execFaultClear (path : Path) (value : W32) (s : State) : Out := s.write path Reg.TC_FAULT (fun _ => value)
/-- SLOT_COMMIT: 1 written to TC_SnCFG.commit (R264). -/
def execSlotCommit (path : Path) (slot : Nat) (s : State) : Out :=
  if slot < 8 then s.write path (slotReg Reg.TC_SCFG slot) (fun d => d.withBit path (slotReg Reg.TC_SCFG slot) 31) else .next s
/-- TC_TIMER_WRITE: a write of TC_TIMER (R252). -/
def execTcTimerWrite (path : Path) (value : W32) (s : State) : Out := s.write path Reg.TC_TIMER (fun _ => value)
/-- RECORD_RELEASE and LOSS_RECORD_RELEASE: writes of ER_REL and ER_LREL (R284, R285). -/
def execRecordRelease (path : Path) (seq : W32) (s : State) : Out := s.write path Reg.ER_REL (fun _ => seq)
def execLossRecordRelease (path : Path) (index : W32) (s : State) : Out := s.write path Reg.ER_LREL (fun _ => index)
/-- SNAPSHOT_RELEASE: 1 written to SN_CTL.release, or to ER_CTL.snap_release (R291, R379). -/
def execSnapshotRelease (path : Path) (viaEr : Bool) (s : State) : Out :=
  if viaEr then s.write path Reg.ER_CTL (fun d => d.withBit path Reg.ER_CTL 30) else s.write path Reg.SN_CTL (fun d => d.withBit path Reg.SN_CTL 30)
/-- REPAIR_BURN: 1 written to MI_REPCTL.burn (R311). -/
def execRepairBurn (path : Path) (s : State) : Out := s.write path Reg.MI_REPCTL (fun _ => 0x80000000)
/-- LOG_CLEAR_ALL and LOG_CLEAR_ENTRY: writes of MI_LOGCLR (R301). -/
def execLogClearAll (path : Path) (s : State) : Out := s.write path Reg.MI_LOGCLR (fun _ => 0x80000000)
def execLogClearEntry (path : Path) (entry : BitVec 5) (s : State) : Out := s.write path Reg.MI_LOGCLR (fun _ => entry.zeroExtend 32)
/-- FLIP_ARM: 1 written to MI_FLIPCTL.arm (R314). -/
def execFlipArm (path : Path) (s : State) : Out := s.write path Reg.MI_FLIPCTL (fun _ => 0x80000000)
/-- THROTTLE_RATE_WRITE: a write of HK_THRRATE (R323). -/
def execThrottleRateWrite (path : Path) (value : W32) (s : State) : Out := s.write path Reg.HK_THRRATE (fun _ => value)
/-- CASCADE_JOIN and CASCADE_LEAVE: 1 written to CS_CTL.join or leave (R332, R351). -/
def execCascadeJoin (path : Path) (s : State) : Out := s.write path Reg.CS_CTL (fun d => d.withBit path Reg.CS_CTL 30)
def execCascadeLeave (path : Path) (s : State) : Out := s.write path Reg.CS_CTL (fun d => d.withBit path Reg.CS_CTL 29)
/-- SETTING_BURN and CONTROL_FUSE_BURN: 1 written to FU_CTL.burn with target 0 or 1 (R360). -/
def execSettingBurn (path : Path) (s : State) : Out :=
  s.write path Reg.FU_CTL (fun d => putField (d.withBit path Reg.FU_CTL 30) 29 28 0)
def execControlFuseBurn (path : Path) (s : State) : Out :=
  s.write path Reg.FU_CTL (fun d => putField (d.withBit path Reg.FU_CTL 30) 29 28 1)
/-- DEBUG_REQUEST, DEBUG_VERIFY and DEBUG_LEVEL_CLEAR: writes of FU_DBG (R368). -/
def execDebugRequest (path : Path) (level : Nat) (s : State) : Out :=
  if level = 1 ∨ level = 2 then s.write path Reg.FU_DBG (fun _ => toW32 (level * 2 ^ 28)) else .next s
def execDebugVerify (path : Path) (s : State) : Out := s.write path Reg.FU_DBG (fun d => d.withBit path Reg.FU_DBG 26)
def execDebugLevelClear (path : Path) (s : State) : Out := s.write path Reg.FU_DBG (fun _ => 0)
/-- PATCH_LOAD_START: 1 written to EN_PCTL.start (R375); `mem` is what the host has placed for the device to read, `ok` whether its reads
complete. -/
def execPatchLoadStart (path : Path) (mem : HostWrites) (ok : Bool) (s : State) : Out :=
  s.whenDev (fun d => d.pathOpen path) (fun d =>
    let v := d.withBit path Reg.EN_PCTL 31
    let d1 := d.place (portOf (d.rf Reg.EN_PCTL 29 29)) mem
    if ok || !d.boot.ready then d1.arrive path .bar0 Reg.EN_PCTL v else if d1.working then d1.patchStart path v [] false else d1)
/-- PATCH_LOAD_CANCEL: 1 written to EN_PCTL.cancel (R376). -/
def execPatchLoadCancel (path : Path) (s : State) : Out := s.write path Reg.EN_PCTL (fun d => d.withBit path Reg.EN_PCTL 30)

/-- DBG_REG (R384, Table 18.5): bit 63 writes, which needs level 2; bit 62 selects the port; bits 57:32 are the offset. A read is in
`pins.jtagOut`; a refused one selects BYPASS. -/
def execDbgReg (data : W64) (s : State) : Out :=
  s.whenDev Dev.powered (fun d =>
    let path := Path.jtag (portOf (b2n (bitOf data 62)))
    let a := fieldOf data 57 32
    if bitOf data 63 then
      (if d.pathOpen path then (d.jtagLoad 0x40).arrive path .bar0 a (toW32 (fieldOf data 31 0)) else d.jtagLoad jtagBypass)
    else if d.readOpen path then
      let r := (d.jtagLoad 0x40).readReg path a
      r.2.onPins (fun x => { x with jtagOut := r.1 })
    else d.jtagLoad jtagBypass)

end Sys2Proof.Machine
end

