-- ==== Sys2Proof/Machine/Startup.lean ====
section
/-! DEFINITION. Reset and start-up (19_startup): the resets and the supplies, the steps of Table 19.1, and READY. -/

namespace Sys2Proof.Machine

/-! ### Assertion of a reset (R365, R387, R406) -/

/-- What a reset leaves of the discrete and encoder inputs: their pin levels, filters not yet settled. -/
def Tc.afterReset (t : Tc) : Tc :=
  { Tc.reset with din := ⟨t.din.cells.filterMap (fun (c : Nat × Din) => if c.2.raw then some (c.1, ⟨true, false, false, [], [], 0⟩) else none)⟩, encAB := t.encAB }

/-- The device held in reset: every register and unit at its reset value. What is not the device's own stays: host memory, the cartridge,
pin levels and the burned fuses; and the count of free values taken. -/
def Dev.held (d : Dev) : Dev :=
  { Dev.reset with
    hostA := d.hostA, hostB := d.hostB, hostR := d.hostR, draws := d.draws
    clk := { Clock.reset with member := d.clk.member }
    vol := { Vol.reset with cart := d.vol.cart }
    tc := d.tc.afterReset
    fu := { Fuses.reset with cells := d.fu.cells }
    boot := { Boot.reset with pwrLow := d.boot.pwrLow, warmLow := d.boot.warmLow }
    pins := { d.pins with snapOutLow := false } }

/-- PWR_RESET_ASSERT: a burn in progress is abandoned, key material is zeroed, the outputs are at their reset levels; a hard trip and a held
snapshot end (R327, R361, R365, R383). -/
def execPwrResetAssert (s : State) : Out :=
  s.whenDev (fun d => !d.boot.pwrLow) (fun d => (d.abandonBurn.held).onBoot (fun b => { b with pwrLow := true }))

/-- WARM_RESET_ASSERT: as a power reset, but that a hard trip stands, a held snapshot survives, and what lasts until PWR_RESET_N stays (R327,
R368, R383, R387). During a power reset it has no added effect (R406). -/
def execWarmResetAssert (s : State) : Out :=
  s.whenDev (fun d => !d.boot.warmLow) (fun d =>
    if d.boot.pwrLow then d.onBoot (fun b => { b with warmLow := true })
    else
      let d0 := d.abandonBurn.snapOverReset
      { d0.held with
        sn := d0.sn
        er := { Errors.reset with snapSeq := d0.er.snapSeq }
        hk := { Hk.reset with tripped := d0.hk.tripped }
        fu := { d0.held.fu with failures := d0.fu.failures, keysOff := d0.fu.keysOff }
        boot := { d0.held.boot with warmLow := true } })

/-! ### Release (R81, R331, R387, R406) -/

/-- A device epoch starts: the count is 0, and the epoch-start stamp is issued by the stamp service. -/
def Dev.startEpoch (d : Dev) : Dev :=
  if d.boot.pwrLow ∨ d.boot.warmLow then d
  else d.onClk (fun c => { c with now := 0, running := true, last := Table.empty.set 0 1 })

/-- PWR_RESET_RELEASE: the straps are sampled; start-up begins unless the other reset is still asserted. -/
def execPwrResetRelease (cascId : BitVec 3) (i2cAddr : Bool) (s : State) : Out :=
  s.whenDev (fun d => d.boot.pwrLow) (fun d =>
    (((d.onBoot (fun b => { b with pwrLow := false })).onPins (fun p => { p with cascId := cascId, i2cAddr := i2cAddr })).onClk
      (fun c => { c with member := cascId })).startEpoch)

/-- WARM_RESET_RELEASE. -/
def execWarmResetRelease (s : State) : Out :=
  s.whenDev (fun d => d.boot.warmLow) (fun d => (d.onBoot (fun b => { b with warmLow := false })).startEpoch)

/-- SUPPLY_RAMP: VIO crosses 1.4 V or a core supply 80 % of its minimum (R405): the outputs go to their reset levels, and without the core
supplies the key stores lose their content (R365, log entry 44). -/
def execSupplyRamp (vioUp coreUp : Bool) (s : State) : Out :=
  s.always (fun d =>
    let d1 := d.onPins (fun p => { p with vioUp := vioUp, coreUp := coreUp })
    if vioUp && coreUp then d1
    else
      let d2 := (d1.onTc (fun t => t.toSafe.unpower)).onPins (fun p => { p with snapOutLow := false })
      if coreUp then d2 else d2.zeroKeys)

/-- STAMP_STALL_END: the count has caught up with a unit that stalled (R82). -/
def execStampStallEnd (u : Nat) (s : State) : Out :=
  s.live (fun d => match d.clk.stalls.find? (fun x => decide (x.1 = u)) with
    | none => d
    | some x => (d.advanceTo x.2).onClk (fun c => { c with stalls := c.stalls.erase x }))

/-! ### Step 1: fuses (R354 to R359) -/

/-- Whether the register of an offset has a field that can be written. -/
def writable (a : Nat) : Bool := (findReg a).any (fun r => r.fields.any (fun f => f.acc != .ro))

/-- Entries that are passed over (R359). -/
def skippedEntry (a : Nat) : Bool :=
  let b := a / 65536 % 1024
  a % 4 != 0 || b == 0x10 || b == 2 || a == Reg.FU_CTL || (decide (Reg.FU_STAGE ≤ a) && decide (a < Reg.FU_STAGE + 1024))
    || (decide (Reg.FU_RESP ≤ a) && decide (a < Reg.FU_RESP + 256)) || !writable a

/-- The entries of a setting block or an overlay are applied in order, as register writes (R359). -/
def Dev.applyEntries (d : Dev) (path : Path) (es : List (Nat × W32)) : Dev :=
  d.each es (fun d (e : Nat × W32) => if skippedEntry e.1 then d.regEvent path e.1 e.2 else d.writeReg path e.1 e.2)

/-- The fuse array as read: a cell found burned is burned. -/
def Fuses.read (f : Fuses) (cells : HostWrites) : Fuses :=
  let m := cells.foldl (fun (m : Table Byte 0) (c : Nat × Byte) => if c.1 < 8192 then m.set c.1 (m.get c.1 ||| c.2) else m) f.cells
  { f with cells := m, shadow := m, loadDone := true, keyOk := keyRegionOk m }

/-- What step 1 leads to once it has passed: the setting block in force, repairs and fill, links and discovery (R306, R332, R388). -/
def Dev.afterFuses (d : Dev) : Dev :=
  let m := d.fu.shadow
  let d1 := match activeSetting m with
    | some g => (d.onFu (fun f => { f with activeGen := g, genValid := true })).applyEntries .fuse (settingEntries (settingBytes m g))
    | none => d
  let d2 := ((d1.onCx (fun c => { c with keysZero := false })).onMi (fun x => { x with rows := fuseRows m, lanes := fuseLanes m })).startFill
  ((d2.onBoot (fun b => { b with stage := 2 })).applyEnables (d2.rf Reg.HL_CTL 15 0)).startDiscovery

/-- FUSE_LOAD_DONE: `cells` are the burned cells found in the array. The identity record and the keys are checked; a failure is a C5 (R355,
R356). -/
def execFuseLoadDone (cells : HostWrites) (s : State) : Out :=
  s.whenDev (fun d => d.working && !d.fu.loadDone) (fun d =>
    let d1 := d.onFu (fun f => f.read cells)
    if !identityOk d1.fu.shadow then d1.raise { cls := .c5, unit := fuseUnit, cat := 0x0E }
    else if !d1.fu.keyOk then d1.raise { cls := .c5, unit := ⟨0xB, 16⟩, cat := 5 }
    else d1.afterFuses)

/-! ### Steps 2 and 3 (R306, R313) -/

/-- INIT_FILL_DONE: the initialization fill has ended in every stack. -/
def execInitFillDone (s : State) : Out :=
  s.whenDev (fun d => d.alive && d.fu.loadDone && d.mi.initBusy) (fun d =>
    (d.onMi (fun m => { m with initBusy := false, lapBegan := d.clk.now })).onBoot (fun b => { b with fillDone := true }))

/-- Groups of Table 14.4 that a bit mask names. -/
def groupsOf (failed : BitVec 13) : List Nat := (List.range 13).filter (fun g => failed.getLsbD g)

/-- BIST_DONE: the March test of the on-chip memories has ended; `failed` are the groups that still fail after repair, `units` those whose
memories fail. -/
def execBistDone (failed : BitVec 13) (units : List UnitId) (s : State) : Out :=
  s.whenDev (fun d => d.working && d.fu.loadDone && !d.mi.bistDone) (fun d =>
    let d1 := ((d.onMi (fun m => { m with bistDone := true })).setW1f Reg.MI_BIST 0 12 0 failed.toNat).onBoot (fun b => { b with stage := 3 })
    d1.each (units.filter (fun u => unitExists u && (groupsOf failed).any (fun g => inGroup g u))) (fun d u =>
      d.testFailed [u] (unitCategory u.origin) (d.unitD0 u) (d.unitD1 u)))

/-! ### Step 4: the boot flash (R389, R390) -/

/-- Bytes [a, a + n) of the flash as read; none where the read of one of them fails. -/
def flashRead (flash : HostWrites) (a : Nat) : Nat → Option (List Byte)
  | 0 => some []
  | n + 1 => match flash.find? (fun (c : Nat × Byte) => decide (c.1 = a)) with
    | none => none
    | some c => (flashRead flash (a + 1) n).map (fun t => c.2 :: t)

/-- A boot flash header whose version, zero fields and CRC are valid (Table 19.2). -/
def flashHeaderOk (h : List Byte) : Bool :=
  imgField h 4 2 == 1 && imgField h 6 2 == 0 && ((h.take 60).drop 24).all (fun b => b == 0) && imgField h 60 4 == crc32c (h.take 60)

/-- A C0 event of step 4, with the EN_PSTAT.result it concerns. -/
def Dev.flashEvent (d : Dev) (result : Nat := 0) : Dev := d.patchEvent result

/-- The overlay, where the header names one. -/
def Dev.overlay (d : Dev) (flash : HostWrites) (h : List Byte) : Dev :=
  let a := imgField h 16 4
  if a = 0 then d else
  match flashRead flash a 1024 with
  | some bs =>
    if a % 4 = 0 ∧ imgField h 20 4 = 1024 ∧ settingValid bs 0xFF then
      (d.applyEntries .overlay (settingEntries bs)).onBoot (fun b => { b with overlayApplied := true })
    else d.flashEvent
  | none => d.flashEvent

/-- The patch image, where the header names one: checked under R374 and written to every cluster of its mask. A read error is result 6 (log
entry 45). -/
def Dev.flashImage (d : Dev) (flash : HostWrites) (h : List Byte) : Dev :=
  let a := imgField h 8 4
  let n := imgField h 12 4
  if a = 0 then d
  else if a % 8 ≠ 0 ∨ n < 228 ∨ 10724 < n then (d.setPatchResult 1).flashEvent 1
  else match flashRead flash a n with
    | none => (d.setPatchResult 6).flashEvent 6
    | some bs =>
      let r := d.imageCheck bs
      let d1 := d.setPatchResult r
      if r = 0 then
        ((d1.each (imgClusters bs) (fun d c => d.install bs c)).onEn (fun e => { e with retained := some bs })).onBoot
          (fun b => { b with patchLoaded := true })
      else d1.flashEvent r

/-- The header of the flash: none where it is not applied, with its C0 event. -/
def Dev.flashHeader (d : Dev) (flash : Option HostWrites) : Option (HostWrites × List Byte) × Dev :=
  match flash with
  | none => (none, d.flashEvent)
  | some m =>
    match flashRead m 0 64 with
    | none => (none, d.flashEvent)
    | some h =>
      if imgField h 0 4 = 0x4C464257 ∧ flashHeaderOk h then (some (m, h), d.onBoot (fun b => { b with flashPresent := true }))
      else (none, d.flashEvent)

/-- Writes held since reset, applied in the order they arrived (R394). -/
def Dev.applyHeld (d : Dev) : Dev :=
  let ws := d.boot.heldWrites
  (d.onBoot (fun b => { b with heldWrites := [], bootDone := true })).each ws (fun d h => d.arrive h.path h.bar h.addr h.value)

/-- BOOT_FLASH_DONE: `flash` is the content read, none without a flash; a byte that is not listed could not be read. The overlay is applied,
then the writes that were held, then the patch image. -/
def execBootFlashDone (flash : Option HostWrites) (s : State) : Out :=
  s.whenDev (fun d => d.working && d.mi.bistDone && !d.boot.bootDone) (fun d =>
    let r := d.flashHeader flash
    let d1 := match r.1 with
      | some x => ((r.2.overlay x.1 x.2).applyHeld).flashImage x.1 x.2
      | none => r.2.applyHeld
    d1.onBoot (fun b => { b with stage := 4 }))

/-! ### Step 8: READY (R392, R394) -/

/-- Everything READY waits for has happened. -/
def Dev.mayReady (d : Dev) : Bool :=
  d.working && !d.boot.ready && d.boot.bootDone && d.boot.fillDone && d.hk.calibrated && d.boot.discoveryDone

/-- READY: recorded by unit 0x12; the operations held since start-up are carried out in the order they were written. -/
def execReady (s : State) : Out :=
  s.whenDev Dev.mayReady (fun d =>
    let d1 := d.c0 ⟨0x12, 0xFFFF⟩ 0x0F
    let ops := d1.boot.heldOps
    (d1.onBoot (fun b => { b with stage := 6, ready := true, frozen := some d1.sinceRelease, heldOps := [] })).each ops Dev.lateOp)

end Sys2Proof.Machine
end

