-- ==== Sys2Proof/Machine/Dispatch.lean ====
section
/-! DEFINITION. One arm per command of Syntax.lean: the direct call of its meaning. -/

namespace Sys2Proof.Machine

/-- The effect of a command on everything but the queue of waiting commands. -/
def exec (i : Instr) (s : State) : Host.Outcome State Fault Refusal :=
  match i with
  | .sqTailDoorbell p qid value => Sys2Proof.Machine.execSqTailDoorbell p qid value s
  | .cqHeadDoorbell p qid value => Sys2Proof.Machine.execCqHeadDoorbell p qid value s
  | .queueCreate path => Sys2Proof.Machine.execQueueCreate path s
  | .queueDelete path => Sys2Proof.Machine.execQueueDelete path s
  | .sqeFetch mem => Sys2Proof.Machine.execSqeFetch mem s
  | .contextDispatch c => Sys2Proof.Machine.execContextDispatch c s
  | .programLineArrive e mem ok => Sys2Proof.Machine.execProgramLineArrive e mem ok s
  | .completionPost p qid => Sys2Proof.Machine.execCompletionPost p qid s
  | .coalesceTimeout p v => Sys2Proof.Machine.execCoalesceTimeout p v s
  | .vectorUnmask p v => Sys2Proof.Machine.execVectorUnmask p v s
  | .noticePost => Sys2Proof.Machine.execNoticePost s
  | .portLoss p cause => Sys2Proof.Machine.execPortLoss p cause s
  | .portLinkUp p flit speed width => Sys2Proof.Machine.execPortLinkUp p flit speed width s
  | .busMasterEnable p on => Sys2Proof.Machine.execBusMasterEnable p on s
  | .queueMemoryError p qid cqWrite => Sys2Proof.Machine.execQueueMemoryError p qid cqWrite s
  | .add c => Sys2Proof.Machine.execAdd c s
  | .sub c => Sys2Proof.Machine.execSub c s
  | .and c => Sys2Proof.Machine.execAnd c s
  | .or c => Sys2Proof.Machine.execOr c s
  | .xor c => Sys2Proof.Machine.execXor c s
  | .shl c => Sys2Proof.Machine.execShl c s
  | .shr c => Sys2Proof.Machine.execShr c s
  | .sar c => Sys2Proof.Machine.execSar c s
  | .mul c => Sys2Proof.Machine.execMul c s
  | .addi c => Sys2Proof.Machine.execAddi c s
  | .movi c => Sys2Proof.Machine.execMovi c s
  | .cmp c => Sys2Proof.Machine.execCmp c s
  | .cmpi c => Sys2Proof.Machine.execCmpi c s
  | .andi c => Sys2Proof.Machine.execAndi c s
  | .b c => Sys2Proof.Machine.execB c s
  | .call c => Sys2Proof.Machine.execCall c s
  | .ret c => Sys2Proof.Machine.execRet c s
  | .br c => Sys2Proof.Machine.execBr c s
  | .wait c => Sys2Proof.Machine.execWait c s
  | .waitExpire c => Sys2Proof.Machine.execWaitExpire c s
  | .end_ c => Sys2Proof.Machine.execEnd c s
  | .ld c mem ok => Sys2Proof.Machine.execLd c mem ok s
  | .st c ok => Sys2Proof.Machine.execSt c ok s
  | .dseek c => Sys2Proof.Machine.execDseek c s
  | .put c => Sys2Proof.Machine.execPut c s
  | .patch c => Sys2Proof.Machine.execPatch c s
  | .get c => Sys2Proof.Machine.execGet c s
  | .delete c => Sys2Proof.Machine.execDelete c s
  | .stat c => Sys2Proof.Machine.execStat c s
  | .compress c => Sys2Proof.Machine.execCompress c s
  | .decompress c => Sys2Proof.Machine.execDecompress c s
  | .format c => Sys2Proof.Machine.execFormat c s
  | .load c => Sys2Proof.Machine.execLoad c s
  | .unload c => Sys2Proof.Machine.execUnload c s
  | .locate c => Sys2Proof.Machine.execLocate c s
  | .seal c => Sys2Proof.Machine.execSeal c s
  | .flush c => Sys2Proof.Machine.execFlush c s
  | .migrate c => Sys2Proof.Machine.execMigrate c s
  | .keyImport c mem ok => Sys2Proof.Machine.execKeyImport c mem ok s
  | .keyLoad c mem ok => Sys2Proof.Machine.execKeyLoad c mem ok s
  | .keySave c ok => Sys2Proof.Machine.execKeySave c ok s
  | .keyErase c => Sys2Proof.Machine.execKeyErase c s
  | .keyEraseNow c => Sys2Proof.Machine.execKeyEraseNow c s
  | .bufAlloc c => Sys2Proof.Machine.execBufAlloc c s
  | .bufShare c => Sys2Proof.Machine.execBufShare c s
  | .bufFree c => Sys2Proof.Machine.execBufFree c s
  | .abort c => Sys2Proof.Machine.execAbort c s
  | .fence c => Sys2Proof.Machine.execFence c s
  | .maintEnter c => Sys2Proof.Machine.execMaintEnter c s
  | .maintExit c => Sys2Proof.Machine.execMaintExit c s
  | .movePos c => Sys2Proof.Machine.execMovePos c s
  | .moveVel c => Sys2Proof.Machine.execMoveVel c s
  | .moveStop c => Sys2Proof.Machine.execMoveStop c s
  | .headSeek c => Sys2Proof.Machine.execHeadSeek c s
  | .thread c => Sys2Proof.Machine.execThread c s
  | .unthread c => Sys2Proof.Machine.execUnthread c s
  | .snap c => Sys2Proof.Machine.execSnap c s
  | .qstat c => Sys2Proof.Machine.execQstat c s
  | .instructionFinish c cause => Sys2Proof.Machine.execInstructionFinish c cause s
  | .writeCommit c => Sys2Proof.Machine.execWriteCommit c s
  | .indexLookup c => Sys2Proof.Machine.execIndexLookup c s
  | .indexRebuild path => Sys2Proof.Machine.execIndexRebuild path s
  | .indexRebuildDone micros16 => Sys2Proof.Machine.execIndexRebuildDone micros16 s
  | .carveApply path => Sys2Proof.Machine.execCarveApply path s
  | .bufferRequest u size spill => Sys2Proof.Machine.execBufferRequest u size spill s
  | .bufferRelease u buf => Sys2Proof.Machine.execBufferRelease u buf s
  | .ingestDataArrive c n mem ok => Sys2Proof.Machine.execIngestDataArrive c n mem ok s
  | .fifoDrainStart p f => Sys2Proof.Machine.execFifoDrainStart p f s
  | .compressBlockStart lane => Sys2Proof.Machine.execCompressBlockStart lane s
  | .blockCompressed lane r => Sys2Proof.Machine.execBlockCompressed lane r s
  | .verifyVerdict lane v => Sys2Proof.Machine.execVerifyVerdict lane v s
  | .blockReleaseToCipher => Sys2Proof.Machine.execBlockReleaseToCipher s
  | .restoreBlockDecode c k lane ok => Sys2Proof.Machine.execRestoreBlockDecode c k lane ok s
  | .restoreBlockRetry c k lane ok => Sys2Proof.Machine.execRestoreBlockRetry c k lane ok s
  | .blockJoinRecord => Sys2Proof.Machine.execBlockJoinRecord s
  | .recordIdleClose slot => Sys2Proof.Machine.execRecordIdleClose slot s
  | .recordTagDone pipe => Sys2Proof.Machine.execRecordTagDone pipe s
  | .ivLogEnable path value => Sys2Proof.Machine.execIvLogEnable path value s
  | .restoreRecordCheck c k tagOk => Sys2Proof.Machine.execRestoreRecordCheck c k tagOk s
  | .revocationDone slot => Sys2Proof.Machine.execRevocationDone slot s
  | .rngHealthFail => Sys2Proof.Machine.execRngHealthFail s
  | .formeAssemble => Sys2Proof.Machine.execFormeAssemble s
  | .writeRunStart => Sys2Proof.Machine.execWriteRunStart s
  | .proofLagMeasure found => Sys2Proof.Machine.execProofLagMeasure found s
  | .formePositionSend => Sys2Proof.Machine.execFormePositionSend s
  | .proofRowResult copy row mark => Sys2Proof.Machine.execProofRowResult copy row mark s
  | .proofVerdict copy => Sys2Proof.Machine.execProofVerdict copy s
  | .stepEval => Sys2Proof.Machine.execStepEval s
  | .runIdleStop => Sys2Proof.Machine.execRunIdleStop s
  | .endRun path => Sys2Proof.Machine.execEndRun path s
  | .resume path => Sys2Proof.Machine.execResume path s
  | .sheafTurn => Sys2Proof.Machine.execSheafTurn s
  | .readTurnEnd => Sys2Proof.Machine.execReadTurnEnd s
  | .formeDecode sheaf position slot marks => Sys2Proof.Machine.execFormeDecode sheaf position slot marks s
  | .l3RecoveryDone groupBase ok others => Sys2Proof.Machine.execL3RecoveryDone groupBase ok others s
  | .cartridgePresent => Sys2Proof.Machine.execCartridgePresent s
  | .cartridgeLoss => Sys2Proof.Machine.execCartridgeLoss s
  | .linkEnable path value => Sys2Proof.Machine.execLinkEnable path value s
  | .linkRetry path t => Sys2Proof.Machine.execLinkRetry path t s
  | .linkSignalDetect t => Sys2Proof.Machine.execLinkSignalDetect t s
  | .linkAdaptDone t => Sys2Proof.Machine.execLinkAdaptDone t s
  | .linkAlignLock t => Sys2Proof.Machine.execLinkAlignLock t s
  | .link t blk => Sys2Proof.Machine.execLink t blk s
  | .linkTrainTimeout t => Sys2Proof.Machine.execLinkTrainTimeout t s
  | .linkReadyDeadline t => Sys2Proof.Machine.execLinkReadyDeadline t s
  | .linkLoss t => Sys2Proof.Machine.execLinkLoss t s
  | .statusTimeout t => Sys2Proof.Machine.execStatusTimeout t s
  | .symbolBlockRx t block => Sys2Proof.Machine.execSymbolBlockRx t block s
  | .pes t blk => Sys2Proof.Machine.execPes t blk s
  | .status t blk => Sys2Proof.Machine.execStatus t blk s
  | .chsetWrite path value => Sys2Proof.Machine.execChsetWrite path value s
  | .sampleTimerEdge codes => Sys2Proof.Machine.execSampleTimerEdge codes s
  | .saturationFault slot => Sys2Proof.Machine.execSaturationFault slot s
  | .profileComplete => Sys2Proof.Machine.execProfileComplete s
  | .headLock => Sys2Proof.Machine.execHeadLock s
  | .headSeekTimeout => Sys2Proof.Machine.execHeadSeekTimeout s
  | .pesFault source => Sys2Proof.Machine.execPesFault source s
  | .sensorRailFault port channel => Sys2Proof.Machine.execSensorRailFault port channel s
  | .encoderFault => Sys2Proof.Machine.execEncoderFault s
  | .discreteInputChange n levels => Sys2Proof.Machine.execDiscreteInputChange n levels s
  | .chatterFault n => Sys2Proof.Machine.execChatterFault n s
  | .stuckFault n => Sys2Proof.Machine.execStuckFault n s
  | .estopGate => Sys2Proof.Machine.execEstopGate s
  | .tcArm path => Sys2Proof.Machine.execTcArm path s
  | .brakeRelease => Sys2Proof.Machine.execBrakeRelease s
  | .tcSafe path => Sys2Proof.Machine.execTcSafe path s
  | .stopHoldExpire => Sys2Proof.Machine.execStopHoldExpire s
  | .driveDisable => Sys2Proof.Machine.execDriveDisable s
  | .faultClear path value => Sys2Proof.Machine.execFaultClear path value s
  | .slotCommit path slot => Sys2Proof.Machine.execSlotCommit path slot s
  | .tcTimerWrite path value => Sys2Proof.Machine.execTcTimerWrite path value s
  | .errorRaise cls u category d0 d1 => Sys2Proof.Machine.execErrorRaise cls u category d0 d1 s
  | .unitFault u => Sys2Proof.Machine.execUnitFault u s
  | .recoveryStart => Sys2Proof.Machine.execRecoveryStart s
  | .recoveryResume u => Sys2Proof.Machine.execRecoveryResume u s
  | .returnTestDone pass => Sys2Proof.Machine.execReturnTestDone pass s
  | .c4Timeout => Sys2Proof.Machine.execC4Timeout s
  | .recordRelease path seq => Sys2Proof.Machine.execRecordRelease path seq s
  | .lossRecordRelease path index => Sys2Proof.Machine.execLossRecordRelease path index s
  | .snapshotRelease path viaEr => Sys2Proof.Machine.execSnapshotRelease path viaEr s
  | .bufferUncorrectable word => Sys2Proof.Machine.execBufferUncorrectable word s
  | .mergeApply stack => Sys2Proof.Machine.execMergeApply stack s
  | .rowRepairDone word => Sys2Proof.Machine.execRowRepairDone word s
  | .laneRepair stack channel k => Sys2Proof.Machine.execLaneRepair stack channel k s
  | .winnowLapEnd tenths => Sys2Proof.Machine.execWinnowLapEnd tenths s
  | .winnowLapLate => Sys2Proof.Machine.execWinnowLapLate s
  | .repairBurn path => Sys2Proof.Machine.execRepairBurn path s
  | .logClearAll path => Sys2Proof.Machine.execLogClearAll path s
  | .logClearEntry path entry => Sys2Proof.Machine.execLogClearEntry path entry s
  | .flipArm path => Sys2Proof.Machine.execFlipArm path s
  | .onchipMemoryError group u detail => Sys2Proof.Machine.execOnchipMemoryError group u detail s
  | .refreshStepDown => Sys2Proof.Machine.execRefreshStepDown s
  | .hkRoundEnd codes speeds avs => Sys2Proof.Machine.execHkRoundEnd codes speeds avs s
  | .throttleGraceEnd => Sys2Proof.Machine.execThrottleGraceEnd s
  | .throttleRateWrite path value => Sys2Proof.Machine.execThrottleRateWrite path value s
  | .drainHalt => Sys2Proof.Machine.execDrainHalt s
  | .drainLimitExpire => Sys2Proof.Machine.execDrainLimitExpire s
  | .hardTrip => Sys2Proof.Machine.execHardTrip s
  | .refclkLoss => Sys2Proof.Machine.execRefclkLoss s
  | .discoveryTimeout => Sys2Proof.Machine.execDiscoveryTimeout s
  | .join cp blk => Sys2Proof.Machine.execJoin cp blk s
  | .echo cp reply t => Sys2Proof.Machine.execEcho cp reply t s
  | .memberAdmit m masterCount masterEpoch => Sys2Proof.Machine.execMemberAdmit m masterCount masterEpoch s
  | .cascadeJoin path => Sys2Proof.Machine.execCascadeJoin path s
  | .cascadeLeave path => Sys2Proof.Machine.execCascadeLeave path s
  | .timeSend => Sys2Proof.Machine.execTimeSend s
  | .time h count horizon => Sys2Proof.Machine.execTime h count horizon s
  | .epoch h value => Sys2Proof.Machine.execEpoch h value s
  | .forward h sqe arrivalT arrivalO dqn => Sys2Proof.Machine.execForward h sqe arrivalT arrivalO dqn s
  | .result h cqe => Sys2Proof.Machine.execResult h cqe s
  | .dmaRd h addr len => Sys2Proof.Machine.execDmaRd h addr len s
  | .dmaData h data ok => Sys2Proof.Machine.execDmaData h data ok s
  | .dmaWr h addr data => Sys2Proof.Machine.execDmaWr h addr data s
  | .lendReq h pool => Sys2Proof.Machine.execLendReq h pool s
  | .lendGrant h pool buf => Sys2Proof.Machine.execLendGrant h pool buf s
  | .lendFree h buf => Sys2Proof.Machine.execLendFree h buf s
  | .bufRd h buf off len => Sys2Proof.Machine.execBufRd h buf off len s
  | .bufWr h buf off data => Sys2Proof.Machine.execBufWr h buf off data s
  | .abortDecide h cid dqn => Sys2Proof.Machine.execAbortDecide h cid dqn s
  | .setOp h op => Sys2Proof.Machine.execSetOp h op s
  | .loss h member => Sys2Proof.Machine.execLoss h member s
  | .ack cp seq negative => Sys2Proof.Machine.execAck cp seq negative s
  | .stripe cp stream number symbols => Sys2Proof.Machine.execStripe cp stream number symbols s
  | .stripeLagExpire number => Sys2Proof.Machine.execStripeLagExpire number s
  | .memberLoss m => Sys2Proof.Machine.execMemberLoss m s
  | .settingBurn path => Sys2Proof.Machine.execSettingBurn path s
  | .controlFuseBurn path => Sys2Proof.Machine.execControlFuseBurn path s
  | .fuseBurnDone readBackOk => Sys2Proof.Machine.execFuseBurnDone readBackOk s
  | .tamper source => Sys2Proof.Machine.execTamper source s
  | .debugRequest path level => Sys2Proof.Machine.execDebugRequest path level s
  | .debugVerify path => Sys2Proof.Machine.execDebugVerify path s
  | .debugLevelClear path => Sys2Proof.Machine.execDebugLevelClear path s
  | .patchLoadStart path mem ok => Sys2Proof.Machine.execPatchLoadStart path mem ok s
  | .patchLoadCancel path => Sys2Proof.Machine.execPatchLoadCancel path s
  | .clusterQuiesced cl => Sys2Proof.Machine.execClusterQuiesced cl s
  | .microwordMalformed run => Sys2Proof.Machine.execMicrowordMalformed run s
  | .engineSleep e => Sys2Proof.Machine.execEngineSleep e s
  | .engineWake e => Sys2Proof.Machine.execEngineWake e s
  | .snapIn => Sys2Proof.Machine.execSnapIn s
  | .domainLatchSupply domain => Sys2Proof.Machine.execDomainLatchSupply domain s
  | .snapshotLatched => Sys2Proof.Machine.execSnapshotLatched s
  | .dbgReg data => Sys2Proof.Machine.execDbgReg data s
  | .dbgSnap domain => Sys2Proof.Machine.execDbgSnap domain s
  | .dbgScan => Sys2Proof.Machine.execDbgScan s
  | .dbgPatch data => Sys2Proof.Machine.execDbgPatch data s
  | .pwrResetAssert => Sys2Proof.Machine.execPwrResetAssert s
  | .warmResetAssert => Sys2Proof.Machine.execWarmResetAssert s
  | .pwrResetRelease cascId i2cAddr => Sys2Proof.Machine.execPwrResetRelease cascId i2cAddr s
  | .warmResetRelease => Sys2Proof.Machine.execWarmResetRelease s
  | .fuseLoadDone cells => Sys2Proof.Machine.execFuseLoadDone cells s
  | .initFillDone => Sys2Proof.Machine.execInitFillDone s
  | .bistDone failed units => Sys2Proof.Machine.execBistDone failed units s
  | .bootFlashDone flash => Sys2Proof.Machine.execBootFlashDone flash s
  | .ready => Sys2Proof.Machine.execReady s
  | .latchedLoRead path addr => Sys2Proof.Machine.execLatchedLoRead path addr s
  | .i2cRead offset => Sys2Proof.Machine.execI2cRead offset s
  | .registerWrite path bar addr value => Sys2Proof.Machine.execRegisterWrite path bar addr value s
  | .quadratureEdge takeUp a b => Sys2Proof.Machine.execQuadratureEdge takeUp a b s
  | .pageRangeSegmentArrive c mem ok => Sys2Proof.Machine.execPageRangeSegmentArrive c mem ok s
  | .bufferCorrection word winnow => Sys2Proof.Machine.execBufferCorrection word winnow s
  | .interfaceCalibrationTimeout stack => Sys2Proof.Machine.execInterfaceCalibrationTimeout stack s
  | .hopLoss cp lanesLeft => Sys2Proof.Machine.execHopLoss cp lanesLeft s
  | .jtagInstruction code => Sys2Proof.Machine.execJtagInstruction code s
  | .supplyRamp vioUp coreUp => Sys2Proof.Machine.execSupplyRamp vioUp coreUp s
  | .stampStallEnd u => Sys2Proof.Machine.execStampStallEnd u s

end Sys2Proof.Machine
end

