-- ==== Sys2Proof/Machine/Step.lean ====
section
/-! DEFINITION. One step: the command at the front of the queue runs; on an empty queue the stamp counter counts one tick. -/

namespace Sys2Proof.Machine

/-- A tick with no command waiting: the stamp counter, where it runs, advances by 1 (R81, log entry 1). -/
def idle (s : State) : Host.Outcome State Fault Refusal :=
  if s.dev.clk.running then
    if s.dev.clk.now + 1 < 2 ^ 64 then .next { s with dev := { s.dev with clk := { s.dev.clk with now := s.dev.clk.now + 1 } } }
    else .fault .countExhausted
  else .next s

/-- One step. -/
def step (s : State) : Host.Outcome State Fault Refusal :=
  match s.pending with
  | [] => idle s
  | c :: rest => exec c { s with pending := rest }

/-- The state with the command that a word spells at the front of its queue. -/
def State.withFetchWord (s : State) (nbits w : Nat) : State :=
  match decodeTableWord nbits w with
  | some c => { s with pending := c :: s.pending }
  | none => s

end Sys2Proof.Machine
end

