-- ==== Sys2Proof/Safety.lean ====
section
/-! DEFINITION. The predicates of the statements: what a command answers, where a context stands, and which states the device is safe in. -/

namespace Sys2Proof.Machine

/-- A command answers a next state that keeps the queue of waiting commands and whose device meets `P`. -/
def Does (c : Instr) (s : State) (P : Dev → Prop) : Prop := ∃ d, exec c s = .next ⟨d, s.pending⟩ ∧ P d

/-- The instruction of context `c` comes to its finish (R53) with a status and the value it writes to gd, and the device just before it
finishes meets `P`. -/
def Finishes (i : Instr) (s : State) (c : Nat) (status : W16) (out : Option W64) (P : Dev → Prop) : Prop :=
  Does i s (fun d => ∃ d1 x y cs cat z, d = d1.finish c status out x y cs cat z ∧ P d1)

/-- A command has its completion decided (R95). -/
def Dev.decided (d : Dev) (id : Nat) (k : Completion) : Prop := ∃ m ∈ d.cmds, m.id = id ∧ m.done = some k

/-- A path on which register writes arrive at a device that has started and works. -/
def Dev.writable (d : Dev) (p : Path) : Bool := d.pathOpen p && d.boot.bootDone && d.boot.ready && !d.boot.failed && d.working

/-- What the device leaves at its pins and in its units while PWR_RESET_N is low: drive off and brake on, no command, no count, no key. -/
def Dev.quiet (d : Dev) : Bool :=
  d.boot.pwrLow && !d.tc.driveEn && !d.tc.brakeN && d.cmds.isEmpty && !d.clk.running && d.cx.slots.cells.isEmpty && !d.boot.ready

/-- Commands that act while PWR_RESET_N is low: the resets, the supplies and the JTAG instruction register. -/
def actsInReset : Instr → Bool
  | .pwrResetRelease _ _ => true
  | .warmResetAssert => true
  | .warmResetRelease => true
  | .supplyRamp _ _ => true
  | .jtagInstruction _ => true
  | _ => false

/-- The message of the ring that a command brings: its kind, head and payload (Table 16.2). -/
def carried : Instr → Option (MsgKind × MsgHead × List Byte)
  | .time h n a => some (.time, h, timeBytes n a)
  | .epoch h n => some (.epoch, h, leBytes 6 n)
  | .forward h v t o q => some (.forward, h, leBytes 8 t ++ [o] ++ leBytes 2 q ++ sqeBytes v)
  | .result h v => some (.result, h, leBytes 32 v.toNat)
  | .dmaRd h a n => some (.dmaRd, h, leBytes 8 a ++ leBytes 4 n)
  | .dmaData h bs ok => some (.dmaData, h, leBytes 1 (b2n ok) ++ bs)
  | .dmaWr h a bs => some (.dmaWr, h, leBytes 8 a ++ bs)
  | .lendReq h p => some (.lendReq, h, leBytes 1 p)
  | .lendGrant h p k => some (.lendGrant, h, leBytes 1 p ++ leBytes 4 k)
  | .lendFree h k => some (.lendFree, h, leBytes 4 k)
  | .bufRd h k off n => some (.bufRd, h, leBytes 4 k ++ leBytes 4 off ++ leBytes 4 n)
  | .bufWr h k off bs => some (.bufWr, h, leBytes 4 k ++ leBytes 4 off ++ bs)
  | .abortDecide h cid q => some (.abortDecide, h, leBytes 2 cid.toNat ++ leBytes 2 q)
  | .setOp h op => some (.setOp, h, setOpPayload op)
  | .loss h m => some (.loss, h, leBytes 1 m)
  | _ => none

end Sys2Proof.Machine
end

