-- ==== Sys2Proof/Certificates/Slice0/Obligations.lean ====
section
/-! DEFINITION. The statements for the provers. -/

open Sys2Proof Sys2Proof.Machine

/-- For every command c and state s, a step of s with c at the front of its queue is exec of c on s with the queue's rest. With an empty queue the
step is a tick of the stamp counter: the count advances by 1 where the counter runs, and nothing else changes (the model's choice, log entry 1). -/
def Obligations.StepRunsFrontCommand : Prop :=
  (∀ (c : Instr) (rest : List Instr) (d : Dev), step ⟨d, c :: rest⟩ = exec c ⟨d, rest⟩) ∧
  (∀ d : Dev, d.clk.running = true → d.clk.now + 1 < 2 ^ 64 →
    step ⟨d, []⟩ = .next ⟨{ d with clk := { d.clk with now := d.clk.now + 1 } }, []⟩) ∧
  (∀ d : Dev, d.clk.running = false → step ⟨d, []⟩ = .next ⟨d, []⟩)

/-- For every command and every state, exec answers a next state whose queue is that of the state before: no command faults, none is refused, and none
takes another from the queue. What the device reports, it reports in statuses, records and notices. -/
def Obligations.EveryCommandAnswersNext : Prop :=
  ∀ (c : Instr) (s : State), ∃ d, exec c s = .next ⟨d, s.pending⟩

/-- From every state, the run of as many steps as there are commands waiting ends in a next state with an empty queue, whose device is the result of
the commands one after the other in the order they waited. -/
def Obligations.QueueDrainsInOrder : Prop :=
  ∃ eff : Instr → Dev → Dev,
    (∀ (c : Instr) (d : Dev) (q : List Instr), exec c ⟨d, q⟩ = .next ⟨eff c d, q⟩) ∧
    (∀ s : State, Sys2Proof.core.run s.pending.length s = .next ⟨s.pending.foldl (fun d c => eff c d) s.dev, []⟩)

/-- In every state with PWR_RESET_N low, every command other than PWR_RESET_RELEASE, WARM_RESET_ASSERT, WARM_RESET_RELEASE, SUPPLY_RAMP and
JTAG_INSTRUCTION answers the state unchanged. -/
def Obligations.PowerResetHoldsDevice : Prop :=
  ∀ (c : Instr) (s : State), s.dev.boot.pwrLow = true → actsInReset c = false → exec c s = .next s

/-- For every state whose device is quiet (PWR_RESET_N low, TX_DRIVE_EN and TX_BRAKE_N low, no command, no count running, every key slot empty, not
READY), every step whose front command is neither PWR_RESET_RELEASE nor a JTAG instruction (whose boundary scan drives pins) answers a next state that
is quiet again. -/
def Obligations.QuietUntilReleased : Prop :=
  ∀ (s t : State), s.dev.quiet = true →
    (∀ c rest, s.pending = c :: rest → (∀ a b, c ≠ .pwrResetRelease a b) ∧ (∀ j, c ≠ .jtagInstruction j)) →
    step s = .next t → t.dev.quiet = true

/-- The reset state is quiet: the count is 0, the default carve and reserves of Table 5.1 hold, the transport engine is SAFE, VCORE is 0.75 V, the
order epoch is 0, stage is 1, no pair is active, every key slot is empty, and BP_QLIMIT reads 0x400_0000, QM_ARB 0x0704_0810 and CS_CFG 0x0064_0A00.
From every state in which PWR_RESET_N is not low, PWR_RESET_ASSERT answers a quiet device with no snapshot held, no burn in progress and the cartridge
as it was. -/
def Obligations.ResetIsQuiet : Prop :=
  (let d := State.reset.dev
   d.quiet = true ∧ d.clk.now = 0 ∧ (List.range 6).map d.pools.carve.get = [4194304, 1048576, 131072, 32768, 8192, 6912] ∧
   (List.range 6).map d.pools.reserve.get = [4096, 512, 1024, 512, 256, 256] ∧ d.tc.st = .safe ∧ d.hk.v = 750 ∧ d.er.epoch = 0 ∧
   d.boot.stage = 1 ∧ (∀ q, (d.pairs.get q).st = .disabled) ∧ (∀ k, (d.cx.slots.get k).st = .empty) ∧
   d.regB Reg.BP_QLIMIT 0 = 0x04000000 ∧ d.reg Reg.QM_ARB = 0x07040810 ∧ d.reg Reg.CS_CFG = 0x00640A00) ∧
  ∀ s : State, s.dev.boot.pwrLow = false →
    Does .pwrResetAssert s (fun d => d.quiet = true ∧ d.fu.burn = none ∧ d.sn.held = false ∧ d.vol.cart = s.dev.vol.cart)

/-- Each command named, in every state, leaves the host memory behind both ports and the other members, every queue pair, outstanding command and
context, the version index, compression, cipher, formes, scheduler and volume unchanged: encoder edges, E-stop gate, brake and drive steps,
corrections, row and lane repairs, winnow laps, refresh, throttle grace, engine sleep and wake, link training steps and PES, ECHO, ACK and TIME_SEND,
snapshot and debug reads, the ends of fills, burns and stalls, and the register writes that release records, clear logs and faults, arm a flip mask,
commit a slot, set the sample period or ask for a burn or a debug level. -/
def Obligations.UnitCommandsKeepWork : Prop :=
  ∀ (s : State) (p : Path) (v : W32) (x y : Bool) (n m k : Nat) (cp : CasPort) (t : W64) (b : BitVec 256) (e : BitVec 5) (dom : BitVec 7) (w : BitVec 185),
    ∀ i ∈ [Instr.quadratureEdge x x y, .estopGate, .brakeRelease, .stopHoldExpire, .bufferCorrection n x, .rowRepairDone n, .laneRepair n m k,
      .winnowLapEnd n, .winnowLapLate, .refreshStepDown, .throttleGraceEnd, .engineSleep n, .engineWake n, .linkSignalDetect n, .linkAdaptDone n,
      .linkAlignLock n, .pes n b, .echo cp x t, .ack cp n x, .timeSend, .snapIn, .domainLatchSupply n, .snapshotLatched, .dbgSnap dom, .dbgPatch w,
      .latchedLoRead p v, .i2cRead v, .stampStallEnd n, .initFillDone, .fuseBurnDone x, .recordRelease p v, .lossRecordRelease p v, .snapshotRelease p x,
      .logClearAll p, .logClearEntry p e, .flipArm p, .repairBurn p, .faultClear p v, .slotCommit p n, .tcTimerWrite p v, .throttleRateWrite p v,
      .settingBurn p, .controlFuseBurn p, .debugRequest p n, .debugLevelClear p],
    Does i s (fun d => d.hostA = s.dev.hostA ∧ d.hostB = s.dev.hostB ∧ d.hostR = s.dev.hostR ∧ d.pairs = s.dev.pairs ∧ d.cmds = s.dev.cmds ∧
      d.ctxs = s.dev.ctxs ∧ d.idx = s.dev.idx ∧ d.cm = s.dev.cm ∧ d.cx = s.dev.cx ∧ d.fm = s.dev.fm ∧ d.sh = s.dev.sh ∧ d.vol = s.dev.vol)

/-- On a working device, a write of an SQ tail doorbell of an active pair, reserved bits zero, index below the depth, and no further on from the old
tail than the free slots, answers a state in which the pair's SQ tail is the index; every other part of that pair, every other pair and the rest of
the device are unchanged. The same for a CQ head no further on than the entries the CQ holds, where for pair 0 held notices may be posted too (then
only its CQ tail and phase, the port and host memory may change besides). A write to a deleting pair changes nothing. -/
def Obligations.DoorbellMovesTheIndex : Prop :=
  ∀ (p : PortId) (qid : BitVec 9) (v : W32) (s : State), s.dev.working = true →
    let q := dqn p qid.toNat
    let x := s.dev.pairs.get q
    let n := s.dev.depth q
    let idx := fieldOf v 13 0
    (x.st = .active → fieldOf v 31 14 = 0 → idx < n → (idx + n - x.sqTail) % n ≤ n - 1 - s.dev.sqEntries q →
      exec (.sqTailDoorbell p qid v) s = .next ⟨{ s.dev with pairs := s.dev.pairs.set q { x with sqTail := idx } }, s.pending⟩) ∧
    (x.st = .active → fieldOf v 31 14 = 0 → idx < n → (idx + n - x.cqHead) % n ≤ s.dev.cqEntries q → qid ≠ 0 →
      exec (.cqHeadDoorbell p qid v) s = .next ⟨{ s.dev with pairs := s.dev.pairs.set q { x with cqHead := idx } }, s.pending⟩) ∧
    (x.st = .active → fieldOf v 31 14 = 0 → idx < n → (idx + n - x.cqHead) % n ≤ s.dev.cqEntries q → qid = 0 →
      Does (.cqHeadDoorbell p qid v) s (fun d => (d.pairs.get q).cqHead = idx ∧ (d.pairs.get q).st = .active
        ∧ (d.pairs.get q).sqTail = x.sqTail ∧ (d.pairs.get q).sqHead = x.sqHead ∧ (∀ j, j ≠ q → d.pairs.get j = s.dev.pairs.get j)
        ∧ d = { s.dev with pairs := d.pairs, pa := d.pa, pb := d.pb, hostA := d.hostA, hostB := d.hostB })) ∧
    (x.st = .deleting → exec (.sqTailDoorbell p qid v) s = .next s ∧ exec (.cqHeadDoorbell p qid v) s = .next s)

/-- On a working device, an SQ tail doorbell write that R39 does not accept (the pair disabled or in error, a reserved bit set, the index not below
the depth, or the tail past the head) leaves every pair as it was and adds one C0 record to the log; QM_DBERR of the port, where it held nothing, is
valid with the pair, the index and cq = 0. -/
def Obligations.RefusedDoorbellIsCaptured : Prop :=
  ∀ (p : PortId) (qid : BitVec 9) (v : W32) (s : State), s.dev.working = true →
    let q := dqn p qid.toNat
    let x := s.dev.pairs.get q
    let n := s.dev.depth q
    let idx := fieldOf v 13 0
    (x.st = .disabled ∨ x.st = .error ∨ (x.st = .active ∧ (fieldOf v 31 14 ≠ 0 ∨ n ≤ idx ∨ n - 1 - s.dev.sqEntries q < (idx + n - x.sqTail) % n))) →
    Does (.sqTailDoorbell p qid v) s (fun d =>
      d.pairs = s.dev.pairs ∧ (∃ r, d.er.log.getLast? = some r ∧ r.cls = .c0 ∧ r.origin = qmUnit p)
      ∧ (s.dev.w1f Reg.QM_DBERR (portNo p) 31 31 = 0 → d.w1f Reg.QM_DBERR (portNo p) 31 31 = 1 ∧ d.w1f Reg.QM_DBERR (portNo p) 30 30 = 0
          ∧ d.w1f Reg.QM_DBERR (portNo p) 24 16 = qid.toNat ∧ d.w1f Reg.QM_DBERR (portNo p) 13 0 = idx)
      ∧ d = { s.dev with clk := d.clk, draws := d.draws, w1c := d.w1c, er := d.er })

/-- Through a path that reaches a started device, QUEUE_CREATE on a disabled pair with depth_log2 4 to 14 and both bases 4 KiB aligned makes the
selected pair active with heads and tails 0 and phase 1; where a check fails the pair keeps its state and create_result names the first failing check
(1 not disabled, 2 depth, 3 SQ base, 4 CQ base). QUEUE_DELETE on an active pair or one in error makes it deleting while a fetched command of it is not
posted, else disabled; on a disabled or deleting pair it changes no pair. -/
def Obligations.QueueCreateAndDelete : Prop :=
  ∀ (path : Path) (s : State), s.dev.writable path = true →
    let q := s.dev.bankOf (pathPort path) Reg.QM_QCTL
    let x := s.dev.pairs.get q
    let dl := s.dev.rfB Reg.QM_QCFG q 3 0
    let sqOff := s.dev.rfB Reg.QM_SQBASE_LO q 11 0
    let cqOff := s.dev.rfB Reg.QM_CQBASE_LO q 11 0
    (x.st = .disabled → 4 ≤ dl → dl ≤ 14 → sqOff = 0 → cqOff = 0 →
      Does (.queueCreate path) s (fun d => (d.pairs.get q).st = .active ∧ (d.pairs.get q).sqHead = 0 ∧ (d.pairs.get q).sqTail = 0
        ∧ (q % 512 ≠ 0 → (d.pairs.get q).cqTail = 0 ∧ (d.pairs.get q).phase = true ∧ d.pairs = s.dev.pairs.set q { Pair.reset with st := .active, phase := true }))) ∧
    (∀ r, r = (if x.st ≠ .disabled then 1 else if dl < 4 ∨ 14 < dl then 2 else if sqOff ≠ 0 then 3 else if cqOff ≠ 0 then 4 else 0) → r ≠ 0 →
      Does (.queueCreate path) s (fun d => d.pairs = s.dev.pairs.set q { x with createResult := r })) ∧
    (x.st = .active ∨ x.st = .error → (s.dev.unposted q).isEmpty = false →
      Does (.queueDelete path) s (fun d => d.pairs = s.dev.pairs.set q { x with st := .deleting })) ∧
    (x.st = .active ∨ x.st = .error → (s.dev.unposted q).isEmpty = true →
      Does (.queueDelete path) s (fun d => (d.pairs.get q).st = .disabled ∧ ∀ j, j ≠ q → d.pairs.get j = s.dev.pairs.get j)) ∧
    (x.st = .disabled ∨ x.st = .deleting → Does (.queueDelete path) s (fun d => d.pairs = s.dev.pairs))

/-- On a working device, where the arbiter (after reloading the credits if no class has both credit and an eligible queue) picks class c and queue q,
SQE_FETCH takes k entries of q with 1 ≤ k ≤ burst: the SQ head of q moves on by k modulo the depth, k command numbers are given out, q is the queue
last served of its class, a class other than URGENT has k less credit, and no other pair changes. -/
def Obligations.FetchTakesABurst : Prop :=
  ∀ (mem : HostWrites) (s : State) (c q : Nat), s.dev.working = true →
    let d1 := if s.dev.refill.pickClass.isNone then s.dev.refill.reload else s.dev.refill
    d1.pickClass = some c → d1.nextOf c = some q →
    Does (.sqeFetch mem) s (fun d => ∃ k, 1 ≤ k ∧ k ≤ s.dev.rf Reg.QM_ARB 26 24 + 1 ∧
      (d.pairs.get q).sqHead = ((s.dev.pairs.get q).sqHead + k) % s.dev.depth q ∧
      (d.pairs.get q).sqTail = (s.dev.pairs.get q).sqTail ∧ (∀ j, j ≠ q → d.pairs.get j = s.dev.pairs.get j) ∧
      d.arb.nextCmd = s.dev.arb.nextCmd + k ∧ d.arb.lastServed.get c = q ∧ (c = 1 ∨ c = 2 ∨ c = 3 → d.arb.credit c = d1.arb.credit c - k))

/-- Where context c takes command m (the earliest it may take, its engine the one R63 chooses and awake), its registers are g0 to g3 of the entry, g15
all ones and the others 0, flags 0, handles empty, pc and dc 0, vh that of the entry. An inline command that is legal has its word as present
instruction, its microthread at the entry of the opcode (a free value, log entry 141), and nothing else changes, except that a PUT enters its intent;
a program call goes on to fetch its first word; an illegal inline word ends the command with S_ILLEGAL_INSTRUCTION and result 0. -/
def Obligations.DispatchSetsUpTheContext : Prop :=
  ∀ (c : Nat) (s : State) (m : Cmd), s.dev.working = true → s.dev.nextFor c = some m → s.dev.chooseEngine m = some (engOf c) →
    (s.dev.engines.get (engOf c)).asleep = none → s.dev.releaseRoom m = true →
    let x : Ctx := { Ctx.reset with cmd := some m.id, vh := m.sqe.vh
                                    g := ((((Table.empty.set 0 m.sqe.g0).set 1 m.sqe.g1).set 2 m.sqe.g2).set 3 m.sqe.g3).set 15 0xFFFFFFFFFFFFFFFF }
    let y : Ctx := { x with ir := m.sqe.word, run := .ready, micro := ⟨Config.microEntry (wOp m.sqe.word), []⟩ }
    let taken := s.dev.cmds.map (fun (y : Cmd) => if y.id = m.id then { y with ctx := some c } else y)
    (m.sqe.kind ≠ 2 → legalInline m.sqe.word = true → wOp m.sqe.word ≠ 0x40 →
      exec (.contextDispatch c) s = .next ⟨{ s.dev with cmds := taken, ctxs := (s.dev.ctxs.set c x).set c y }, s.pending⟩) ∧
    (m.sqe.kind ≠ 2 → legalInline m.sqe.word = true → wOp m.sqe.word = 0x40 →
      Does (.contextDispatch c) s (fun d => d.cmds = taken ∧ d.ctxs.get c = y ∧
        ∃ w, d.idx.writes = s.dev.idx.writes ++ [w] ∧ w.ctx = some c ∧ w.obj = m.sqe.initReg (wA m.sqe.word) ∧ w.kind = .put ∧ w.commit = none)) ∧
    (m.sqe.kind = 2 → Does (.contextDispatch c) s (fun d => ∃ d1 : Dev, d = d1.fetch c ∧ d1.ctxs.get c = x ∧ d1.cmds = taken)) ∧
    (m.sqe.kind ≠ 2 → legalInline m.sqe.word = false →
      Does (.contextDispatch c) s (fun d => (∃ k, d.decided m.id k ∧ k.status = St.illegalInstruction ∧ k.result = 0) ∧ d.ctxs.get c = Ctx.reset))

/-- On a working device, where engine e reads a line of a reachable host memory first, its arrival takes the read off the list and enters the 128
bytes into the cache, and each context waiting for that line fetches its word; where the host completes the read with an error, the cache is left
alone and each such context ends with S_PROGRAM_FAULT and its pc. -/
def Obligations.LineArrivesInTheCache : Prop :=
  ∀ (e p l : Nat) (pf : Bool) (rest : List (Nat × Nat × Bool)) (mem : HostWrites) (s : State), s.dev.working = true → e < 32 →
    (s.dev.engines.get e).reading = (p, l, pf) :: rest → s.dev.memReachable p = true →
    let d1 := s.dev.onMemAt p (fun m => placeCells m mem)
    let d2 := { d1 with engines := d1.engines.modify e (fun x => { x with reading := rest }) }
    Does (.programLineArrive e mem true) s (fun d =>
      d = ({ d2 with engines := d2.engines.modify e (fun x => x.insert ⟨p, l, readBytes (d2.memAt p) l 128⟩) }).each (d2.waitersOn e p l) (fun y c => y.fetch c)) ∧
    Does (.programLineArrive e mem false) s (fun d =>
      d = d2.each (d2.waitersOn e p l) (fun y c => y.fault c St.programFault (toW64 (y.ctxs.get c).pc)))

/-- Where the committed command of a queue with the earliest stamp is m, no entry with an earlier stamp can come any more and its pair and port can
take it, COMPLETION_POST writes the bytes of Table 2.5 at the CQ tail with the CQ's phase, takes the command off the device, and moves the tail on, to
0 with the phase inverted at the end. A command whose port was lost is counted in QM_PORT.dropped (saturating at 0xFFFF) and leaves without any write.
-/
def Obligations.CompletionIsWritten : Prop :=
  ∀ (p : PortId) (qid : Nat) (s : State) (m : Cmd) (k : Completion), s.dev.alive = true → s.dev.er.mute = false →
    s.dev.nextDone p qid false = some m → m.done = some k → m.port = p → m.qid = qid →
    let q := dqn p qid
    let x := s.dev.pairs.get q
    (m.orphan = false → x.st ≠ .disabled → x.errorCause < 2 → s.dev.portOpen p = true → s.dev.postable qid k.stamp = true →
      (qid = 0 → s.dev.behindNotice k.stamp = false) →
      Does (.completionPost p qid) s (fun d => d.cmds = s.dev.cmds.filter (fun y => decide (y.id ≠ m.id)) ∧
        d.host p = writeBytes (s.dev.host p) ((s.dev.addrB Reg.QM_CQBASE_LO q + 32 * x.cqTail) % 2 ^ 64)
          (leBytes 2 m.sqe.cid.toNat ++ leBytes 2 qid ++ leBytes 2 k.status.toNat ++ [BitVec.ofNat 8 (b2n x.phase), k.info] ++ leBytes 8 k.result.toNat
            ++ leBytes 8 k.stamp.t ++ [k.stamp.o] ++ zeros 3 ++ leBytes 2 x.sqHead ++ zeros 2) ∧
        (d.pairs.get q).cqTail = (if x.cqTail + 1 = s.dev.depth q then 0 else x.cqTail + 1) ∧
        (d.pairs.get q).phase = (if x.cqTail + 1 = s.dev.depth q then !x.phase else x.phase))) ∧
    (m.orphan = true →
      Does (.completionPost p qid) s (fun d => d.cmds = s.dev.cmds.filter (fun y => decide (y.id ≠ m.id)) ∧ d.hostA = s.dev.hostA ∧ d.hostB = s.dev.hostB ∧
        d.w1f Reg.QM_PORT (portNo p) 15 0 = min (s.dev.w1f Reg.QM_PORT (portNo p) 15 0 + 1) 0xFFFF))

/-- On a device out of reset, COALESCE_TIMEOUT of a vector with unsignalled entries on a port that may make requests sends its message, or leaves it
pending while the vector is masked, and clears the coalescing state. VECTOR_UNMASK of a port in L0 clears the mask and sends a pending message where
the port may make requests; where it may not, the message stays pending. The port's other vectors are unchanged. -/
def Obligations.VectorsFire : Prop :=
  ∀ (p : PortId) (v : Nat) (s : State), s.dev.alive = true → v < 1024 →
    let x := (s.dev.port p).vecs.get v
    (0 < x.unsignalled → (s.dev.port p).busMaster = true →
      Does (.coalesceTimeout p v) s (fun d =>
        (d.port p).vecs.get v = (if x.masked then { x with pending := true, unsignalled := 0, firstAt := 0 }
          else { x with sent := x.sent + 1, unsignalled := 0, firstAt := 0 }) ∧ (∀ j, j ≠ v → (d.port p).vecs.get j = (s.dev.port p).vecs.get j) ∧
        d = { s.dev with clk := d.clk, pa := d.pa, pb := d.pb })) ∧
    ((s.dev.port p).linkUp = true →
      Does (.vectorUnmask p v) s (fun d =>
        (d.port p).vecs.get v = (if x.pending && (s.dev.port p).busMaster then { x with masked := false, pending := false, sent := x.sent + 1 }
          else { x with masked := false }) ∧ (∀ j, j ≠ v → (d.port p).vecs.get j = (s.dev.port p).vecs.get j) ∧ d = { s.dev with pa := d.pa, pb := d.pb }))

/-- Where a notice that is no EPOCH_CHANGE waits first, no entry with an earlier stamp can come any more and no admin completion must go before it,
NOTICE_POST takes it off the list and, for each port: where pair 0 is active with room on a port that may make requests and no notice is held, the
entry with sqid 0xFFFF and status S_OK is written at its CQ tail; elsewhere it is held last, up to 64, and beyond that QM_NOTICE.overflow is set. -/
def Obligations.NoticeReachesBothPorts : Prop :=
  ∀ (s : State) (n : Notice) (t : List Notice), s.dev.alive = true → s.dev.notices = n :: t → n.kind ≠ .epochChange → s.dev.er.mute = false → s.dev.postable 0 n.stamp = true →
    s.dev.behindCompletion .a n.stamp = false → s.dev.behindCompletion .b n.stamp = false →
    Does .noticePost s (fun d => d.notices = t ∧ ∀ p : PortId,
      let q := dqn p 0
      let x := s.dev.pairs.get q
      (s.dev.noticeRoom p = true → (s.dev.port p).held = [] →
        d.host p = writeBytes (s.dev.host p) ((s.dev.addrB Reg.QM_CQBASE_LO q + 32 * x.cqTail) % 2 ^ 64)
          (leBytes 2 n.kind.code ++ leBytes 2 0xFFFF ++ leBytes 2 0 ++ [BitVec.ofNat 8 (b2n x.phase), 0] ++ leBytes 8 n.result.toNat
            ++ leBytes 8 n.stamp.t ++ [n.stamp.o] ++ zeros 3 ++ leBytes 2 x.sqHead ++ zeros 2) ∧ (d.port p).held = []) ∧
      ((s.dev.noticeRoom p = false ∨ (s.dev.port p).held ≠ []) → (s.dev.port p).held.length < 64 →
        (d.port p).held = (s.dev.port p).held ++ [n] ∧ d.host p = s.dev.host p) ∧
      ((s.dev.noticeRoom p = false ∨ (s.dev.port p).held ≠ []) → 64 ≤ (s.dev.port p).held.length →
        (d.port p).held = (s.dev.port p).held ∧ d.w1f Reg.QM_NOTICE (portNo p) 31 31 = 1))

/-- PORT_LINK_UP after the fuse load sets the link fields of the port, takes its function out of D3hot, and does nothing else. BUS_MASTER_ENABLE of a
port in L0 for which no notice, zero fill or IV log entry is held sets the bit and, when set, sends the messages held back. PORT_LOSS of a port in L0
leaves every pair of that port disabled, its MSI-X table empty and Bus Master Enable clear, and a C0 record of category 0x10 last in the log; where
the port's one command waits in the pending store, it has ended with S_ABORTED and is an orphan. QUEUE_MEMORY_ERROR on an SQ read of an active pair
with entries puts the pair in error with cause 1; on the CQ write of a completion, with cause 2 (an earlier cause 1 stays what software reads), and
that completion is dropped; on the CQ write of a notice, with cause 2 too, and no command is dropped; each is a C2 record naming the device queue
number. -/
def Obligations.PortsComeAndGo : Prop :=
  ∀ (p : PortId) (s : State), s.dev.alive = true →
    (∀ fl sp w, s.dev.fu.loadDone = true →
      exec (.portLinkUp p fl sp w) s = .next (s.onDev (fun d => d.onPort p (fun x => { x with linkUp := true, flit := fl, speed := sp % 16, width := w % 32, cfg := { x.cfg with d3hot := false } })))) ∧
    (∀ on, (s.dev.port p).linkUp = true → (s.dev.port p).held = [] → s.dev.heldZeros = [] → s.dev.cx.toLog = [] →
      Does (.busMasterEnable p on) s (fun d => (d.port p).busMaster = on ∧ (on = false → (d.port p).vecs = (s.dev.port p).vecs) ∧
        (on = true → ∀ v ∈ (d.port p).vecs.cells, v.2.pending = true → v.2.masked = true) ∧ d = { s.dev with pa := d.pa, pb := d.pb })) ∧
    (∀ cause, (s.dev.port p).linkUp = true →
      Does (.portLoss p cause) s (fun d => (∀ q, q / 512 = portNo p → d.pairs.get q = Pair.reset) ∧ (d.port p).vecs = Table.empty ∧
        (d.port p).busMaster = false ∧ (∃ r, d.er.log.getLast? = some r ∧ r.cls = .c0 ∧ r.category = 0x10) ∧
        (∀ m : Cmd, s.dev.cmds = [m] → m.port = p → m.stored = true → m.fwdFrom = none →
          (∃ k, d.decided m.id k ∧ k.status = St.aborted) ∧ ∀ y ∈ d.cmds, y.orphan = true))) ∧
    (∀ qid : Nat, qid < 512 → (s.dev.pairs.get (dqn p qid)).st = .active → (s.dev.pairs.get (dqn p qid)).errorCause = 0 → 0 < s.dev.sqEntries (dqn p qid) →
      Does (.queueMemoryError p qid false) s (fun d => d.pairs = s.dev.pairs.set (dqn p qid) { s.dev.pairs.get (dqn p qid) with st := .error, errorCause := 1 } ∧
        ∃ r, d.er.log.getLast? = some r ∧ r.cls = .c2 ∧ r.dqn = dqn p qid)) ∧
    (∀ (qid : Nat) (m : Cmd), qid < 512 → (s.dev.pairs.get (dqn p qid)).st ≠ .disabled → (s.dev.pairs.get (dqn p qid)).errorCause < 2 →
      s.dev.nextDone p qid false = some m → m.orphan = false → m.port = p → m.qid = qid → (qid = 0 → s.dev.noticeNext p = false) →
      Does (.queueMemoryError p qid true) s (fun d => (d.pairs.get (dqn p qid)).st = .error ∧
        (d.pairs.get (dqn p qid)).errorCause = (if (s.dev.pairs.get (dqn p qid)).errorCause = 1 then 3 else 2) ∧
        d.cmds = s.dev.cmds.filter (fun y => decide (y.id ≠ m.id)) ∧ ∃ r, d.er.log.getLast? = some r ∧ r.cls = .c2 ∧ r.dqn = dqn p qid)) ∧
    ((s.dev.pairs.get (dqn p 0)).st ≠ .disabled → (s.dev.pairs.get (dqn p 0)).errorCause < 2 → s.dev.noticeNext p = true →
      Does (.queueMemoryError p 0 true) s (fun d => (d.pairs.get (dqn p 0)).st = .error ∧
        (d.pairs.get (dqn p 0)).errorCause = (if (s.dev.pairs.get (dqn p 0)).errorCause = 1 then 3 else 2) ∧ d.cmds = s.dev.cmds ∧
        ∃ r, d.er.log.getLast? = some r ∧ r.cls = .c2 ∧ r.dqn = dqn p 0))

/-- In a context that may issue it, before it steps on: ADD, SUB, ADDI, CMP or CMPI has the 64-bit sum or difference in gd (compares write no
register), Z and N of that result, C the carry out of the unsigned sum, or no borrow, and V exactly where the signed sum or difference leaves the
range of 64 bits; AND, OR, XOR, ANDI (with the immediate zero-extended) or MUL (the low 64 bits of the product) its result, Z and N of it and C and V
clear; SHL, SHR or SAR by n = gb[5:0] ga × 2^n modulo 2^64, ga ÷ 2^n rounded down, or the signed ga ÷ 2^n rounded down, Z and N of it, V clear, and C
the bit of ga at 64 − n (SHL) or n − 1 (SHR, SAR), 0 where n is 0; MOVI the sign-extended immediate (mod 0), or the top 24 bits replaced by
imm40[23:0] and the low 40 kept (mod 1), and no flag changed. The engine's round robin stands at the context (R64); every other register, handle, pc,
dc and vh of the context, every other context and the rest of the device are as before. -/
def Obligations.RegisterInstructions : Prop :=
  ∀ (c : Nat) (s : State), s.dev.working = true →
    let x := s.dev.ctxs.get c
    let b := (x.ir.extractLsb' 0 40).signExtend 64
    let n := x.gb.toNat % 64
    let turn (d : Dev) : Dev := { d with engines := d.engines.modify (c / 8) (fun e => { e with turn := c % 8 }) }
    let steps (i : Instr) (y : Ctx) (v : W64) : Prop := exec i s = .next (s.onDev (fun d => { turn d with ctxs := d.ctxs.set c y }.stepOn c v))
    let arith (g : Table W64 0) (r : W64) (cy : Prop) (exact : Int) [Decidable cy] : Ctx :=
      { x with g := g, z := decide (r.toNat = 0), n := decide (r.toInt < 0), c := decide cy, v := decide (exact < -(2 ^ 63) ∨ 2 ^ 63 ≤ exact) }
    let logic (r : W64) (out : Bool) : Ctx := { x with g := x.g.set (wD x.ir) r, z := decide (r.toNat = 0), n := decide (r.toInt < 0), c := out, v := false }
    let puts (i : Instr) (r : W64) (out : Bool) : Prop := steps i (logic r out) r
    (s.dev.mayIssue c 0x01 = true →
      steps (.add c) (arith (x.g.set (wD x.ir) (x.ga + x.gb)) (x.ga + x.gb) (2 ^ 64 ≤ x.ga.toNat + x.gb.toNat) (x.ga.toInt + x.gb.toInt)) (x.ga + x.gb)) ∧
    (s.dev.mayIssue c 0x02 = true →
      steps (.sub c) (arith (x.g.set (wD x.ir) (x.ga - x.gb)) (x.ga - x.gb) (x.gb.toNat ≤ x.ga.toNat) (x.ga.toInt - x.gb.toInt)) (x.ga - x.gb)) ∧
    (s.dev.mayIssue c 0x0A = true →
      steps (.addi c) (arith (x.g.set (wD x.ir) (x.ga + b)) (x.ga + b) (2 ^ 64 ≤ x.ga.toNat + b.toNat) (x.ga.toInt + b.toInt)) (x.ga + b)) ∧
    (s.dev.mayIssue c 0x0C = true → steps (.cmp c) (arith x.g (x.ga - x.gb) (x.gb.toNat ≤ x.ga.toNat) (x.ga.toInt - x.gb.toInt)) 0) ∧
    (s.dev.mayIssue c 0x0D = true → steps (.cmpi c) (arith x.g (x.ga - b) (b.toNat ≤ x.ga.toNat) (x.ga.toInt - b.toInt)) 0) ∧
    (s.dev.mayIssue c 0x03 = true → puts (.and c) (x.ga &&& x.gb) false) ∧
    (s.dev.mayIssue c 0x04 = true → puts (.or c) (x.ga ||| x.gb) false) ∧
    (s.dev.mayIssue c 0x05 = true → puts (.xor c) (x.ga ^^^ x.gb) false) ∧
    (s.dev.mayIssue c 0x0E = true → puts (.andi c) (x.ga &&& (x.ir.extractLsb' 0 40).zeroExtend 64) false) ∧
    (s.dev.mayIssue c 0x09 = true → puts (.mul c) (BitVec.ofNat 64 (x.ga.toNat * x.gb.toNat % 2 ^ 64)) false) ∧
    (s.dev.mayIssue c 0x06 = true → puts (.shl c) (BitVec.ofNat 64 (x.ga.toNat * 2 ^ n)) (decide (0 < n ∧ x.ga.toNat / 2 ^ (64 - n) % 2 = 1))) ∧
    (s.dev.mayIssue c 0x07 = true → puts (.shr c) (BitVec.ofNat 64 (x.ga.toNat / 2 ^ n)) (decide (0 < n ∧ x.ga.toNat / 2 ^ (n - 1) % 2 = 1))) ∧
    (s.dev.mayIssue c 0x08 = true → puts (.sar c) (BitVec.ofInt 64 (x.ga.toInt / 2 ^ n)) (decide (0 < n ∧ x.ga.toNat / 2 ^ (n - 1) % 2 = 1))) ∧
    (s.dev.mayIssue c 0x0B = true →
      let v := if wMod x.ir = 0 then (x.ir.extractLsb' 0 40).signExtend 64
        else (x.ir.extractLsb' 0 24 : BitVec 24) ++ (x.gd.extractLsb' 0 40 : BitVec 40)
      steps (.movi c) { x with g := x.g.set (wD x.ir) v } v)

/-- Where context c runs an inline command that is not decided, stepping on decides it with S_OK and the value, and leaves the context free. Where it
runs a program, it goes on at pc + 8; past 0xFFF8 the command ends with S_PROGRAM_FAULT and the result 0x1_0000, and leaves the context free. -/
def Obligations.SteppingOn : Prop :=
  ∀ (d : Dev) (c : Nat) (v : W64) (m : Cmd), (d.ctxs.get c).cmd = some m.id → d.cmd m.id = some m → m.done = none →
    (m.sqe.kind ≠ 2 → (∃ k, (d.stepOn c v).decided m.id k ∧ k.status = St.ok ∧ k.result = v) ∧ (d.stepOn c v).ctxs.get c = Ctx.reset) ∧
    (m.sqe.kind = 2 → (d.ctxs.get c).pc < 0xFFF8 → (d.ctxs.get c).pc % 8 = 0 →
      d.stepOn c v = (d.onCtx c (fun x => { x with pc := x.pc + 8 })).fetch c) ∧
    (m.sqe.kind = 2 → (d.ctxs.get c).pc = 0xFFF8 →
      (∃ k, (d.stepOn c v).decided m.id k ∧ k.status = St.programFault ∧ k.result = 0x10000) ∧ (d.stepOn c v).ctxs.get c = Ctx.reset)

/-- In a context that may issue it, B whose condition of the table holds, CALL, RET and BR take the program to the target (pc + 8 × sext(imm40), g15,
or ga): where the target is a multiple of 8 from 0 to 0xFFF8, pc is the target and its word is fetched, CALL with g15 = pc + 8 before; elsewhere the
command ends with S_PROGRAM_FAULT and the target as result. B whose condition does not hold goes on at pc + 8. Nothing else of the device changes
before the fetch but the engine's round robin, which stands at this context. -/
def Obligations.BranchInstructions : Prop :=
  ∀ (c : Nat) (s : State), s.dev.working = true →
    let x := s.dev.ctxs.get c
    let rel : Int := (x.pc : Int) + 8 * (x.ir.extractLsb' 0 40).toInt
    let turn (d : Dev) : Dev := { d with engines := d.engines.modify (c / 8) (fun e => { e with turn := c % 8 }) }
    let inside (t : Int) : Prop := 0 ≤ t ∧ t ≤ 0xFFF8 ∧ t % 8 = 0
    let lands (i : Instr) (f : Dev → Dev) (y : Ctx) (t : Int) : Prop :=
      (inside t → exec i s = .next (s.onDev (fun d => { f (turn d) with ctxs := (f d).ctxs.set c { y with pc := t.toNat } }.fetch c))) ∧
      (¬ inside t → exec i s = .next (s.onDev (fun d => (f (turn d)).fault c St.programFault (BitVec.ofInt 64 t))))
    let linked : Ctx := { x with g := x.g.set 15 (toW64 (x.pc + 8)) }
    let holds : Prop := wMod x.ir = 0 ∨ (wMod x.ir = 1 ∧ x.z = true) ∨ (wMod x.ir = 2 ∧ x.z = false) ∨ (wMod x.ir = 3 ∧ x.n ≠ x.v) ∨ (wMod x.ir = 4 ∧ x.n = x.v) ∨
      (wMod x.ir = 5 ∧ x.c = false) ∨ (wMod x.ir = 6 ∧ x.c = true) ∨ (wMod x.ir = 7 ∧ x.z = false ∧ x.n = x.v) ∨ (wMod x.ir = 8 ∧ (x.z = true ∨ x.n ≠ x.v))
    (s.dev.mayIssue c 0x20 = true → x.pc ≤ 0xFFF8 → holds → lands (.b c) id x rel) ∧
    (s.dev.mayIssue c 0x20 = true → x.pc ≤ 0xFFF8 → ¬ holds → lands (.b c) id x (x.pc + 8)) ∧
    (s.dev.mayIssue c 0x21 = true → x.pc ≤ 0xFFF8 → lands (.call c) (fun d => { d with ctxs := d.ctxs.set c linked }) linked rel) ∧
    (s.dev.mayIssue c 0x22 = true → lands (.ret c) id x (x.r 15).toNat) ∧
    (s.dev.mayIssue c 0x23 = true → lands (.br c) id x x.ga.toNat)

/-- In a context that may issue it, WAIT whose target (imm40 ticks on, or ga) has been reached steps on at once, and otherwise leaves the context
waiting for it with nothing else changed but the engine's round robin, which stands at it; WAIT_EXPIRE of a context that waits brings the count at
least to the target where it runs and steps on with value 0. END decides its command with the status of imm40[15:0] or ga[15:0] and the value of gd
where the status is one this manual defines of neither class 0x01 nor 0x0A; any other status ends the command with S_PROGRAM_FAULT and the END's pc.
-/
def Obligations.WaitAndEnd : Prop :=
  ∀ (c : Nat) (s : State), s.dev.working = true →
    let x := s.dev.ctxs.get c
    let turn (d : Dev) : Dev := { d with engines := d.engines.modify (c / 8) (fun e => { e with turn := c % 8 }) }
    let target := if wMod x.ir = 0 then s.dev.clk.now + (x.ir.extractLsb' 0 40).toNat else x.ga.toNat
    let st : W16 := if wMod x.ir = 0 then x.ir.extractLsb' 0 16 else x.ga.extractLsb' 0 16
    (s.dev.mayIssue c 0x24 = true → target ≤ s.dev.clk.now → exec (.wait c) s = .next (s.onDev (fun d => (turn d).stepOn c 0))) ∧
    (s.dev.mayIssue c 0x24 = true → s.dev.clk.now < target →
      exec (.wait c) s = .next ⟨{ turn s.dev with ctxs := s.dev.ctxs.set c { x with run := .waitTill target } }, s.pending⟩) ∧
    (∀ t, x.run = .waitTill t → s.dev.er.halted = false →
      Does (.waitExpire c) s (fun d => ∃ d1 : Dev, d = d1.stepOn c 0 ∧ d1.ctxs = s.dev.ctxs.set c { x with run := .ready } ∧
        (s.dev.clk.running = true → t ≤ d1.clk.now) ∧ d1 = { s.dev with clk := { s.dev.clk with now := d1.clk.now }, ctxs := d1.ctxs })) ∧
    (∀ m : Cmd, s.dev.mayIssue c 0x25 = true → x.cmd = some m.id → s.dev.cmd m.id = some m → m.done = none →
      (definedStatuses.contains st = true → st.toNat / 256 ≠ 1 → st.toNat / 256 ≠ 10 →
        Does (.end_ c) s (fun d => (∃ k, d.decided m.id k ∧ k.status = st ∧ k.result = x.gd) ∧ d.ctxs.get c = Ctx.reset)) ∧
      (definedStatuses.contains st = false ∨ st.toNat / 256 = 1 ∨ st.toNat / 256 = 10 →
        Does (.end_ c) s (fun d => (∃ k, d.decided m.id k ∧ k.status = St.programFault ∧ k.result = toW64 x.pc) ∧ d.ctxs.get c = Ctx.reset)))

/-- When a device instruction of a program finishes with a status and its output, gd holds the output where there is one, g14 the status
zero-extended, Z is set exactly for S_OK and N, C, V and the other registers are unchanged; with S_OK, or with catch set and a status catch may hold,
the program goes on at pc + 8; otherwise the command ends with the status and the instruction's pc. An inline command ends with the status and the
output, 0 where there is none. -/
def Obligations.DeviceInstructionFinishes : Prop :=
  ∀ (d : Dev) (c : Nat) (st : W16) (out : Option W64) (y z : W64) (m : Cmd),
    (d.ctxs.get c).cmd = some m.id → d.cmd m.id = some m → m.done = none →
    let x := d.ctxs.get c
    let held := x.ir.getLsbD 43 = true ∧ st ≠ St.aborted ∧ st ≠ St.staleEpoch ∧ st ≠ St.illegalInstruction
    (m.sqe.kind = 2 → st = St.ok ∨ held →
      ∃ d1 : Dev, d.finish c st out y z = d1.next c ∧ (d1.ctxs.get c).z = decide (st = St.ok) ∧ (d1.ctxs.get c).n = x.n ∧ (d1.ctxs.get c).c = x.c ∧
        (d1.ctxs.get c).v = x.v ∧ (d1.ctxs.get c).r 14 = st.zeroExtend 64 ∧ (∀ v, out = some v → wD x.ir ≠ 14 → (d1.ctxs.get c).r (wD x.ir) = v) ∧
        (∀ k, k ≠ 14 → (k ≠ wD x.ir ∨ out = none) → (d1.ctxs.get c).r k = x.r k) ∧ (d1.ctxs.get c).pc = x.pc ∧ (d1.ctxs.get c).h = x.h ∧
        (∀ j, j ≠ c → d1.ctxs.get j = d.ctxs.get j)) ∧
    (m.sqe.kind = 2 → st ≠ St.ok → ¬ held →
      (∃ k, (d.finish c st out y z).decided m.id k ∧ k.status = st ∧ k.result = toW64 x.pc) ∧ (d.finish c st out y z).ctxs.get c = Ctx.reset) ∧
    (m.sqe.kind ≠ 2 →
      (∃ k, (d.finish c st out y z).decided m.id k ∧ k.status = st ∧ k.result = out.getD 0) ∧ (d.finish c st out y z).ctxs.get c = Ctx.reset)

/-- In a context that may issue it, with size n of mod[1:0] and address ga + sext(imm40): LD of host space, aligned, on a port that may make requests,
finishes with S_OK and the zero-extended little-endian value of n bytes of the host memory as the host has placed them; ST finishes with S_OK having
written the low n bytes of gb there, and no other byte of any memory; either ends with S_PROGRAM_FAULT where it is misaligned, or the host completes
it with an error. In buffer space, where the handle is empty, both end with S_BAD_HANDLE; where it holds a buffer and bits 61:48 are zero, a
misaligned access ends with S_PROGRAM_FAULT and one past the end with S_RANGE; otherwise LD gives the n bytes of a clean word, ST of 8 bytes stores
the encoded word (with the armed flip mask applied), and a narrower ST of a clean word enters the merge buffer where that has room. DSEEK finishes
with S_OK and dc = ga, or S_RANGE past the data length. Before it finishes, the registers, handles and pc of the context, and where nothing is stored
dc, all memories and the buffer too, are as before. (The order of the buffer checks is the model's, log entry 131.) -/
def Obligations.MemoryInstructions : Prop :=
  ∀ (c : Nat) (s : State) (mem : HostWrites), s.dev.working = true →
    let x := s.dev.ctxs.get c
    let m := wMod x.ir % 4
    let n := if m = 0 then 8 else if m = 1 then 4 else if m = 2 then 2 else 1
    let a := (x.ga + (x.ir.extractLsb' 0 40).signExtend 64).toNat
    let space := wMod x.ir / 4 % 2
    let kept (d : Dev) : Prop := (d.ctxs.get c).g = x.g ∧ (d.ctxs.get c).h = x.h ∧ (d.ctxs.get c).pc = x.pc ∧ d.pairs = s.dev.pairs ∧ d.cmds = s.dev.cmds
    let hosts (d : Dev) : Prop := kept d ∧ d.hostA = s.dev.hostA ∧ d.hostB = s.dev.hostB ∧ d.hostR = s.dev.hostR ∧ (d.ctxs.get c).dc = x.dc
    let same (d : Dev) : Prop := hosts d ∧ d.mi = s.dev.mi
    (s.dev.mayIssue c 0x30 = true → space = 0 → a % n = 0 → s.dev.mayRequest c = true →
      Finishes (.ld c mem true) s c St.ok (some (BitVec.ofNat 64 (leNat (readBytes ((s.dev.placeFor c mem).mem c) a n)))) (fun d =>
        kept d ∧ d.mi = s.dev.mi ∧ d.mem c = (s.dev.placeFor c mem).mem c) ∧
      Finishes (.ld c mem false) s c St.programFault none (fun d => kept d ∧ d.mi = s.dev.mi ∧ d.mem c = (s.dev.placeFor c mem).mem c)) ∧
    (s.dev.mayIssue c 0x30 = true → space = 0 → a % n ≠ 0 → ∀ ok, Finishes (.ld c mem ok) s c St.programFault none same) ∧
    (s.dev.mayIssue c 0x31 = true → space = 0 → a % n = 0 → s.dev.mayRequest c = true →
      Finishes (.st c true) s c St.ok none (fun d => kept d ∧ d.mem c = writeBytes (s.dev.mem c) a (leBytes n x.gb.toNat) ∧ d.mi = s.dev.mi ∧
        (∀ no, no ≠ s.dev.memNo c → d.memAt no = s.dev.memAt no)) ∧
      Finishes (.st c false) s c St.programFault none same) ∧
    (s.dev.mayIssue c 0x31 = true → space = 0 → a % n ≠ 0 → ∀ ok, Finishes (.st c ok) s c St.programFault none same) ∧
    (space = 1 → ∀ ok,
      let stops (st : W16) : Prop := (s.dev.mayIssue c 0x30 = true → Finishes (.ld c mem ok) s c st none same) ∧
        (s.dev.mayIssue c 0x31 = true → Finishes (.st c ok) s c st none same)
      (x.h.get (a / 2 ^ 62) = none → stops St.badHandle) ∧
      (∀ k, x.h.get (a / 2 ^ 62) = some k → a / 2 ^ 48 % 2 ^ 14 = 0 →
        let off := a % 2 ^ 48
        let w := s.dev.pools.wordOf k + off / 8
        let clean : Prop := w ∉ s.dev.mi.poison ∧ s.dev.mi.mergeOf w = none ∧ bchDecode (s.dev.mi.raw w) = .clean
        (off % n ≠ 0 → stops St.programFault) ∧ (off % n = 0 → poolBytes (bufPool k) < off + n → stops St.range) ∧
        (off % n = 0 → off + n ≤ poolBytes (bufPool k) →
          (s.dev.mayIssue c 0x30 = true → clean → Finishes (.ld c mem ok) s c St.ok
            (some (BitVec.ofNat 64 ((bchData (s.dev.mi.raw w)).toNat / 2 ^ (8 * (off % 8)) % 2 ^ (8 * n)))) same) ∧
          (s.dev.mayIssue c 0x31 = true → n = 8 → Finishes (.st c ok) s c St.ok none (fun d => hosts d ∧
            d.mi = { s.dev.mi with words := s.dev.mi.words.set w (s.dev.mi.stored w (bchEncode x.gb) ^^^ (if s.dev.rf Reg.MI_FLIPCTL 31 31 = 1 then s.dev.flipMask else 0))
                                   merges := s.dev.mi.merges.filter (fun e => decide (e.word ≠ w))
                                   poison := s.dev.mi.poison.filter (fun v => decide (v ≠ w)) })) ∧
          (s.dev.mayIssue c 0x31 = true → n < 8 → clean → s.dev.mi.mergeCount (wordStack w) < 64 → Finishes (.st c ok) s c St.ok none (fun d => hosts d ∧
            d.mi = { s.dev.mi with merges := s.dev.mi.merges ++ [⟨w, BitVec.ofNat 8 ((2 ^ n - 1) * 2 ^ (off % 8)),
              BitVec.ofNat 64 (x.gb.toNat % 2 ^ (8 * n) * 2 ^ (8 * (off % 8)))⟩] }))))) ∧
    (s.dev.mayIssue c 0x32 = true → x.ga.toNat ≤ s.dev.dataLen c → Finishes (.dseek c) s c St.ok none (fun d => kept d ∧ d.mi = s.dev.mi ∧ (d.ctxs.get c).dc = x.ga.toNat)) ∧
    (s.dev.mayIssue c 0x32 = true → s.dev.dataLen c < x.ga.toNat → Finishes (.dseek c) s c St.range none same)

/-- BUF.ALLOC of 1 byte to 16 MiB into an empty handle, within the quota, finishes with S_OK and the lowest-numbered free buffer of the smallest pool
that holds the size, held and finished by the context and charged to its group, where that pool has more free buffers for it than its floor; without
spill it ends with S_POOL_EMPTY where not, with S_QUOTA_EXCEEDED past the quota, and with S_RANGE for any other size; into a handle in use with
S_BAD_HANDLE. BUF.SHARE of a held buffer finishes with its share token in gd and the buffer shared; by a token of a shared buffer with at most 14
context holders it makes the context a holder. BUF.FREE of the only holder returns the buffer and its charge; of a holder that is not finisher, the
holder falls away; of a finisher with other holders it ends with S_BUFFER_HELD and changes no holder. A unit's BUFFER_REQUEST is granted as a host's
is, without a floor, from the next larger pool where it asks for spill and the first is used up, and otherwise waits; its BUFFER_RELEASE acts as
BUF.FREE. CARVE_APPLY on a writable path that fails no check brings the registers' carve and reserves into force. -/
def Obligations.BufferGrantsAndReleases : Prop :=
  ∀ (c : Nat) (s : State), s.dev.working = true →
    let x := s.dev.ctxs.get c
    let req := s.dev.reqOf c
    let p := poolFor x.ga.toNat
    let size := x.ga.toNat
    let fits := s.dev.pools.used.get req + poolUnits p ≤ s.dev.quota req
    let alloc := s.dev.mayIssue c 0x70 = true
    let share := s.dev.mayIssue c 0x71 = true
    (alloc → x.h.get (wD x.ir % 4) = none → 1 ≤ size → size ≤ 16777216 → fits → s.dev.pools.carve.get p < 2 ^ 26 →
      s.dev.floorOf req p < s.dev.freeFor req p →
      ∃ n, n < s.dev.pools.carve.get p ∧ s.dev.pools.bufs.get (bufKey p n) = none ∧
        (∀ j, j < n → s.dev.pools.bufs.cells.any (fun kb => kb.1 == bufKey p j) = true ∨ bufKey p j ∈ s.dev.pools.retiredBufs) ∧
        Finishes (.bufAlloc c) s c St.ok none (fun d => (d.ctxs.get c).h = x.h.set (wD x.ir % 4) (some (bufKey p n)) ∧
          d.pools.bufs = s.dev.pools.bufs.set (bufKey p n) (some ⟨req, [.ctx c], .ctx c, s.dev.pools.gens, false, false, false, false⟩) ∧
          d.pools.used = s.dev.pools.used.modify req (· + poolUnits p))) ∧
    (alloc → x.h.get (wD x.ir % 4) = none → 1 ≤ size → size ≤ 16777216 → fits → s.dev.freeFor req p ≤ s.dev.floorOf req p → wMod x.ir % 2 = 0 →
      Finishes (.bufAlloc c) s c St.poolEmpty none (fun d => d.pools = s.dev.pools)) ∧
    (alloc → x.h.get (wD x.ir % 4) = none → 1 ≤ size → size ≤ 16777216 → ¬ fits → Finishes (.bufAlloc c) s c St.quotaExceeded none (fun d => d.pools = s.dev.pools)) ∧
    (alloc → x.h.get (wD x.ir % 4) = none → size = 0 ∨ 16777216 < size → Finishes (.bufAlloc c) s c St.range none (fun d => d.pools = s.dev.pools)) ∧
    (alloc → x.h.get (wD x.ir % 4) ≠ none → Finishes (.bufAlloc c) s c St.badHandle none (fun d => d.pools = s.dev.pools)) ∧
    (∀ k b, share → wMod x.ir % 8 < 2 → x.h.get (wA x.ir % 4) = some k → s.dev.pools.bufs.get k = some b →
      Finishes (.bufShare c) s c St.ok (some (shareToken k b.gen)) (fun d =>
        d.pools.bufs = s.dev.pools.bufs.set k (some { b with shared := true, passOnAttach := wMod x.ir % 8 == 1 && b.finisher == .ctx c }))) ∧
    (∀ k b, share → wMod x.ir % 8 = 2 → s.dev.tokenBuf x.ga = some (k, b) → x.h.get (wD x.ir % 4) = none → b.ctxHolders ≤ 14 →
      Finishes (.bufShare c) s c St.ok none (fun d => (d.ctxs.get c).h = x.h.set (wD x.ir % 4) (some k) ∧
        ∃ b2 : Buf, d.pools.bufs = s.dev.pools.bufs.set k (some b2) ∧ b2.holders = b.holders ++ [.ctx c] ∧
          b2.finisher = (if b.passOnAttach then .ctx c else b.finisher))) ∧
    (∀ k b, s.dev.mayIssue c 0x72 = true → x.h.get (wA x.ir % 4) = some k → s.dev.pools.bufs.get k = some b → .ctx c ∈ b.holders →
      (b.finisher = .ctx c → b.holders.length = 1 → s.dev.pools.waiters = [] → k < 2 ^ 40 →
        Finishes (.bufFree c) s c St.ok none (fun d => d.pools.bufs = s.dev.pools.bufs.set k none ∧ (d.ctxs.get c).h = x.h.set (wA x.ir % 4) none ∧
          d.pools.used = s.dev.pools.used.modify b.requester (· - poolUnits (bufPool k)))) ∧
      (b.finisher ≠ .ctx c → b.finisher ≠ .pool → b.signalled = false →
        Finishes (.bufFree c) s c St.ok none (fun d => (d.ctxs.get c).h = x.h.set (wA x.ir % 4) none ∧
          d.pools.bufs = s.dev.pools.bufs.set k (some { b with holders := eraseOne (.ctx c) b.holders }))) ∧
      (b.finisher = .ctx c → 2 ≤ b.holders.length →
        Finishes (.bufFree c) s c St.bufferHeld none (fun d => (d.ctxs.get c).h = x.h ∧ d.pools.bufs.get k = some b))) ∧
    (∀ (u : BufUnit) (n : Nat), let q := poolFor n
      1 ≤ n → n ≤ 16777216 → s.dev.pools.used.get (unitReq u) + poolUnits q ≤ s.dev.quota (unitReq u) →
      (∀ k, 0 < s.dev.pools.free q → s.dev.pools.lowest q = some k →
        ∀ spill, Does (.bufferRequest u n spill) s (fun d =>
          d.pools.bufs = s.dev.pools.bufs.set k (some ⟨unitReq u, [.unit u], .unit u, s.dev.pools.gens, false, false, false, false⟩))) ∧
      (∀ k, s.dev.pools.free q = 0 → q < 5 → 0 < s.dev.pools.free (q + 1) → s.dev.pools.lowest (q + 1) = some k →
        s.dev.pools.used.get (unitReq u) + poolUnits (q + 1) ≤ s.dev.quota (unitReq u) → Does (.bufferRequest u n true) s (fun d =>
          d.pools.bufs = s.dev.pools.bufs.set k (some ⟨unitReq u, [.unit u], .unit u, s.dev.pools.gens, false, false, false, false⟩))) ∧
      (s.dev.pools.free q = 0 →
        Does (.bufferRequest u n false) s (fun d => ∃ t,
          d.pools = { s.dev.pools with waiters := s.dev.pools.waiters ++ [⟨u, unitReq u, [q], t, [], [.unit u]⟩] }))) ∧
    (∀ (u : BufUnit) (k : Nat) (b : Buf), s.dev.pools.bufs.get k = some b → b.holders = [.unit u] → b.finisher = .unit u → s.dev.pools.waiters = [] → k < 2 ^ 40 →
      Does (.bufferRelease u k) s (fun d => d.pools.bufs = s.dev.pools.bufs.set k none)) ∧
    (∀ path, s.dev.writable path = true → s.dev.carveCheck = 0 →
      Does (.carveApply path) s (fun d => ∀ q, q < 6 → d.pools.carve.get q = s.dev.carveReg q ∧ d.pools.reserve.get q = s.dev.resvReg q))

/-- PUT that passes its checks, with room for its pin, leaves its context writing the intent that dispatch entered for it, holding the slot, the key
and the length: the slot is pinned once more where dispatch, its slot then refusing, had not pinned it; of a program, whose intent is not there yet,
the slot is pinned and there is a new last intent. A PUT that fails a check finishes with that status, and its intent is gone. PATCH that passes them
pins its slot and waits for the lookup of its object; DELETE waits for the lookup; each finishes with the status of the first check that fails. -/
def Obligations.WritesStart : Prop :=
  ∀ (c : Nat) (s : State), s.dev.working = true →
    let d0 := ((s.dev.useTurn c).issue c).markRaw c
    let x := d0.ctxs.get c
    let n := wImm x.ir % 1024
    let pinned (d : Dev) : Prop := d.cx.slots.get n = { s.dev.cx.slots.get n with pins := (s.dev.cx.slots.get n).pins + 1 } ∧
      ∀ j, j ≠ n → d.cx.slots.get j = s.dev.cx.slots.get j
    let room := (s.dev.cx.slots.get n).pins < 2 ^ 24 - 1
    (∀ w, s.dev.mayIssue c 0x40 = true → d0.writeCheck c 0x40 = none → d0.intentIn c = some w → d0.write w.id = some w → w.kind = .put → w.pinned = true ∨ room →
      Does (.put c) s (fun d => (d.ctxs.get c).run = .flight (.write w.id) ∧ (w.pinned = false → pinned d) ∧ (w.pinned = true → d.cx = s.dev.cx) ∧
        d.idx.nextWrite = s.dev.idx.nextWrite ∧
        ∃ v, d.write w.id = some v ∧ v.slot = n ∧ v.keyId = (s.dev.cx.slots.get n).keyId ∧ v.sizeAfter = w.len ∧ v.pinned = true ∧ v.obj = w.obj ∧
          v.len = w.len ∧ v.commit = w.commit ∧ v.arrival = w.arrival)) ∧
    (s.dev.mayIssue c 0x40 = true → d0.writeCheck c 0x40 = none → room → d0.intentIn c = none → d0.intentRoom c = true →
      d0.write d0.idx.nextWrite = none →
      Does (.put c) s (fun d => (d.ctxs.get c).run = .flight (.write s.dev.idx.nextWrite) ∧ pinned d ∧ d.idx.nextWrite = s.dev.idx.nextWrite + 1 ∧
        ∃ v, d.idx.writes = s.dev.idx.writes ++ [v] ∧ v.id = s.dev.idx.nextWrite ∧ v.ctx = some c ∧ v.vh = x.vh ∧ v.obj = x.ga ∧ v.kind = .put ∧
          v.len = x.gd.toNat ∧ v.slot = n ∧ v.arrival = d0.orderStamp c ∧ v.commit = none)) ∧
    (∀ st a b, s.dev.mayIssue c 0x40 = true → d0.writeCheck c 0x40 = some (st, a, b) →
      Finishes (.put c) s c st none (fun d => d.idx.writes.any (fun w => w.ctx == some c && w.commit.isNone) = false ∧
        (s.dev.intentsOf c = [] → d = d0))) ∧
    (s.dev.mayIssue c 0x41 = true → d0.writeCheck c 0x41 = none → room →
      Does (.patch c) s (fun d => d.ctxs = d0.ctxs.set c { x with run := .flight (.existence 0x41) } ∧ pinned d ∧ d.idx = s.dev.idx)) ∧
    (∀ st a b, s.dev.mayIssue c 0x41 = true → d0.writeCheck c 0x41 = some (st, a, b) →
      Finishes (.patch c) s c st none (fun d => d.idx = s.dev.idx ∧ d.cx = s.dev.cx)) ∧
    (s.dev.mayIssue c 0x43 = true → ((s.dev.useTurn c).issue c).volumeCheck c 0x43 = none →
      Does (.delete c) s (fun d => d = ((s.dev.useTurn c).issue c).fly c (.existence 0x43))) ∧
    (∀ st, s.dev.mayIssue c 0x43 = true → ((s.dev.useTurn c).issue c).volumeCheck c 0x43 = some st → Finishes (.delete c) s c st none (fun d => d = (s.dev.useTurn c).issue c))

/-- GET that passes its checks (legal state, matching handle, gb + gd at most 2^48, gd bytes of data left, a slot loaded for reading) pins its slot
and registers a read of gd bytes from byte gb of object ga that waits for its lookup; STAT with gb a multiple of 8 registers a read of the whole
object, with another gb it ends with S_PROGRAM_FAULT; LOCATE registers a read of byte gb. COMPRESS (in blocks of the size of CM_CTL as it starts) and
DECOMPRESS start on gd bytes of data with room for gb bytes of output, and end with S_RANGE where fewer are left. A GET past the data or past 2^48
ends with S_RANGE, and one whose slot refuses with the slot's status: gd stays as it is, and neither pins. -/
def Obligations.ReadsAndCompressionStart : Prop :=
  ∀ (c : Nat) (s : State), s.dev.working = true →
    let d0 := (s.dev.useTurn c).issue c
    let x := d0.ctxs.get c
    let n := wImm x.ir % 1024
    let reading (d : Dev) (op off want slot dest : Nat) : Prop :=
      (∃ r : ReadOp, (d.ctxs.get c).run = .flight (.read r) ∧ r.opcode = op ∧ r.obj = x.ga ∧ r.off = off ∧ r.want = want ∧ r.slot = slot ∧
        r.dest = dest ∧ r.resolved = false ∧ r.plan = [] ∧ r.stampAt = d0.orderStamp c) ∧
      d.idx.reads = s.dev.idx.reads ++ [⟨c, x.ga, d0.orderStamp c⟩] ∧ d.idx.writes = s.dev.idx.writes
    let inRange := x.gb.toNat + x.gd.toNat ≤ 2 ^ 48 ∧ x.gd.toNat ≤ d0.dataLen c - x.dc
    (s.dev.mayIssue c 0x42 = true → d0.volumeCheck c 0x42 = none → inRange → (d0.slot n).refusal false = none → (d0.slot n).pins < 2 ^ 24 - 1 →
      Does (.get c) s (fun d => reading d 0x42 x.gb.toNat x.gd.toNat n x.dc ∧ (d.slot n).pins = (s.dev.slot n).pins + 1)) ∧
    (s.dev.mayIssue c 0x42 = true → d0.volumeCheck c 0x42 = none → ¬ inRange → Finishes (.get c) s c St.range none (fun d => d = d0)) ∧
    (∀ st, s.dev.mayIssue c 0x42 = true → d0.volumeCheck c 0x42 = none → inRange → (d0.slot n).refusal false = some st →
      Finishes (.get c) s c st none (fun d => d = d0)) ∧
    (s.dev.mayIssue c 0x44 = true → d0.volumeCheck c 0x44 = none → x.gb.toNat % 8 = 0 →
      Does (.stat c) s (fun d => reading d 0x44 0 0 0 x.gb.toNat ∧ d.cx = s.dev.cx)) ∧
    (s.dev.mayIssue c 0x44 = true → d0.volumeCheck c 0x44 = none → x.gb.toNat % 8 ≠ 0 → Finishes (.stat c) s c St.programFault none (fun d => d = d0)) ∧
    (s.dev.mayIssue c 0x53 = true → d0.volumeCheck c 0x53 = none → Does (.locate c) s (fun d => reading d 0x53 x.gb.toNat 1 0 0 ∧ d.cx = s.dev.cx)) ∧
    (s.dev.mayIssue c 0x48 = true → x.gd.toNat ≤ d0.dataLen c - x.dc →
      Does (.compress c) s (fun d => d.ctxs = d0.ctxs.set c { x with run := .flight (.compress x.gb.toNat d0.hostBlock x.gd.toNat 0) } ∧ d = { d0 with ctxs := d.ctxs })) ∧
    (s.dev.mayIssue c 0x48 = true → d0.dataLen c - x.dc < x.gd.toNat → Finishes (.compress c) s c St.range none (fun d => d = d0)) ∧
    (s.dev.mayIssue c 0x49 = true → x.gd.toNat ≤ d0.dataLen c - x.dc →
      Does (.decompress c) s (fun d => d.ctxs = d0.ctxs.set c { x with run := .flight (.decompress x.gb.toNat x.gd.toNat 0 []) } ∧
        d = { d0 with ctxs := d.ctxs })) ∧
    (s.dev.mayIssue c 0x49 = true → d0.dataLen c - x.dc < x.gd.toNat → Finishes (.decompress c) s c St.range none (fun d => d = d0))

/-- Where the horizon has passed, no earlier intent is open and no entry of the object is being reloaded, the lookup of a DELETE or PATCH of an object
that does not exist finishes with S_NO_OBJECT; of one that exists, a DELETE or a PATCH of 1 byte or more enters a last intent and its context writes
it, a PATCH of 0 bytes finishes with S_OK. The lookup of a read of an object that does not exist finishes with S_NO_OBJECT, a GET's gd 0; of a GET
within the object that needs no tape and meets no fault, it fixes the size, what is delivered and the sources of its bytes. Where the last byte of a
write's data has come, WRITE_COMMIT makes its intent a version with a stamp that is later than its arrival, moves the data cursor on by its length and
finishes the instruction with S_OK at that stamp; it leaves the object, the length and the slot of the write, and an inline command is decided with
S_OK and its context free. -/
def Obligations.LookupAndCommit : Prop :=
  ∀ (c : Nat) (s : State), s.dev.working = true → s.dev.er.halted = false →
    let x := s.dev.ctxs.get c
    let st := s.dev.orderStamp c
    let open' (obj : W64) (a : Nat) (whole : Bool) : Prop := s.dev.horizonOpen x.vh st = false ∧ s.dev.intentAhead x.vh obj st a whole = false ∧ s.dev.reloading obj = false
    (∀ op, x.run = .flight (.existence op) → op = 0x41 ∨ op = 0x43 → open' x.ga 0 true →
      (sizeOf' (s.dev.layers x.vh x.ga st) = none → Finishes (.indexLookup c) s c St.noObject none (fun d => d.idx.writes = s.dev.idx.writes)) ∧
      (∀ size, sizeOf' (s.dev.layers x.vh x.ga st) = some size →
        (op = 0x41 → x.gd = 0 → Finishes (.indexLookup c) s c St.ok none (fun d => d.idx.writes = s.dev.idx.writes)) ∧
        (op = 0x43 ∨ x.gd ≠ 0 → s.dev.intentRoom c = true → s.dev.intentIn c = none → wOp x.ir = op → s.dev.write s.dev.idx.nextWrite = none →
          Does (.indexLookup c) s (fun d => (d.ctxs.get c).run = .flight (.write s.dev.idx.nextWrite) ∧
            ∃ w, d.idx.writes = s.dev.idx.writes ++ [w] ∧ w.kind = (if op = 0x41 then .patch else .delete) ∧ w.obj = x.ga ∧ w.ctx = some c ∧ w.commit = none ∧
              w.len = (if op = 0x41 then x.gd.toNat else 0) ∧ w.off = (if op = 0x41 then x.gb.toNat else 0) ∧
              w.sizeAfter = (if op = 0x41 then max size (x.gb.toNat + x.gd.toNat) else 0))))) ∧
    (∀ r : ReadOp, x.run = .flight (.read r) → r.resolved = false → s.dev.mode = .normal → open' r.obj r.off (r.opcode == 0x44) →
      (sizeOf' (s.dev.layers x.vh r.obj r.stampAt) = none →
        Finishes (.indexLookup c) s c St.noObject (if r.opcode = 0x42 then some 0 else none) (fun d => d.idx.writes.length ≤ s.dev.idx.writes.length)) ∧
      (∀ size, sizeOf' (s.dev.layers x.vh r.obj r.stampAt) = some size → r.opcode = 0x42 → r.off ≤ size →
        let cells := s.dev.cells (s.dev.layers x.vh r.obj r.stampAt) r.off (min size (r.off + r.want))
        s.dev.readFault r cells = none → (planOf cells).any Source.onTape = false → (s.dev.buffersOf (planOf cells)).all s.dev.holderRoom = true →
        let r1 : ReadOp := { r with resolved := true, size := size, plan := planOf cells, delivered := min size (r.off + r.want) - r.off }
        Does (.indexLookup c) s (fun d => d.idx = s.dev.idx ∧ d.ctxs = s.dev.ctxs.set c { x with run := .flight (.read r1) }))) ∧
    (∀ (id : Nat) (w : Write), x.run = .flight (.write id) → s.dev.write id = some w → (∀ v ∈ s.dev.idx.writes, v.id = id → v = w) →
      w.data.length = w.len → w.commit = none → w.ctx = some c → w.durable = false →
      Does (.writeCommit c) s (fun d => ∃ (d1 : Dev) (t : Stamp), d = (d1.finish c St.ok none 0 0 (some t)).sealRecords ∧ w.arrival.after ≤ t.t ∧
        (d1.ctxs.get c).dc = x.dc + w.len ∧
        ∃ v ∈ d1.idx.writes, v.id = id ∧ v.commit = some t ∧ v.ctx = none ∧ v.obj = w.obj ∧ v.len = w.len ∧ v.slot = w.slot ∧ v.kind = w.kind) ∧
      ∀ m : Cmd, x.cmd = some m.id → s.dev.cmd m.id = some m → m.done = none → m.sqe.kind ≠ 2 →
        Does (.writeCommit c) s (fun d => (∃ k, d.decided m.id k ∧ k.status = St.ok ∧ w.arrival.after ≤ k.stamp.t) ∧ d.ctxs.get c = Ctx.reset))

/-- On a standalone device with no move, no change of mode and the first head seek done, in PRESENT and with the engine RUN: FORMAT with its signature
and LOAD leave their context threading, the tape moving forward at step 0 where it is not threaded (FORMAT also marks the session number of stamps as
1); FORMAT without the signature ends with S_RANGE. UNLOAD of a sealed volume leaves its context rewinding; UNLOAD and SEAL of an open one, FLUSH of a
loaded one, and MIGRATE on a member of a ring that is not widened to a 32-bit handle of another present member start their flush part: the records
they need are sealed, they go on where all they cover is durable, and end with the status of a halted or full volume; a FLUSH all of whose writes are
durable finishes with S_OK at once. MIGRATE to any other handle ends with S_BAD_HANDLE. In a mode or volume state that Table 3.4 refuses, each ends
with the status of the table; while the engine is not RUN, all but FLUSH and MIGRATE end with S_TRANSPORT_FAULT; nothing else changes then. -/
def Obligations.VolumeCommandsStart : Prop :=
  ∀ (c : Nat) (s : State), s.dev.working = true →
    let d0 := (s.dev.useTurn c).issue c
    let x := d0.ctxs.get c
    let t := d0.orderStamp c
    let run := s.dev.tc.st = .run
    let alone := s.dev.cs.inRing = false ∧ s.dev.cs.st = .standalone
    let still := s.dev.vol.firstDone = true ∧ s.dev.tc.movingFor = none ∧ s.dev.cs.modePending = false
    let refused (i : Instr) (st : W16) : Prop := Finishes i s c st none (fun d => d = d0)
    let forward : Profile :=
      { s.dev.tc.profile with kind := 1, step := 0, reverse := false, toZero := false, target := 0, quick := false, asker := .scheduler, tolCount := 0 }
    let threads (d : Dev) (f : Flight) : Prop := d.ctxs = d0.ctxs.set c { x with run := .flight f } ∧
      (s.dev.tc.posValid = true → d.tc = s.dev.tc) ∧ (s.dev.tc.posValid = false → d.tc = { s.dev.tc with profile := forward })
    let flushes (i : Instr) (f : Flight) : Prop :=
      let e := (d0.fly c f).sealRecords.settleFlushes
      (e.sh.refusal = none ∨ (e.flightOf c).any Flight.waitsTape = false → Does i s (fun d => d = e)) ∧
      (∀ r, e.sh.refusal = some r → (e.flightOf c).any Flight.waitsTape = true → Finishes i s c r none (fun d => d = e))
    (s.dev.mayIssue c 0x50 = true → s.dev.stateCheck 0x50 = none → alone → run → still → s.dev.forSet c = false → wImm x.ir / 256 = 0x4150524F →
      Does (.format c) s (fun d => threads d (.format none 0) ∧ d.vol = { s.dev.vol with formatting := true })) ∧
    (s.dev.mayIssue c 0x50 = true → s.dev.stateCheck 0x50 = none → alone → wImm x.ir / 256 ≠ 0x4150524F → refused (.format c) St.range) ∧
    (s.dev.mayIssue c 0x51 = true → s.dev.stateCheck 0x51 = none → alone → run → still → Does (.load c) s (fun d => threads d (.load 0 0) ∧ d.vol = s.dev.vol)) ∧
    (s.dev.mayIssue c 0x52 = true → d0.volumeCheck c 0x52 = none → alone → run →
      (s.dev.vol.st = .sealed → Does (.unload c) s (fun d => d = d0.fly c (.unload 2 t))) ∧ (s.dev.vol.st = .opened → flushes (.unload c) (.unload 0 t))) ∧
    (s.dev.mayIssue c 0x54 = true → d0.volumeCheck c 0x54 = none → alone → run → flushes (.seal c) (.seal false t)) ∧
    (s.dev.mayIssue c 0x55 = true → d0.volumeCheck c 0x55 = none → alone → flushes (.flush c) (.flush t) ∧
      (let e := (d0.fly c (.flush t)).sealRecords
       e.flightsThat Flight.waitsTape = [c] → e.flightOf c = some (.flush t) → e.coveredDurable (e.ctxs.get c).vh t = true → e.stripesCovered = true →
       e.setDone 0x55 = true → e.hk.drain = false → Finishes (.flush c) s c St.ok none (fun d => d = e))) ∧
    (s.dev.mayIssue c 0x56 = true → d0.volumeCheck c 0x56 = none →
      (s.dev.cs.inRing = false ∨ 2 ^ 32 ≤ x.ga.toNat ∨ fieldOf x.ga 31 29 ∉ s.dev.others → refused (.migrate c) St.badHandle) ∧
      (s.dev.cs.inRing = true → s.dev.widen = false → x.ga.toNat < 2 ^ 32 → fieldOf x.ga 31 29 ∈ s.dev.others →
        flushes (.migrate c) (.migrate (toW32 x.ga.toNat) t))) ∧
    (∀ i op, (i, op) ∈ [(Instr.format c, 0x50), (.load c, 0x51), (.unload c, 0x52), (.seal c, 0x54), (.flush c, 0x55), (.migrate c, 0x56)] →
      s.dev.mayIssue c op = true → ∀ st, s.dev.stateCheck op = some st → refused i st) ∧
    (¬ run → alone → (s.dev.mayIssue c 0x50 = true → s.dev.stateCheck 0x50 = none → wImm x.ir / 256 = 0x4150524F → refused (.format c) St.transportFault) ∧
      (s.dev.mayIssue c 0x51 = true → s.dev.stateCheck 0x51 = none → refused (.load c) St.transportFault) ∧
      (s.dev.mayIssue c 0x52 = true → d0.volumeCheck c 0x52 = none → refused (.unload c) St.transportFault) ∧
      (s.dev.mayIssue c 0x54 = true → d0.volumeCheck c 0x54 = none → refused (.seal c) St.transportFault))

/-- INSTRUCTION_FINISH takes the command of its context on where its work is done. FORMAT, threaded, runs the tape forward at step 15 to measure it;
measured over less than 100 m it ends with S_NO_CARTRIDGE; its primer read back good on fewer than 64 tracks in some unit, with S_MEDIUM_UNRECOVERED;
its colophon written, it rewinds; rewound, it finishes with S_OK, the state PRESENT, no volume loaded and stamps no longer marked. LOAD, threaded, of
a cartridge without a good primer unit ends with S_NO_CARTRIDGE, the cartridge threaded and no volume loaded; its recovery colophon written, or
nothing to be written, it finishes with the handle of its volume in gd, OPEN or SEALED, threaded. UNLOAD, its colophon written, rewinds; rewound, it
finishes with the state PRESENT, no volume loaded, the cartridge unthreaded and TC_POS not valid. SEAL, its colophon written, finishes with the volume
SEALED. MIGRATE finishes with the total length of the records in gd once all that it covers is durable; so does FLUSH, where no other command waits
for tape and no drain-shutdown runs. A transport fault outside them ends FORMAT and LOAD with S_TRANSPORT_FAULT and no volume loaded. -/
def Obligations.VolumeCommandsEnd : Prop :=
  ∀ (c : Nat) (s : State), s.dev.working = true → s.dev.er.halted = false →
    let x := s.dev.ctxs.get c
    let done := Instr.instructionFinish c .done
    let rest := s.dev.tc.profile.kind = 0
    let written := s.dev.sh.colophon = none ∧ s.dev.sh.running = false
    let ends (i : Instr) (st : W16) (out : Option W64) (P : Dev → Prop) : Prop := Does i s (fun d => ∃ (d1 : Dev) (a b : W64) (cat : Option Nat),
      (d = d1.finish c st out a b none cat ∨ d = (d1.finish c st out a b none cat).retarget) ∧ P d1)
    let goes (f : Flight) (P : Dev → Prop) : Prop := Does done s (fun d => ∃ d1 : Dev, d = (d1.fly c f).retarget ∧ P d1)
    let moving (d : Dev) (kind : Nat) : Prop := d.tc.profile.kind = kind ∧ d.tc.profile.step = 15 ∧ d.tc.profile.target = 0 ∧ d.tc.profile.toZero = false
    let gone (d : Dev) : Prop := d.vol.loaded = none ∧ d.fm = Formes.reset
    (∀ id, x.run = .flight (.format id 0) → s.dev.notThreaded c = false → s.dev.tc.st = .run → s.dev.tc.movingFor = none →
      goes (.format id 1) (fun d => moving d 1 ∧ d.tc.profile.reverse = false ∧ d.vol = s.dev.vol)) ∧
    (∀ id k, x.run = .flight (.format id 1) → s.dev.vol.cart = some k → k.len < 100000 → ends done St.noCartridge none (fun d => gone d ∧ d.vol.formatting = false)) ∧
    (∀ id good, x.run = .flight (.format (some id) 2) → primerGood good = false →
      ends (.instructionFinish c (.checked good)) St.mediumUnrecovered none (fun d => gone d ∧ d.vol.formatting = false)) ∧
    (∀ id, x.run = .flight (.format id 4) → written → rest → s.dev.tc.st = .run → goes (.format id 5) (fun d => moving d 2 ∧ d.vol = s.dev.vol)) ∧
    (∀ id, x.run = .flight (.format id 5) → rest → s.dev.setDone 0x50 = true →
      ends done St.ok none (fun d => gone d ∧ d.vol.formatting = false ∧ d.vol.st = .present ∧ d.vol.cart = s.dev.vol.cart)) ∧
    (∀ k n, x.run = .flight (.load 0 n) → s.dev.notThreaded c = false → s.dev.vol.cart = some k → k.primer.all (fun b => !primerOk b) = true →
      ends done St.noCartridge none (fun d => gone d ∧ d.threaded = true)) ∧
    (∀ v n, x.run = .flight (.load 3 n) → written → s.dev.vol.loaded = some v → s.dev.setDone 0x51 = true →
      ends done St.ok (some (toW64 v.handle.toNat)) (fun d => d.vol.st = (if v.sealed then .sealed else .opened) ∧ d.vol.loads = s.dev.vol.loads + 1 ∧
        (s.dev.vol.cart ≠ none → d.threaded = true) ∧ (d.ctxs.get c).vh = v.handle)) ∧
    (∀ t, x.run = .flight (.unload 1 t) → written → rest → s.dev.tc.st = .run → goes (.unload 2 t) (fun d => moving d 2 ∧ d.vol = s.dev.vol)) ∧
    (∀ t, x.run = .flight (.unload 2 t) → rest → s.dev.tc.st = .run → s.dev.setDone 0x52 = true →
      ends done St.ok none (fun d => gone d ∧ d.vol.st = .present ∧ d.threaded = false ∧ d.tc.posValid = false)) ∧
    (∀ t, x.run = .flight (.seal true t) → written → s.dev.setDone 0x54 = true →
      ends done St.ok none (fun d => d.vol.st = .sealed ∧ d.vol.loaded = s.dev.vol.loaded.map (fun v => { v with sealed := true }) ∧ d.vol.cart = s.dev.vol.cart)) ∧
    (∀ t, x.run = .flight (.flush t) → s.dev.flightsThat Flight.waitsTape = [c] → s.dev.hk.drain = false → s.dev.coveredDurable x.vh t = true → s.dev.stripesCovered = true →
      s.dev.setDone 0x55 = true → ends done St.ok none (fun d => d = s.dev)) ∧
    (∀ h t, x.run = .flight (.migrate h t) → s.dev.coveredDurable x.vh t = true →
      ends done St.ok (some (toW64 ((s.dev.visibleRecords t).foldl (fun a r => a + s.dev.recordBytes r) 0))) (fun d => d = s.dev)) ∧
    (∀ id n, x.run = .flight (.format id n) ∨ x.run = .flight (.load n n) → ends (.instructionFinish c (.failed St.transportFault)) St.transportFault none gone)

/-- KEY.IMPORT of a package whose header is legal, whose floor is below 2^63 and whose key unwraps finishes with gd 96, having written the key's blob
with generation 0 at gb; misaligned addresses end with S_PROGRAM_FAULT. KEY.LOAD into an EMPTY slot, or a LOADED one without pins, of a blob that
unwraps makes it LOADED with the key, ID, usage, generation and counter of the blob, no pins, and a prefix that no other loaded slot of the key has;
of one that does not unwrap it ends with S_UNWRAP_FAILED, and into any other slot with S_KEY_SLOT_BUSY. KEY.SAVE writes a blob of the next generation,
which the slot then has. KEY.ERASE of a slot with pins makes it DRAINING and waits, of one without it empties it, of one that ends already it waits;
KEY.SAVE and the erases of an EMPTY one end with S_SLOT_EMPTY. KEY.ERASE.NOW makes the slot REVOKING and waits. REVOCATION_DONE empties a REVOKING
slot and advances the order epoch by one; RNG_HEALTH_FAIL takes the generator out of service (with fewer than 16 errors pending, none of the
generator). -/
def Obligations.KeyInstructions : Prop :=
  ∀ (c : Nat) (s : State) (mem : HostWrites), s.dev.working = true →
    let x := s.dev.ctxs.get c
    let n := wImm x.ir % 1024
    let sl := s.dev.cx.slots.get n
    let req := s.dev.mayRequest c = true
    let p := readBytes ((s.dev.placeFor c mem).mem c) x.ga.toNat 184
    let b := readBytes ((s.dev.placeFor c mem).mem c) x.ga.toNat 96
    (∀ k, s.dev.mayIssue c 0x60 = true → req → x.ga.toNat % 8 = 0 → x.gb.toNat % 8 = 0 → packageOk p = true → leNat (sliceBytes p 24 8) < 2 ^ 63 →
      s.dev.importKey p = some k →
      Finishes (.keyImport c mem true) s c St.ok (some 96) (fun d => d.cx = s.dev.cx ∧
        d.mem c = writeBytes ((s.dev.placeFor c mem).mem c) x.gb.toNat
          ((s.dev.blob k (leNat (sliceBytes p 24 8)) (leNat (sliceBytes p 8 8)) (leNat (sliceBytes p 16 4)) 0).take 96))) ∧
    (∀ ok, s.dev.mayIssue c 0x60 = true → x.ga.toNat % 8 ≠ 0 ∨ x.gb.toNat % 8 ≠ 0 →
      Finishes (.keyImport c mem ok) s c St.programFault none (fun d => d.cx = s.dev.cx)) ∧
    (∀ k, s.dev.mayIssue c 0x61 = true → req → sl.st = .empty ∨ (sl.st = .loaded ∧ sl.pins = 0) → s.dev.unwrapBlob b = some k → s.dev.rngFenced = false →
      Finishes (.keyLoad c mem true) s c St.ok none (fun d => (d.cx.slots.get n).st = .loaded ∧ (d.cx.slots.get n).key = keyOf (k.take 32) ∧
        (d.cx.slots.get n).keyId = toW64 (leNat (sliceBytes k 40 8)) ∧ (d.cx.slots.get n).usage = BitVec.ofNat 2 (leNat (sliceBytes k 48 4)) ∧
        (d.cx.slots.get n).gen = leNat (sliceBytes k 52 4) ∧ (d.cx.slots.get n).counter = leNat (sliceBytes k 32 8) ∧ (d.cx.slots.get n).pins = 0 ∧
        (∀ j, j ≠ n → d.cx.slots.get j = s.dev.cx.slots.get j) ∧
        (s.dev.cx.slots.cells.length ≤ 1024 → ∀ e ∈ s.dev.cx.slots.cells, e.1 ≠ n → e.2.st ≠ .empty → e.2.keyId = (d.cx.slots.get n).keyId →
          e.2.pfx ≠ (d.cx.slots.get n).pfx))) ∧
    (∀ ok, s.dev.mayIssue c 0x61 = true → (sl.st = .loaded ∧ sl.pins ≠ 0) ∨ sl.st = .draining ∨ sl.st = .revoking →
      Finishes (.keyLoad c mem ok) s c St.keySlotBusy none (fun d => d.cx = s.dev.cx)) ∧
    (s.dev.mayIssue c 0x61 = true → req → sl.st = .empty ∨ (sl.st = .loaded ∧ sl.pins = 0) → s.dev.unwrapBlob b = none →
      Finishes (.keyLoad c mem true) s c St.unwrapFailed none (fun d => d.cx = s.dev.cx)) ∧
    (s.dev.mayIssue c 0x62 = true → sl.st = .empty ∨ sl.st = .revoking → ∀ ok,
      Finishes (.keySave c ok) s c (if sl.st = .empty then St.slotEmpty else St.keyRevoked) none (fun d => d.cx = s.dev.cx)) ∧
    (s.dev.mayIssue c 0x62 = true → req → sl.st = .loaded ∨ sl.st = .draining →
      Finishes (.keySave c true) s c St.ok (some 96) (fun d => d.cx.slots = s.dev.cx.slots.modify n (fun y => { y with gen := y.gen + 1 }) ∧
        d.mem c = writeBytes (s.dev.mem c) x.ga.toNat ((s.dev.blob (beBytes 32 sl.key.toNat) sl.counter sl.keyId.toNat sl.usage.toNat (sl.gen + 1)).take 96))) ∧
    (s.dev.mayIssue c 0x63 = true → sl.st = .empty → Finishes (.keyErase c) s c St.slotEmpty none (fun d => d.cx = s.dev.cx)) ∧
    (s.dev.mayIssue c 0x63 = true → sl.st = .loaded → 0 < sl.pins →
      Does (.keyErase c) s (fun d => (d.ctxs.get c).run = .flight (.erase n false) ∧ (d.cx.slots.get n).st = .draining ∧ (d.cx.slots.get n).pins = sl.pins ∧
        (d.cx.slots.get n).key = sl.key)) ∧
    (s.dev.mayIssue c 0x63 = true → sl.st = .loaded → sl.pins = 0 →
      Does (.keyErase c) s (fun d => (d.ctxs.get c).run = .flight (.erase n true) ∧ d.cx.slots.get n = Slot.reset)) ∧
    (s.dev.mayIssue c 0x63 = true → sl.st = .draining ∨ sl.st = .revoking → Does (.keyErase c) s (fun d => d = ((s.dev.useTurn c).issue c).fly c (.erase n false))) ∧
    (s.dev.mayIssue c 0x64 = true → sl.st = .empty → Finishes (.keyEraseNow c) s c St.slotEmpty none (fun d => d.cx = s.dev.cx)) ∧
    (s.dev.mayIssue c 0x64 = true → sl.st = .loaded ∨ sl.st = .draining → (∀ j, j < 256 → s.dev.pinsSlot j n = false) → s.dev.idx.writes = [] →
      Does (.keyEraseNow c) s (fun d => (d.ctxs.get c).run = .flight (.eraseNow n 0 false) ∧ (d.cx.slots.get n).st = .revoking)) ∧
    (s.dev.mayIssue c 0x64 = true → sl.st = .revoking → Does (.keyEraseNow c) s (fun d => d = ((s.dev.useTurn c).issue c).fly c (.eraseNow n 0 false))) ∧
    (∀ k, k < 1024 → (s.dev.cx.slots.get k).st = .revoking → s.dev.cs.st ≠ .member →
      Does (.revocationDone k) s (fun d => d.cx.slots = s.dev.cx.slots.set k Slot.reset ∧ d.er.epoch = (s.dev.er.epoch + 1) % 2 ^ 48)) ∧
    (s.dev.er.pend.length < 16 → (∀ p ∈ s.dev.er.pend, p.unit ≠ ⟨0xB, 18⟩) → Does .rngHealthFail s (fun d => d.rngFenced = true ∧ d.cx = s.dev.cx))

/-- ABORT that names no outstanding command, an ABORT or itself finishes with gd 3; a command whose completion is decided, with gd 2; another, it ends
with S_ABORTED and the ABORT waits for its completion; with bits above 25 set in ga it ends with S_RANGE. FENCE waits with its order stamp and its
invalidate bit. MAINT enter in NORMAL with no volume loaded goes to MAINT, MAINT exit in MAINT to NORMAL with the injection arm clear; in a mode or
volume state that refuses them they end with the status of Table 3.4. SNAP with no snapshot held arms one and finishes with the target, 256 ticks
after the present count inline; with one held it ends with S_WRONG_STATE. QSTAT finishes with the quantity of its modifier and changes nothing else.
-/
def Obligations.ControlInstructions : Prop :=
  ∀ (c : Nat) (s : State), s.dev.working = true →
    let d0 := (s.dev.useTurn c).issue c
    let x := d0.ctxs.get c
    let q := fieldOf x.ga 25 16
    let named := s.dev.abortTarget q (BitVec.ofNat 16 (fieldOf x.ga 15 0))
    (s.dev.mayIssue c 0x80 = true → fieldOf x.ga 63 26 ≠ 0 → Finishes (.abort c) s c St.range none (fun d => d.cmds = s.dev.cmds)) ∧
    (s.dev.mayIssue c 0x80 = true → fieldOf x.ga 63 26 = 0 → named = none → Finishes (.abort c) s c St.ok (some 3) (fun d => d.cmds = s.dev.cmds)) ∧
    (∀ m, s.dev.mayIssue c 0x80 = true → fieldOf x.ga 63 26 = 0 → named = some m →
      (m.isAbort = true ∨ x.cmd = some m.id → Finishes (.abort c) s c St.ok (some 3) (fun d => d.cmds = s.dev.cmds)) ∧
      (∀ k, m.isAbort = false → x.cmd ≠ some m.id → m.done = some k → Finishes (.abort c) s c St.ok (some 2) (fun d => d.cmds = s.dev.cmds)) ∧
      (m.isAbort = false → x.cmd ≠ some m.id → m.done = none → m.ctx ≠ some c → m.fwdTo = none →
        Does (.abort c) s (fun d => (d.ctxs.get c).run = .flight (.abortWait m.id) ∧ ∃ k, d.decided m.id k ∧ k.status = St.aborted))) ∧
    (s.dev.mayIssue c 0x81 = true →
      Does (.fence c) s (fun d => d = { d0 with ctxs := d0.ctxs.set c { x with run := .flight (.fence (wMod x.ir % 2 == 1) (d0.orderStamp c)) } })) ∧
    (s.dev.mayIssue c 0x90 = true → wModLow x.ir = 0 → s.dev.mode = .normal → s.dev.vol.st = .empty ∨ s.dev.vol.st = .present →
      Finishes (.maintEnter c) s c St.ok none (fun d => d = { d0 with mode := .maint })) ∧
    (∀ st, s.dev.mayIssue c 0x90 = true → wModLow x.ir = 0 → s.dev.maintCheck false = some st → Finishes (.maintEnter c) s c st none (fun d => d = d0)) ∧
    (s.dev.mayIssue c 0x90 = true → wModLow x.ir = 1 → s.dev.mode = .maint →
      Finishes (.maintExit c) s c St.ok none (fun d => d.mode = .normal ∧ d.rf Reg.MI_FLIPCTL 31 31 = 0 ∧ d = { d0 with mode := .normal, regs := d.regs })) ∧
    (∀ st, s.dev.mayIssue c 0x90 = true → wModLow x.ir = 1 → s.dev.maintCheck true = some st → Finishes (.maintExit c) s c st none (fun d => d = d0)) ∧
    (s.dev.mayIssue c 0xA0 = true → s.dev.sn.held = false →
      let t := if s.dev.isProgram c then x.issue.t else d0.clk.now
      Finishes (.snap c) s c St.ok (some (toW64 (t + 256))) (fun d => d.sn.armed = true ∧ d.sn.held = true ∧ d.sn.target = t + 256)) ∧
    (s.dev.mayIssue c 0xA0 = true → s.dev.sn.held = true → Finishes (.snap c) s c St.wrongState none (fun d => d = d0)) ∧
    (s.dev.mayIssue c 0xA1 = true → Finishes (.qstat c) s c St.ok (some (d0.quantity (wModLow x.ir))) (fun d => d = d0))

/-- In MAINT, with the transport engine in RUN and no move running: MOVE.POS to ga µm on the medium starts a position profile to it at the step of its
immediate, MOVE.VEL a velocity profile of its step and direction, MOVE.STOP one to 0, each asked for by its context, which waits; HEAD.SEEK of sheaf 0
to 159 sets the setpoint base + pitch × sheaf and starts seeking; THREAD of a present cartridge that is not threaded, and unthreading of one that is,
leave the context waiting for the tape to move at step 0 (log entry 138), forward where its position is not valid yet, or back. A target beyond the
medium, or a sheaf above 159, ends with S_RANGE; THREAD with no cartridge with S_NO_CARTRIDGE; THREAD of a threaded cartridge, and unthreading of
none, finish with S_OK at once. While the engine is not RUN the moves end with S_TRANSPORT_FAULT. -/
def Obligations.MotionInstructions : Prop :=
  ∀ (c : Nat) (s : State), s.dev.working = true → s.dev.mode = .maint →
    let d0 := (s.dev.useTurn c).issue c
    let x := d0.ctxs.get c
    let run := s.dev.tc.st = .run
    let free := s.dev.tc.movingFor = none ∧ s.dev.tc.seekFor = none
    let threading (back : Bool) : Profile :=
      { s.dev.tc.profile with kind := 1, step := 0, reverse := back, toZero := false, target := 0, quick := false, asker := .scheduler, tolCount := 0 }
    let profile (d : Dev) (f : Profile → Prop) : Prop := f d.tc.profile ∧ d.tc.profile.asker = .insn c ∧ d.tc.profile.quick = false ∧
      d.ctxs = d0.ctxs.set c { x with run := .flight .move } ∧ d.tc = { s.dev.tc with profile := d.tc.profile }
    (s.dev.mayIssue c 0x91 = true → run → free → s.dev.offMedium x.ga.toNat = false →
      Does (.movePos c) s (fun d => profile d (fun p => p.kind = 2 ∧ p.step = wImm x.ir % 16 ∧ p.target = (x.ga.toNat : Int) * 100 * 2 ^ 24))) ∧
    (s.dev.mayIssue c 0x91 = true → s.dev.offMedium x.ga.toNat = true → Finishes (.movePos c) s c St.range none (fun d => d = d0)) ∧
    (s.dev.mayIssue c 0x91 = true → ¬ run → s.dev.offMedium x.ga.toNat = false → Finishes (.movePos c) s c St.transportFault none (fun d => d = d0)) ∧
    (s.dev.mayIssue c 0x92 = true → run → free →
      Does (.moveVel c) s (fun d => profile d (fun p => p.kind = 1 ∧ p.step = wImm x.ir % 16 ∧ p.reverse = (wMod x.ir % 2 == 1) ∧ p.toZero = false))) ∧
    (s.dev.mayIssue c 0x92 = true → ¬ run → Finishes (.moveVel c) s c St.transportFault none (fun d => d = d0)) ∧
    (s.dev.mayIssue c 0x93 = true → run → free → Does (.moveStop c) s (fun d => profile d (fun p => p.kind = 1 ∧ p.toZero = true))) ∧
    (s.dev.mayIssue c 0x93 = true → ¬ run → Finishes (.moveStop c) s c St.transportFault none (fun d => d = d0)) ∧
    (s.dev.mayIssue c 0x94 = true → run → free → x.ga.toNat ≤ 159 →
      Does (.headSeek c) s (fun d => d.ctxs = d0.ctxs.set c { x with run := .flight .seek } ∧
        d.tc = { s.dev.tc with seeking := true, seekFor := some c, lockCount := 0, headSheaf := x.ga.toNat, locked := false
                               headSet := w32Clamp ((s.dev.reg Reg.TC_HEADBASE).toInt + w32Clamp ((x.ga.toNat : Int) * (s.dev.reg Reg.TC_HEADPITCH).toInt)) })) ∧
    (s.dev.mayIssue c 0x94 = true → 159 < x.ga.toNat → Finishes (.headSeek c) s c St.range none (fun d => d = d0)) ∧
    (s.dev.mayIssue c 0x95 = true → wModLow x.ir = 0 → s.dev.vol.st = .empty → Finishes (.thread c) s c St.noCartridge none (fun d => d = d0)) ∧
    (s.dev.mayIssue c 0x95 = true → wModLow x.ir = 0 → s.dev.vol.st ≠ .empty → s.dev.threaded = true →
      Finishes (.thread c) s c St.ok none (fun d => d = d0)) ∧
    (s.dev.mayIssue c 0x95 = true → wModLow x.ir = 0 → s.dev.vol.st ≠ .empty → s.dev.threaded = false → run → free →
      Does (.thread c) s (fun d => d.ctxs = d0.ctxs.set c { x with run := .flight .thread } ∧
        d.tc = (if s.dev.tc.posValid then s.dev.tc else { s.dev.tc with profile := threading false }))) ∧
    (s.dev.mayIssue c 0x95 = true → wModLow x.ir = 1 → s.dev.threaded = true → run → free →
      Does (.unthread c) s (fun d => d.ctxs = d0.ctxs.set c { x with run := .flight .unthread } ∧ d.tc = { s.dev.tc with profile := threading true })) ∧
    (s.dev.mayIssue c 0x95 = true → wModLow x.ir = 1 → s.dev.threaded = false → Finishes (.unthread c) s c St.ok none (fun d => d = d0))

/-- INSTRUCTION_FINISH finishes with S_OK: a GET whose sources on tape are delivered, on a port that may make requests and over a list walked far
enough, with the bytes delivered in gd, the data cursor moved on by them and its plan's bytes in host memory; a STAT with the size in gd and its
64-byte record written; a LOCATE that needs no tape; a COMPRESS whose frames all fit, with their length in gd and the frames in host memory; a THREAD
once the tape position is valid, having made the cartridge threaded; an unthreading, having made it unthreaded and the position invalid; a FENCE that
no earlier command of its handle holds back, with every instruction cache empty where it asked so; an ABORT whose target has been posted, with gd 1; a
KEY.ERASE whose slot is EMPTY and under no KEY.ERASE.NOW; a KEY.ERASE.NOW whose slot is EMPTY and none of whose commands is left, with their number. A
THREAD or unthreading that the transport fails ends with S_TRANSPORT_FAULT. INDEX_REBUILD on a writable path starts a rebuild with cause 3 and an
empty table, or, while one runs, is a C0 event; INDEX_REBUILD_DONE ends one, every object having its place again, and notes its time. -/
def Obligations.InstructionsFinish : Prop :=
  ∀ (c : Nat) (s : State), s.dev.working = true → s.dev.er.halted = false →
    let x := s.dev.ctxs.get c
    let fin (f : Flight) (out : Option W64) (P : Dev → Prop) : Prop := x.run = .flight f →
      Does (.instructionFinish c .done) s (fun d => ∃ d1 : Dev, d = (d1.finish c St.ok out 0 0).retarget ∧ P d1)
    let unread (d : Dev) : Prop := ∀ y ∈ d.idx.reads, y.ctx ≠ c
    (∀ r : ReadOp, r.resolved = true → r.opcode = 0x42 → r.tapeDone = true → s.dev.mayRequest c = true → s.dev.walked c (r.dest + r.delivered) = true →
      fin (.read r) (some (toW64 r.delivered)) (fun d => unread d ∧ (d.ctxs.get c).dc = x.dc + r.delivered ∧ d.mem c = (s.dev.deliverPlan c r).mem c)) ∧
    (∀ (r : ReadOp) l, r.resolved = true → r.opcode = 0x44 → s.dev.mayRequest c = true → (s.dev.layers x.vh r.obj r.stampAt).getLast? = some l →
      fin (.read r) (some (toW64 r.size)) (fun d => unread d ∧ d.mem c = writeBytes (s.dev.mem c) r.dest (s.dev.statRecord x.vh r l) ∧
        (s.dev.statRecord x.vh r l).length = 64)) ∧
    (∀ r : ReadOp, r.resolved = true → r.opcode = 0x53 → r.plan.any Source.onTape = false → fin (.read r) none unread) ∧
    (∀ cap size need taken bs raw, s.dev.compressRun c (blockCountOf need size) 0 cap = (bs, raw, .good) → s.dev.mayRequest c = true →
      bs.length ≤ (s.dev.outputWalk c).total → fin (.compress cap size need taken) (some (toW64 bs.length)) (fun d => (d.ctxs.get c).dc = x.dc + need ∧
        d.mem c = writeRanges (s.dev.mem c) (subRanges (s.dev.outputWalk c).ranges 0 bs.length) bs)) ∧
    (s.dev.tc.posValid = true → fin .thread none (fun d => d.vol.cart = s.dev.vol.cart.map (fun k => { k with threaded := true }))) ∧
    fin .unthread none (fun d => d.vol.cart = s.dev.vol.cart.map (fun k => { k with threaded := false }) ∧ d.tc.posValid = false) ∧
    (s.dev.fenceWaits c = false → ∀ inv t, fin (.fence inv t) none (fun d => inv = true → ∀ e, (d.engines.get e).lines = [])) ∧
    (∀ t, s.dev.cmd t = none → fin (.abortWait t) (some 1) (fun d => d = s.dev)) ∧
    (∀ n, s.dev.erasingNow n = false → fin (.erase n true) none (fun d => d = s.dev)) ∧
    (∀ n k, s.dev.revokedLeft = false → fin (.eraseNow n k true) (some (toW64 k)) (fun d => d = s.dev)) ∧
    (x.run = .flight .thread ∨ x.run = .flight .unthread →
      Finishes (.instructionFinish c (.failed St.transportFault)) s c St.transportFault none (fun d => d = s.dev)) ∧
    (∀ path, s.dev.writable path = true → s.dev.idx.rebuilding = false →
      Does (.indexRebuild path) s (fun d => d.idx = { s.dev.idx with rebuilding := true, saltInForce := s.dev.reg Reg.BP_IXSALT, table := [] } ∧
        d.w1f Reg.BP_IXCTL 0 30 28 = 3)) ∧
    (∀ path, s.dev.writable path = true → s.dev.idx.rebuilding = true →
      Does (.indexRebuild path) s (fun d => d.idx = s.dev.idx ∧ ∃ r, d.er.log.getLast? = some r ∧ r.cls = .c0)) ∧
    (∀ n, s.dev.idx.rebuilding = true →
      Does (.indexRebuildDone n) s (fun d => d.idx = { s.dev.idx.fill with rebuilding := false } ∧ d.w1f Reg.BP_IXTIME 0 15 0 = min n 65535 ∧
        ∀ o ∈ s.dev.idx.spine, d.idx.placed o.1 o.2.1 = true))

/-- For a command of the device's own ports that may make requests: a segment of the data list, and once that is walked of the output list, that reads
without fault becomes the context's walk and nothing else changes; one with a fault, or a read that the host completes with an error, ends the
instruction with S_PROGRAM_FAULT, gd 0 for a GET, COMPRESS or DECOMPRESS. Data that arrives for a unit that is not complete is appended to its FIFO: n
bytes, or as many as the unit lacks, the FIFO has room for and the list has described, from the host ranges at the data cursor; nothing else changes.
With no unit open and bytes wanted, the next unit begins in the lowest free FIFO of its port: of a DECOMPRESS without a buffer, of a write with a
galley buffer of its group, whose refusal ends the write with its status outside deepen mode. FIFO_DRAIN_START of a FIFO that holds its whole unit, or
the bytes of the cut it began with, starts its drain; where that unit is whole and the next of a write that compresses, its bytes go to the galley and
its block is ready for a lane. -/
def Obligations.IngestTakesHostData : Prop :=
  ∀ (c : Nat) (mem : HostWrites) (s : State), s.dev.working = true → s.dev.er.halted = false → s.dev.remoteOf c = none →
    let d0 := s.dev.placeFor c mem
    let x := s.dev.ctxs.get c
    let gd (f : Flight) : Option W64 := match f with
      | .write _ => none
      | _ => some 0
    let faults (i : Instr) (f : Flight) : Prop := Finishes i s c St.programFault (gd f) (fun d => (d.ctxs.get c).pc = x.pc)
    (∀ f, s.dev.mayRequest c = true → s.dev.flightOf c = some f → usesData f = true →
      (∀ v, (s.dev.dataWalk c).total < s.dev.dataLen c → takeSegment (d0.mem c) (s.dev.dataLen c) (s.dev.dataWalk c) = some v →
        Does (.pageRangeSegmentArrive c mem true) s (fun d => d = { d0 with ctxs := d0.ctxs.set c { x with walk := v } })) ∧
      ((s.dev.dataWalk c).total < s.dev.dataLen c → takeSegment (d0.mem c) (s.dev.dataLen c) (s.dev.dataWalk c) = none →
        faults (.pageRangeSegmentArrive c mem true) f) ∧
      ((s.dev.dataWalk c).total < s.dev.dataLen c → faults (.pageRangeSegmentArrive c mem false) f) ∧
      (∀ v, s.dev.dataLen c ≤ (s.dev.dataWalk c).total → usesOutput f = true → (s.dev.outputWalk c).total < x.gb.toNat →
        takeSegment (d0.mem c) x.gb.toNat (s.dev.outputWalk c) = some v →
        Does (.pageRangeSegmentArrive c mem true) s (fun d => d = { d0 with ctxs := d0.ctxs.set c { x with owalk := v } }))) ∧
    (∀ (i : Intake) (n : Nat), s.dev.mayRequest c = true → s.dev.intake c = some i → s.dev.lendWaits c = false →
      (∀ k f, s.dev.fillingOf c = some (k, f) → (∀ kf ∈ s.dev.fifosOf c, kf.2.draining = false) →
        let size := min i.unit (i.need - f.unit * i.unit)
        let pos := x.dc + s.dev.arrived c i
        let m := min (min (min n (size - f.bytes.length)) (65536 - f.bytes.length)) ((s.dev.dataWalk c).total - pos)
        let bs := readRanges (d0.mem c) (subRanges (s.dev.dataWalk c).ranges pos m)
        Does (.ingestDataArrive c n mem true) s (fun d =>
          d = { d0 with cm := { d0.cm with fifos := d0.cm.fifos.set k (some { f with bytes := f.bytes ++ bs, complete := decide (f.bytes.length + bs.length = size) }) } })) ∧
      (∀ k, s.dev.fifosOf c = [] → i.moved < i.need → s.dev.freeFifo (s.dev.portOfCtx c) = some k →
        let u := i.moved / i.unit
        let begun (d : Dev) : Prop := ∃ f : Fifo, d.cm.fifos.get k = some f ∧ f.ctx = c ∧ f.unit = u ∧ f.bytes.length ≤ n ∧ f.draining = false ∧
          f.cut = s.dev.cutBytes
        (∀ cap need taken got, s.dev.flightOf c = some (.decompress cap need taken got) →
          Does (.ingestDataArrive c n mem true) s (fun d => begun d ∧ d.ctxs = s.dev.ctxs ∧ d.idx = s.dev.idx)) ∧
        (∀ id w, s.dev.flightOf c = some (.write id) → s.dev.write id = some w →
          let g := d0.hostGrant (s.dev.reqOf c) (min i.unit (i.need - i.moved)) (s.dev.rf Reg.BP_CTL 26 26 == 1) (.ctx c)
          (∀ b, g.1 = .ok b → Does (.ingestDataArrive c n mem true) s (fun d => begun d ∧ d.ctxs = s.dev.ctxs ∧ d.pools = g.2.pools ∧
            d.write id = some { w with bufs := w.bufs ++ [(u, b)] })) ∧
          (∀ st, g.1 = .error st → s.dev.cs.modeInForce ≠ 1 → Finishes (.ingestDataArrive c n mem true) s c st none (fun d =>
            d.idx.writes.any (fun w => w.ctx == some c && w.commit.isNone) = false)))) ∧
      ∀ f, s.dev.flightOf c = some f → faults (.ingestDataArrive c n mem false) f) ∧
    (∀ (p : PortId) (f : Nat) (fi : Fifo) (i : Intake), f < 32 → s.dev.cm.fifos.get (32 * portNo p + f) = some fi → fi.ctx = c → fi.draining = false →
      s.dev.intake c = some i → s.dev.fifosOf c = [(32 * portNo p + f, fi)] →
      (fi.complete = false → fi.cut ≤ fi.bytes.length →
        Does (.fifoDrainStart p f) s (fun d =>
          d = { s.dev with cm := { s.dev.cm with fifos := s.dev.cm.fifos.set (32 * portNo p + f) (some { fi with draining := true }) } })) ∧
      (∀ id w, fi.complete = true → s.dev.flightOf c = some (.write id) → s.dev.write id = some w → w.byRequest = false → w.lentAt fi.unit = none →
        fi.unit * w.blockSize = w.data.length →
        Does (.fifoDrainStart p f) s (fun d => d.cm.fifos.get (32 * portNo p + f) = none ∧
          d.cm.blocks = s.dev.cm.blocks ++ [⟨some id, none, fi.unit, fi.bytes, .ready, none, none⟩] ∧ d.write id = some { w with data := w.data ++ fi.bytes })))

/-- A free lane in service takes the ready block that is next, with an output buffer, and only that block changes; the lane holds the buffer that the
block is cut from. A lane that ends its block with a frame of Table 6.2 not smaller, or gives up, leaves it raw with cause 0; a smaller frame goes at
once to the lowest idle lane of its verify island where restore work does not wait there. A pass of a frame that R128 passes gives the block its frame
as outcome; a mismatch on a write's block, with no error pending, gives it its own bytes raw with cause 1, and on a block of COMPRESS finishes the
instruction with S_VERIFY_FAIL and gd 0. An outcome that takes the frames of a COMPRESS past its output fails that instruction with S_OUTPUT_FULL. Of
the versions with blocks to pass on, that of the earliest commit passes on its block of the lowest index, once that has its outcome. -/
def Obligations.BlocksAreCompressedAndVerified : Prop :=
  ∀ (s : State), s.dev.working = true → s.dev.er.halted = false →
    let same (a b : Block) : Prop := a.write = b.write ∧ a.ctx = b.ctx ∧ a.k = b.k
    let ends (d : Dev) (b : Block) (st : BlockSt) : Prop := (∀ y ∈ d.cm.blocks, same y b → y.st = st) ∧ ∃ y ∈ d.cm.blocks, same y b
    let outcome (d : Dev) (b : Block) (st : BlockSt) : Prop :=
      ends d b st ∨ ∃ (c : Nat) (d1 : Dev), b.ctx = some c ∧ d = d1.failOutput c St.outputFull ∧ ends d1 b st
    (∀ lane b k d1, lane < 32 → s.dev.isFenced ⟨9, lane⟩ = false → (∀ y ∈ s.dev.cm.blocks, y.compLane ≠ some lane) → s.dev.nextBlock = some b →
      s.dev.blockRoom b = true → s.dev.frameBuf b = (some k, d1) →
      Does (.compressBlockStart lane) s (fun d => ends d b (.compressing lane) ∧
        d.cm.blocks.map (fun y => (y.write, y.ctx, y.k, y.data)) = s.dev.cm.blocks.map (fun y => (y.write, y.ctx, y.k, y.data)) ∧
        (∀ y ∈ d.cm.blocks, same y b → y.out = some k) ∧ (∀ y ∈ d.cm.blocks, ¬ same y b → y ∈ s.dev.cm.blocks) ∧
        ∀ j q, s.dev.sourceOf b = some j → d1.pools.bufs.get j = some q → d.holdsBuf j (.unit .compressor) = true)) ∧
    (∀ lane b, s.dev.cm.blocks.find? (fun b => b.compLane == some lane) = some b →
      Does (.blockCompressed lane .notSmaller) s (fun d => outcome d b (.outcome b.data true 0)) ∧
      (∀ f, frameForm f b.data.length = true → b.data.length ≤ f.length →
        Does (.blockCompressed lane (.frame f)) s (fun d => outcome d b (.outcome b.data true 0))) ∧
      (∀ f i v, frameForm f b.data.length = true → f.length < b.data.length → s.dev.verifyIsland (lane / 8) = some i → s.dev.restoreWaits i = false →
        s.dev.idleLane i = some v → s.dev.blockRoom b = true → (∀ y ∈ s.dev.cm.blocks, same y b → y = b) →
        Does (.blockCompressed lane (.frame f)) s (fun d => ends d b (.verifying lane v f)))) ∧
    (∀ lane b l v f, s.dev.cm.blocks.find? (fun b => b.decLane == some lane) = some b → b.st = .verifying l v f →
      (verifyPasses f b.data = true → Does (.verifyVerdict lane .pass) s (fun d => outcome d b (.outcome f false 0))) ∧
      (∀ off, b.ctx = none → s.dev.er.pend = [] →
        Does (.verifyVerdict lane (.mismatch off)) s (fun d => ends d b (.outcome b.data true 1) ∧ d.w1f Reg.CM_VFAIL 0 31 31 = 1)) ∧
      (∀ off c, b.ctx = some c → (s.dev.flightOf c).isSome = true →
        Finishes (.verifyVerdict lane (.mismatch off)) s c St.verifyFail (some 0) (fun d => d.w1f Reg.CM_VFAIL 0 31 31 = 1))) ∧
    (∀ w t b body raw cause, w ∈ s.dev.idx.writes → s.dev.toPass w = true → w.commit = some t →
      (∀ v ∈ s.dev.idx.writes, s.dev.toPass v = true → v = w ∨ ∃ u, v.commit = some u ∧ t.lt u = true ∧ u.lt t = false) →
      b ∈ s.dev.cm.blocks → b.write = some w.id → b.st = .outcome body raw cause →
      (∀ y ∈ s.dev.cm.blocks, y.write = some w.id → y.gone = false → y = b ∨ b.k < y.k) →
      Does .blockReleaseToCipher s (fun d => d = { s.dev with cm := { s.dev.cm with blocks := d.cm.blocks } } ∧ ends d b (.passed body raw cause)))

/-- For every key, every record of 1 to 65,535 blocks whose plaintext is 56 to 16,777,136 bytes and a multiple of 8, and every session and adopted
flag: the sealed record is the 64-byte header, as many bytes of ciphertext as the plaintext has, and a 16-byte tag; its header passes the checks of a
restore and names the record's key ID; and opening it under the same key gives its plaintext back. -/
def Obligations.SealedRecordOpens : Prop :=
  ∀ (key : BitVec 256) (r : Rec) (sess : Nat) (adopted : Bool),
    let body := sealBytes key (r.header sess adopted) r.plain
    body.length = 80 + r.plain.length ∧ openBytes key body = some r.plain ∧
    (1 ≤ r.blocks.length → r.blocks.length < 65536 → r.plain.length % 8 = 0 → 56 ≤ r.plain.length → r.plain.length ≤ 16777136 →
      headerOk (body.take 64) = true ∧ 80 + beNat (sliceBytes body 8 4) = body.length ∧ beNat (sliceBytes body 16 8) = r.keyId.toNat ∧
      beNat (sliceBytes body 24 4) = r.pfx.toNat)

/-- The next block passed on joins the open record of its slot where its envelope fits: the record's plaintext ends with the envelope and body, and
the block is no longer in the compression complex; with no record open for its slot, fewer than 16 open and a buffer granted, it is the first block of
a new one. RECORD_IDLE_CLOSE of a slot with an open record, the idle time not 0, closes it with the slot's prefix and counter as its IV, and the
slot's counter is one more. RECORD_TAG_DONE gives the record of its pipeline the body sealed under the slot's key. A write of CX_IVLCTL with an
aligned base and size code 6 or more, which enables the log, sets the register and both indices to 0; with another base or size it changes no register
and is a C0 event. -/
def Obligations.RecordsAreSealed : Prop :=
  ∀ (s : State), s.dev.working = true →
    (∀ w b r body raw cause, s.dev.er.halted = false → s.dev.nextJoin = some w → s.dev.blocksOf w.id = [b] → b.st = .passed body raw cause →
      s.dev.openRec w.slot = some r → s.dev.dividers = [] →
      let env := envelope w b.k b.data.length body raw cause s.dev.session s.dev.clk.adopted
      r.plain.length + env.length ≤ s.dev.recLimit →
      Does .blockJoinRecord s (fun d => d.blocksOf w.id = [] ∧
        d.cx.recs = s.dev.cx.recs.map (fun y => if y.id = r.id then
          { y with blocks := y.blocks ++ [(w.id, b.k, y.plain.length)], plain := y.plain ++ env, joinedAt := s.dev.clk.now } else y))) ∧
    (∀ w b r d1 body raw cause, s.dev.er.halted = false → s.dev.nextJoin = some w → s.dev.blocksOf w.id = [b] → b.st = .passed body raw cause →
      s.dev.openRec w.slot = none → s.dev.dividers = [] → (s.dev.cx.recs.filter (fun r => r.st == .open)).length < 16 →
      (∀ y ∈ s.dev.cx.recs, y.id ≠ s.dev.cx.nextRec) →
      let env := envelope w b.k b.data.length body raw cause s.dev.session s.dev.clk.adopted
      s.dev.newRec w env.length = (some r, d1) →
      Does .blockJoinRecord s (fun d => d.blocksOf w.id = [] ∧ d.cx.nextRec = s.dev.cx.nextRec + 1 ∧ r.slot = w.slot ∧ r.keyId = w.keyId ∧
        d.cx.recs = s.dev.cx.recs ++ [{ r with blocks := [(w.id, b.k, 0)], plain := env }])) ∧
    (∀ slot r, s.dev.er.halted = false → s.dev.openRec slot = some r → s.dev.rf Reg.CX_CTL 7 0 ≠ 0 →
      Does (.recordIdleClose slot) s (fun d =>
        (∀ y ∈ d.cx.recs, y.id = r.id → y.st ≠ .open ∧ y.pfx = (s.dev.cx.slots.get r.slot).pfx ∧ y.counter = (s.dev.cx.slots.get r.slot).counter) ∧
        d.cx.slots = s.dev.cx.slots.modify r.slot (fun x => { x with counter := x.counter + 1 }) ∧ d.cx.recs.length = s.dev.cx.recs.length)) ∧
    (∀ pipe r, s.dev.cx.recs.find? (fun r => r.st == .inPipe pipe) = some r →
      Does (.recordTagDone pipe) s (fun d => d.cx.recs.length = s.dev.cx.recs.length ∧ ∀ y ∈ d.cx.recs, y.id = r.id →
        y.st = .tagged ∧ y.body = sealBytes (s.dev.cx.slots.get r.slot).key (r.header s.dev.session s.dev.clk.adopted) r.plain)) ∧
    (∀ path v, s.dev.writable path = true → bitOf v 31 = true → fieldOf (s.dev.reg Reg.CX_IVLBASE_LO) 11 0 = 0 → 6 ≤ fieldOf v 3 0 →
      s.dev.rf Reg.CX_IVLCTL 31 31 = 0 →
      Does (.ivLogEnable path v) s (fun d => d.reg Reg.CX_IVLCTL = v &&& 0xC000000F ∧ d.reg Reg.CX_IVLHEAD = 0 ∧ d.w1f Reg.CX_IVLTAIL 0 14 0 = 0 ∧
        d = { s.dev with regs := d.regs, w1c := d.w1c })) ∧
    (∀ path v, s.dev.writable path = true → bitOf v 31 = true → fieldOf (s.dev.reg Reg.CX_IVLBASE_LO) 11 0 ≠ 0 ∨ fieldOf v 3 0 < 6 →
      Does (.ivLogEnable path v) s (fun d => d.regs = s.dev.regs ∧ ∃ r, d.er.log.getLast? = some r ∧ r.cls = .c0))

/-- For a GET under way: the check of a record on its plan whose header is legal, whose key ID is the slot's and whose tag holds adds its wanted
blocks, those decoded ahead of the tag aside, to those to decode; a header that is not legal ends the GET with S_AUTH_FAILED, another key ID with
S_KEY_MISMATCH, and a tag that fails with S_AUTH_FAILED, gd 0 each time. A block whose place in the list is walked and whose lane has its buffer is
delivered to the destination where R134 accepts it, and is done; ahead of the tag it is noted as delivered; one that fails waits for its retry on
another island. A retry that passes, with no error pending, delivers the block; a second failure ends the GET with S_FRAME_INVALID and gd 0. -/
def Obligations.GetChecksAndDecodes : Prop :=
  ∀ (c k : Nat) (s : State) (r : ReadOp), s.dev.working = true → s.dev.er.halted = false → (s.dev.ctxs.get c).run = .flight (.read r) → r.opcode = 0x42 →
    let reads (d : Dev) (r2 : ReadOp) : Prop := (d.ctxs.get c).run = .flight (.read r2)
    let passed (b : BlockAt) : ReadOp :=
      { r with rawSeen := r.rawSeen || b.raw, todo := r.todo.filter (fun y => decide (y ≠ k)), retry := r.retry.filter (fun y => decide (y.1 ≠ k)) }
    (∀ e off len h, r.extent k = some (e, off, len) → r.recsOk.contains k = false → s.dev.restored e.recOff 64 = some h →
      (∀ body, headerOk h = true → toW64 (beNat (sliceBytes h 16 8)) = (s.dev.slot r.slot).keyId → s.dev.recordAt e.recOff = some body →
        ((openBytes (s.dev.slot r.slot).key body).isSome = true →
          Does (.restoreRecordCheck c k true) s (fun d => d.vol = s.dev.vol ∧ d.idx = s.dev.idx ∧
            reads d { r with recsOk := r.recsOk ++ [k], todo := r.todo ++ (s.dev.blocksWanted r k).filter (fun j => !r.ahead.contains j) })) ∧
        Finishes (.restoreRecordCheck c k false) s c St.authFailed (some 0) (fun d => ∀ y ∈ d.idx.reads, y.ctx ≠ c)) ∧
      (headerOk h = false → ∀ ok, Finishes (.restoreRecordCheck c k ok) s c St.authFailed (some 0) (fun d => ∀ y ∈ d.idx.reads, y.ctx ≠ c)) ∧
      (headerOk h = true → toW64 (beNat (sliceBytes h 16 8)) ≠ (s.dev.slot r.slot).keyId → ∀ ok,
        Finishes (.restoreRecordCheck c k ok) s c St.keyMismatch (some 0) (fun d => ∀ y ∈ d.idx.reads, y.ctx ≠ c))) ∧
    (∀ lane key d1, s.dev.mayRequest c = true →
      (∀ e off len b, r.todo.contains k = true → s.dev.restoreLane = some lane → s.dev.readBlock r k = some (e, off, len, b) →
        s.dev.placeWalked c r off len b = true → s.dev.laneBuf c k b = (some key, d1) →
        (b.ok e.obj = true → Does (.restoreBlockDecode c k lane true) s (fun d => d.mem c = (s.dev.deliver c r off len b).mem c ∧ reads d (passed b))) ∧
        Does (.restoreBlockDecode c k lane false) s (fun d => d.mem c = s.dev.mem c ∧
          reads d { r with retry := r.retry ++ [(k, lane)], todo := r.todo.filter (fun y => decide (y ≠ k)) })) ∧
      (∀ off len b, r.todo.contains k = false → s.dev.restoreLane = some lane → s.dev.blockAhead r k = some (off, len, b) →
        s.dev.placeWalked c r off len b = true → s.dev.laneBuf c k b = (some key, d1) →
        Does (.restoreBlockDecode c k lane true) s (fun d => d.mem c = (s.dev.deliver c r off len b).mem c ∧ reads d { passed b with ahead := r.ahead ++ [k] })) ∧
      (∀ first e off len b, r.retry.find? (fun y => y.1 == k) = some (k, first) → s.dev.retryLane first = some lane →
        s.dev.readBlock r k = some (e, off, len, b) → s.dev.placeWalked c r off len b = true → s.dev.laneBuf c k b = (some key, d1) →
        (b.ok e.obj = true → s.dev.er.pend = [] →
          Does (.restoreBlockRetry c k lane true) s (fun d => d.mem c = (s.dev.deliver c r off len b).mem c ∧ reads d (passed b))) ∧
        Does (.restoreBlockRetry c k lane false) s (fun d => ∃ (d2 : Dev) (a b : W64), d = ((d2.finish c St.frameInvalid (some 0) a b).giveBack key).feedVerify ∧
          ∀ y ∈ d2.idx.reads, y.ctx ≠ c)))

/-- Where no close is due, no open record has to close for a waiting FLUSH, and the earliest closed record r is sealed and not yet begun: if the open
data forme takes it whole and is not full by it, the forme's payload grows by the sealed record, the record stream is longer by its length, the record
leaves the cipher complex (kept for the IV log where its IV is not logged yet) and its extents wait for the next checkpoint. If it does not fit, the
forme takes what fills it to 191,488 bytes and is assembled, where its buffer is granted and the group does not become full by it, as the next folio,
a data forme at its stream offset in that buffer and the next member of its group, whose accumulator its symbols are added to; the open forme is then
empty. -/
def Obligations.RecordStreamFillsFormes : Prop :=
  ∀ (s : State) (v : Volume) (r : Rec), s.dev.working = true → s.dev.er.halted = false → s.dev.vol.loaded = some v → s.dev.nextClose = none →
    s.dev.sealRecords = s.dev → s.dev.nextRecord = some r → r.st = .tagged →
    let p := s.dev.fm.openPayload
    (p.length + r.body.length < 191488 →
      Does .formeAssemble s (fun d => d.fm.openPayload = p ++ r.body ∧ d.cx.recs = s.dev.cx.recs.filter (fun q => decide (q.id ≠ r.id)) ∧
        d.cx.unlogged = (if r.logged then s.dev.cx.unlogged else s.dev.cx.unlogged ++ [r]) ∧
        d.fm.held = s.dev.fm.held ∧ (∃ w, d.vol.loaded = some w ∧ w.recordLen = v.recordLen + r.body.length ∧ w.nextFolio = v.nextFolio ∧
          w.fresh = v.fresh ++ s.dev.extentsOf r v.recordLen))) ∧
    (∀ k d1, p.length < 191488 → 191488 < p.length + r.body.length → s.dev.dataMember = false →
      s.dev.grab .forme [0] 192000 [.unit .forme, .unit .encoder, .unit .rewrite] = (some k, d1) →
      (∀ g, s.dev.fm.group = some g → g.members.length + 1 < g.size) →
      let whole := p ++ r.body.take (191488 - p.length)
      let base := (s.dev.fm.group.map (fun g => g.base)).getD v.nextFolio
      let member := (s.dev.fm.group.map (fun g => g.members.length)).getD 0
      Does .formeAssemble s (fun d => d.fm.openPayload = [] ∧
        (∃ f, d.fm.held = s.dev.fm.held ++ [f] ∧ f.folio = v.nextFolio ∧ f.kind = .data ∧ f.payload = whole ∧ f.buf = some k ∧
          f.streamOff = v.recordLen - p.length ∧ f.accepted = none ∧ f.queued = true ∧ f.groupBase = base ∧ f.member = member) ∧
        (∃ w, d.vol.loaded = some w ∧ w.nextFolio = v.nextFolio + 1 ∧ w.nativeUsed = v.nativeUsed + 191488 ∧
          w.recordLen = v.recordLen + (191488 - p.length)) ∧
        ∃ g, d.fm.group = some g ∧ g.base = base ∧ g.members.getLast? = some v.nextFolio ∧
          g.acc = l3Add ((s.dev.fm.group.map (fun g => g.acc)).getD []) member (memberSpan whole)))

/-- In a streaming run with no colophon attempt, at a position of the sheaf, FORME_POSITION_SEND goes on to the next position and appends copies at
the present sheaf and position whose slots are, in some order, exactly the slots in service and the disabled ones, each once; those of the disabled
slots are fillers; and the tape of a present cartridge then holds each of them, its folio at its place. -/
def Obligations.EverySlotOfAPositionIsFilled : Prop :=
  ∀ (s : State), s.dev.working = true → s.dev.sh.run = .streaming → s.dev.sh.colophon = none → s.dev.sh.pos < s.dev.positions →
    Does .formePositionSend s (fun d => d.sh.pos = s.dev.sh.pos + 1 ∧ d.sh.run = .streaming ∧ d.sh.sheaf = s.dev.sh.sheaf ∧
      ∃ new : List Copy, d.sh.copies = s.dev.sh.copies ++ new ∧ List.Perm (new.map (fun k => k.slot)) (s.dev.sh.slots ++ s.dev.sh.slotsOff) ∧
        (∀ k ∈ new, k.sheaf = s.dev.sh.sheaf ∧ k.position = s.dev.sh.pos ∧ k.rows = [] ∧ k.bad = false) ∧
        (∀ k ∈ new, k.slot ∈ s.dev.sh.slotsOff → k.filler = true) ∧
        ∀ c, d.vol.cart = some c → s.dev.sh.slotsOff.Nodup → ∀ k ∈ new, ∃ o ∈ c.formes, o.sheaf = k.sheaf ∧ o.position = k.position ∧ o.slot = k.slot ∧
          o.forme.folio = k.folio)

/-- A wanted run that can start is starting at the step wanted, splice_gap positions on from the last one written, with the configured proof lag; with
the head locked on the sheaf its start motion runs, otherwise the head seeks it. A measured lag within 1 of it counts as it, one within 8 is taken
with a C1 event, and one beyond or none, with no error pending, stops the run with the lag as it was. STEP_EVAL of a run that streams with no profile
running takes the wanted step at once when higher, one step down when the fill is low and step_hold evaluations have asked for it, else keeps it.
RUN_IDLE_STOP and END_RUN take a streaming run to stopping with λ positions to go. RESUME of a halted run, where no track becomes persistent and not
every slot is so, turns to the next sheaf, the halted folio first among those carried over; in a read turn it waits. SHEAF_TURN before sheaf 159,
likewise, turns to the next, carrying over what could not be placed; after it writing is full where a held forme is not accepted, and else idle.
READ_TURN_END with nothing waiting leaves no read turn. -/
def Obligations.WriteRunsStartAndStop : Prop :=
  ∀ (s : State), s.dev.working = true → s.dev.tc.movingFor = none →
    let x := s.dev.sh
    let steady := (∀ n < 128, (x.tracks.get n).retired = true → (x.tracks.get n).persistent = true ∨
      (x.tracks.get n).sheaves + 1 < max 1 (s.dev.rf Reg.SH_TRKCFG 19 16)) ∧ x.persistentSlots.length < 8
    (s.dev.er.halted = false → s.dev.runWanted = true → s.dev.runReady = true →
      Does .writeRunStart s (fun d => d.sh.run = .starting ∧ d.sh.step = s.dev.wantStep ∧ d.sh.lag = s.dev.lagSet ∧ d.sh.sheaf = x.sheaf ∧
        d.sh.pos = min (if x.pos = 0 then 0 else x.pos + s.dev.spliceGap - 1) s.dev.positions ∧
        (if s.dev.headOn x.sheaf then d.tc.profile.kind = 2 ∧ d.tc.profile.asker = .runStart else d.tc.seeking = true ∧ d.tc.headSheaf = x.sheaf))) ∧
    (x.run = .streaming → (∀ m, m ≤ s.dev.lagSet + 1 → s.dev.lagSet ≤ m + 1 →
        exec (.proofLagMeasure (some m)) s = .next ⟨{ s.dev with sh := { x with lag := s.dev.lagSet } }, s.pending⟩) ∧
      (∀ m, (s.dev.lagSet + 1 < m ∧ m ≤ s.dev.lagSet + 8) ∨ (m + 1 < s.dev.lagSet ∧ s.dev.lagSet ≤ m + 8) →
        Does (.proofLagMeasure (some m)) s (fun d => d.sh = { x with lag := m } ∧ ∃ r, d.er.log.getLast? = some r ∧ r.cls = .c1 ∧ r.category = 7)) ∧
      (∀ m, m + 8 < s.dev.lagSet ∨ s.dev.lagSet + 8 < m → s.dev.er.pend = [] →
        Does (.proofLagMeasure (some m)) s (fun d => d.sh.run = .idle ∧ d.sh.lag = x.lag)) ∧
      (s.dev.er.pend = [] → Does (.proofLagMeasure none) s (fun d => d.sh.run = .idle ∧ d.sh.lag = x.lag))) ∧
    (s.dev.vol.st = .opened → x.run = .streaming → s.dev.tc.profile.kind = 0 →
      let d1 := ((s.dev.advanceBy (s.dev.periodMs * msTicks)).stamp 3).2.updateAverages
      Does .stepEval s (fun d => d.sh.step = (if x.step < d1.wantStep then d1.wantStep
        else if d1.wantStep < x.step ∧ d1.fill ≤ d1.fillAt 1 ∧ d1.stepHold ≤ x.down + 1 then x.step - 1 else x.step) ∧ d.sh.rIn = d1.sh.rIn ∧ d.sh.inBytes = 0)) ∧
    (x.run = .streaming → s.dev.rf Reg.SH_RUNCFG 31 24 ≠ 0 → x.step = s.dev.stepMin → s.dev.fill = 0 → s.dev.fm.held = [] → x.due = [] →
      exec .runIdleStop s = .next ⟨{ s.dev with sh := { x with run := .stopping, tail := x.lag } }, s.pending⟩) ∧
    (∀ path, s.dev.writable path = true → x.run = .streaming → Does (.endRun path) s (fun d => d.sh = { x with run := .stopping, tail := x.lag })) ∧
    (∀ path, s.dev.writable path = true → x.run = .halted → s.dev.vol.loaded.isSome = true →
      (x.readTurn = true → Does (.resume path) s (fun d => d.sh = { x with resumeDue := true })) ∧
      (x.readTurn = false → x.sheaf < 159 → steady →
        Does (.resume path) s (fun d => d.sh.sheaf = x.sheaf + 1 ∧ d.sh.pos = 0 ∧ d.sh.haltFolio = none ∧ d.sh.due = [] ∧ d.sh.deferred = [] ∧
          d.sh.run = (if s.dev.runReady then .turning else .idle) ∧ d.sh.carry = x.carried ∧ ∀ f, x.haltFolio = some f → d.sh.carry.head? = some f))) ∧
    (x.run = .streaming ∨ x.run = .stopping → s.dev.positions ≤ x.pos → (∀ k ∈ x.copies, k.filler = true) → s.dev.vol.loaded.isSome = true →
      (x.sheaf < 159 → steady → Does .sheafTurn s (fun d => d.sh.sheaf = x.sheaf + 1 ∧ d.sh.pos = 0 ∧ d.sh.run = .turning ∧ d.sh.copies = [] ∧
        d.sh.due = [] ∧ d.sh.deferred = [] ∧ d.sh.carry = x.carried)) ∧
      (159 ≤ x.sheaf → s.dev.opening = [] →
        Does .sheafTurn s (fun d => d.sh.run = (if s.dev.fm.held.any (fun f => f.accepted.isNone) then .full else .idle)))) ∧
    (x.readTurn = true → x.resumeDue = false → x.turnReads = [] → x.waitTape = [] →
      Does .readTurnEnd s (fun d => d.sh.readTurn = false ∧ d.sh.turnReads = [] ∧ d.sh.waitTape = []))

/-- The result of a row of a copy that is new for it is entered; the copy is bad from then on unless the frame at the sync mark found in the symbols
of the row's track passes (its identifier valid for the row, rewrite and folio, its row decoding within max_corr), where the track stays within its
limit of failures; the track's symbols up to the frame's end are gone. Once all 176 rows of a copy are in, its verdict takes it off the list; a good
copy that is no filler is its forme's accepted copy, with its sheaf, position and slot; a bad one of a forme that has had fewer than max_copies is due
for a rewrite λ + 1 positions after its own; one of a forme that has had as many waits for the next sheaf, where this is not the last of max_sheaves
in a row. -/
def Obligations.ProofJudgesCopies : Prop :=
  ∀ (copy : Nat) (s : State) (k : Copy), s.dev.working = true → s.dev.sh.copies.find? (fun k => k.id == copy) = some k →
    (∀ (row : Nat) (mark : Option Nat), row < 176 → k.rows.contains row = false →
      let n := trackOf k.slot row
      let ok := mark.any (fun p => rowPasses (rowFrameAt (s.dev.trackSymbols n) p) s.dev.maxCorr row k.rewrite k.folio)
      (ok = true ∨ (s.dev.sh.tracks.get n).fails.length < s.dev.rf Reg.SH_TRKCFG 15 0) →
      Does (.proofRowResult copy row mark) s (fun d => d.sh.copies = s.dev.sh.copies.map (fun c =>
        if c.id = copy then { c with rows := c.rows ++ [row], bad := c.bad || !ok } else c) ∧ d.fm = s.dev.fm ∧ d.vol = s.dev.vol ∧
        ∀ p, mark = some p → d.trackSymbols n = (s.dev.trackSymbols n).drop (p + 1016))) ∧
    (176 ≤ k.rows.length → k.filler = false → s.dev.sh.colophon = none → s.dev.sh.run = .streaming →
      (k.bad = false → s.dev.flightsThat Flight.waitsTape = [] → s.dev.hk.drain = false →
        Does (.proofVerdict copy) s (fun d => d.sh.copies = s.dev.sh.copies.filter (fun c => decide (c.id ≠ copy)) ∧
          ∀ f ∈ d.fm.held, f.folio = k.folio → f.accepted = some (k.sheaf, k.position, k.slot))) ∧
      (∀ f, k.bad = true → s.dev.fm.held.find? (fun f => f.folio == k.folio) = some f →
        (f.copies < s.dev.maxCopies →
          Does (.proofVerdict copy) s (fun d => d.sh.copies = s.dev.sh.copies.filter (fun c => decide (c.id ≠ copy)) ∧
            d.sh.due = s.dev.sh.due ++ [⟨k.folio, k.position, k.slot, k.position + s.dev.sh.lag + 1⟩] ∧ d.fm = s.dev.fm ∧ d.vol = s.dev.vol)) ∧
        (s.dev.maxCopies ≤ f.copies → f.fullRow s.dev.sh.sheaf < s.dev.maxSheaves →
          Does (.proofVerdict copy) s (fun d => d.sh.copies = s.dev.sh.copies.filter (fun c => decide (c.id ≠ copy)) ∧ d.sh.due = s.dev.sh.due ∧
            d.sh.deferred = s.dev.sh.deferred ++ [k.folio] ∧ d.vol = s.dev.vol))))

/-- A copy under the head whose frames decode to an accepted data, directory or parity forme of the loaded volume, its folio not yet decoded, is held
for the reads of a read turn where a buffer is granted, and kept by a LOAD that reads its tape; one that is lost or refused changes neither, and a
refused one is counted. A group whose one lost member L3 rebuilds is held with it. One that cannot be recovered is read again at step 7, twice; after
that, with no read that needs it, a C2 record of category 0x08 says so. CARTRIDGE_PRESENT in EMPTY, with presence and door active, makes the state
PRESENT. CARTRIDGE_LOSS of a present cartridge whose presence is inactive leaves the state EMPTY, no cartridge, no volume and no write of that volume.
-/
def Obligations.TapeGivesFormesBack : Prop :=
  ∀ (s : State), s.dev.working = true → s.dev.tc.movingFor = none →
    (∀ sheaf pos slot marks, s.dev.sh.readTurn = true ∨ s.dev.loading = true → s.dev.tc.headSheaf = sheaf → s.dev.tapeHolds sheaf pos slot = true →
      let seen := readCopy (s.dev.framesOn slot marks)
      let same := Does (.formeDecode sheaf pos slot marks) s (fun d => d.vol = s.dev.vol ∧
        d.cnts.get (cntKey 0x50 0 9) = (s.dev.cnts.get (cntKey 0x50 0 9) + b2n (seen == .refused)) % 2 ^ 64)
      (s.dev.cnts.get (cntKey 0x50 0 9) < 2 ^ 64 → seen = .lost ∨ seen = .refused → same) ∧
      (∀ o : OnTape, seen = .accepted o → o.forme.kind ≠ .filler → o.forme.kind ≠ .colophon →
        (∀ k d1, s.dev.sh.readTurn = true → (∃ v, s.dev.vol.loaded = some v ∧ v.volumeId = o.volumeId) →
          (∀ y ∈ s.dev.vol.decoded, y.folio ≠ o.forme.folio) → s.dev.grab .restore [o.forme.folio] 192000 [.unit .restore, .unit .cipher] = (some k, d1) →
          Does (.formeDecode sheaf pos slot marks) s (fun d => d.vol.decoded = s.dev.vol.decoded ++ [{ o.forme with buf := some k }])) ∧
        (s.dev.sh.readTurn = false → (∀ y ∈ s.dev.vol.scan, y.forme.folio ≠ o.forme.folio) →
          Does (.formeDecode sheaf pos slot marks) s (fun d => d.vol.scan = s.dev.vol.scan ++ [o] ∧ d.vol.decoded = s.dev.vol.decoded)))) ∧
    (∀ base, s.dev.sh.readTurn = true →
      let fs := groupOf s.dev.vol.decoded base
      lostFolios base (s.dev.groupSpan base fs) fs ≠ [] →
      (∀ f k d1 ok others, l3Rebuild fs = some [f] → s.dev.grab .restore [f.folio] 192000 [.unit .restore, .unit .cipher] = (some k, d1) →
        Does (.l3RecoveryDone base ok others) s (fun d => d.vol.decoded = s.dev.vol.decoded ++ [{ f with buf := some k }])) ∧
      (l3Rebuild fs = none →
        (s.dev.vol.rereads.get base < 2 → s.dev.tc.st = .run →
          Does (.l3RecoveryDone base false []) s (fun d => d.vol.decoded = s.dev.vol.decoded ∧ d.vol.rereads.get base = s.dev.vol.rereads.get base + 1 ∧
            d.tc.profile.kind = 1 ∧ d.tc.profile.step = 7)) ∧
        (2 ≤ s.dev.vol.rereads.get base → s.dev.flightsThat (fun f => match f with
            | .read _ => true
            | _ => false) = [] →
          Does (.l3RecoveryDone base false []) s (fun d => d.vol.decoded = s.dev.vol.decoded ∧
            ∃ r, d.er.log.getLast? = some r ∧ r.cls = .c2 ∧ r.category = 8)))) ∧
    (s.dev.vol.st = .empty → (s.dev.tc.din.get 0).active = true → (s.dev.tc.din.get 1).active = true →
      Does .cartridgePresent s (fun d => d.vol.st = .present ∧ d.vol.cart.isSome = true ∧ (∀ k, s.dev.vol.cart = some k → d.vol.cart = some k) ∧
        d.vol.loaded = s.dev.vol.loaded)) ∧
    (s.dev.vol.st ≠ .empty → (s.dev.tc.din.get 0).active = false →
      Does .cartridgeLoss s (fun d => d.vol.st = .empty ∧ d.vol.cart = none ∧ d.vol.formatting = false ∧
        (∀ v, s.dev.vol.loaded = some v → s.dev.opening = [] → d.vol.loaded = none ∧ ∀ w ∈ d.idx.writes, w.vh ≠ v.handle)))

/-- A write of HL_CTL that changes the enables takes disabled links whose bit is 1 to DETECT and every link whose bit is 0 to DISABLED, leaving the
other states. A retry of a FAILED link takes it to DETECT with no attempts. Signal takes DETECT or REPAIR to ADAPT, adaptation ADAPT to ALIGN, lock
ALIGN to CONFIG with a comparison of the epoch recorded at its loss and a LINK block sent, and only that link changes. A LINK block of version 1,
eight channels, the link's own number and a FIFO of 4,096 symbols or more takes CONFIG to ACTIVE, stale where the epochs differed, its first command
RESET then; a wrong version is a C3 error and leaves it FAILED. A training attempt that times out goes back to DETECT, and counts after a loss, up to
repair_max, which leaves it FAILED. The ready deadline records a C2 error and leaves every link as it is. -/
def Obligations.LinksTrain : Prop :=
  ∀ (t : Nat) (s : State), s.dev.working = true → t < 16 →
    let l := s.dev.links.get t
    let becomes (i : Instr) (f : Link → Link) : Prop := Does i s (fun d => d.links = s.dev.links.modify t f ∧
      d = { s.dev with clk := d.clk, draws := d.draws, w1c := d.w1c, links := d.links })
    (∀ path v, s.dev.writable path = true → s.dev.fu.loadDone = true → s.dev.locked Reg.HL_CTL = false → fieldOf v 30 16 = 0 →
      fieldOf (s.dev.reg Reg.HL_CTL) 15 0 ≠ fieldOf v 15 0 →
      Does (.linkEnable path v) s (fun d => ∀ k, k < 16 → (d.links.get k).st =
        (if bitOf v k then (if (s.dev.links.get k).st = .disabled then .detect else (s.dev.links.get k).st) else .disabled))) ∧
    (∀ path, s.dev.writable path = true → s.dev.fu.loadDone = true → l.st = .failed →
      Does (.linkRetry path t) s (fun d => d.links.get t = { l with st := .detect, fromRepair := false, attempts := 0 })) ∧
    (l.st = .detect ∨ l.st = .repair → becomes (.linkSignalDetect t) (fun l => { l with st := .adapt })) ∧
    (l.st = .adapt → becomes (.linkAdaptDone t) (fun l => { l with st := .align })) ∧
    (l.st = .align → becomes (.linkAlignLock t) (fun l =>
      { l with st := .config, kept := l.epochAt.map (fun e => e == s.dev.er.epoch), ctl := l.ctl ++ [linkBlock t] })) ∧
    (∀ blk : BitVec 256, l.st = .config → ctlOk blk 0x78 = true →
      (fieldOf blk 15 8 = 1 → fieldOf blk 71 64 = 8 → fieldOf blk 31 24 = t → 4096 ≤ fieldOf blk 79 72 * 512 →
        Does (.link t blk) s (fun d => let m := d.links.get t
          m.st = .active ∧ m.partner.toNat = fieldOf blk 47 32 ∧ m.stale = (l.stale || l.kept == some false) ∧ m.armed = 0 ∧ m.kept = none ∧
          (l.kept = none → m.sent = none ∧ m.queue = []) ∧ (l.kept = some true → m.sent = some (currentCmd (s.dev.chset t))) ∧
          (l.kept = some false → m.sent = some ⟨Hc.reset, 0, 0, 0⟩) ∧
          (l.kept ≠ some false ∨ (l.sent.toList ++ l.queue).all (fun c => c.op != Hc.readOn) = true → ∀ j, j ≠ t → d.links.get j = s.dev.links.get j))) ∧
      (fieldOf blk 15 8 ≠ 1 → s.dev.er.pend = [] →
        Does (.link t blk) s (fun d => (d.links.get t).st = .failed ∧ ∃ r, d.er.log.getLast? = some r ∧ r.cls = .c3 ∧ r.origin = 0x11 ∧ r.inst = t ∧
          r.category = 9))) ∧
    (l.st = .adapt ∨ l.st = .align →
      (l.fromRepair = false → becomes (.linkTrainTimeout t) (fun l => { l with st := .detect })) ∧
      (l.fromRepair = true → l.attempts + 1 < max 1 (s.dev.rf Reg.HL_CFG 3 0) →
        becomes (.linkTrainTimeout t) (fun l => { l with st := .detect, attempts := l.attempts + 1 })) ∧
      (l.fromRepair = true → max 1 (s.dev.rf Reg.HL_CFG 3 0) ≤ l.attempts + 1 →
        Does (.linkTrainTimeout t) s (fun d => (d.links.get t).st = .failed ∧ (d.links.get t).attempts = l.attempts + 1))) ∧
    (l.st ≠ .disabled → l.st ≠ .active →
      Does (.linkReadyDeadline t) s (fun d => d.links = s.dev.links ∧ ∃ r, d.er.log.getLast? = some r ∧ r.cls = .c2 ∧ r.origin = 0x11 ∧ r.inst = t))

/-- An ACTIVE link that is lost, by its signal or by no STATUS, or none for its command, for three ticks, is in REPAIR with the present order epoch
recorded, no attempts and nothing armed. A symbol block appends the symbols of its channel, after 22 erased ones for each block its sequence shows
lost. A PES block that answers the present tick sets the link's two samples, each present where it is valid and of the quality wanted; one that does
not leaves everything; one whose CRC or type fails is counted and nothing more. A STATUS without faults, outside a run, is taken over by its link,
which sends its next command where the tag is that of the one sent; with the loss fault the link is lost. A write of HL_CHSET that changes the write
current alone sends it at once on an ACTIVE link with nothing in flight. -/
def Obligations.LinksCarryBlocks : Prop :=
  ∀ (t : Nat) (s : State), s.dev.working = true → t < 16 → (s.dev.links.get t).st = .active →
    let l := s.dev.links.get t
    let lost (d : Dev) (m : Link) : Prop := d.links.get t =
      { m with st := .repair, fromRepair := true, attempts := 0, epochAt := some s.dev.er.epoch, kept := none, silent := 0, armed := 0, reading := 0 }
    Does (.linkLoss t) s (fun d => lost d l) ∧
    (3 ≤ l.silent ∨ (l.sent.isSome = true ∧ 3 ≤ l.waited) → Does (.statusTimeout t) s (fun d => lost d l)) ∧
    (∀ block : BitVec 256, let j := fieldOf block 255 253
      (∀ p, l.rxSeq.get j = some p → fieldOf block 252 250 = (p + 1) % 8 → p < 8 →
        Does (.symbolBlockRx t block) s (fun d => (d.links.get t).rx.get j = l.rx.get j ++ (List.range 22).map (rxItem block) ∧
          (d.links.get t).rxSeq.get j = some ((p + 1) % 8) ∧ ∀ i, i ≠ j → (d.links.get t).rx.get i = l.rx.get i)) ∧
      (∀ p, l.rxSeq.get j = some p → p < 8 → fieldOf block 252 250 ≠ (p + 1) % 8 →
        Does (.symbolBlockRx t block) s (fun d => ∃ lostItems : List (BitVec 11), lostItems ≠ [] ∧ lostItems.length % 22 = 0 ∧
          (∀ i ∈ lostItems, i.getLsbD 10 = true) ∧
          (d.links.get t).rx.get j = l.rx.get j ++ lostItems ++ (List.range 22).map (rxItem block)))) ∧
    (∀ blk : BitVec 256, ctlOk blk 0x55 = false → exec (.pes t blk) s = .next ⟨s.dev.count 0x70 t 5 1, s.pending⟩) ∧
    (∀ blk : BitVec 256, ctlOk blk 0x55 = true →
      (fieldOf blk 15 8 = l.tickSeq →
        Does (.pes t blk) s (fun d => d = { s.dev with tc := { s.dev.tc with pes := d.tc.pes } } ∧
          d.tc.pes.get (2 * t) = (if blk.getLsbD 40 = true ∧ s.dev.rf Reg.TC_PESCFG 15 8 ≤ fieldOf blk 39 32 then some (blk.extractLsb' 16 16).toInt else none) ∧
          d.tc.pes.get (2 * t + 1) = (if blk.getLsbD 72 = true ∧ s.dev.rf Reg.TC_PESCFG 15 8 ≤ fieldOf blk 71 64 then some (blk.extractLsb' 48 16).toInt else none))) ∧
      (fieldOf blk 15 8 ≠ l.tickSeq → exec (.pes t blk) s = .next s)) ∧
    (∀ blk : BitVec 256, ctlOk blk 0x4B = true → s.dev.sh.running = false → blk.getLsbD 59 = false →
      (blk.getLsbD 58 = false → fieldOf blk 23 16 = l.tag → l.queue = [] →
        Does (.status t blk) s (fun d => d = { s.dev with links := d.links } ∧
          let m : Link := { l with silent := 0, armed := blk.extractLsb' 32 8, reading := blk.extractLsb' 40 8, underrun := blk.extractLsb' 48 8
                                   faults := blk.extractLsb' 56 8, fill := statusFill blk, withheld := withholding l.withheld (statusFill blk), sent := none }
          ∃ tx rest seq, d.links.get t = { m with tx := tx, txRest := rest, txSeq := seq })) ∧
      (∀ c rest, blk.getLsbD 58 = false → fieldOf blk 23 16 = l.tag → l.queue = c :: rest →
        Does (.status t blk) s (fun d => (d.links.get t).sent = some c ∧ (d.links.get t).queue = rest ∧ (d.links.get t).tag = (l.tag + 1) % 256)) ∧
      (blk.getLsbD 58 = true → Does (.status t blk) s (fun d => (d.links.get t).st = .repair ∧ (d.links.get t).epochAt = some s.dev.er.epoch))) ∧
    (∀ path v, s.dev.writable path = true → s.dev.locked Reg.HL_CHSET = false → s.dev.bankOf (pathPort path) Reg.HL_CHSET = t →
      let old := s.dev.regB Reg.HL_CHSET t
      fieldOf v 31 24 ≠ fieldOf old 31 24 → fieldOf v 19 16 = fieldOf old 19 16 → fieldOf v 15 8 = fieldOf old 15 8 → fieldOf v 1 0 = fieldOf old 1 0 →
      l.sent = none → l.queue = [] →
      Does (.chsetWrite path v) s (fun d => (d.links.get t).tag = (l.tag + 1) % 256 ∧ (d.links.get t).sent = some ⟨Hc.writeCurrent, 0xFF, toW32 (fieldOf v 31 24), 0⟩ ∧
        fieldOf (d.regB Reg.HL_CHSET t) 31 24 = fieldOf v 31 24))

/-- A transmit block of 25 symbols below 1,024 holds its channel in bits 255 to 253, gate in bit 252, its sequence in bits 251 and 250 and symbol k in
bits 10k + 9 to 10k. The symbols that wait on a channel leave in whole blocks with gate set, as many as are asked for and there are: each carries 25
symbols and the channel's next sequence modulo 4; the symbols of the blocks in order, then those that still wait, are those that waited; and the other
channels' symbols and sequences stay. -/
def Obligations.SymbolsLeaveInOrder : Prop :=
  (∀ (j q : Nat) (gate : Bool) (syms : List Nat), j < 8 → q < 4 → syms.length = 25 → (∀ x ∈ syms, x < 1024) →
    let b := txBlock j gate q syms
    fieldOf b 255 253 = j ∧ b.getLsbD 252 = gate ∧ fieldOf b 251 250 = q ∧ ∀ k, k < 25 → fieldOf b (10 * k + 9) (10 * k) = syms.getD k 0) ∧
  ∀ (l : Link) (j n : Nat), j < 8 → l.txSeq.get j < 4 →
    let m := l.cut j n
    ∃ blocks : List (List Nat), blocks.length = min n ((l.txRest.get j).length / 25) ∧ (∀ s ∈ blocks, s.length = 25) ∧
      blocks.flatten ++ m.txRest.get j = l.txRest.get j ∧
      m.tx = l.tx ++ blocks.zipIdx.map (fun x => txBlock j true ((l.txSeq.get j + x.2) % 4) x.1) ∧
      m.txSeq.get j = (l.txSeq.get j + blocks.length) % 4 ∧
      ∀ i, i ≠ j → m.txRest.get i = l.txRest.get i ∧ m.txSeq.get i = l.txSeq.get i

/-- A quadrature edge that changes one channel moves that reel's count by one step and no other; one that changes both leaves the counts and adds one
to the reel's count errors, up to 65,535; levels as before leave both counts. After samples of an input its raw level is the last; after one, its
activity changes exactly where N of the last M samples agree on the other level: ESTOP becoming active, and CARTRIDGE_PRESENT becoming inactive while
threaded, latch their fault and put the engine SAFE; the second tape input latches its fault when it goes inactive while the tape moves; the
beginning-of-tape mark passed forward makes TC_POS 0 and valid and a present cartridge threaded. Chatter, stuck, encoder, rail, PES and saturation
faults, each where its condition holds, set their bit of TC_FAULT; chatter, stuck, encoder and rail faults take the reaction of their field of
TC_REACT, saturation that of its slot: LOG leaves the engine's state and records C2 of category 0x0A, STOP and QUICKSTOP take RUN to STOPPING (where
no resume waits for a read turn), SAFE makes it SAFE with TC_POS not valid. An encoder fault invalidates TC_POS; a PES fault freezes the slots that
use the source and interrupts a run. The E-stop gate, after two low samples, turns drive and brake outputs low and nothing else. -/
def Obligations.TransportFaultsReact : Prop :=
  ∀ (s : State), s.dev.alive = true →
    let t := s.dev.tc
    let set (d : Dev) (n : Nat) : Prop := bitOf (d.w1cB Reg.TC_FAULT 0) n = true
    let reacts (code : Nat) (d : Dev) : Prop :=
      (code = 0 → d.tc.st = t.st ∧ ∃ r, d.er.log.getLast? = some r ∧ r.cls = .c2 ∧ r.origin = 0x10 ∧ r.category = 0x0A) ∧
      (code = 2 → t.st = .run → s.dev.sh.resumeDue = false → d.tc.st = .stopping ∧ d.tc.reaction = .stop) ∧
      (code = 3 → t.st = .run → s.dev.sh.resumeDue = false → d.tc.st = .stopping ∧ d.tc.reaction = .quickstop) ∧
      (4 ≤ code → t.st ≠ .safe → d.tc.st = .safe ∧ d.tc.posValid = false)
    (∀ up a b, let base := if up then 2 else 0
      let a0 := t.encLevel base
      let b0 := t.encLevel (base + 1)
      (a = a0 → b = b0 → Does (.quadratureEdge up a b) s (fun d => d.tc.encS = t.encS ∧ d.tc.encT = t.encT)) ∧
      ((a ≠ a0 ∧ b = b0) ∨ (a = a0 ∧ b ≠ b0) → Does (.quadratureEdge up a b) s (fun d =>
        d.tc.encT = (if up then wrap32 (t.encT + quadStep a0 a b) else t.encT) ∧ d.tc.encS = (if up then t.encS else wrap32 (t.encS + quadStep a0 a b)))) ∧
      (a ≠ a0 → b ≠ b0 → Does (.quadratureEdge up a b) s (fun d => d.tc.encS = t.encS ∧ d.tc.encT = t.encT ∧
        let n (e : Dev) := if up then e.w1f Reg.TC_ENCERR 0 31 16 else e.w1f Reg.TC_ENCERR 0 15 0
        n d = min (n s.dev + 1) 65535))) ∧
    (∀ n levels, n < 4 →
      Does (.discreteInputChange n levels) s (fun d => (d.tc.din.get n).raw = levels.getLast?.getD (t.din.get n).raw)) ∧
    (∀ n level, n < 4 →
      let x := t.din.get n
      let w := (x.window ++ [level]).drop (x.window.length + 1 - 16)
      let goes := if x.active then !s.dev.dinPol n else s.dev.dinPol n
      let recent := w.drop (w.length - s.dev.dinM n)
      let agree := s.dev.dinN n ≤ (recent.filter (fun y => y == goes)).length + (if goes = s.dev.dinPol n then 0 else s.dev.dinM n - recent.length)
      (¬agree → Does (.discreteInputChange n [level]) s (fun d => d = { s.dev with tc := { t with din := d.tc.din } } ∧
        (d.tc.din.get n).active = x.active ∧ (d.tc.din.get n).window = w)) ∧
      (agree → Does (.discreteInputChange n [level]) s (fun d => (d.tc.din.get n).active = !x.active ∧ (d.tc.din.get n).window = w ∧
        (n = 3 → x.active = false → set d 0 ∧ (t.st ≠ .safe → d.tc.st = .safe ∧ d.tc.posValid = false)) ∧
        (n = 0 → x.active = true → s.dev.threaded = true → set d 1 ∧ (t.st ≠ .safe → d.tc.st = .safe)) ∧
        (n = 1 → x.active = true → s.dev.tapeMoves = true → set d 2 ∧ reacts (s.dev.rf Reg.TC_REACT 2 0) d) ∧
        (n = 2 → x.active = true → s.dev.tapeForward = true → d.tc.posW = 0 ∧ d.tc.posValid = true ∧ d.threaded = s.dev.vol.cart.isSome)))) ∧
    (∀ n, n < 4 → s.dev.rf (Reg.TC_DINCFG + 4 * n) 22 16 < s.dev.dinFlips n → Does (.chatterFault n) s (fun d => set d 3 ∧ reacts (s.dev.rf Reg.TC_REACT 5 3) d)) ∧
    (∀ n, n < 4 → s.dev.stuckPossible n = true → (t.din.get n).stuck = false →
      Does (.stuckFault n) s (fun d => set d (if n = 2 then 4 else 5) ∧ reacts (s.dev.rf Reg.TC_REACT 8 6) d)) ∧
    (s.dev.rf Reg.TC_ENCCFG 7 0 < s.dev.countErrors →
      Does .encoderFault s (fun d => set d 6 ∧ d.tc.posValid = false ∧ reacts (s.dev.rf Reg.TC_REACT 11 9) d)) ∧
    (∀ port ch, port < 2 → ch < 4 → s.dev.rf (Reg.TC_SPCFG + 4 * port) 7 0 ≠ 0 → s.dev.rf (Reg.TC_SPCFG + 4 * port) 7 0 < t.rails.get (4 * port + ch) →
      t.rails.get (8 + 4 * port + ch) = 0 →
      Does (.sensorRailFault port ch) s (fun d => set d 10 ∧ reacts (s.dev.rf Reg.TC_REACT 14 12) d)) ∧
    (∀ source, source < 2 → t.st ≠ .safe → s.dev.missLimit ≤ (t.missOf source).1 → (t.missOf source).2 = false →
      allSlots.any (s.dev.slotUses (0x10 + source)) = true →
      Does (.pesFault source) s (fun d => set d 9 ∧ (∀ j, j < 8 → s.dev.slotUses (0x10 + source) j = true → (d.tc.servos.get j).heldPes = true) ∧
        (s.dev.sh.running = true → d.sh.running = false))) ∧
    (∀ slot, slot < 8 → s.dev.rf (slotReg Reg.TC_SSATLIM slot) 23 0 ≠ 0 → s.dev.rf (slotReg Reg.TC_SSATLIM slot) 23 0 < (t.servos.get slot).satCount →
      (t.servos.get slot).satRaised = false →
      Does (.saturationFault slot) s (fun d => set d (11 + slot) ∧ reacts (s.dev.rf (slotReg Reg.TC_SCFG slot) 18 16) d)) ∧
    (s.dev.estopLow = true → Does .estopGate s (fun d => d = { s.dev with tc := { t with driveEn := false, brakeN := false, estopGate := true } }))

/-- A base edge, while the reference runs, puts the codes of the period before at the DACs in their port's coding on the channels in use, adds a TICK
and, with no error pending and no resume waiting, sends it on every ACTIVE link, sets the TC_FAULT bits due again, and in SAFE leaves drive off and
brake applied. A profile that has reached its target ends with kind none, its velocity as it was, its instruction with OK; a run that starts streams
then, a sheaf turn seeks the head. A locked head seek ends its instruction with OK, and lets a starting run move; one that times out ends its
instruction with S_TRANSPORT_FAULT. TC_CTL.arm that passes the checks leaves RELEASING, drive enabled, no reaction and arm_result 0; a check that
fails gives its number as arm_result and changes nothing of the engine. Release of the brake leaves RUN. TC_CTL.safe makes the engine SAFE. In
STOPPING, after 64 periods at rest the brake is applied, and the drive then goes off and the engine is SAFE. Writing 1 to TC_FAULT bits clears them,
noting those whose cause is present. A commit of a slot waits for its next sample. TC_TIMER takes 1,000 to 5,000 in SAFE; another value is refused
with a C0 event. -/
def Obligations.TransportRuns : Prop :=
  ∀ (s : State), s.dev.working = true →
    let t := s.dev.tc
    let p := t.profile
    (∀ codes, s.dev.clk.running = true → Does (.sampleTimerEdge codes) s (fun d => d.tc.tick = t.tick + 1 ∧
      (∀ ch, ch < 8 → d.tc.shifted.get ch = (if s.dev.rf (Reg.TC_DPCFG + 4 * (ch / 4)) 31 30 < ch % 4 then t.shifted.get ch else
        if s.dev.rf (Reg.TC_DPCFG + 4 * (ch / 4)) 29 29 = 1 then t.codes.get ch ^^^ 0x8000 else t.codes.get ch)) ∧
      (∀ j, j < 16 → s.dev.er.pend = [] → s.dev.sh.resumeDue = false → (s.dev.links.get j).st = .active → (d.links.get j).tickSeq = ((s.dev.links.get j).tickSeq + 1) % 256) ∧
      (∀ n, n < 19 → t.relatch.testBit n = true → bitOf (d.w1cB Reg.TC_FAULT 0) n = true) ∧
      (t.st = .safe → d.tc.st = .safe ∧ d.tc.driveEn = false ∧ d.tc.brakeN = false))) ∧
    (p.kind ≠ 0 → s.dev.profileThere = true →
      let q : Profile := { p with kind := 0, asker := .none, acc := 0, quick := false, pos := if p.kind = 2 then p.target else p.pos }
      (∀ c, p.asker = .insn c → Finishes .profileComplete s c St.ok none (fun d => d.tc = { t with profile := q })) ∧
      (p.asker = .none ∨ p.asker = .scheduler ∨ p.asker = .stopFor →
        Does .profileComplete s (fun d => d.tc = { t with profile := q } ∧ d.cmds = s.dev.cmds ∧ d.sh = s.dev.sh)) ∧
      (p.asker = .runStart → s.dev.sh.run = .starting → t.st = .run →
        Does .profileComplete s (fun d => d.sh = { s.dev.sh with run := .streaming } ∧ d.tc.profile.kind = 1 ∧ d.tc.profile.step = s.dev.sh.step ∧
          d.tc.profile.reverse = s.dev.sh.reverse)) ∧
      (p.asker = .turn → s.dev.sh.run = .turning →
        Does .profileComplete s (fun d => d.sh = s.dev.sh ∧ d.tc.seeking = true ∧ d.tc.headSheaf = s.dev.sh.sheaf))) ∧
    (t.seeking = true → t.seekFor = none → t.st = .run → t.movingFor = none → s.dev.sh.run = .turning ∨ s.dev.sh.run = .starting →
      max 1 (s.dev.rf Reg.TC_HEADCFG 15 0) ≤ t.lockCount →
      Does .headLock s (fun d => d.tc.locked = true ∧ d.tc.seeking = false ∧ d.tc.profile.kind = 2 ∧ d.tc.profile.asker = .runStart ∧ d.sh = s.dev.sh)) ∧
    (∀ c, t.seeking = true → t.seekFor = some c → s.dev.flightOf c = some .seek →
      (max 1 (s.dev.rf Reg.TC_HEADCFG 15 0) ≤ t.lockCount → Finishes .headLock s c St.ok none (fun d => d.tc.seeking = false ∧ d.tc.locked = true ∧ d.tc.headSet = t.headSet)) ∧
      Finishes .headSeekTimeout s c St.transportFault none (fun d => d.tc.seeking = false ∧ d.tc.headSet = t.headSet)) ∧
    (∀ path, s.dev.writable path = true → fieldOf (s.dev.reg Reg.TC_CTL) 30 29 = 0 →
      (s.dev.armCheck = 0 → Does (.tcArm path) s (fun d => d.tc.st = .releasing ∧ d.tc.driveEn = true ∧ d.tc.brakeN = t.brakeN ∧ d.tc.reaction = .log ∧
        d.tc.profile.vel = 0 ∧ d.w1f Reg.TC_STAT 0 29 27 = 0)) ∧
      (s.dev.armCheck ≠ 0 → Does (.tcArm path) s (fun d => d.tc = t ∧ d.w1f Reg.TC_STAT 0 29 27 = s.dev.armCheck ∧
        ∃ r, d.er.log.getLast? = some r ∧ r.cls = .c0 ∧ r.category = 2)) ∧
      (t.st ≠ .safe → Does (.tcSafe path) s (fun d => d.tc.st = .safe ∧ d.tc.reaction = .safe ∧ d.tc.posValid = false ∧ ∀ ch, d.tc.codes.get ch = 0))) ∧
    (t.st = .releasing → Does .brakeRelease s (fun d => d = { s.dev with clk := d.clk, tc := { t with st := .run, brakeN := !t.estopGate } })) ∧
    (t.st = .stopping → 64 ≤ t.stopHold →
      (t.brakeN = true → Does .stopHoldExpire s (fun d => d = { s.dev with tc := { t with brakeN := false } })) ∧
      (t.brakeN = false → Does .driveDisable s (fun d => d.tc.st = .safe ∧ d.tc.driveEn = false ∧ d.tc.brakeN = false ∧ d.tc.reaction = t.reaction))) ∧
    (∀ path v, s.dev.writable path = true →
      Does (.faultClear path v) s (fun d => (∀ n, n < 19 → bitOf (d.w1cB Reg.TC_FAULT 0) n = (bitOf (s.dev.w1cB Reg.TC_FAULT 0) n && !bitOf v n)) ∧
        (v &&& 0x7FFFF ≠ 0 → d.tc = { t with relatch := t.relatch ||| ((s.dev.w1cB Reg.TC_FAULT 0 &&& (v &&& 0x7FFFF)).toNat &&& s.dev.faultCauses) }))) ∧
    (∀ path slot, s.dev.writable path = true → slot < 8 →
      Does (.slotCommit path slot) s (fun d => d.tc = { t with servos := t.servos.modify slot (fun v => { v with commitAsked := true, pendingCommit := true }) })) ∧
    (∀ path v, s.dev.writable path = true → s.dev.locked Reg.TC_TIMER = false →
      (t.st = .safe → 1000 ≤ fieldOf v 12 0 → fieldOf v 12 0 ≤ 5000 → Does (.tcTimerWrite path v) s (fun d => d.rf Reg.TC_TIMER 12 0 = fieldOf v 12 0)) ∧
      (fieldOf v 12 0 < 1000 ∨ 5000 < fieldOf v 12 0 ∨ (t.st ≠ .safe ∧ fieldOf v 12 0 ≠ s.dev.rf Reg.TC_TIMER 12 0) →
        Does (.tcTimerWrite path v) s (fun d => d.rf Reg.TC_TIMER 12 0 = s.dev.rf Reg.TC_TIMER 12 0 ∧ ∃ r, d.er.log.getLast? = some r ∧ r.cls = .c0 ∧ r.category = 2)))

/-- An error of C0, C1 or C2 of a unit in service adds one record with the next sequence number, its class, unit, category and details, not pinned,
and changes no command, pending list or transport state. A C4 of a unit that is not under recovery, with room in the list, adds a record, a waiting C4
entry with the record's number and a notice of that number; no active C3 stays active; where no snapshot is held it arms one 256 ticks after its
stamp. A C3 of such a unit with another of its kind in service fences it and adds a waiting C3 entry; without a mate, where its kind shares work, or
of the version index while it rebuilds, a C4 entry. A C3 of a unit whose C3 recovery is active or parked replaces its entry by a C4; of one whose C4
is, it fails the device. A C5 on a device that has started fails it: the transport engine SAFE, every context free, every command decided, those open
with S_DEVICE_FAILED. A fault of the stamp service or a queue manager is a C5; of the version index it begins a rebuild; of the transport engine it
makes it SAFE; of an ACTIVE head link it loses the link, of another it changes nothing; a fault of another unit with a mate fences it. -/
def Obligations.ErrorsActByClass : Prop :=
  ∀ (s : State) (u : UnitId) (cat : Nat) (d0 d1 : W64), s.dev.alive = true →
    let e := s.dev.er
    let raised (c : EClass) := Instr.errorRaise c u cat d0 d1
    let fresh : Prop := e.failed = false ∧ e.pend.length < 16 ∧ ∀ p ∈ e.pend, p.unit = u → p.st = .waiting
    let pends (d : Dev) (c : EClass) : Prop := ∃ p ∈ d.er.pend, p.cls = c ∧ p.unit = u ∧ p.st = .waiting ∧ p.seq = e.seq ∧ p.epochAt = e.epoch
    let record (d : Dev) (r : ErrRec) (c : EClass) : Prop := d.er.log.getLast? = some r ∧ r.cls = c ∧ r.origin = u.origin ∧ r.inst = u.inst ∧
      r.category = cat ∧ r.d0 = d0 ∧ r.d1 = d1 ∧ r.seq = e.seq ∧ r.epoch = e.epoch % 2 ^ 32
    (s.dev.isFenced u = false → ∀ c ∈ [EClass.c0, .c1, .c2],
      Does (raised c) s (fun d => d.er.pend = e.pend ∧ d.er.failed = e.failed ∧ d.er.seq = (e.seq + 1) % 2 ^ 32 ∧ d.cmds = s.dev.cmds ∧ d.tc = s.dev.tc ∧
        d.notices = s.dev.notices ∧ ∃ r, record d r c ∧ r.pinned = false)) ∧
    (s.dev.isFenced u = false → fresh →
      Does (raised .c4) s (fun d => pends d .c4 ∧ d.er.pend.length = e.pend.length + 1 ∧ d.er.fenced = e.fenced ∧
        ((∀ q ∈ e.pend, q.st = .active → q.cls = .c3) → ∀ q ∈ d.er.pend, q.st ≠ .active) ∧
        ∃ r, record d r .c4 ∧ (e.pinnedCount < 256 → r.pinned = true) ∧ d.notices = s.dev.notices ++ [⟨.errorRecord, toW64 e.seq, r.stamp⟩] ∧
          (s.dev.sn.held = true → d.sn = s.dev.sn) ∧
          (s.dev.sn.held = false → d.sn.held = true ∧ d.sn.armed = true ∧ d.sn.target = r.stamp.t + 256 ∧ d.er.snapSeq = some e.seq ∧ r.flags.getLsbD 3 = true))) ∧
    (fresh → (poolsWork u = true → s.dev.hasMate u = true) → (u.origin = 8 → s.dev.idx.rebuilding = false) → Does (raised .c3) s (fun d => d.isFenced u = true ∧ pends d .c3)) ∧
    (fresh → (poolsWork u = true ∧ s.dev.hasMate u = false) ∨ (u.origin = 8 ∧ s.dev.idx.rebuilding = true) → Does (raised .c3) s (fun d => d.isFenced u = true ∧ pends d .c4)) ∧
    (∀ p, e.failed = false → e.pend.find? (fun q => decide (q.unit = u) && q.underWay) = some p → p.seq ≠ e.seq →
      (p.cls = .c3 → Does (raised .c3) s (fun d => pends d .c4 ∧ ∀ q ∈ d.er.pend, q.seq ≠ p.seq)) ∧
      (p.cls = .c4 → Does (raised .c3) s (fun d => d.er.failed = true))) ∧
    (e.failed = false → s.dev.boot.ready = true → s.dev.isFenced u = false →
      Does (raised .c5) s (fun d => d.er.failed = true ∧ d.tc.st = .safe ∧ d.tc.posValid = false ∧ (∀ c, c < 256 → (d.ctxs.get c).run = .free) ∧
        (∀ m ∈ d.cmds, m.done.isSome = true ∧ ∃ m0 ∈ s.dev.cmds, m.id = m0.id ∧ (m0.done = none → ∃ k, m.done = some k ∧ k.status = St.deviceFailed)))) ∧
    (e.failed = false → unitExists u = true → u.origin ≤ 2 → s.dev.isFenced u = false → Does (.unitFault u) s (fun d => d.er.failed = true)) ∧
    (e.failed = false → unitExists u = true → s.dev.isFenced u = false → e.pend = [] → 2 < u.origin →
      (u.origin ≠ 0x11 ∨ 16 ≤ u.inst) → (poolsWork u = true → s.dev.hasMate u = true) → (u.origin = 8 → s.dev.idx.rebuilding = false) →
      Does (.unitFault u) s (fun d => d.isFenced u = true ∧ pends d .c3 ∧ (u.origin = 8 → d.idx.rebuilding = true) ∧ (u.origin = 0x10 → d.tc.st = .safe))) ∧
    (s.dev.isFenced u = false → u.origin = 0x11 → u.inst < 16 →
      ((s.dev.links.get u.inst).st = .active → Does (.unitFault u) s (fun d => (d.links.get u.inst).st = .repair)) ∧
      ((s.dev.links.get u.inst).st ≠ .active → exec (.unitFault u) s = .next s))

/-- With no recovery active, RECOVERY_START takes the pending entry that comes next: one that waits for something outside the device is parked and
nothing else changes; a C3 becomes active and nothing else changes; a C4 becomes active and halts the data path. With none waiting nothing changes. A
parked recovery whose condition has come completes: its unit returns to service, its entry goes, and on a standalone device the order epoch advances
by one. A return test that passes does the same for the active recovery, and a C4 that ends no longer halts the path; one that fails is counted, and
at return_tries the unit is left fenced, its record marked with flag bit 4, and the recovery ends. A C4 recovery past its limit fails the device.
ER_REL unpins the records with the sequence number written, ER_LREL frees the loss record of its index; each of another number is a C0 event and
releases nothing. Release of a snapshot that is held frees it, or waits while it is armed. -/
def Obligations.RecoveriesRun : Prop :=
  ∀ (s : State), s.dev.working = true →
    let e := s.dev.er
    let marked (q : Nat) (f : Pend → Pend) : List Pend := e.pend.map (fun p => if p.seq = q then f p else p)
    let ended (d : Dev) (p : Pend) : Prop := d.er.pend = e.pend.filter (fun q => decide (q.seq ≠ p.seq)) ∧
      (s.dev.cs.st = .standalone → d.er.epoch = (e.epoch + 1) % 2 ^ 48)
    let started (q : Pend) : Pend := { q with st := .active, tries := 0, head := false, began := s.dev.clk.now }
    (e.recovering = false →
      (e.next = none → exec .recoveryStart s = .next s) ∧
      (∀ p, e.next = some p →
        ((s.dev.awaits p).isSome = true →
          Does .recoveryStart s (fun d => d = { s.dev with er := { e with pend := marked p.seq (fun q => { q with st := .parked }) } })) ∧
        ((s.dev.awaits p) = none → p.cls ≠ .c4 →
          Does .recoveryStart s (fun d => d = { s.dev with er := { e with pend := marked p.seq started } })) ∧
        (p.cls = .c4 → s.dev.sh.resumeDue = false →
          Does .recoveryStart s (fun d => d.er.halted = true ∧ d.er.pend = marked p.seq started)))) ∧
    (∀ u p, e.pend.find? (fun p => decide (p.unit = u) && p.st == .parked && s.dev.awaits p == some true) = some p →
      Does (.recoveryResume u) s (fun d => ended d p ∧ d.isFenced u = false)) ∧
    (∀ p, e.active = some p →
      Does (.returnTestDone true) s (fun d => ended d p ∧ d.isFenced p.unit = false ∧ (p.cls = .c4 → d.er.halted = false)) ∧
      (p.tries + 1 < max 1 (s.dev.rf Reg.ER_CFG 3 0) →
        Does (.returnTestDone false) s (fun d => d = { s.dev with er := { e with pend := marked p.seq (fun q => { q with tries := q.tries + 1 }) } })) ∧
      (max 1 (s.dev.rf Reg.ER_CFG 3 0) ≤ p.tries + 1 → p.cls ≠ .c4 →
        Does (.returnTestDone false) s (fun d => ended d p ∧ d.isFenced p.unit = true ∧ ∀ r ∈ d.er.log, r.seq = p.seq → r.flags.getLsbD 4 = true)) ∧
      (p.cls = .c4 → Does .c4Timeout s (fun d => d.er.failed = true))) ∧
    (∀ path v, s.dev.writable path = true →
      let event (d : Dev) : Prop := ∃ r, d.er.log.getLast? = some r ∧ r.cls = .c0 ∧ r.category = 2 ∧ r.d1 = toW64 v.toNat
      ((∃ r ∈ e.log, r.seq = v.toNat ∧ r.pinned = true) → Does (.recordRelease path v) s (fun d =>
        d.er = { e with log := e.log.map (fun r => if r.seq = v.toNat then { r with pinned := false, flags := r.flags &&& 0xFB } else r) })) ∧
      ((∀ r ∈ e.log, r.seq = v.toNat → r.pinned = false) → Does (.recordRelease path v) s (fun d => event d ∧ d.er.losses = e.losses)) ∧
      ((e.losses.get (fieldOf v 5 0)).isSome = true →
        Does (.lossRecordRelease path v) s (fun d => d.er = { e with losses := e.losses.set (fieldOf v 5 0) none })) ∧
      (e.losses.get (fieldOf v 5 0) = none → Does (.lossRecordRelease path v) s (fun d => event d ∧ d.er.losses = e.losses)) ∧
      (∀ viaEr, (s.dev.sn.held = true → s.dev.sn.armed = false → Does (.snapshotRelease path viaEr) s (fun d => d.sn.held = false)) ∧
        (s.dev.sn.held = true → s.dev.sn.armed = true → Does (.snapshotRelease path viaEr) s (fun d => d.sn = { s.dev.sn with releaseAsked := true })) ∧
        (s.dev.sn.held = false → Does (.snapshotRelease path viaEr) s (fun d => d.sn = s.dev.sn))))

/-- For every 80-bit stored word, with its parity P and syndromes S1 and S3: P, S1 and S3 all 0 decode as no error; P 1 with both 0 as an error in p;
S1 not 0 with S3 = S1^3 as an error at j = log(S1), and in p too where P is 0, a position of 78 or above being uncorrectable; P 0, S1 not 0 and S3 not
S1^3 as two errors where the locator polynomial, multiplied by S1, has two distinct roots at positions up to 77, and as uncorrectable where it has
not; anything else as uncorrectable. For every data word, its encoding decodes as no error and holds the data; with one or two of stored bits 0 to 78
flipped it decodes to the same word; with three flipped it is uncorrectable. -/
def Obligations.WordsDecodeAsTheTableSays : Prop :=
  (∀ v : BitVec 80,
    let p := bchP v
    let s1 := bchS1 v
    let s3 := bchS3 v
    let cube := gf7mul s1 (gf7mul s1 s1)
    let root (j : Nat) : Prop := gf7mul s1 (gf7mul (beta j) (beta j)) ^^^ gf7mul (gf7mul s1 s1) (beta j) ^^^ s3 ^^^ cube = 0
    (s1 = 0 → s3 = 0 → p = 0 → bchDecode v = .clean) ∧
    (s1 = 0 → s3 = 0 → p = 1 → bchDecode v = .fixed [78]) ∧
    (s1 ≠ 0 → s3 = cube → ∀ j, j < 127 → beta j = s1 →
      bchDecode v = if 78 ≤ j then .bad else if p = 1 then .fixed [bchBit j] else .fixed [bchBit j, 78]) ∧
    (s1 ≠ 0 → s3 ≠ cube → p = 0 →
      (∀ i j, i < 78 → j < 78 → bchBit i < bchBit j → root i → root j → bchDecode v = .fixed [bchBit i, bchBit j]) ∧
      ((¬ ∃ i j, i < 78 ∧ j < 78 ∧ i ≠ j ∧ root i ∧ root j) → bchDecode v = .bad)) ∧
    (s1 = 0 → s3 ≠ 0 → bchDecode v = .bad) ∧
    (s1 ≠ 0 → s3 ≠ cube → p = 1 → bchDecode v = .bad)) ∧
  ∀ d : W64, bchDecode (bchEncode d) = .clean ∧ bchData (bchEncode d) = d ∧
    (∀ i, i < 79 → bchFix (flipBits (bchEncode d) [i]) = some (bchEncode d)) ∧
    (∀ i j, i < j → j < 79 → bchFix (flipBits (bchEncode d) [i, j]) = some (bchEncode d)) ∧
    (∀ i j k, i < j → j < k → k < 79 → bchFix (flipBits (bchEncode d) [i, j, k]) = none)

/-- A correctable word that is read is counted in its stack and written back corrected; in the correction log an entry of its word counts one more,
and a word not logged takes the lowest free entry, with a C1 record of its address. A word read uncorrectable is counted and, where the poison table
has room, poisoned; in a free buffer that is a C0 record, and in a buffer that a context holds and no write owns nothing more follows. The oldest
narrow write of a stack, of a word that reads without error, leaves the merge buffer with its bytes merged into the word. An error of an instruction
cache drops the line with a C1 record; one of a queue manager's memory fails the device; one of the pool manager's is a C4 and one of the version
index, not rebuilding, begins a rebuild. -/
def Obligations.BufferWordsAreKept : Prop :=
  ∀ (s : State) (w : Nat), s.dev.working = true → w < 2 ^ 35 →
    let m := s.dev.mi
    let st := wordStack w
    (∀ winnow bits, m.initBusy = false → m.poison.contains w = false →
      (winnow = true → s.dev.rf Reg.MI_CTL 30 30 = 1 ∧ m.mergeOf w = none) → bchDecode (m.raw w) = .fixed bits →
      Does (.bufferCorrection w winnow) s (fun d => d.mi.words.get w = m.stored w (flipBits (m.raw w) bits) ∧ (∀ x, x ≠ w → d.mi.words.get x = m.words.get x) ∧
        d.w1f (Reg.MI_CECNT + 4 * st) 0 31 0 = min (s.dev.w1f (Reg.MI_CECNT + 4 * st) 0 31 0 + 1) (2 ^ 32 - 1) ∧
        (∀ i e, i < 32 → (∀ j, j < i → ∀ x, m.log.get j = some x → x.word ≠ w) → m.log.get i = some e → e.word = w →
          ∃ f, d.mi.log.get i = some f ∧ f.count = min (e.count + 1) 255 ∧ f.word = w) ∧
        (∀ i, i < 32 → (∀ j, j < 32 → ∀ x, m.log.get j = some x → x.word ≠ w) → m.log.get i = none → (∀ j, j < i → (m.log.get j).isSome = true) →
          (∃ f, d.mi.log.get i = some f ∧ f.word = w ∧ f.count = 1 ∧ f.source = (if winnow then .winnow else .read) ∧ f.pos0 = bits.getD 0 0x7F ∧
            f.pos1 = bits.getD 1 0x7F) ∧
          ∃ r, d.er.log.getLast? = some r ∧ r.cls = .c1 ∧ r.origin = 0x13 ∧ r.inst = st ∧ r.d0 = toW64 (w * 8) ∧ r.d1 = toW64 (bchSyndrome (m.raw w))))) ∧
    (m.initBusy = false → w < deviceRegion → m.poison.contains w = false → m.poisonCount st < 256 →
      let poisoned (d : Dev) : Prop := d.mi.poison = m.poison ++ [w] ∧
        d.w1f Reg.MI_UECNT 0 (8 * st + 7) (8 * st) = min (s.dev.w1f Reg.MI_UECNT 0 (8 * st + 7) (8 * st) + 1) 255
      (s.dev.pools.bufAt w = none → Does (.bufferUncorrectable w) s (fun d => poisoned d ∧
        ∃ r, d.er.log.getLast? = some r ∧ r.cls = .c0 ∧ r.origin = 0x13 ∧ r.inst = st ∧ r.d0 = toW64 (w * 8))) ∧
      (∀ key b, s.dev.pools.bufAt w = some key → s.dev.pools.bufs.get key = some b → b.requester < 48 → s.dev.idx.galleyOf key = none →
        Does (.bufferUncorrectable w) s (fun d => poisoned d ∧ d.er = s.dev.er ∧ d.cmds = s.dev.cmds))) ∧
    (∀ k e, m.merges.find? (fun e => decide (wordStack e.word = k)) = some e → m.poison.contains e.word = false → bchDecode (m.raw e.word) = .clean →
      Does (.mergeApply k) s (fun d => d.mi.merges = m.merges.filter (fun x => decide (x.word ≠ e.word)) ∧
        d.mi.words.get e.word = m.stored e.word (bchEncode (mergeBytes (bchData (m.raw e.word)) e.bytes e.mask)) ∧
        ∀ x, x ≠ e.word → d.mi.words.get x = m.words.get x)) ∧
    (∀ u i, unitExists u = true →
      (3 ≤ u.origin → u.origin ≤ 6 → u.inst < 32 → Does (.onchipMemoryError 0 u i) s (fun d =>
        (d.engines.get u.inst).lines = (s.dev.engines.get u.inst).lines.eraseIdx i ∧
        ∃ r, d.er.log.getLast? = some r ∧ r.cls = .c1 ∧ r.origin = u.origin ∧ r.inst = u.inst)) ∧
      (u.origin = 1 ∨ u.origin = 2 → Does (.onchipMemoryError 2 u i) s (fun d => d.er.failed = true)) ∧
      (s.dev.er.pend = [] → Does (.onchipMemoryError 3 u i) s (fun d => ∃ p ∈ d.er.pend, p.cls = .c4 ∧ p.unit = ⟨7, 0xFFFF⟩)) ∧
      (s.dev.er.pend = [] → s.dev.idx.rebuilding = false → Does (.onchipMemoryError 4 u i) s (fun d => d.idx.rebuilding = true ∧ ∃ p ∈ d.er.pend, p.cls = .c3 ∧ p.unit = ⟨8, 0xFFFF⟩)))

/-- A failing row not yet moved takes the lowest free spare of its channel, with a C1 record, and is retired where the channel has none. A lane that
enough entries name, in a channel whose lane is free, is steered, with a C1 record. The end of a winnow lap adds one to the laps, up to 65,535,
records its time and corrections and begins the next; a lap that is late sets the late bit, once; each is a C0 record. A repair burn with room, supply
and no burn in progress begins with the repairs not yet burned; with too few free row records it is refused with result 1; during another burn it
waits. Clearing the log empties it, or the one entry named. A flip mask is armed in MAINT only; otherwise it is refused with a C0 event. The refresh
factor steps down by one where the band asks for no more, and never below the band's. A stack that does not calibrate fails the device. -/
def Obligations.MemoryIsRepaired : Prop :=
  ∀ (s : State) (w : Nat), s.dev.working = true → w < 2 ^ 35 →
    let m := s.dev.mi
    let last (d : Dev) (c : EClass) : Prop := ∃ r, d.er.log.getLast? = some r ∧ r.cls = c ∧ r.origin = 0x13
    (s.dev.rowFails w = true → m.rowMoved w = false →
      (∀ i, m.freeSpare (wordStack w) (wordChannel w) = some i → Does (.rowRepairDone w) s (fun d =>
        d.mi.rows = m.rows ++ [⟨wordStack w, wordChannel w, wordRow w, i, false, false⟩] ∧ last d .c1)) ∧
      (m.freeSpare (wordStack w) (wordChannel w) = none → Does (.rowRepairDone w) s (fun d =>
        d.mi.retired.contains (wordStack w, wordChannel w, wordRow w) = true ∧ d.mi.rows = m.rows))) ∧
    (∀ stack channel k, stack < 4 → channel < 16 → k < 79 → s.dev.rf Reg.MI_CFG 15 8 ≠ 0 →
      s.dev.rf Reg.MI_CFG 15 8 ≤ (m.naming stack channel k).length → m.lane stack channel = none →
      Does (.laneRepair stack channel k) s (fun d => d.mi.lanes = m.lanes ++ [⟨stack, channel, k, false⟩] ∧ last d .c1)) ∧
    (m.initBusy = false → s.dev.rf Reg.MI_CTL 30 30 = 1 →
      (∀ n, let now := (s.dev.advanceTo (m.lapBegan + n * 100 * msTicks)).clk.now
        Does (.winnowLapEnd n) s (fun d => last d .c0 ∧ d.w1f Reg.MI_WINLAP 0 31 16 = min (s.dev.w1f Reg.MI_WINLAP 0 31 16 + 1) 65535 ∧
        d.w1f Reg.MI_WINLAP 0 15 0 = min ((now - m.lapBegan) / (100 * msTicks)) 65535 ∧ d.w1f Reg.MI_WINCOR 0 31 0 = m.lapCorr % 2 ^ 32 ∧
        d.mi = { m with lapCorr := 0, lapBegan := now, lapLate := false })) ∧
      (s.dev.rf Reg.MI_WINCFG 31 16 ≠ 0 → m.lapLate = false →
        Does .winnowLapLate s (fun d => last d .c0 ∧ bitOf (d.w1cB Reg.MI_WINPOS 0) 31 = true ∧ d.mi = { m with lapLate := true }))) ∧
    (∀ path, s.dev.writable path = true →
      (m.softRows.length ≤ (freeRowSlots s.dev.fu.shadow).length → m.softLanes.length ≤ (freeLaneSlots s.dev.fu.shadow).length →
        s.dev.hk.vfuseFailed = false → s.dev.fu.burn = none →
        Does (.repairBurn path) s (fun d => d.fu = { s.dev.fu with burn := some (.repair m.softRows m.softLanes) })) ∧
      (s.dev.fu.burn.isSome = true → Does (.repairBurn path) s (fun d => ∃ v, d.fu = { s.dev.fu with waiting := s.dev.fu.waiting ++ [(path, v)] })) ∧
      ((freeRowSlots s.dev.fu.shadow).length < m.softRows.length → s.dev.fu.burn = none →
        Does (.repairBurn path) s (fun d => d.fu = s.dev.fu ∧ d.w1f Reg.MI_REPCTL 0 30 28 = 1)) ∧
      Does (.logClearAll path) s (fun d => d.mi = { m with log := Table.empty }) ∧
      (∀ i : BitVec 5, Does (.logClearEntry path i) s (fun d => d.mi = { m with log := m.log.set i.toNat none })) ∧
      (s.dev.mode = .maint → Does (.flipArm path) s (fun d => d.rf Reg.MI_FLIPCTL 31 31 = 1)) ∧
      (s.dev.mode ≠ .maint → Does (.flipArm path) s (fun d => d.rf Reg.MI_FLIPCTL 31 31 = s.dev.rf Reg.MI_FLIPCTL 31 31 ∧
        ∃ r, d.er.log.getLast? = some r ∧ r.cls = .c0 ∧ r.category = 2))) ∧
    (∀ t, s.dev.hk.refreshWait = some t → Does .refreshStepDown s (fun d => d.mi.refresh = max (m.refresh - 1) (bandRefresh s.dev.hk.band))) ∧
    (∀ stack, stack < 4 → m.initBusy = true → s.dev.fu.loadDone = true →
      Does (.interfaceCalibrationTimeout stack) s (fun d => d.er.failed = true))

/-- A round makes the speeds visible and counts; the band rises at once to the highest threshold the reading has reached and falls by one where the
reading is more than 2 °C below the threshold of its own band; a faulty diode means band 4. Level 1 holds exactly while the band is 3 or more or level
2 holds; the refresh factor is no lower than the band's. Band 4 on a device that works, not in drain-shutdown, sets DRAIN mode, drain and level 2.
When the grace of level 1 ends, pacing is in force exactly where level 1 holds and pace_en is 1. A write of HK_THRRATE takes its value and, while
level 1 holds and the value changes, posts one throttle request. The end of a drain stops the transport, and with the engine SAFE, or at its limit,
the device fails with no burn in progress. A hard trip fails it with drive off and brake applied, and the device is no longer alive. Loss of REFCLK
stops the count, empties the key store, fails the device, disables every head link, turns the drive off and lets nothing more be posted. -/
def Obligations.HousekeepingActs : Prop :=
  ∀ (s : State), s.dev.alive = true →
    let h := s.dev.hk
    (∀ codes speeds avs, codes.length = 24 → speeds.length = 48 →
      Does (.hkRoundEnd codes speeds avs) s (fun d =>
        d.hk.rounds = h.rounds + 1 ∧ (∀ i, i < 48 → d.hk.speeds.get i = speeds.getD i 0) ∧ (h.diodeFault = true → d.hk.diodeFault = true) ∧
        (let t := d.hk.reading
         let thr (b : Nat) := s.dev.bandThr b
         let up := if thr 4 ≤ t then 4 else if thr 3 ≤ t then 3 else if thr 2 ≤ t then 2 else if thr 1 ≤ t then 1 else 0
         d.hk.band = if d.hk.diodeFault then 4 else if h.band < up then up else if 0 < h.band ∧ t < thr h.band - 32 then h.band - 1 else h.band) ∧
        d.hk.level1 = (decide (3 ≤ d.hk.band) || d.hk.level2) ∧ bandRefresh d.hk.band ≤ d.mi.refresh ∧
        (d.hk.band = 4 → h.drain = false → d.er.failed = false → d.hk.drain = true ∧ d.mode = .drain ∧ d.hk.level2 = true))) ∧
    (s.dev.er.failed = false → h.grace = true →
      Does .throttleGraceEnd s (fun d => d.hk = { h with grace := false } ∧ d.arb.pacing = (h.level1 && s.dev.rf Reg.HK_CTL 29 29 == 1))) ∧
    (∀ path v, s.dev.writable path = true → s.dev.locked Reg.HK_THRRATE = false →
      Does (.throttleRateWrite path v) s (fun d => d.rf Reg.HK_THRRATE 17 0 = fieldOf v 17 0 ∧ d.hk = h ∧
        (h.level1 = true → fieldOf v 17 0 ≠ s.dev.rf Reg.HK_THRRATE 17 0 →
          ∃ st, d.notices = s.dev.notices ++ [⟨.throttleRequest, toW64 (if fieldOf v 17 0 = 0 then 1000 else fieldOf v 17 0), st⟩]) ∧
        (h.level1 = false → d.notices = s.dev.notices))) ∧
    (s.dev.er.failed = false → h.drain = true →
      let halted (d : Dev) : Prop := d.er.failed = true ∧ d.tc.st = .safe ∧ d.fu.burn = none
      (s.dev.drained = true → (s.dev.tc.st = .safe → Does .drainHalt s halted) ∧
        (s.dev.tc.st = .run → s.dev.sh.resumeDue = false → Does .drainHalt s (fun d => d.tc.st = .stopping ∧ d.tc.reaction = .stop)) ∧
        (s.dev.tc.st = .stopping → exec .drainHalt s = .next s)) ∧ (s.dev.drained = false → Does .drainLimitExpire s halted)) ∧
    (h.tripBlanked = false → Does .hardTrip s (fun d => d.er.failed = true ∧ d.hk.tripped = true ∧ d.tc.driveEn = false ∧ d.tc.brakeN = false ∧
      d.alive = false ∧ d.fu.burn = none)) ∧
    Does .refclkLoss s (fun d => d.er.failed = true ∧ d.clk.running = false ∧ d.cx.slots = Table.empty ∧ d.tc.driveEn = false ∧ d.tc.brakeN = false ∧
      d.er.mute = true ∧ ∀ t, t < 16 → (d.links.get t).st = .disabled)

/-- Discovery with no partner ends standalone. A JOIN that fits makes its hop ACTIVE with its partner, a discovering device joining, or master where
its index is 0; one of another version or place ends discovery standalone with a C3 error. Each echo adds its round trip, and the 16th leaves half the
mean. A device that joins, idle or returning in its device epoch, takes the master's count plus the hop's delay, adopted, and its order epoch; the
master adds an absent member that holds no work, or returns, and advances the epoch by one. CS_CTL.join starts discovery on a standalone device;
leave, and the loss of the master, leave a device standalone with the epoch advanced by one. The master declares a lost member, no longer present,
with one advance; LOSS from the master removes the member. A hop keeps four or two lanes and detects again, or goes to REPAIR. Each message of the
fifteen kinds out of sequence or not whole is refused with a negative ACK and nothing else; one for another member goes on in its direction with its
stamp. An ACK frees what it names, a negative one sends it again; TIME goes to every other member both ways and raises the sender's horizon; a member
ahead waits and one a few ticks behind catches up; EPOCH gives a member the master's epoch; LOSS of itself leaves a member standalone. -/
def Obligations.RingKeepsTogether : Prop :=
  ∀ (s : State), s.dev.working = true →
    let c := s.dev.cs
    let self := s.dev.clk.member.toNat
    let e := s.dev.er.epoch
    let alone (d : Dev) : Prop := d.cs.st = .standalone ∧ d.cs.size = 0 ∧ d.cs.present = []
    (c.st = .discovering → c.c0.partner = none → c.c1.partner = none → Does .discoveryTimeout s (fun d => alone d ∧ d.boot.discoveryDone = true)) ∧
    (∀ cp (b : BitVec 256), ctlOk b 0x61 = true → c.st ≠ .standalone →
      let sender := fieldOf b 18 16
      (fieldOf b 15 8 = 1 → partnerFits self cp sender = true → Does (.join cp b) s (fun d => (d.cs.hop cp).st = .active ∧ (d.cs.hop cp).partner = some sender ∧
        d.cs.size = max c.size (max self sender + 1) ∧ (d.cs.busy.contains sender = b.getLsbD 81) ∧
        (c.st = .discovering → d.cs.st = if self = 0 then .master else .joining))) ∧
      (fieldOf b 15 8 ≠ 1 ∨ partnerFits self cp sender = false → c.st = .discovering → s.dev.er.pend = [] →
        Does (.join cp b) s (fun d => alone d ∧ ∃ r, d.er.log.getLast? = some r ∧ r.cls = .c3 ∧ r.origin = 0x15 ∧ r.inst = self))) ∧
    (∀ cp (t : W64), (c.hop cp).partner.isSome = true → let h := c.hop cp
      Does (.echo cp false t) s (fun d => d.cs.hop cp = { h with tx := h.tx ++ [(echoBlock true t.toNat).setWidth 257] }) ∧
      (h.echoes < 16 → t.toNat ≤ s.dev.clk.now → let sum := h.delay + (s.dev.clk.now - t.toNat)
        Does (.echo cp true t) s (fun d => d.cs.hop cp = if h.echoes = 15 then { h with echoes := 16, delay := sum / 32 } else
          { h with echoes := h.echoes + 1, delay := sum, tx := h.tx ++ [(echoBlock false s.dev.clk.now).setWidth 257] }))) ∧
    (∀ m count epoch, 0 < m → m < 8 →
      (c.st = .joining → m = self → (s.dev.clk.adopted = false ∧ s.dev.idle = true) ∨ (s.dev.clk.adopted = true ∧ e ≤ epoch) →
        Does (.memberAdmit m count epoch) s (fun d => d.cs.st = .member ∧ d.clk.adopted = true ∧ d.er.epoch = epoch % 2 ^ 48 ∧
          d.clk.now = if s.dev.clk.adopted then max s.dev.clk.now (count + c.c1.delay) else count + c.c1.delay)) ∧
      (c.st = .master → m ≠ self → c.present.contains m = false → c.busy.contains m = false ∨ c.former.contains m = true → Does (.memberAdmit m count epoch) s (fun d =>
        d.cs.present.contains m = true ∧ d.er.epoch = (e + 1) % 2 ^ 48))) ∧
    (∀ path, s.dev.writable path = true → fieldOf (s.dev.reg Reg.CS_CTL) 30 29 = 0 →
      (c.st = .standalone → s.dev.fu.loadDone = true → Does (.cascadeJoin path) s (fun d => d.cs.st = .discovering ∧ d.cs.c0.st = .detect ∧ d.cs.c1.st = .detect)) ∧
      (c.inRing = true → Does (.cascadeLeave path) s (fun d => alone d ∧ d.er.epoch = (e + 1) % 2 ^ 48))) ∧
    (∀ m, m ≠ self → c.present.contains m = true →
      (c.st = .master → Does (.memberLoss m) s (fun d => d.cs.present.contains m = false ∧ d.er.epoch = (e + 1) % 2 ^ 48)) ∧
      (c.st = .member → m = 0 → Does (.memberLoss m) s (fun d => alone d ∧ d.er.epoch = (e + 1) % 2 ^ 48))) ∧
    (∀ cp n, (c.hop cp).st = .active → n < 8 → Does (.hopLoss cp n) s (fun d =>
      (d.cs.hop cp).lanes = (if 4 ≤ n then 4 else if 2 ≤ n then 2 else 0) ∧ (d.cs.hop cp).st = if n < 2 then .repair else .detect)) ∧
    (c.inRing = true →
      (∀ cp n, Does (.ack cp n false) s (fun d => d = { s.dev with cs := { c with unacked := c.unacked.filter (fun m =>
          !((m.clockwise == (cp == .c0)) && decide (m.seq ≤ n))) } }) ∧
        Does (.ack cp n true) s (fun d => d.cs.unacked = c.unacked ∧ d.cs.hop cp =
          (c.unacked.filter (fun m => m.clockwise == (cp == .c0) && decide (n ≤ m.seq))).foldl Hop.message (c.hop cp))) ∧
      Does .timeSend s (fun d => d.cs.unacked.length = c.unacked.length + 2 * s.dev.others.length ∧
        (s.dev.clk.running = true → d.clk.now = (s.dev.clk.now / 1024 + 1) * 1024)) ∧
      ∀ h : MsgHead, let q := b2n (!h.clockwise)
        let good (p : List Byte) : Prop := headWhole h p = true ∧ h.seq = c.rxSeq.get q
        (∀ i k p, carried i = some (k, h, p) →
          (¬ good p → Does i s (fun d => d = { s.dev with cs := ({ c with acks := c.acks.set q (some (c.rxSeq.get q, true)) }).onHop (!h.clockwise) (fun x =>
            x.control (ackBlock (c.rxSeq.get q) true)) })) ∧
          (good p → h.dst ≠ self → Does i s (fun d => d.cs.rxSeq.get q = (c.rxSeq.get q + 1) % 2 ^ 32 ∧ d.cs.acks.get q = some (c.rxSeq.get q, false) ∧
            d.er = s.dev.er ∧ d.cmds = s.dev.cmds ∧
            ∃ m, d.cs.unacked = c.unacked ++ [m] ∧ m.kind = k ∧ m.src = h.src ∧ m.dst = h.dst ∧ m.payload = p ∧ m.stamp = headStamp h ∧ m.clockwise = h.clockwise))) ∧
        (h.dst = self →
          (∀ count horizon, good (timeBytes count horizon) → (h.src ≠ 0 ∨ c.st = .master → Does (.time h count horizon) s (fun d =>
              d.cs.horizons.get h.src = max (c.horizons.get h.src) horizon ∧ d.clk.now = s.dev.clk.now)) ∧
            (let want := count + (if h.clockwise then c.c1.delay else c.c0.delay)
             h.src = 0 → c.st = .member → want ≤ s.dev.clk.now + 8 → s.dev.clk.now ≤ want + 8 → Does (.time h count horizon) s (fun d =>
              d.clk.now = max s.dev.clk.now want ∧ d.clk.ahead = s.dev.clk.now - want ∧
              d.cs.offset = (s.dev.clk.now : Int) - want ∧ d.cs.misaligned = 0))) ∧
          (∀ v, good (leBytes 6 v) → (c.st = .member → Does (.epoch h v) s (fun d => d.er.epoch = v % 2 ^ 48)) ∧
            (c.st = .master → Does (.epoch h v) s (fun d => d.er.epoch = (e + 1) % 2 ^ 48))) ∧
          (∀ m, good (leBytes 1 m) → h.src = 0 → (m ≠ self → c.present.contains m = true → Does (.loss h m) s (fun d => d.cs.present.contains m = false)) ∧
            (m = self → Does (.loss h m) s alone))))

/-- On a ring member, a whole message in sequence for it acts: FORWARD adds one command with the entry, arrival stamp and queue carried; RESULT
decides the forwarded command it names with the completion carried; DMA_RD answers with the bytes of the host memory, or without them where the port
is closed; DMA_DATA closes the first read asked of its sender and, where complete, gives its bytes to what is known of that memory; DMA_WR writes the
host memory. A loan of a pool that does not exist is refused; any other is refused or lent. A grant nobody waits for is given back; a refusal after
the last lender ends the write with S_POOL_EMPTY; LEND_FREE ends a loan. A lent buffer is read into BUF_WR and written in whole words; one not lent is
left alone. ABORT_DECIDE aborts the command it names. SET_OP from the master adds the operation as a command; one committed is no longer pending for
its sender. A parity stream that meets this member's own term passes on. When the lag of a stripe ends the open data forme closes, or with nothing
open an empty forme of the next stripe is assembled. -/
def Obligations.RingCarriesWork : Prop :=
  ∀ (s : State) (h : MsgHead), s.dev.working = true → s.dev.cs.inRing = true → h.seq = s.dev.cs.rxSeq.get (b2n (!h.clockwise)) →
    h.dst = s.dev.clk.member.toNat →
    let whole (i : Instr) : Prop := ∃ k p, carried i = some (k, h, p) ∧ headWhole h p = true
    let c := s.dev.cs
    let p := s.dev.portFor h.src
    let opened : Prop := (s.dev.port p).busMaster = true ∧ (s.dev.port p).linkUp = true
    let sends (d : Dev) (k : MsgKind) (bs : List Byte) : Prop := ∃ m, d.cs.unacked = c.unacked ++ [m] ∧ m.kind = k ∧ m.dst = h.src ∧ m.payload = bs
    (∀ sqe t o q, whole (.forward h sqe t o q) → Does (.forward h sqe t o q) s (fun d => d.arb.nextCmd = s.dev.arb.nextCmd + 1 ∧ d.cmds = s.dev.cmds ++
      [⟨s.dev.arb.nextCmd, portOf (q / 512 % 2), q % 512, sqeOf (leBytes 64 sqe.toNat), ⟨t, o⟩, none, none, none, some h.src, false⟩])) ∧
    (∀ (cqe : BitVec 256) m, whole (.result h cqe) → let bs := leBytes 32 cqe.toNat
      s.dev.cmds.find? (fun m => m.fwdTo == some h.src && m.done.isNone && m.sqe.cid.toNat == leNat (sliceBytes bs 0 2) &&
        dqn m.port m.qid == leNat (sliceBytes bs 2 2)) = some m →
      Does (.result h cqe) s (fun d => d.decided m.id (resultOf bs))) ∧
    (∀ a n, whole (.dmaRd h a n) → (opened → Does (.dmaRd h a n) s (fun d => sends d .dmaData (leBytes 1 1 ++ s.dev.hostRead p a n))) ∧
      (¬ opened → Does (.dmaRd h a n) s (fun d => sends d .dmaData (leBytes 1 0)))) ∧
    (∀ data a, c.asks.find? (fun a => a.1 == h.src) = some a →
      (whole (.dmaData h data true) → Does (.dmaData h data true) s (fun d => d.cs.asks = c.asks.erase a ∧ d.hostR.get (2 * a.1 + a.2.1) =
        writeBytes (s.dev.hostR.get (2 * a.1 + a.2.1)) a.2.2.1 (data.take a.2.2.2))) ∧
      (whole (.dmaData h data false) → Does (.dmaData h data false) s (fun d => d.cs.asks = c.asks.erase a ∧ d.hostR = s.dev.hostR))) ∧
    (∀ a data, whole (.dmaWr h a data) → Does (.dmaWr h a data) s (fun d => d.host p = writeBytes (s.dev.host p) a data)) ∧
    (∀ pool, whole (.lendReq h pool) → let refused (d : Dev) : Prop := sends d .lendGrant (leBytes 1 pool ++ leBytes 4 noLoan) ∧ d.cs.lentBufs = c.lentBufs
      Does (.lendReq h pool) s (fun d => refused d ∨ ∃ k, sends d .lendGrant (leBytes 1 pool ++ leBytes 4 k) ∧ d.cs.lentBufs = c.lentBufs ++ [(h.src, k)]) ∧
      (6 ≤ pool → Does (.lendReq h pool) s refused)) ∧
    (∀ pool buf, (whole (.lendGrant h pool buf) → buf ≠ noLoan → c.lendAsks.find? (fun a => a.2.1 == pool && a.2.2 == h.src) = none →
        Does (.lendGrant h pool buf) s (fun d => sends d .lendFree (leBytes 4 buf))) ∧
      (∀ a, whole (.lendGrant h pool noLoan) → c.lendAsks.find? (fun a => a.2.1 == pool && a.2.2 == h.src) = some a → (s.dev.lenders.dropWhile (fun m => m != h.src)).drop 1 = [] →
        Finishes (.lendGrant h pool noLoan) s a.1 St.poolEmpty none (fun d => ∀ x ∈ d.cs.lendAsks, x.1 ≠ a.1))) ∧
    (∀ buf, whole (.lendFree h buf) → c.lentBufs.contains (h.src, buf) = true → Does (.lendFree h buf) s (fun d => d.cs.lentBufs = c.lentBufs.erase (h.src, buf))) ∧
    (∀ buf off n, whole (.bufRd h buf off n) → c.lentBufs.contains (h.src, buf) = true → inBuf buf off n = true →
      Does (.bufRd h buf off n) s (fun d => ∃ bs, bs.length = n ∧ sends d .bufWr (leBytes 4 buf ++ leBytes 4 off ++ bs))) ∧
    (∀ buf off data, whole (.bufWr h buf off data) → (c.lentBufs.contains (h.src, buf) = false → Does (.bufWr h buf off data) s (fun d => d.mi = s.dev.mi ∧ d.pools = s.dev.pools)) ∧
      (c.lentBufs.contains (h.src, buf) = true → inBuf buf off 8 = true → off % 8 = 0 → data.length = 8 →
        let w := s.dev.pools.wordOf buf + off / 8
        Does (.bufWr h buf off data) s (fun d => d.mi.words.get w = s.dev.mi.stored w (bchEncode (toW64 (leNat data))) ∧
          ∀ x, x ≠ w → d.mi.words.get x = s.dev.mi.words.get x))) ∧
    (∀ (cid : W16) q m, whole (.abortDecide h cid q) → s.dev.cmds.find? (fun m => m.fwdFrom == some h.src && m.sqe.cid == cid && dqn m.port m.qid == q && m.done.isNone) = some m →
      Does (.abortDecide h cid q) s (fun d => ∃ k, k.status = St.aborted ∧ d.decided m.id k)) ∧
    (∀ o arg mode k m, whole (.setOp h (.start o arg mode k m)) → h.src = 0 → o ≠ 0 → Does (.setOp h (.start o arg mode k m)) s (fun d => ∃ x, d.cmds = s.dev.cmds ++ [x] ∧ x.sqe.word = setOpWord o ∧
      x.arrival = headStamp h ∧ x.fwdFrom = some h.src ∧
      (o = 0x50 ∨ o = 0x51 → d.cs.modeInForce = mode % 3 ∧ d.cs.kInForce = k % 8 ∧ d.cs.mInForce = m % 4))) ∧
    (∀ o, whole (.setOp h (.committed o)) → Does (.setOp h (.committed o)) s (fun d => (o, h.src) ∉ d.cs.setPending)) ∧
    (∀ stream number symbols x, s.dev.er.halted = false → s.dev.dataMember = true → s.dev.vol.st = .opened → stream = 1 ∨ stream = 2 →
      c.partialOf stream number = some x → x.own = true →
      Does (.stripe (streamPort stream) stream number symbols) s (fun d => d.cs.partialOf stream number = none ∧
        d.cnt 0xC0 0 5 = (s.dev.cnt 0xC0 0 5 + stripeBlocks) % 2 ^ 64)) ∧
    (∀ number x, s.dev.er.halted = false → s.dev.dataMember = true → s.dev.vol.st = .opened → c.stripeFolios.length ≤ number →
      (let a := s.dev.advanceBy (max 1 (s.dev.rf Reg.CS_CFG 15 8) * msTicks)
       if s.dev.fm.openPayload = [] then a.emptyStripe = some x else a.closeData = some x) → Does (.stripeLagExpire number) s (fun d => d = x))

/-- A setting burn that the checks refuse leaves the fuses with the refusing result; one accepted begins with the staged bytes in the next generation;
while a burn is busy either request changes no fuse. A control burn begins in MAINT with the bits staged, and is refused with result 1 elsewhere. The
end of a burn keeps every cell that was burned, whatever its read-back; with its place left the first repair burn that waits begins with every repair
not yet burned, and a setting or control burn that reads back well has result 0. A tamper source empties the key store, starts the fill and fails the
device. A debug request that is refused changes nothing of the fuses; otherwise it holds a 64-byte challenge that begins with the device's identity
and the level wanted. A verify of a response that answers the challenge raises the level, takes the device keys out of use at level 2, and consumes
the challenge; any other counts a failure, up to three, and is a C0 event. Clearing the level sets it to 0 and leaves the rest. -/
def Obligations.FusesAndDebug : Prop :=
  ∀ (s : State), s.dev.alive = true →
    let f := s.dev.fu
    (∀ path, s.dev.writable path = true →
      (∀ r, f.busy = false → s.dev.settingCheck = .error r → Does (.settingBurn path) s (fun d => d.fu = f ∧ d.w1f Reg.FU_STAT 0 28 26 = r)) ∧
      (∀ g, f.busy = false → s.dev.settingCheck = .ok g → Does (.settingBurn path) s (fun d => d.fu = { f with burn := some (.setting g s.dev.staging) })) ∧
      (f.busy = false → s.dev.mode = .maint → s.dev.hk.vfuseFailed = false →
        Does (.controlFuseBurn path) s (fun d => d.fu = { f with burn := some (.control (BitVec.ofNat 3 (s.dev.rf Reg.FU_STAGE 2 0))) })) ∧
      (f.busy = false → s.dev.mode ≠ .maint → Does (.controlFuseBurn path) s (fun d => d.fu = f ∧ d.w1f Reg.FU_STAT 0 28 26 = 1)) ∧
      (f.busy = true → Does (.settingBurn path) s (fun d => d.fu = f) ∧ Does (.controlFuseBurn path) s (fun d => d.fu = f)) ∧
      (∀ level, level = 1 ∨ level = 2 →
        (s.dev.debugRefused level = true → Does (.debugRequest path level) s (fun d => d.fu = f)) ∧
        (s.dev.debugRefused level = false → Does (.debugRequest path level) s (fun d => d.fu.wanted = level ∧ d.fu.level = f.level ∧
          ∃ rnd t, rnd.length = 32 ∧ d.fu.challenge = some (s.dev.fuseBytes 8 16 ++ s.dev.fuseBytes 24 4 ++ leBytes 1 level ++ zeros 3 ++ rnd ++ leBytes 8 t)))) ∧
      (∀ ch, f.challenge = some ch → s.dev.responseOk ch = true → (logFree f.shadow).isSome = true →
        Does (.debugVerify path) s (fun d => d.fu.level = f.wanted ∧ d.fu.challenge = none ∧ d.fu.failures = f.failures ∧ (f.wanted = 2 → d.fu.keysOff = true))) ∧
      ((∀ ch, f.challenge = some ch → s.dev.responseOk ch = false ∨ logFree f.shadow = none) →
        Does (.debugVerify path) s (fun d => d.fu = { f with challenge := none, failures := min (f.failures + 1) 3 } ∧
          ∃ r, d.er.log.getLast? = some r ∧ r.cls = .c0 ∧ r.origin = 0x16)) ∧
      Does (.debugLevelClear path) s (fun d => d.fu = { f with level := 0 })) ∧
    (∀ ok b, f.burn = some b → Does (.fuseBurnDone ok) s (fun d => (∀ a, d.fu.cells.get a &&& f.cells.get a = f.cells.get a) ∧
      (f.waiting = [] → d.fu.burn = none ∧ d.fu.waiting = []) ∧
      (∀ path v ws, f.waiting = (path, v) :: ws → s.dev.hk.vfuseFailed = false →
        let e := s.dev.endBurn b ok
        e.mi.softRows.length ≤ (freeRowSlots e.fu.shadow).length → e.mi.softLanes.length ≤ (freeLaneSlots e.fu.shadow).length →
        d.fu.burn = some (.repair e.mi.softRows e.mi.softLanes) ∧ d.fu.waiting = ws) ∧
      (∀ g bs, ok = true → b = .setting g bs → d.w1f Reg.FU_STAT 0 28 26 = 0) ∧ (∀ bits, ok = true → b = .control bits → d.w1f Reg.FU_STAT 0 28 26 = 0))) ∧
    (∀ source, source = 1 ∨ (source = 3 ∧ s.dev.rf Reg.FU_TAMPER 31 31 = 1) →
      Does (.tamper source) s (fun d => d.er.failed = true ∧ d.cx.slots = Table.empty ∧ d.cx.keysZero = true ∧ d.mi.initBusy = true))

/-- A patch load from an aligned address of an open port takes an image that passes its checks: the loader is busy with it, staged and retained; one
that fails gives the number of its check as the result, with a C0 event, and changes nothing of the loader. A cancel ends the load with result 7. The
last cluster to quiesce takes the image, takes commands again, and the load ends with result 0. A context whose microthread fetches a malformed
microword fences its cluster as a C3. An idle engine sleeps with the order epoch; one that wakes keeps its cache only where the epoch is the same.
SNAP_IN arms a snapshot where none is held, and is otherwise counted with a C0 event. A supplied latch is stamped 16 to 32 ticks past the target; the
last latches end the arming, and a release that waited frees the snapshot. Below level 1 every debug instruction of JTAG selects BYPASS; from it
DBG_REG reads a register and DBG_SNAP captures a record; at level 2 DBG_PATCH waits for its cluster, and DBG_SCAN, by itself or as an instruction,
empties the key store and fails the device. An instruction that reads IDCODE captures it from the stepping, the part and the maker. -/
def Obligations.PatchesSnapshotsAndJtag : Prop :=
  ∀ (s : State), s.dev.working = true →
    let en := s.dev.en
    let sn := s.dev.sn
    (∀ path mem, s.dev.writable path = true → fieldOf (s.dev.reg Reg.EN_PCTL) 31 30 = 0 →
      let p := portOf (s.dev.rf Reg.EN_PCTL 29 29)
      let bs := (s.dev.place p mem).imageBytes p (s.dev.addrB Reg.EN_PADDR_LO 0)
      let r := s.dev.imageCheck bs
      (en.busy = false → s.dev.addrB Reg.EN_PADDR_LO 0 % 8 = 0 → (s.dev.port p).busMaster = true → (s.dev.port p).linkUp = true →
        (r = 0 → Does (.patchLoadStart path mem true) s (fun d => d.en.busy = true ∧ d.en.staged = bs ∧ d.en.retained = some bs ∧ d.en.todo = imgClusters bs)) ∧
        (r ≠ 0 → Does (.patchLoadStart path mem true) s (fun d => d.en = en ∧ d.w1f Reg.EN_PSTAT 0 30 27 = r ∧
          ∃ x, d.er.log.getLast? = some x ∧ x.cls = .c0))) ∧
      (en.busy = true → Does (.patchLoadCancel path) s (fun d => d.en.busy = false ∧ d.en.todo = [] ∧ d.en.retained = en.retained ∧
        d.w1f Reg.EN_PSTAT 0 30 27 = 7)) ∧
      (en.busy = false → Does (.patchLoadCancel path) s (fun d => d.en = en))) ∧
    (∀ cl, cl < 4 →
      (en.busy = true → en.todo = [cl] → en.jtagWaiting = [] → (en.clusters.get cl).quiescing = true → s.dev.clusterIdle cl = true →
        Does (.clusterQuiesced cl) s (fun d => d.en.clusters.get cl = imgCluster en.staged ∧ d.en.busy = false ∧ d.w1f Reg.EN_PSTAT 0 30 27 = 0)) ∧
      (∀ run pc, run.ctx / 64 = cl → s.dev.occupied run.ctx = true → s.dev.microFault run = some pc →
        s.dev.isFenced (clusterUid cl) = false → s.dev.er.pend = [] → s.dev.hasMate (clusterUid cl) = true →
        Does (.microwordMalformed run) s (fun d => d.isFenced (clusterUid cl) = true ∧
          ∃ x ∈ d.er.pend, x.cls = .c3 ∧ x.unit = clusterUid cl))) ∧
    (∀ e, e < 32 →
      (s.dev.rf Reg.EN_SLEEP 31 31 = 1 → (s.dev.engines.get e).asleep = none → s.dev.engineIdle e = true → Does (.engineSleep e) s (fun d =>
        d.engines.get e = { s.dev.engines.get e with asleep := some s.dev.er.epoch })) ∧
      (∀ was, (s.dev.engines.get e).asleep = some was →
        (List.range 8).any (fun i => (s.dev.nextFor (8 * e + i)).any (fun m => s.dev.chooseEngine m == some e)) = true →
        Does (.engineWake e) s (fun d => d.engines.get e =
          if was = s.dev.er.epoch then { s.dev.engines.get e with asleep := none } else { s.dev.engines.get e with lines := [], asleep := none }))) ∧
    (s.dev.rf Reg.SN_CTL 29 29 = 1 →
      (sn.held = false → Does .snapIn s (fun d => d.sn.held = true ∧ d.sn.armed = true ∧ d.sn.source = 3 ∧ d.sn.latches = Table.empty ∧
        s.dev.clk.now + 252 ≤ d.sn.target)) ∧
      (sn.held = true → Does .snapIn s (fun d => d.sn = sn ∧ d.w1f Reg.SN_STAT 0 7 0 = min (s.dev.w1f Reg.SN_STAT 0 7 0 + 1) 255 ∧
        ∃ x, d.er.log.getLast? = some x ∧ x.cls = .c0))) ∧
    (sn.armed = true →
      (∀ n, n < 80 → sn.latches.get n = none → Does (.domainLatchSupply n) s (fun d => (∀ m, m ≠ n → d.sn.latches.get m = sn.latches.get m) ∧
        ∃ l, d.sn.latches.get n = some l ∧ l.supplied = true ∧ sn.target + 16 ≤ l.stamp.t ∧ l.stamp.t ≤ sn.target + 32)) ∧
      (sn.releaseAsked = false → Does .snapshotLatched s (fun d => d.sn.armed = false ∧ d.sn.held = sn.held ∧ (∀ n, n < 80 → (d.sn.latches.get n).isSome = true) ∧
        ∀ n l, sn.latches.get n = some l → d.sn.latches.get n = some l)) ∧
      (sn.releaseAsked = true → Does .snapshotLatched s (fun d => d.sn.held = false))) ∧
    (let level := s.dev.debugLevel
     let only (d : Dev) (code : BitVec 8) : Prop := d = { s.dev with pins := { s.dev.pins with jtag := code } }
     let scanned (d : Dev) : Prop := d.er.failed = true ∧ d.cx.slots = Table.empty ∧ d.pins.jtag = 0x48
     (∀ data : W64, (level = 0 → Does (.dbgReg data) s (fun d => only d jtagBypass)) ∧
      (1 ≤ level → bitOf data 63 = false → Does (.dbgReg data) s (fun d => d.pins.jtag = 0x40 ∧ d.pins.jtagOut =
        ((s.dev.jtagLoad 0x40).readReg (.jtag (portOf (b2n (bitOf data 62)))) (fieldOf data 57 32)).1))) ∧
     (∀ n : BitVec 7, (level = 0 → Does (.dbgSnap n) s (fun d => only d jtagBypass)) ∧
      (1 ≤ level → n ≠ 0x7F → Does (.dbgSnap n) s (fun d => d.pins.jtagCapture = sn.record n.toNat ∧ d.sn = sn))) ∧
     (∀ w, (level ≠ 2 → Does (.dbgPatch w) s (fun d => only d jtagBypass)) ∧
      (level = 2 → Does (.dbgPatch w) s (fun d => d.en.jtagWaiting = en.jtagWaiting ++ [w] ∧ (d.en.clusters.get (jtagCluster w)).quiescing = true))) ∧
     (level ≠ 2 → Does .dbgScan s (fun d => only d jtagBypass) ∧ Does (.jtagInstruction 0x48) s (fun d => only d jtagBypass)) ∧
     (level = 2 → Does .dbgScan s scanned ∧ Does (.jtagInstruction 0x48) s scanned) ∧
     (∀ code, code = 0x40 ∨ code = 0x41 → Does (.jtagInstruction code) s (fun d => only d (if 1 ≤ level then code else jtagBypass))) ∧
     (∀ code, code.toNat < 0x40 → isBoundary code = false → Config.jtagClass code = 2 → Does (.jtagInstruction code) s (fun d => d.pins.jtag = code ∧
        d.pins.jtagCapture = leBytes 4 (s.dev.stepping * 2 ^ 28 + 0x9200 * 2 ^ 12 + 0x2B5 * 2 + 1))))

/-- WARM_RESET_N drops every command and resets the epoch, keeps a held snapshot as a prior one and the debug failures, and burned cells stay burned.
A release with the other reset high starts the count at 0 with the strapped member number. A fuse array whose identity record or keys fail fails the
device; one that passes puts start-up in stage 2, starts the fill and discovery, and applies the map's row repairs. The fill's end, a BIST without
failures, a flash that is absent (a C0 event) and READY each mark their step. A supply that falls puts drive and brake outputs low, and without the
core supplies empties the key store. A stall that ends advances the count to where the unit may stamp. A read of the LO half of a pair latches the HI
half, which the path then reads; an I2C read of port B's copy of a register with none reads 0. A write to an offset that no block decodes changes no
register and is a C0 event; ER_CFG unlocked takes both its fields, and locked keeps them with a C0 event where they would change. Before the flash is
applied a write is held, up to 256. -/
def Obligations.StartUpRuns : Prop :=
  ∀ (s : State),
    let b := s.dev.boot
    let f := s.dev.fu
    (b.pwrLow = false → b.warmLow = false → Does .warmResetAssert s (fun d => d.boot.warmLow = true ∧ d.cmds = [] ∧ d.er.epoch = 0 ∧ d.boot.ready = false ∧
      d.fu.failures = f.failures ∧ (∀ a, d.fu.cells.get a &&& f.cells.get a = f.cells.get a) ∧
      (s.dev.sn.held = true → s.dev.sn.armed = false → d.sn = { s.dev.sn with prior := true }))) ∧
    (∀ n i2c, b.pwrLow = true → Does (.pwrResetRelease n i2c) s (fun d => d.boot.pwrLow = false ∧ d.clk.member = n ∧ d.pins.i2cAddr = i2c ∧
      (b.warmLow = false → d.clk.now = 0 ∧ d.clk.running = true))) ∧
    (b.warmLow = true → Does .warmResetRelease s (fun d => d.boot.warmLow = false ∧ (b.pwrLow = false → d.clk.now = 0 ∧ d.clk.running = true))) ∧
    (∀ cells, s.dev.working = true → f.loadDone = false →
      let m := (f.read cells).shadow
      (identityOk m = false ∨ keyRegionOk m = false → Does (.fuseLoadDone cells) s (fun d => d.er.failed = true)) ∧
      (identityOk m = true → keyRegionOk m = true → Does (.fuseLoadDone cells) s (fun d => d.fu.loadDone = true ∧ d.boot.stage = 2 ∧ d.mi.initBusy = true ∧
        d.cs.st = .discovering ∧ d.mi.rows = fuseRows m))) ∧
    (s.dev.alive = true → f.loadDone = true → s.dev.mi.initBusy = true → Does .initFillDone s (fun d => d.mi.initBusy = false ∧ d.boot.fillDone = true)) ∧
    (s.dev.working = true → f.loadDone = true → s.dev.mi.bistDone = false → Does (.bistDone 0 []) s (fun d => d.mi.bistDone = true ∧ d.boot.stage = 3 ∧
      d.er = s.dev.er)) ∧
    (s.dev.working = true → s.dev.mi.bistDone = true → b.bootDone = false → b.heldWrites = [] → Does (.bootFlashDone none) s (fun d => d.boot.bootDone = true ∧
      d.boot.stage = 4 ∧ d.boot.flashPresent = b.flashPresent ∧ ∃ r, d.er.log.getLast? = some r ∧ r.cls = .c0)) ∧
    (s.dev.mayReady = true → b.heldOps = [] → Does .ready s (fun d => d.boot.ready = true ∧ d.boot.stage = 6 ∧ ∃ r, d.er.log.getLast? = some r ∧ r.cls = .c0 ∧
      r.origin = 0x12)) ∧
    (∀ vio core, vio = false ∨ core = false → Does (.supplyRamp vio core) s (fun d => d.tc.driveEn = false ∧ d.tc.brakeN = false ∧ d.tc.st = .safe ∧
      d.alive = false ∧ (core = false → d.cx.slots = Table.empty))) ∧
    (∀ u x, s.dev.alive = true → s.dev.clk.running = true → s.dev.clk.stalls.find? (fun x => decide (x.1 = u)) = some x →
      Does (.stampStallEnd u) s (fun d => d.clk.now = max s.dev.clk.now x.2 ∧ d.clk.stalls = s.dev.clk.stalls.erase x)) ∧
    (∀ path (a : W32) v, s.dev.readOpen path = true → latchedLo.contains a.toNat = true → s.dev.pairValue a.toNat = some v →
      Does (.latchedLoRead path a) s (fun d => d.pins.loOut = toW32 v ∧ (d.readReg path (a.toNat + 4)).1 = toW32 (v / 2 ^ 32))) ∧
    (∀ o : W32, s.dev.readOpen (.i2c .a) = true → 2 ^ 31 ≤ o.toNat → perPort (o.toNat % 2 ^ 31) = false → o.toNat % 2 ^ 31 / 65536 ≠ 0x10 →
      Does (.i2cRead o) s (fun d => d = { s.dev with pins := { s.dev.pins with i2cOut := 0 } })) ∧
    (∀ path (a v : W32),
      let event (d : Dev) : Prop := ∃ r, d.er.log.getLast? = some r ∧ r.cls = .c0 ∧ r.category = 2
      (s.dev.writable path = true →
        (findReg a.toNat = none → Does (.registerWrite path .bar0 a v) s (fun d => d.regs = s.dev.regs ∧ event d)) ∧
        (a.toNat = Reg.ER_CFG → s.dev.locked Reg.ER_CFG = false → Does (.registerWrite path .bar0 a v) s (fun d => d.er = s.dev.er ∧
          d.rf Reg.ER_CFG 31 16 = fieldOf v 31 16 ∧ d.rf Reg.ER_CFG 3 0 = fieldOf v 3 0)) ∧
        (a.toNat = Reg.ER_CFG → s.dev.locked Reg.ER_CFG = true → fieldOf v 3 0 ≠ s.dev.rf Reg.ER_CFG 3 0 → Does (.registerWrite path .bar0 a v) s (fun d =>
          event d ∧ d.rf Reg.ER_CFG 31 16 = s.dev.rf Reg.ER_CFG 31 16 ∧ d.rf Reg.ER_CFG 3 0 = s.dev.rf Reg.ER_CFG 3 0))) ∧
      (s.dev.pathOpen path = true → b.bootDone = false → b.failed = false → ¬ (0x00100000 ≤ a.toNat ∧ a.toNat < 0x00110000) →
        (b.heldCount < 256 → Does (.registerWrite path .bar0 a v) s (fun d => d = { s.dev with boot := { b with
          heldWrites := b.heldWrites ++ [⟨path, .bar0, a.toNat, v, 0⟩] } })) ∧
        (256 ≤ b.heldCount → Does (.registerWrite path .bar0 a v) s (fun d => event d ∧ d.boot = b))))

/-- For every device, unit and carried stamp: the stamp issued is the largest of the count the unit sees (at most 4 ticks behind the count), its last
T plus 1, and the carried T plus 1; it carries the unit's origin. The next stamp of the same unit is strictly later, the stamps of other units are not
moved, and neither is the count; but a unit whose stamp would run more than 64 ticks ahead is entered among the stalls, and goes on when the count is
64 ticks behind its stamp. -/
def Obligations.StampsRise : Prop :=
  ∀ (d : Dev) (u u2 after : Nat) (carried : Stamp),
    let x := d.stamp u carried.after
    let y := x.2.stamp u2 after
    x.1.t = max (max d.seen (d.clk.last.get u)) (carried.t + 1) ∧ x.2.clk.last.get u = x.1.t + 1 ∧ x.1.o = d.origin u ∧
    d.seen ≤ d.clk.now ∧ d.clk.now ≤ d.seen + 4 ∧ carried.lt x.1 = true ∧
    (u2 = u → x.1.t < y.1.t ∧ x.1.lt y.1 = true) ∧ (∀ w, w ≠ u → x.2.clk.last.get w = d.clk.last.get w) ∧
    (x.1.t ≤ d.clk.now + 64 → x.2.clk.now = d.clk.now ∧ x.2.clk.stalls = d.clk.stalls) ∧
    (d.clk.now + 64 < x.1.t → x.2.clk.stalls = d.clk.stalls ++ [(u, x.1.t - 64)] ∧ (d.clk.running = true → x.2.clk.now = x.1.t - 64))
end

