-- ==== Sys2Proof/Laws/Table.lean ====
section
/-! SUPPORT. Laws of the sparse table: what a read gives after a write, and that a write keeps the canonical form. -/

namespace Sys2Proof.Table

variable {α : Type} {d : α}

@[simp] theorem get_empty (k : Nat) : (Table.empty : Table α d).get k = d := rfl

theorem look_insertKey (l : List (Nat × α)) (k : Nat) (v : α) (j : Nat) :
    look d (insertKey l k v) j = if j = k then v else look d l j := by
  induction l with
  | nil => by_cases h : k = j <;> simp [insertKey, look, h, eq_comm]
  | cons c t ih =>
    obtain ⟨i, a⟩ := c
    simp only [insertKey]
    split
    · simp only [look]; by_cases h : k = j
      · simp [h]
      · simp [h, Ne.symm h]
    · split
      · subst_vars; simp only [look]; by_cases h : i = j
        · simp [h]
        · simp [h, Ne.symm h]
      · simp only [look, ih]; split
        · split <;> simp_all
        · rfl

theorem look_dropKey (l : List (Nat × α)) (k j : Nat) :
    look d (dropKey l k) j = if j = k then d else look d l j := by
  induction l with
  | nil => simp [dropKey, look]
  | cons c t ih =>
    obtain ⟨i, a⟩ := c
    simp only [dropKey]
    split
    · subst_vars; simp only [ih, look]; split
      · rfl
      · rw [if_neg (fun h => by simp_all)]
    · simp only [look, ih]; split
      · rw [if_neg (by rintro rfl; simp_all)]
      · rfl

section
variable [DecidableEq α]

/-- A read after a write: the value written at its key, the value before elsewhere. -/
theorem get_set (m : Table α d) (k : Nat) (v : α) (j : Nat) : (m.set k v).get j = if j = k then v else m.get j := by
  unfold set get
  split
  · rw [look_dropKey]; split <;> simp_all
  · rw [look_insertKey]

@[simp] theorem get_set_self (m : Table α d) (k : Nat) (v : α) : (m.set k v).get k = v := by simp [get_set]

theorem get_set_ne (m : Table α d) {k j : Nat} (v : α) (h : j ≠ k) : (m.set k v).get j = m.get j := by simp [get_set, h]

@[simp] theorem get_modify_self (m : Table α d) (k : Nat) (f : α → α) : (m.modify k f).get k = f (m.get k) := by simp [modify]

theorem get_modify_ne (m : Table α d) {k j : Nat} (f : α → α) (h : j ≠ k) : (m.modify k f).get j = m.get j := by
  simp [modify, get_set, h]

theorem get_modify (m : Table α d) (k : Nat) (f : α → α) (j : Nat) :
    (m.modify k f).get j = if j = k then f (m.get k) else m.get j := by
  simp [modify, get_set]

end

/-! ### The canonical form -/

/-- Keys of a list all above a bound. -/
def above (b : Nat) (l : List (Nat × α)) : Prop := ∀ c ∈ l, b < c.1

theorem rising_cons (i : Nat) (a : α) (t : List (Nat × α)) :
    rising ((i, a) :: t) = true ↔ above i t ∧ rising t = true := by
  induction t generalizing i a with
  | nil => simp [rising, above]
  | cons c t ih =>
    obtain ⟨j, b⟩ := c
    have hj := ih j b
    simp only [rising, Bool.and_eq_true, decide_eq_true_eq, hj, above, List.mem_cons, forall_eq_or_imp]
    constructor
    · rintro ⟨h1, h2, h3⟩; exact ⟨⟨h1, fun c hc => lt_trans h1 (h2 c hc)⟩, h2, h3⟩
    · rintro ⟨⟨h1, _⟩, h2, h3⟩; exact ⟨h1, h2, h3⟩

theorem above_insertKey {b k : Nat} {v : α} {l : List (Nat × α)} (hl : above b l) (hb : b < k) : above b (insertKey l k v) := by
  induction l with
  | nil => intro c hc; simp [insertKey] at hc; subst hc; exact hb
  | cons c t ih =>
    obtain ⟨i, a⟩ := c
    have hi := hl (i, a) (by simp)
    have ht : above b t := fun x hx => hl x (by simp [hx])
    intro x hx
    simp only [insertKey] at hx
    split at hx
    · simp only [List.mem_cons] at hx
      rcases hx with rfl | rfl | hx
      · exact hb
      · exact hi
      · exact ht x hx
    · split at hx
      · simp only [List.mem_cons] at hx
        rcases hx with rfl | hx
        · exact hb
        · exact ht x hx
      · simp only [List.mem_cons] at hx
        rcases hx with rfl | hx
        · exact hi
        · exact ih ht x hx

theorem rising_insertKey {k : Nat} {v : α} {l : List (Nat × α)} (h : rising l = true) : rising (insertKey l k v) = true := by
  induction l with
  | nil => rfl
  | cons c t ih =>
    obtain ⟨i, a⟩ := c
    rw [rising_cons] at h
    simp only [insertKey]
    split
    · rw [rising_cons, rising_cons]
      refine ⟨?_, h⟩
      intro x hx
      simp only [List.mem_cons] at hx
      rcases hx with rfl | hx
      · assumption
      · exact lt_trans (by assumption) (h.1 x hx)
    · split
      · subst_vars; rw [rising_cons]; exact h
      · rw [rising_cons]
        exact ⟨above_insertKey h.1 (by omega), ih h.2⟩

theorem mem_dropKey {k : Nat} {l : List (Nat × α)} {c : Nat × α} (h : c ∈ dropKey l k) : c ∈ l := by
  induction l with
  | nil => simp [dropKey] at h
  | cons x t ih =>
    obtain ⟨i, a⟩ := x
    simp only [dropKey] at h
    split at h
    · exact List.mem_cons_of_mem _ (ih h)
    · simp only [List.mem_cons] at h ⊢
      rcases h with h | h
      · exact .inl h
      · exact .inr (ih h)

theorem rising_dropKey {k : Nat} {l : List (Nat × α)} (h : rising l = true) : rising (dropKey l k) = true := by
  induction l with
  | nil => rfl
  | cons x t ih =>
    obtain ⟨i, a⟩ := x
    rw [rising_cons] at h
    simp only [dropKey]
    split
    · exact ih h.2
    · rw [rising_cons]; exact ⟨fun c hc => h.1 c (mem_dropKey hc), ih h.2⟩

theorem mem_insertKey {k : Nat} {v : α} {l : List (Nat × α)} {c : Nat × α} (h : c ∈ insertKey l k v) : c = (k, v) ∨ c ∈ l := by
  induction l with
  | nil => simpa [insertKey] using h
  | cons x t ih =>
    obtain ⟨i, a⟩ := x
    simp only [insertKey] at h
    split at h
    · simpa using h
    · split at h
      · simp only [List.mem_cons] at h ⊢; tauto
      · simp only [List.mem_cons] at h ⊢
        rcases h with h | h
        · tauto
        · rcases ih h with h | h <;> tauto

variable [DecidableEq α]

@[simp] theorem wf_empty : (Table.empty : Table α d).wf = true := rfl

/-- A write keeps the canonical form. -/
theorem wf_set {m : Table α d} (h : m.wf = true) (k : Nat) (v : α) : (m.set k v).wf = true := by
  simp only [wf, Bool.and_eq_true, List.all_eq_true, decide_eq_true_eq] at h ⊢
  unfold set
  split
  · exact ⟨rising_dropKey h.1, fun c hc => h.2 c (mem_dropKey hc)⟩
  · refine ⟨rising_insertKey h.1, fun c hc => ?_⟩
    rcases mem_insertKey hc with rfl | hc
    · assumption
    · exact h.2 c hc

/-- A change keeps the canonical form. -/
theorem wf_modify {m : Table α d} (h : m.wf = true) (k : Nat) (f : α → α) : (m.modify k f).wf = true := wf_set h k _

end Sys2Proof.Table
end

