-- ==== Sys2Proof/Laws/State.lean ====
section
/-! SUPPORT. One lemma for each field of the device under each named update of it, so that no proof unfolds a record update. -/

namespace Sys2Proof.Machine

@[simp] theorem Dev.onClk_clk (d : Dev) (f : Clock → Clock) : (d.onClk f).clk = f d.clk := (rfl)
@[simp] theorem Dev.onClk_pa (d : Dev) (f : Clock → Clock) : (d.onClk f).pa = d.pa := (rfl)
@[simp] theorem Dev.onClk_pb (d : Dev) (f : Clock → Clock) : (d.onClk f).pb = d.pb := (rfl)
@[simp] theorem Dev.onClk_hostA (d : Dev) (f : Clock → Clock) : (d.onClk f).hostA = d.hostA := (rfl)
@[simp] theorem Dev.onClk_hostB (d : Dev) (f : Clock → Clock) : (d.onClk f).hostB = d.hostB := (rfl)
@[simp] theorem Dev.onClk_hostR (d : Dev) (f : Clock → Clock) : (d.onClk f).hostR = d.hostR := (rfl)
@[simp] theorem Dev.onClk_pairs (d : Dev) (f : Clock → Clock) : (d.onClk f).pairs = d.pairs := (rfl)
@[simp] theorem Dev.onClk_arb (d : Dev) (f : Clock → Clock) : (d.onClk f).arb = d.arb := (rfl)
@[simp] theorem Dev.onClk_cmds (d : Dev) (f : Clock → Clock) : (d.onClk f).cmds = d.cmds := (rfl)
@[simp] theorem Dev.onClk_notices (d : Dev) (f : Clock → Clock) : (d.onClk f).notices = d.notices := (rfl)
@[simp] theorem Dev.onClk_heldZeros (d : Dev) (f : Clock → Clock) : (d.onClk f).heldZeros = d.heldZeros := (rfl)
@[simp] theorem Dev.onClk_regs (d : Dev) (f : Clock → Clock) : (d.onClk f).regs = d.regs := (rfl)
@[simp] theorem Dev.onClk_w1c (d : Dev) (f : Clock → Clock) : (d.onClk f).w1c = d.w1c := (rfl)
@[simp] theorem Dev.onClk_cnts (d : Dev) (f : Clock → Clock) : (d.onClk f).cnts = d.cnts := (rfl)
@[simp] theorem Dev.onClk_shadow (d : Dev) (f : Clock → Clock) : (d.onClk f).shadow = d.shadow := (rfl)
@[simp] theorem Dev.onClk_ctxs (d : Dev) (f : Clock → Clock) : (d.onClk f).ctxs = d.ctxs := (rfl)
@[simp] theorem Dev.onClk_engines (d : Dev) (f : Clock → Clock) : (d.onClk f).engines = d.engines := (rfl)
@[simp] theorem Dev.onClk_mode (d : Dev) (f : Clock → Clock) : (d.onClk f).mode = d.mode := (rfl)
@[simp] theorem Dev.onClk_pools (d : Dev) (f : Clock → Clock) : (d.onClk f).pools = d.pools := (rfl)
@[simp] theorem Dev.onClk_idx (d : Dev) (f : Clock → Clock) : (d.onClk f).idx = d.idx := (rfl)
@[simp] theorem Dev.onClk_cm (d : Dev) (f : Clock → Clock) : (d.onClk f).cm = d.cm := (rfl)
@[simp] theorem Dev.onClk_cx (d : Dev) (f : Clock → Clock) : (d.onClk f).cx = d.cx := (rfl)
@[simp] theorem Dev.onClk_fm (d : Dev) (f : Clock → Clock) : (d.onClk f).fm = d.fm := (rfl)
@[simp] theorem Dev.onClk_sh (d : Dev) (f : Clock → Clock) : (d.onClk f).sh = d.sh := (rfl)
@[simp] theorem Dev.onClk_vol (d : Dev) (f : Clock → Clock) : (d.onClk f).vol = d.vol := (rfl)
@[simp] theorem Dev.onClk_links (d : Dev) (f : Clock → Clock) : (d.onClk f).links = d.links := (rfl)
@[simp] theorem Dev.onClk_tc (d : Dev) (f : Clock → Clock) : (d.onClk f).tc = d.tc := (rfl)
@[simp] theorem Dev.onClk_er (d : Dev) (f : Clock → Clock) : (d.onClk f).er = d.er := (rfl)
@[simp] theorem Dev.onClk_mi (d : Dev) (f : Clock → Clock) : (d.onClk f).mi = d.mi := (rfl)
@[simp] theorem Dev.onClk_hk (d : Dev) (f : Clock → Clock) : (d.onClk f).hk = d.hk := (rfl)
@[simp] theorem Dev.onClk_cs (d : Dev) (f : Clock → Clock) : (d.onClk f).cs = d.cs := (rfl)
@[simp] theorem Dev.onClk_fu (d : Dev) (f : Clock → Clock) : (d.onClk f).fu = d.fu := (rfl)
@[simp] theorem Dev.onClk_en (d : Dev) (f : Clock → Clock) : (d.onClk f).en = d.en := (rfl)
@[simp] theorem Dev.onClk_sn (d : Dev) (f : Clock → Clock) : (d.onClk f).sn = d.sn := (rfl)
@[simp] theorem Dev.onClk_boot (d : Dev) (f : Clock → Clock) : (d.onClk f).boot = d.boot := (rfl)
@[simp] theorem Dev.onClk_pins (d : Dev) (f : Clock → Clock) : (d.onClk f).pins = d.pins := (rfl)
@[simp] theorem Dev.onClk_draws (d : Dev) (f : Clock → Clock) : (d.onClk f).draws = d.draws := (rfl)

@[simp] theorem Dev.onArb_clk (d : Dev) (f : Arb → Arb) : (d.onArb f).clk = d.clk := (rfl)
@[simp] theorem Dev.onArb_pa (d : Dev) (f : Arb → Arb) : (d.onArb f).pa = d.pa := (rfl)
@[simp] theorem Dev.onArb_pb (d : Dev) (f : Arb → Arb) : (d.onArb f).pb = d.pb := (rfl)
@[simp] theorem Dev.onArb_hostA (d : Dev) (f : Arb → Arb) : (d.onArb f).hostA = d.hostA := (rfl)
@[simp] theorem Dev.onArb_hostB (d : Dev) (f : Arb → Arb) : (d.onArb f).hostB = d.hostB := (rfl)
@[simp] theorem Dev.onArb_hostR (d : Dev) (f : Arb → Arb) : (d.onArb f).hostR = d.hostR := (rfl)
@[simp] theorem Dev.onArb_pairs (d : Dev) (f : Arb → Arb) : (d.onArb f).pairs = d.pairs := (rfl)
@[simp] theorem Dev.onArb_arb (d : Dev) (f : Arb → Arb) : (d.onArb f).arb = f d.arb := (rfl)
@[simp] theorem Dev.onArb_cmds (d : Dev) (f : Arb → Arb) : (d.onArb f).cmds = d.cmds := (rfl)
@[simp] theorem Dev.onArb_notices (d : Dev) (f : Arb → Arb) : (d.onArb f).notices = d.notices := (rfl)
@[simp] theorem Dev.onArb_heldZeros (d : Dev) (f : Arb → Arb) : (d.onArb f).heldZeros = d.heldZeros := (rfl)
@[simp] theorem Dev.onArb_regs (d : Dev) (f : Arb → Arb) : (d.onArb f).regs = d.regs := (rfl)
@[simp] theorem Dev.onArb_w1c (d : Dev) (f : Arb → Arb) : (d.onArb f).w1c = d.w1c := (rfl)
@[simp] theorem Dev.onArb_cnts (d : Dev) (f : Arb → Arb) : (d.onArb f).cnts = d.cnts := (rfl)
@[simp] theorem Dev.onArb_shadow (d : Dev) (f : Arb → Arb) : (d.onArb f).shadow = d.shadow := (rfl)
@[simp] theorem Dev.onArb_ctxs (d : Dev) (f : Arb → Arb) : (d.onArb f).ctxs = d.ctxs := (rfl)
@[simp] theorem Dev.onArb_engines (d : Dev) (f : Arb → Arb) : (d.onArb f).engines = d.engines := (rfl)
@[simp] theorem Dev.onArb_mode (d : Dev) (f : Arb → Arb) : (d.onArb f).mode = d.mode := (rfl)
@[simp] theorem Dev.onArb_pools (d : Dev) (f : Arb → Arb) : (d.onArb f).pools = d.pools := (rfl)
@[simp] theorem Dev.onArb_idx (d : Dev) (f : Arb → Arb) : (d.onArb f).idx = d.idx := (rfl)
@[simp] theorem Dev.onArb_cm (d : Dev) (f : Arb → Arb) : (d.onArb f).cm = d.cm := (rfl)
@[simp] theorem Dev.onArb_cx (d : Dev) (f : Arb → Arb) : (d.onArb f).cx = d.cx := (rfl)
@[simp] theorem Dev.onArb_fm (d : Dev) (f : Arb → Arb) : (d.onArb f).fm = d.fm := (rfl)
@[simp] theorem Dev.onArb_sh (d : Dev) (f : Arb → Arb) : (d.onArb f).sh = d.sh := (rfl)
@[simp] theorem Dev.onArb_vol (d : Dev) (f : Arb → Arb) : (d.onArb f).vol = d.vol := (rfl)
@[simp] theorem Dev.onArb_links (d : Dev) (f : Arb → Arb) : (d.onArb f).links = d.links := (rfl)
@[simp] theorem Dev.onArb_tc (d : Dev) (f : Arb → Arb) : (d.onArb f).tc = d.tc := (rfl)
@[simp] theorem Dev.onArb_er (d : Dev) (f : Arb → Arb) : (d.onArb f).er = d.er := (rfl)
@[simp] theorem Dev.onArb_mi (d : Dev) (f : Arb → Arb) : (d.onArb f).mi = d.mi := (rfl)
@[simp] theorem Dev.onArb_hk (d : Dev) (f : Arb → Arb) : (d.onArb f).hk = d.hk := (rfl)
@[simp] theorem Dev.onArb_cs (d : Dev) (f : Arb → Arb) : (d.onArb f).cs = d.cs := (rfl)
@[simp] theorem Dev.onArb_fu (d : Dev) (f : Arb → Arb) : (d.onArb f).fu = d.fu := (rfl)
@[simp] theorem Dev.onArb_en (d : Dev) (f : Arb → Arb) : (d.onArb f).en = d.en := (rfl)
@[simp] theorem Dev.onArb_sn (d : Dev) (f : Arb → Arb) : (d.onArb f).sn = d.sn := (rfl)
@[simp] theorem Dev.onArb_boot (d : Dev) (f : Arb → Arb) : (d.onArb f).boot = d.boot := (rfl)
@[simp] theorem Dev.onArb_pins (d : Dev) (f : Arb → Arb) : (d.onArb f).pins = d.pins := (rfl)
@[simp] theorem Dev.onArb_draws (d : Dev) (f : Arb → Arb) : (d.onArb f).draws = d.draws := (rfl)

@[simp] theorem Dev.onPools_clk (d : Dev) (f : Pools → Pools) : (d.onPools f).clk = d.clk := (rfl)
@[simp] theorem Dev.onPools_pa (d : Dev) (f : Pools → Pools) : (d.onPools f).pa = d.pa := (rfl)
@[simp] theorem Dev.onPools_pb (d : Dev) (f : Pools → Pools) : (d.onPools f).pb = d.pb := (rfl)
@[simp] theorem Dev.onPools_hostA (d : Dev) (f : Pools → Pools) : (d.onPools f).hostA = d.hostA := (rfl)
@[simp] theorem Dev.onPools_hostB (d : Dev) (f : Pools → Pools) : (d.onPools f).hostB = d.hostB := (rfl)
@[simp] theorem Dev.onPools_hostR (d : Dev) (f : Pools → Pools) : (d.onPools f).hostR = d.hostR := (rfl)
@[simp] theorem Dev.onPools_pairs (d : Dev) (f : Pools → Pools) : (d.onPools f).pairs = d.pairs := (rfl)
@[simp] theorem Dev.onPools_arb (d : Dev) (f : Pools → Pools) : (d.onPools f).arb = d.arb := (rfl)
@[simp] theorem Dev.onPools_cmds (d : Dev) (f : Pools → Pools) : (d.onPools f).cmds = d.cmds := (rfl)
@[simp] theorem Dev.onPools_notices (d : Dev) (f : Pools → Pools) : (d.onPools f).notices = d.notices := (rfl)
@[simp] theorem Dev.onPools_heldZeros (d : Dev) (f : Pools → Pools) : (d.onPools f).heldZeros = d.heldZeros := (rfl)
@[simp] theorem Dev.onPools_regs (d : Dev) (f : Pools → Pools) : (d.onPools f).regs = d.regs := (rfl)
@[simp] theorem Dev.onPools_w1c (d : Dev) (f : Pools → Pools) : (d.onPools f).w1c = d.w1c := (rfl)
@[simp] theorem Dev.onPools_cnts (d : Dev) (f : Pools → Pools) : (d.onPools f).cnts = d.cnts := (rfl)
@[simp] theorem Dev.onPools_shadow (d : Dev) (f : Pools → Pools) : (d.onPools f).shadow = d.shadow := (rfl)
@[simp] theorem Dev.onPools_ctxs (d : Dev) (f : Pools → Pools) : (d.onPools f).ctxs = d.ctxs := (rfl)
@[simp] theorem Dev.onPools_engines (d : Dev) (f : Pools → Pools) : (d.onPools f).engines = d.engines := (rfl)
@[simp] theorem Dev.onPools_mode (d : Dev) (f : Pools → Pools) : (d.onPools f).mode = d.mode := (rfl)
@[simp] theorem Dev.onPools_pools (d : Dev) (f : Pools → Pools) : (d.onPools f).pools = f d.pools := (rfl)
@[simp] theorem Dev.onPools_idx (d : Dev) (f : Pools → Pools) : (d.onPools f).idx = d.idx := (rfl)
@[simp] theorem Dev.onPools_cm (d : Dev) (f : Pools → Pools) : (d.onPools f).cm = d.cm := (rfl)
@[simp] theorem Dev.onPools_cx (d : Dev) (f : Pools → Pools) : (d.onPools f).cx = d.cx := (rfl)
@[simp] theorem Dev.onPools_fm (d : Dev) (f : Pools → Pools) : (d.onPools f).fm = d.fm := (rfl)
@[simp] theorem Dev.onPools_sh (d : Dev) (f : Pools → Pools) : (d.onPools f).sh = d.sh := (rfl)
@[simp] theorem Dev.onPools_vol (d : Dev) (f : Pools → Pools) : (d.onPools f).vol = d.vol := (rfl)
@[simp] theorem Dev.onPools_links (d : Dev) (f : Pools → Pools) : (d.onPools f).links = d.links := (rfl)
@[simp] theorem Dev.onPools_tc (d : Dev) (f : Pools → Pools) : (d.onPools f).tc = d.tc := (rfl)
@[simp] theorem Dev.onPools_er (d : Dev) (f : Pools → Pools) : (d.onPools f).er = d.er := (rfl)
@[simp] theorem Dev.onPools_mi (d : Dev) (f : Pools → Pools) : (d.onPools f).mi = d.mi := (rfl)
@[simp] theorem Dev.onPools_hk (d : Dev) (f : Pools → Pools) : (d.onPools f).hk = d.hk := (rfl)
@[simp] theorem Dev.onPools_cs (d : Dev) (f : Pools → Pools) : (d.onPools f).cs = d.cs := (rfl)
@[simp] theorem Dev.onPools_fu (d : Dev) (f : Pools → Pools) : (d.onPools f).fu = d.fu := (rfl)
@[simp] theorem Dev.onPools_en (d : Dev) (f : Pools → Pools) : (d.onPools f).en = d.en := (rfl)
@[simp] theorem Dev.onPools_sn (d : Dev) (f : Pools → Pools) : (d.onPools f).sn = d.sn := (rfl)
@[simp] theorem Dev.onPools_boot (d : Dev) (f : Pools → Pools) : (d.onPools f).boot = d.boot := (rfl)
@[simp] theorem Dev.onPools_pins (d : Dev) (f : Pools → Pools) : (d.onPools f).pins = d.pins := (rfl)
@[simp] theorem Dev.onPools_draws (d : Dev) (f : Pools → Pools) : (d.onPools f).draws = d.draws := (rfl)

@[simp] theorem Dev.onIdx_clk (d : Dev) (f : Index → Index) : (d.onIdx f).clk = d.clk := (rfl)
@[simp] theorem Dev.onIdx_pa (d : Dev) (f : Index → Index) : (d.onIdx f).pa = d.pa := (rfl)
@[simp] theorem Dev.onIdx_pb (d : Dev) (f : Index → Index) : (d.onIdx f).pb = d.pb := (rfl)
@[simp] theorem Dev.onIdx_hostA (d : Dev) (f : Index → Index) : (d.onIdx f).hostA = d.hostA := (rfl)
@[simp] theorem Dev.onIdx_hostB (d : Dev) (f : Index → Index) : (d.onIdx f).hostB = d.hostB := (rfl)
@[simp] theorem Dev.onIdx_hostR (d : Dev) (f : Index → Index) : (d.onIdx f).hostR = d.hostR := (rfl)
@[simp] theorem Dev.onIdx_pairs (d : Dev) (f : Index → Index) : (d.onIdx f).pairs = d.pairs := (rfl)
@[simp] theorem Dev.onIdx_arb (d : Dev) (f : Index → Index) : (d.onIdx f).arb = d.arb := (rfl)
@[simp] theorem Dev.onIdx_cmds (d : Dev) (f : Index → Index) : (d.onIdx f).cmds = d.cmds := (rfl)
@[simp] theorem Dev.onIdx_notices (d : Dev) (f : Index → Index) : (d.onIdx f).notices = d.notices := (rfl)
@[simp] theorem Dev.onIdx_heldZeros (d : Dev) (f : Index → Index) : (d.onIdx f).heldZeros = d.heldZeros := (rfl)
@[simp] theorem Dev.onIdx_regs (d : Dev) (f : Index → Index) : (d.onIdx f).regs = d.regs := (rfl)
@[simp] theorem Dev.onIdx_w1c (d : Dev) (f : Index → Index) : (d.onIdx f).w1c = d.w1c := (rfl)
@[simp] theorem Dev.onIdx_cnts (d : Dev) (f : Index → Index) : (d.onIdx f).cnts = d.cnts := (rfl)
@[simp] theorem Dev.onIdx_shadow (d : Dev) (f : Index → Index) : (d.onIdx f).shadow = d.shadow := (rfl)
@[simp] theorem Dev.onIdx_ctxs (d : Dev) (f : Index → Index) : (d.onIdx f).ctxs = d.ctxs := (rfl)
@[simp] theorem Dev.onIdx_engines (d : Dev) (f : Index → Index) : (d.onIdx f).engines = d.engines := (rfl)
@[simp] theorem Dev.onIdx_mode (d : Dev) (f : Index → Index) : (d.onIdx f).mode = d.mode := (rfl)
@[simp] theorem Dev.onIdx_pools (d : Dev) (f : Index → Index) : (d.onIdx f).pools = d.pools := (rfl)
@[simp] theorem Dev.onIdx_idx (d : Dev) (f : Index → Index) : (d.onIdx f).idx = f d.idx := (rfl)
@[simp] theorem Dev.onIdx_cm (d : Dev) (f : Index → Index) : (d.onIdx f).cm = d.cm := (rfl)
@[simp] theorem Dev.onIdx_cx (d : Dev) (f : Index → Index) : (d.onIdx f).cx = d.cx := (rfl)
@[simp] theorem Dev.onIdx_fm (d : Dev) (f : Index → Index) : (d.onIdx f).fm = d.fm := (rfl)
@[simp] theorem Dev.onIdx_sh (d : Dev) (f : Index → Index) : (d.onIdx f).sh = d.sh := (rfl)
@[simp] theorem Dev.onIdx_vol (d : Dev) (f : Index → Index) : (d.onIdx f).vol = d.vol := (rfl)
@[simp] theorem Dev.onIdx_links (d : Dev) (f : Index → Index) : (d.onIdx f).links = d.links := (rfl)
@[simp] theorem Dev.onIdx_tc (d : Dev) (f : Index → Index) : (d.onIdx f).tc = d.tc := (rfl)
@[simp] theorem Dev.onIdx_er (d : Dev) (f : Index → Index) : (d.onIdx f).er = d.er := (rfl)
@[simp] theorem Dev.onIdx_mi (d : Dev) (f : Index → Index) : (d.onIdx f).mi = d.mi := (rfl)
@[simp] theorem Dev.onIdx_hk (d : Dev) (f : Index → Index) : (d.onIdx f).hk = d.hk := (rfl)
@[simp] theorem Dev.onIdx_cs (d : Dev) (f : Index → Index) : (d.onIdx f).cs = d.cs := (rfl)
@[simp] theorem Dev.onIdx_fu (d : Dev) (f : Index → Index) : (d.onIdx f).fu = d.fu := (rfl)
@[simp] theorem Dev.onIdx_en (d : Dev) (f : Index → Index) : (d.onIdx f).en = d.en := (rfl)
@[simp] theorem Dev.onIdx_sn (d : Dev) (f : Index → Index) : (d.onIdx f).sn = d.sn := (rfl)
@[simp] theorem Dev.onIdx_boot (d : Dev) (f : Index → Index) : (d.onIdx f).boot = d.boot := (rfl)
@[simp] theorem Dev.onIdx_pins (d : Dev) (f : Index → Index) : (d.onIdx f).pins = d.pins := (rfl)
@[simp] theorem Dev.onIdx_draws (d : Dev) (f : Index → Index) : (d.onIdx f).draws = d.draws := (rfl)

@[simp] theorem Dev.onCm_clk (d : Dev) (f : Compression → Compression) : (d.onCm f).clk = d.clk := (rfl)
@[simp] theorem Dev.onCm_pa (d : Dev) (f : Compression → Compression) : (d.onCm f).pa = d.pa := (rfl)
@[simp] theorem Dev.onCm_pb (d : Dev) (f : Compression → Compression) : (d.onCm f).pb = d.pb := (rfl)
@[simp] theorem Dev.onCm_hostA (d : Dev) (f : Compression → Compression) : (d.onCm f).hostA = d.hostA := (rfl)
@[simp] theorem Dev.onCm_hostB (d : Dev) (f : Compression → Compression) : (d.onCm f).hostB = d.hostB := (rfl)
@[simp] theorem Dev.onCm_hostR (d : Dev) (f : Compression → Compression) : (d.onCm f).hostR = d.hostR := (rfl)
@[simp] theorem Dev.onCm_pairs (d : Dev) (f : Compression → Compression) : (d.onCm f).pairs = d.pairs := (rfl)
@[simp] theorem Dev.onCm_arb (d : Dev) (f : Compression → Compression) : (d.onCm f).arb = d.arb := (rfl)
@[simp] theorem Dev.onCm_cmds (d : Dev) (f : Compression → Compression) : (d.onCm f).cmds = d.cmds := (rfl)
@[simp] theorem Dev.onCm_notices (d : Dev) (f : Compression → Compression) : (d.onCm f).notices = d.notices := (rfl)
@[simp] theorem Dev.onCm_heldZeros (d : Dev) (f : Compression → Compression) : (d.onCm f).heldZeros = d.heldZeros := (rfl)
@[simp] theorem Dev.onCm_regs (d : Dev) (f : Compression → Compression) : (d.onCm f).regs = d.regs := (rfl)
@[simp] theorem Dev.onCm_w1c (d : Dev) (f : Compression → Compression) : (d.onCm f).w1c = d.w1c := (rfl)
@[simp] theorem Dev.onCm_cnts (d : Dev) (f : Compression → Compression) : (d.onCm f).cnts = d.cnts := (rfl)
@[simp] theorem Dev.onCm_shadow (d : Dev) (f : Compression → Compression) : (d.onCm f).shadow = d.shadow := (rfl)
@[simp] theorem Dev.onCm_ctxs (d : Dev) (f : Compression → Compression) : (d.onCm f).ctxs = d.ctxs := (rfl)
@[simp] theorem Dev.onCm_engines (d : Dev) (f : Compression → Compression) : (d.onCm f).engines = d.engines := (rfl)
@[simp] theorem Dev.onCm_mode (d : Dev) (f : Compression → Compression) : (d.onCm f).mode = d.mode := (rfl)
@[simp] theorem Dev.onCm_pools (d : Dev) (f : Compression → Compression) : (d.onCm f).pools = d.pools := (rfl)
@[simp] theorem Dev.onCm_idx (d : Dev) (f : Compression → Compression) : (d.onCm f).idx = d.idx := (rfl)
@[simp] theorem Dev.onCm_cm (d : Dev) (f : Compression → Compression) : (d.onCm f).cm = f d.cm := (rfl)
@[simp] theorem Dev.onCm_cx (d : Dev) (f : Compression → Compression) : (d.onCm f).cx = d.cx := (rfl)
@[simp] theorem Dev.onCm_fm (d : Dev) (f : Compression → Compression) : (d.onCm f).fm = d.fm := (rfl)
@[simp] theorem Dev.onCm_sh (d : Dev) (f : Compression → Compression) : (d.onCm f).sh = d.sh := (rfl)
@[simp] theorem Dev.onCm_vol (d : Dev) (f : Compression → Compression) : (d.onCm f).vol = d.vol := (rfl)
@[simp] theorem Dev.onCm_links (d : Dev) (f : Compression → Compression) : (d.onCm f).links = d.links := (rfl)
@[simp] theorem Dev.onCm_tc (d : Dev) (f : Compression → Compression) : (d.onCm f).tc = d.tc := (rfl)
@[simp] theorem Dev.onCm_er (d : Dev) (f : Compression → Compression) : (d.onCm f).er = d.er := (rfl)
@[simp] theorem Dev.onCm_mi (d : Dev) (f : Compression → Compression) : (d.onCm f).mi = d.mi := (rfl)
@[simp] theorem Dev.onCm_hk (d : Dev) (f : Compression → Compression) : (d.onCm f).hk = d.hk := (rfl)
@[simp] theorem Dev.onCm_cs (d : Dev) (f : Compression → Compression) : (d.onCm f).cs = d.cs := (rfl)
@[simp] theorem Dev.onCm_fu (d : Dev) (f : Compression → Compression) : (d.onCm f).fu = d.fu := (rfl)
@[simp] theorem Dev.onCm_en (d : Dev) (f : Compression → Compression) : (d.onCm f).en = d.en := (rfl)
@[simp] theorem Dev.onCm_sn (d : Dev) (f : Compression → Compression) : (d.onCm f).sn = d.sn := (rfl)
@[simp] theorem Dev.onCm_boot (d : Dev) (f : Compression → Compression) : (d.onCm f).boot = d.boot := (rfl)
@[simp] theorem Dev.onCm_pins (d : Dev) (f : Compression → Compression) : (d.onCm f).pins = d.pins := (rfl)
@[simp] theorem Dev.onCm_draws (d : Dev) (f : Compression → Compression) : (d.onCm f).draws = d.draws := (rfl)

@[simp] theorem Dev.onCx_clk (d : Dev) (f : Cipher → Cipher) : (d.onCx f).clk = d.clk := (rfl)
@[simp] theorem Dev.onCx_pa (d : Dev) (f : Cipher → Cipher) : (d.onCx f).pa = d.pa := (rfl)
@[simp] theorem Dev.onCx_pb (d : Dev) (f : Cipher → Cipher) : (d.onCx f).pb = d.pb := (rfl)
@[simp] theorem Dev.onCx_hostA (d : Dev) (f : Cipher → Cipher) : (d.onCx f).hostA = d.hostA := (rfl)
@[simp] theorem Dev.onCx_hostB (d : Dev) (f : Cipher → Cipher) : (d.onCx f).hostB = d.hostB := (rfl)
@[simp] theorem Dev.onCx_hostR (d : Dev) (f : Cipher → Cipher) : (d.onCx f).hostR = d.hostR := (rfl)
@[simp] theorem Dev.onCx_pairs (d : Dev) (f : Cipher → Cipher) : (d.onCx f).pairs = d.pairs := (rfl)
@[simp] theorem Dev.onCx_arb (d : Dev) (f : Cipher → Cipher) : (d.onCx f).arb = d.arb := (rfl)
@[simp] theorem Dev.onCx_cmds (d : Dev) (f : Cipher → Cipher) : (d.onCx f).cmds = d.cmds := (rfl)
@[simp] theorem Dev.onCx_notices (d : Dev) (f : Cipher → Cipher) : (d.onCx f).notices = d.notices := (rfl)
@[simp] theorem Dev.onCx_heldZeros (d : Dev) (f : Cipher → Cipher) : (d.onCx f).heldZeros = d.heldZeros := (rfl)
@[simp] theorem Dev.onCx_regs (d : Dev) (f : Cipher → Cipher) : (d.onCx f).regs = d.regs := (rfl)
@[simp] theorem Dev.onCx_w1c (d : Dev) (f : Cipher → Cipher) : (d.onCx f).w1c = d.w1c := (rfl)
@[simp] theorem Dev.onCx_cnts (d : Dev) (f : Cipher → Cipher) : (d.onCx f).cnts = d.cnts := (rfl)
@[simp] theorem Dev.onCx_shadow (d : Dev) (f : Cipher → Cipher) : (d.onCx f).shadow = d.shadow := (rfl)
@[simp] theorem Dev.onCx_ctxs (d : Dev) (f : Cipher → Cipher) : (d.onCx f).ctxs = d.ctxs := (rfl)
@[simp] theorem Dev.onCx_engines (d : Dev) (f : Cipher → Cipher) : (d.onCx f).engines = d.engines := (rfl)
@[simp] theorem Dev.onCx_mode (d : Dev) (f : Cipher → Cipher) : (d.onCx f).mode = d.mode := (rfl)
@[simp] theorem Dev.onCx_pools (d : Dev) (f : Cipher → Cipher) : (d.onCx f).pools = d.pools := (rfl)
@[simp] theorem Dev.onCx_idx (d : Dev) (f : Cipher → Cipher) : (d.onCx f).idx = d.idx := (rfl)
@[simp] theorem Dev.onCx_cm (d : Dev) (f : Cipher → Cipher) : (d.onCx f).cm = d.cm := (rfl)
@[simp] theorem Dev.onCx_cx (d : Dev) (f : Cipher → Cipher) : (d.onCx f).cx = f d.cx := (rfl)
@[simp] theorem Dev.onCx_fm (d : Dev) (f : Cipher → Cipher) : (d.onCx f).fm = d.fm := (rfl)
@[simp] theorem Dev.onCx_sh (d : Dev) (f : Cipher → Cipher) : (d.onCx f).sh = d.sh := (rfl)
@[simp] theorem Dev.onCx_vol (d : Dev) (f : Cipher → Cipher) : (d.onCx f).vol = d.vol := (rfl)
@[simp] theorem Dev.onCx_links (d : Dev) (f : Cipher → Cipher) : (d.onCx f).links = d.links := (rfl)
@[simp] theorem Dev.onCx_tc (d : Dev) (f : Cipher → Cipher) : (d.onCx f).tc = d.tc := (rfl)
@[simp] theorem Dev.onCx_er (d : Dev) (f : Cipher → Cipher) : (d.onCx f).er = d.er := (rfl)
@[simp] theorem Dev.onCx_mi (d : Dev) (f : Cipher → Cipher) : (d.onCx f).mi = d.mi := (rfl)
@[simp] theorem Dev.onCx_hk (d : Dev) (f : Cipher → Cipher) : (d.onCx f).hk = d.hk := (rfl)
@[simp] theorem Dev.onCx_cs (d : Dev) (f : Cipher → Cipher) : (d.onCx f).cs = d.cs := (rfl)
@[simp] theorem Dev.onCx_fu (d : Dev) (f : Cipher → Cipher) : (d.onCx f).fu = d.fu := (rfl)
@[simp] theorem Dev.onCx_en (d : Dev) (f : Cipher → Cipher) : (d.onCx f).en = d.en := (rfl)
@[simp] theorem Dev.onCx_sn (d : Dev) (f : Cipher → Cipher) : (d.onCx f).sn = d.sn := (rfl)
@[simp] theorem Dev.onCx_boot (d : Dev) (f : Cipher → Cipher) : (d.onCx f).boot = d.boot := (rfl)
@[simp] theorem Dev.onCx_pins (d : Dev) (f : Cipher → Cipher) : (d.onCx f).pins = d.pins := (rfl)
@[simp] theorem Dev.onCx_draws (d : Dev) (f : Cipher → Cipher) : (d.onCx f).draws = d.draws := (rfl)

@[simp] theorem Dev.onFm_clk (d : Dev) (f : Formes → Formes) : (d.onFm f).clk = d.clk := (rfl)
@[simp] theorem Dev.onFm_pa (d : Dev) (f : Formes → Formes) : (d.onFm f).pa = d.pa := (rfl)
@[simp] theorem Dev.onFm_pb (d : Dev) (f : Formes → Formes) : (d.onFm f).pb = d.pb := (rfl)
@[simp] theorem Dev.onFm_hostA (d : Dev) (f : Formes → Formes) : (d.onFm f).hostA = d.hostA := (rfl)
@[simp] theorem Dev.onFm_hostB (d : Dev) (f : Formes → Formes) : (d.onFm f).hostB = d.hostB := (rfl)
@[simp] theorem Dev.onFm_hostR (d : Dev) (f : Formes → Formes) : (d.onFm f).hostR = d.hostR := (rfl)
@[simp] theorem Dev.onFm_pairs (d : Dev) (f : Formes → Formes) : (d.onFm f).pairs = d.pairs := (rfl)
@[simp] theorem Dev.onFm_arb (d : Dev) (f : Formes → Formes) : (d.onFm f).arb = d.arb := (rfl)
@[simp] theorem Dev.onFm_cmds (d : Dev) (f : Formes → Formes) : (d.onFm f).cmds = d.cmds := (rfl)
@[simp] theorem Dev.onFm_notices (d : Dev) (f : Formes → Formes) : (d.onFm f).notices = d.notices := (rfl)
@[simp] theorem Dev.onFm_heldZeros (d : Dev) (f : Formes → Formes) : (d.onFm f).heldZeros = d.heldZeros := (rfl)
@[simp] theorem Dev.onFm_regs (d : Dev) (f : Formes → Formes) : (d.onFm f).regs = d.regs := (rfl)
@[simp] theorem Dev.onFm_w1c (d : Dev) (f : Formes → Formes) : (d.onFm f).w1c = d.w1c := (rfl)
@[simp] theorem Dev.onFm_cnts (d : Dev) (f : Formes → Formes) : (d.onFm f).cnts = d.cnts := (rfl)
@[simp] theorem Dev.onFm_shadow (d : Dev) (f : Formes → Formes) : (d.onFm f).shadow = d.shadow := (rfl)
@[simp] theorem Dev.onFm_ctxs (d : Dev) (f : Formes → Formes) : (d.onFm f).ctxs = d.ctxs := (rfl)
@[simp] theorem Dev.onFm_engines (d : Dev) (f : Formes → Formes) : (d.onFm f).engines = d.engines := (rfl)
@[simp] theorem Dev.onFm_mode (d : Dev) (f : Formes → Formes) : (d.onFm f).mode = d.mode := (rfl)
@[simp] theorem Dev.onFm_pools (d : Dev) (f : Formes → Formes) : (d.onFm f).pools = d.pools := (rfl)
@[simp] theorem Dev.onFm_idx (d : Dev) (f : Formes → Formes) : (d.onFm f).idx = d.idx := (rfl)
@[simp] theorem Dev.onFm_cm (d : Dev) (f : Formes → Formes) : (d.onFm f).cm = d.cm := (rfl)
@[simp] theorem Dev.onFm_cx (d : Dev) (f : Formes → Formes) : (d.onFm f).cx = d.cx := (rfl)
@[simp] theorem Dev.onFm_fm (d : Dev) (f : Formes → Formes) : (d.onFm f).fm = f d.fm := (rfl)
@[simp] theorem Dev.onFm_sh (d : Dev) (f : Formes → Formes) : (d.onFm f).sh = d.sh := (rfl)
@[simp] theorem Dev.onFm_vol (d : Dev) (f : Formes → Formes) : (d.onFm f).vol = d.vol := (rfl)
@[simp] theorem Dev.onFm_links (d : Dev) (f : Formes → Formes) : (d.onFm f).links = d.links := (rfl)
@[simp] theorem Dev.onFm_tc (d : Dev) (f : Formes → Formes) : (d.onFm f).tc = d.tc := (rfl)
@[simp] theorem Dev.onFm_er (d : Dev) (f : Formes → Formes) : (d.onFm f).er = d.er := (rfl)
@[simp] theorem Dev.onFm_mi (d : Dev) (f : Formes → Formes) : (d.onFm f).mi = d.mi := (rfl)
@[simp] theorem Dev.onFm_hk (d : Dev) (f : Formes → Formes) : (d.onFm f).hk = d.hk := (rfl)
@[simp] theorem Dev.onFm_cs (d : Dev) (f : Formes → Formes) : (d.onFm f).cs = d.cs := (rfl)
@[simp] theorem Dev.onFm_fu (d : Dev) (f : Formes → Formes) : (d.onFm f).fu = d.fu := (rfl)
@[simp] theorem Dev.onFm_en (d : Dev) (f : Formes → Formes) : (d.onFm f).en = d.en := (rfl)
@[simp] theorem Dev.onFm_sn (d : Dev) (f : Formes → Formes) : (d.onFm f).sn = d.sn := (rfl)
@[simp] theorem Dev.onFm_boot (d : Dev) (f : Formes → Formes) : (d.onFm f).boot = d.boot := (rfl)
@[simp] theorem Dev.onFm_pins (d : Dev) (f : Formes → Formes) : (d.onFm f).pins = d.pins := (rfl)
@[simp] theorem Dev.onFm_draws (d : Dev) (f : Formes → Formes) : (d.onFm f).draws = d.draws := (rfl)

@[simp] theorem Dev.onSh_clk (d : Dev) (f : Sheaf → Sheaf) : (d.onSh f).clk = d.clk := (rfl)
@[simp] theorem Dev.onSh_pa (d : Dev) (f : Sheaf → Sheaf) : (d.onSh f).pa = d.pa := (rfl)
@[simp] theorem Dev.onSh_pb (d : Dev) (f : Sheaf → Sheaf) : (d.onSh f).pb = d.pb := (rfl)
@[simp] theorem Dev.onSh_hostA (d : Dev) (f : Sheaf → Sheaf) : (d.onSh f).hostA = d.hostA := (rfl)
@[simp] theorem Dev.onSh_hostB (d : Dev) (f : Sheaf → Sheaf) : (d.onSh f).hostB = d.hostB := (rfl)
@[simp] theorem Dev.onSh_hostR (d : Dev) (f : Sheaf → Sheaf) : (d.onSh f).hostR = d.hostR := (rfl)
@[simp] theorem Dev.onSh_pairs (d : Dev) (f : Sheaf → Sheaf) : (d.onSh f).pairs = d.pairs := (rfl)
@[simp] theorem Dev.onSh_arb (d : Dev) (f : Sheaf → Sheaf) : (d.onSh f).arb = d.arb := (rfl)
@[simp] theorem Dev.onSh_cmds (d : Dev) (f : Sheaf → Sheaf) : (d.onSh f).cmds = d.cmds := (rfl)
@[simp] theorem Dev.onSh_notices (d : Dev) (f : Sheaf → Sheaf) : (d.onSh f).notices = d.notices := (rfl)
@[simp] theorem Dev.onSh_heldZeros (d : Dev) (f : Sheaf → Sheaf) : (d.onSh f).heldZeros = d.heldZeros := (rfl)
@[simp] theorem Dev.onSh_regs (d : Dev) (f : Sheaf → Sheaf) : (d.onSh f).regs = d.regs := (rfl)
@[simp] theorem Dev.onSh_w1c (d : Dev) (f : Sheaf → Sheaf) : (d.onSh f).w1c = d.w1c := (rfl)
@[simp] theorem Dev.onSh_cnts (d : Dev) (f : Sheaf → Sheaf) : (d.onSh f).cnts = d.cnts := (rfl)
@[simp] theorem Dev.onSh_shadow (d : Dev) (f : Sheaf → Sheaf) : (d.onSh f).shadow = d.shadow := (rfl)
@[simp] theorem Dev.onSh_ctxs (d : Dev) (f : Sheaf → Sheaf) : (d.onSh f).ctxs = d.ctxs := (rfl)
@[simp] theorem Dev.onSh_engines (d : Dev) (f : Sheaf → Sheaf) : (d.onSh f).engines = d.engines := (rfl)
@[simp] theorem Dev.onSh_mode (d : Dev) (f : Sheaf → Sheaf) : (d.onSh f).mode = d.mode := (rfl)
@[simp] theorem Dev.onSh_pools (d : Dev) (f : Sheaf → Sheaf) : (d.onSh f).pools = d.pools := (rfl)
@[simp] theorem Dev.onSh_idx (d : Dev) (f : Sheaf → Sheaf) : (d.onSh f).idx = d.idx := (rfl)
@[simp] theorem Dev.onSh_cm (d : Dev) (f : Sheaf → Sheaf) : (d.onSh f).cm = d.cm := (rfl)
@[simp] theorem Dev.onSh_cx (d : Dev) (f : Sheaf → Sheaf) : (d.onSh f).cx = d.cx := (rfl)
@[simp] theorem Dev.onSh_fm (d : Dev) (f : Sheaf → Sheaf) : (d.onSh f).fm = d.fm := (rfl)
@[simp] theorem Dev.onSh_sh (d : Dev) (f : Sheaf → Sheaf) : (d.onSh f).sh = f d.sh := (rfl)
@[simp] theorem Dev.onSh_vol (d : Dev) (f : Sheaf → Sheaf) : (d.onSh f).vol = d.vol := (rfl)
@[simp] theorem Dev.onSh_links (d : Dev) (f : Sheaf → Sheaf) : (d.onSh f).links = d.links := (rfl)
@[simp] theorem Dev.onSh_tc (d : Dev) (f : Sheaf → Sheaf) : (d.onSh f).tc = d.tc := (rfl)
@[simp] theorem Dev.onSh_er (d : Dev) (f : Sheaf → Sheaf) : (d.onSh f).er = d.er := (rfl)
@[simp] theorem Dev.onSh_mi (d : Dev) (f : Sheaf → Sheaf) : (d.onSh f).mi = d.mi := (rfl)
@[simp] theorem Dev.onSh_hk (d : Dev) (f : Sheaf → Sheaf) : (d.onSh f).hk = d.hk := (rfl)
@[simp] theorem Dev.onSh_cs (d : Dev) (f : Sheaf → Sheaf) : (d.onSh f).cs = d.cs := (rfl)
@[simp] theorem Dev.onSh_fu (d : Dev) (f : Sheaf → Sheaf) : (d.onSh f).fu = d.fu := (rfl)
@[simp] theorem Dev.onSh_en (d : Dev) (f : Sheaf → Sheaf) : (d.onSh f).en = d.en := (rfl)
@[simp] theorem Dev.onSh_sn (d : Dev) (f : Sheaf → Sheaf) : (d.onSh f).sn = d.sn := (rfl)
@[simp] theorem Dev.onSh_boot (d : Dev) (f : Sheaf → Sheaf) : (d.onSh f).boot = d.boot := (rfl)
@[simp] theorem Dev.onSh_pins (d : Dev) (f : Sheaf → Sheaf) : (d.onSh f).pins = d.pins := (rfl)
@[simp] theorem Dev.onSh_draws (d : Dev) (f : Sheaf → Sheaf) : (d.onSh f).draws = d.draws := (rfl)

@[simp] theorem Dev.onVol_clk (d : Dev) (f : Vol → Vol) : (d.onVol f).clk = d.clk := (rfl)
@[simp] theorem Dev.onVol_pa (d : Dev) (f : Vol → Vol) : (d.onVol f).pa = d.pa := (rfl)
@[simp] theorem Dev.onVol_pb (d : Dev) (f : Vol → Vol) : (d.onVol f).pb = d.pb := (rfl)
@[simp] theorem Dev.onVol_hostA (d : Dev) (f : Vol → Vol) : (d.onVol f).hostA = d.hostA := (rfl)
@[simp] theorem Dev.onVol_hostB (d : Dev) (f : Vol → Vol) : (d.onVol f).hostB = d.hostB := (rfl)
@[simp] theorem Dev.onVol_hostR (d : Dev) (f : Vol → Vol) : (d.onVol f).hostR = d.hostR := (rfl)
@[simp] theorem Dev.onVol_pairs (d : Dev) (f : Vol → Vol) : (d.onVol f).pairs = d.pairs := (rfl)
@[simp] theorem Dev.onVol_arb (d : Dev) (f : Vol → Vol) : (d.onVol f).arb = d.arb := (rfl)
@[simp] theorem Dev.onVol_cmds (d : Dev) (f : Vol → Vol) : (d.onVol f).cmds = d.cmds := (rfl)
@[simp] theorem Dev.onVol_notices (d : Dev) (f : Vol → Vol) : (d.onVol f).notices = d.notices := (rfl)
@[simp] theorem Dev.onVol_heldZeros (d : Dev) (f : Vol → Vol) : (d.onVol f).heldZeros = d.heldZeros := (rfl)
@[simp] theorem Dev.onVol_regs (d : Dev) (f : Vol → Vol) : (d.onVol f).regs = d.regs := (rfl)
@[simp] theorem Dev.onVol_w1c (d : Dev) (f : Vol → Vol) : (d.onVol f).w1c = d.w1c := (rfl)
@[simp] theorem Dev.onVol_cnts (d : Dev) (f : Vol → Vol) : (d.onVol f).cnts = d.cnts := (rfl)
@[simp] theorem Dev.onVol_shadow (d : Dev) (f : Vol → Vol) : (d.onVol f).shadow = d.shadow := (rfl)
@[simp] theorem Dev.onVol_ctxs (d : Dev) (f : Vol → Vol) : (d.onVol f).ctxs = d.ctxs := (rfl)
@[simp] theorem Dev.onVol_engines (d : Dev) (f : Vol → Vol) : (d.onVol f).engines = d.engines := (rfl)
@[simp] theorem Dev.onVol_mode (d : Dev) (f : Vol → Vol) : (d.onVol f).mode = d.mode := (rfl)
@[simp] theorem Dev.onVol_pools (d : Dev) (f : Vol → Vol) : (d.onVol f).pools = d.pools := (rfl)
@[simp] theorem Dev.onVol_idx (d : Dev) (f : Vol → Vol) : (d.onVol f).idx = d.idx := (rfl)
@[simp] theorem Dev.onVol_cm (d : Dev) (f : Vol → Vol) : (d.onVol f).cm = d.cm := (rfl)
@[simp] theorem Dev.onVol_cx (d : Dev) (f : Vol → Vol) : (d.onVol f).cx = d.cx := (rfl)
@[simp] theorem Dev.onVol_fm (d : Dev) (f : Vol → Vol) : (d.onVol f).fm = d.fm := (rfl)
@[simp] theorem Dev.onVol_sh (d : Dev) (f : Vol → Vol) : (d.onVol f).sh = d.sh := (rfl)
@[simp] theorem Dev.onVol_vol (d : Dev) (f : Vol → Vol) : (d.onVol f).vol = f d.vol := (rfl)
@[simp] theorem Dev.onVol_links (d : Dev) (f : Vol → Vol) : (d.onVol f).links = d.links := (rfl)
@[simp] theorem Dev.onVol_tc (d : Dev) (f : Vol → Vol) : (d.onVol f).tc = d.tc := (rfl)
@[simp] theorem Dev.onVol_er (d : Dev) (f : Vol → Vol) : (d.onVol f).er = d.er := (rfl)
@[simp] theorem Dev.onVol_mi (d : Dev) (f : Vol → Vol) : (d.onVol f).mi = d.mi := (rfl)
@[simp] theorem Dev.onVol_hk (d : Dev) (f : Vol → Vol) : (d.onVol f).hk = d.hk := (rfl)
@[simp] theorem Dev.onVol_cs (d : Dev) (f : Vol → Vol) : (d.onVol f).cs = d.cs := (rfl)
@[simp] theorem Dev.onVol_fu (d : Dev) (f : Vol → Vol) : (d.onVol f).fu = d.fu := (rfl)
@[simp] theorem Dev.onVol_en (d : Dev) (f : Vol → Vol) : (d.onVol f).en = d.en := (rfl)
@[simp] theorem Dev.onVol_sn (d : Dev) (f : Vol → Vol) : (d.onVol f).sn = d.sn := (rfl)
@[simp] theorem Dev.onVol_boot (d : Dev) (f : Vol → Vol) : (d.onVol f).boot = d.boot := (rfl)
@[simp] theorem Dev.onVol_pins (d : Dev) (f : Vol → Vol) : (d.onVol f).pins = d.pins := (rfl)
@[simp] theorem Dev.onVol_draws (d : Dev) (f : Vol → Vol) : (d.onVol f).draws = d.draws := (rfl)

@[simp] theorem Dev.onTc_clk (d : Dev) (f : Tc → Tc) : (d.onTc f).clk = d.clk := (rfl)
@[simp] theorem Dev.onTc_pa (d : Dev) (f : Tc → Tc) : (d.onTc f).pa = d.pa := (rfl)
@[simp] theorem Dev.onTc_pb (d : Dev) (f : Tc → Tc) : (d.onTc f).pb = d.pb := (rfl)
@[simp] theorem Dev.onTc_hostA (d : Dev) (f : Tc → Tc) : (d.onTc f).hostA = d.hostA := (rfl)
@[simp] theorem Dev.onTc_hostB (d : Dev) (f : Tc → Tc) : (d.onTc f).hostB = d.hostB := (rfl)
@[simp] theorem Dev.onTc_hostR (d : Dev) (f : Tc → Tc) : (d.onTc f).hostR = d.hostR := (rfl)
@[simp] theorem Dev.onTc_pairs (d : Dev) (f : Tc → Tc) : (d.onTc f).pairs = d.pairs := (rfl)
@[simp] theorem Dev.onTc_arb (d : Dev) (f : Tc → Tc) : (d.onTc f).arb = d.arb := (rfl)
@[simp] theorem Dev.onTc_cmds (d : Dev) (f : Tc → Tc) : (d.onTc f).cmds = d.cmds := (rfl)
@[simp] theorem Dev.onTc_notices (d : Dev) (f : Tc → Tc) : (d.onTc f).notices = d.notices := (rfl)
@[simp] theorem Dev.onTc_heldZeros (d : Dev) (f : Tc → Tc) : (d.onTc f).heldZeros = d.heldZeros := (rfl)
@[simp] theorem Dev.onTc_regs (d : Dev) (f : Tc → Tc) : (d.onTc f).regs = d.regs := (rfl)
@[simp] theorem Dev.onTc_w1c (d : Dev) (f : Tc → Tc) : (d.onTc f).w1c = d.w1c := (rfl)
@[simp] theorem Dev.onTc_cnts (d : Dev) (f : Tc → Tc) : (d.onTc f).cnts = d.cnts := (rfl)
@[simp] theorem Dev.onTc_shadow (d : Dev) (f : Tc → Tc) : (d.onTc f).shadow = d.shadow := (rfl)
@[simp] theorem Dev.onTc_ctxs (d : Dev) (f : Tc → Tc) : (d.onTc f).ctxs = d.ctxs := (rfl)
@[simp] theorem Dev.onTc_engines (d : Dev) (f : Tc → Tc) : (d.onTc f).engines = d.engines := (rfl)
@[simp] theorem Dev.onTc_mode (d : Dev) (f : Tc → Tc) : (d.onTc f).mode = d.mode := (rfl)
@[simp] theorem Dev.onTc_pools (d : Dev) (f : Tc → Tc) : (d.onTc f).pools = d.pools := (rfl)
@[simp] theorem Dev.onTc_idx (d : Dev) (f : Tc → Tc) : (d.onTc f).idx = d.idx := (rfl)
@[simp] theorem Dev.onTc_cm (d : Dev) (f : Tc → Tc) : (d.onTc f).cm = d.cm := (rfl)
@[simp] theorem Dev.onTc_cx (d : Dev) (f : Tc → Tc) : (d.onTc f).cx = d.cx := (rfl)
@[simp] theorem Dev.onTc_fm (d : Dev) (f : Tc → Tc) : (d.onTc f).fm = d.fm := (rfl)
@[simp] theorem Dev.onTc_sh (d : Dev) (f : Tc → Tc) : (d.onTc f).sh = d.sh := (rfl)
@[simp] theorem Dev.onTc_vol (d : Dev) (f : Tc → Tc) : (d.onTc f).vol = d.vol := (rfl)
@[simp] theorem Dev.onTc_links (d : Dev) (f : Tc → Tc) : (d.onTc f).links = d.links := (rfl)
@[simp] theorem Dev.onTc_tc (d : Dev) (f : Tc → Tc) : (d.onTc f).tc = f d.tc := (rfl)
@[simp] theorem Dev.onTc_er (d : Dev) (f : Tc → Tc) : (d.onTc f).er = d.er := (rfl)
@[simp] theorem Dev.onTc_mi (d : Dev) (f : Tc → Tc) : (d.onTc f).mi = d.mi := (rfl)
@[simp] theorem Dev.onTc_hk (d : Dev) (f : Tc → Tc) : (d.onTc f).hk = d.hk := (rfl)
@[simp] theorem Dev.onTc_cs (d : Dev) (f : Tc → Tc) : (d.onTc f).cs = d.cs := (rfl)
@[simp] theorem Dev.onTc_fu (d : Dev) (f : Tc → Tc) : (d.onTc f).fu = d.fu := (rfl)
@[simp] theorem Dev.onTc_en (d : Dev) (f : Tc → Tc) : (d.onTc f).en = d.en := (rfl)
@[simp] theorem Dev.onTc_sn (d : Dev) (f : Tc → Tc) : (d.onTc f).sn = d.sn := (rfl)
@[simp] theorem Dev.onTc_boot (d : Dev) (f : Tc → Tc) : (d.onTc f).boot = d.boot := (rfl)
@[simp] theorem Dev.onTc_pins (d : Dev) (f : Tc → Tc) : (d.onTc f).pins = d.pins := (rfl)
@[simp] theorem Dev.onTc_draws (d : Dev) (f : Tc → Tc) : (d.onTc f).draws = d.draws := (rfl)

@[simp] theorem Dev.onEr_clk (d : Dev) (f : Errors → Errors) : (d.onEr f).clk = d.clk := (rfl)
@[simp] theorem Dev.onEr_pa (d : Dev) (f : Errors → Errors) : (d.onEr f).pa = d.pa := (rfl)
@[simp] theorem Dev.onEr_pb (d : Dev) (f : Errors → Errors) : (d.onEr f).pb = d.pb := (rfl)
@[simp] theorem Dev.onEr_hostA (d : Dev) (f : Errors → Errors) : (d.onEr f).hostA = d.hostA := (rfl)
@[simp] theorem Dev.onEr_hostB (d : Dev) (f : Errors → Errors) : (d.onEr f).hostB = d.hostB := (rfl)
@[simp] theorem Dev.onEr_hostR (d : Dev) (f : Errors → Errors) : (d.onEr f).hostR = d.hostR := (rfl)
@[simp] theorem Dev.onEr_pairs (d : Dev) (f : Errors → Errors) : (d.onEr f).pairs = d.pairs := (rfl)
@[simp] theorem Dev.onEr_arb (d : Dev) (f : Errors → Errors) : (d.onEr f).arb = d.arb := (rfl)
@[simp] theorem Dev.onEr_cmds (d : Dev) (f : Errors → Errors) : (d.onEr f).cmds = d.cmds := (rfl)
@[simp] theorem Dev.onEr_notices (d : Dev) (f : Errors → Errors) : (d.onEr f).notices = d.notices := (rfl)
@[simp] theorem Dev.onEr_heldZeros (d : Dev) (f : Errors → Errors) : (d.onEr f).heldZeros = d.heldZeros := (rfl)
@[simp] theorem Dev.onEr_regs (d : Dev) (f : Errors → Errors) : (d.onEr f).regs = d.regs := (rfl)
@[simp] theorem Dev.onEr_w1c (d : Dev) (f : Errors → Errors) : (d.onEr f).w1c = d.w1c := (rfl)
@[simp] theorem Dev.onEr_cnts (d : Dev) (f : Errors → Errors) : (d.onEr f).cnts = d.cnts := (rfl)
@[simp] theorem Dev.onEr_shadow (d : Dev) (f : Errors → Errors) : (d.onEr f).shadow = d.shadow := (rfl)
@[simp] theorem Dev.onEr_ctxs (d : Dev) (f : Errors → Errors) : (d.onEr f).ctxs = d.ctxs := (rfl)
@[simp] theorem Dev.onEr_engines (d : Dev) (f : Errors → Errors) : (d.onEr f).engines = d.engines := (rfl)
@[simp] theorem Dev.onEr_mode (d : Dev) (f : Errors → Errors) : (d.onEr f).mode = d.mode := (rfl)
@[simp] theorem Dev.onEr_pools (d : Dev) (f : Errors → Errors) : (d.onEr f).pools = d.pools := (rfl)
@[simp] theorem Dev.onEr_idx (d : Dev) (f : Errors → Errors) : (d.onEr f).idx = d.idx := (rfl)
@[simp] theorem Dev.onEr_cm (d : Dev) (f : Errors → Errors) : (d.onEr f).cm = d.cm := (rfl)
@[simp] theorem Dev.onEr_cx (d : Dev) (f : Errors → Errors) : (d.onEr f).cx = d.cx := (rfl)
@[simp] theorem Dev.onEr_fm (d : Dev) (f : Errors → Errors) : (d.onEr f).fm = d.fm := (rfl)
@[simp] theorem Dev.onEr_sh (d : Dev) (f : Errors → Errors) : (d.onEr f).sh = d.sh := (rfl)
@[simp] theorem Dev.onEr_vol (d : Dev) (f : Errors → Errors) : (d.onEr f).vol = d.vol := (rfl)
@[simp] theorem Dev.onEr_links (d : Dev) (f : Errors → Errors) : (d.onEr f).links = d.links := (rfl)
@[simp] theorem Dev.onEr_tc (d : Dev) (f : Errors → Errors) : (d.onEr f).tc = d.tc := (rfl)
@[simp] theorem Dev.onEr_er (d : Dev) (f : Errors → Errors) : (d.onEr f).er = f d.er := (rfl)
@[simp] theorem Dev.onEr_mi (d : Dev) (f : Errors → Errors) : (d.onEr f).mi = d.mi := (rfl)
@[simp] theorem Dev.onEr_hk (d : Dev) (f : Errors → Errors) : (d.onEr f).hk = d.hk := (rfl)
@[simp] theorem Dev.onEr_cs (d : Dev) (f : Errors → Errors) : (d.onEr f).cs = d.cs := (rfl)
@[simp] theorem Dev.onEr_fu (d : Dev) (f : Errors → Errors) : (d.onEr f).fu = d.fu := (rfl)
@[simp] theorem Dev.onEr_en (d : Dev) (f : Errors → Errors) : (d.onEr f).en = d.en := (rfl)
@[simp] theorem Dev.onEr_sn (d : Dev) (f : Errors → Errors) : (d.onEr f).sn = d.sn := (rfl)
@[simp] theorem Dev.onEr_boot (d : Dev) (f : Errors → Errors) : (d.onEr f).boot = d.boot := (rfl)
@[simp] theorem Dev.onEr_pins (d : Dev) (f : Errors → Errors) : (d.onEr f).pins = d.pins := (rfl)
@[simp] theorem Dev.onEr_draws (d : Dev) (f : Errors → Errors) : (d.onEr f).draws = d.draws := (rfl)

@[simp] theorem Dev.onMi_clk (d : Dev) (f : MemInt → MemInt) : (d.onMi f).clk = d.clk := (rfl)
@[simp] theorem Dev.onMi_pa (d : Dev) (f : MemInt → MemInt) : (d.onMi f).pa = d.pa := (rfl)
@[simp] theorem Dev.onMi_pb (d : Dev) (f : MemInt → MemInt) : (d.onMi f).pb = d.pb := (rfl)
@[simp] theorem Dev.onMi_hostA (d : Dev) (f : MemInt → MemInt) : (d.onMi f).hostA = d.hostA := (rfl)
@[simp] theorem Dev.onMi_hostB (d : Dev) (f : MemInt → MemInt) : (d.onMi f).hostB = d.hostB := (rfl)
@[simp] theorem Dev.onMi_hostR (d : Dev) (f : MemInt → MemInt) : (d.onMi f).hostR = d.hostR := (rfl)
@[simp] theorem Dev.onMi_pairs (d : Dev) (f : MemInt → MemInt) : (d.onMi f).pairs = d.pairs := (rfl)
@[simp] theorem Dev.onMi_arb (d : Dev) (f : MemInt → MemInt) : (d.onMi f).arb = d.arb := (rfl)
@[simp] theorem Dev.onMi_cmds (d : Dev) (f : MemInt → MemInt) : (d.onMi f).cmds = d.cmds := (rfl)
@[simp] theorem Dev.onMi_notices (d : Dev) (f : MemInt → MemInt) : (d.onMi f).notices = d.notices := (rfl)
@[simp] theorem Dev.onMi_heldZeros (d : Dev) (f : MemInt → MemInt) : (d.onMi f).heldZeros = d.heldZeros := (rfl)
@[simp] theorem Dev.onMi_regs (d : Dev) (f : MemInt → MemInt) : (d.onMi f).regs = d.regs := (rfl)
@[simp] theorem Dev.onMi_w1c (d : Dev) (f : MemInt → MemInt) : (d.onMi f).w1c = d.w1c := (rfl)
@[simp] theorem Dev.onMi_cnts (d : Dev) (f : MemInt → MemInt) : (d.onMi f).cnts = d.cnts := (rfl)
@[simp] theorem Dev.onMi_shadow (d : Dev) (f : MemInt → MemInt) : (d.onMi f).shadow = d.shadow := (rfl)
@[simp] theorem Dev.onMi_ctxs (d : Dev) (f : MemInt → MemInt) : (d.onMi f).ctxs = d.ctxs := (rfl)
@[simp] theorem Dev.onMi_engines (d : Dev) (f : MemInt → MemInt) : (d.onMi f).engines = d.engines := (rfl)
@[simp] theorem Dev.onMi_mode (d : Dev) (f : MemInt → MemInt) : (d.onMi f).mode = d.mode := (rfl)
@[simp] theorem Dev.onMi_pools (d : Dev) (f : MemInt → MemInt) : (d.onMi f).pools = d.pools := (rfl)
@[simp] theorem Dev.onMi_idx (d : Dev) (f : MemInt → MemInt) : (d.onMi f).idx = d.idx := (rfl)
@[simp] theorem Dev.onMi_cm (d : Dev) (f : MemInt → MemInt) : (d.onMi f).cm = d.cm := (rfl)
@[simp] theorem Dev.onMi_cx (d : Dev) (f : MemInt → MemInt) : (d.onMi f).cx = d.cx := (rfl)
@[simp] theorem Dev.onMi_fm (d : Dev) (f : MemInt → MemInt) : (d.onMi f).fm = d.fm := (rfl)
@[simp] theorem Dev.onMi_sh (d : Dev) (f : MemInt → MemInt) : (d.onMi f).sh = d.sh := (rfl)
@[simp] theorem Dev.onMi_vol (d : Dev) (f : MemInt → MemInt) : (d.onMi f).vol = d.vol := (rfl)
@[simp] theorem Dev.onMi_links (d : Dev) (f : MemInt → MemInt) : (d.onMi f).links = d.links := (rfl)
@[simp] theorem Dev.onMi_tc (d : Dev) (f : MemInt → MemInt) : (d.onMi f).tc = d.tc := (rfl)
@[simp] theorem Dev.onMi_er (d : Dev) (f : MemInt → MemInt) : (d.onMi f).er = d.er := (rfl)
@[simp] theorem Dev.onMi_mi (d : Dev) (f : MemInt → MemInt) : (d.onMi f).mi = f d.mi := (rfl)
@[simp] theorem Dev.onMi_hk (d : Dev) (f : MemInt → MemInt) : (d.onMi f).hk = d.hk := (rfl)
@[simp] theorem Dev.onMi_cs (d : Dev) (f : MemInt → MemInt) : (d.onMi f).cs = d.cs := (rfl)
@[simp] theorem Dev.onMi_fu (d : Dev) (f : MemInt → MemInt) : (d.onMi f).fu = d.fu := (rfl)
@[simp] theorem Dev.onMi_en (d : Dev) (f : MemInt → MemInt) : (d.onMi f).en = d.en := (rfl)
@[simp] theorem Dev.onMi_sn (d : Dev) (f : MemInt → MemInt) : (d.onMi f).sn = d.sn := (rfl)
@[simp] theorem Dev.onMi_boot (d : Dev) (f : MemInt → MemInt) : (d.onMi f).boot = d.boot := (rfl)
@[simp] theorem Dev.onMi_pins (d : Dev) (f : MemInt → MemInt) : (d.onMi f).pins = d.pins := (rfl)
@[simp] theorem Dev.onMi_draws (d : Dev) (f : MemInt → MemInt) : (d.onMi f).draws = d.draws := (rfl)

@[simp] theorem Dev.onHk_clk (d : Dev) (f : Hk → Hk) : (d.onHk f).clk = d.clk := (rfl)
@[simp] theorem Dev.onHk_pa (d : Dev) (f : Hk → Hk) : (d.onHk f).pa = d.pa := (rfl)
@[simp] theorem Dev.onHk_pb (d : Dev) (f : Hk → Hk) : (d.onHk f).pb = d.pb := (rfl)
@[simp] theorem Dev.onHk_hostA (d : Dev) (f : Hk → Hk) : (d.onHk f).hostA = d.hostA := (rfl)
@[simp] theorem Dev.onHk_hostB (d : Dev) (f : Hk → Hk) : (d.onHk f).hostB = d.hostB := (rfl)
@[simp] theorem Dev.onHk_hostR (d : Dev) (f : Hk → Hk) : (d.onHk f).hostR = d.hostR := (rfl)
@[simp] theorem Dev.onHk_pairs (d : Dev) (f : Hk → Hk) : (d.onHk f).pairs = d.pairs := (rfl)
@[simp] theorem Dev.onHk_arb (d : Dev) (f : Hk → Hk) : (d.onHk f).arb = d.arb := (rfl)
@[simp] theorem Dev.onHk_cmds (d : Dev) (f : Hk → Hk) : (d.onHk f).cmds = d.cmds := (rfl)
@[simp] theorem Dev.onHk_notices (d : Dev) (f : Hk → Hk) : (d.onHk f).notices = d.notices := (rfl)
@[simp] theorem Dev.onHk_heldZeros (d : Dev) (f : Hk → Hk) : (d.onHk f).heldZeros = d.heldZeros := (rfl)
@[simp] theorem Dev.onHk_regs (d : Dev) (f : Hk → Hk) : (d.onHk f).regs = d.regs := (rfl)
@[simp] theorem Dev.onHk_w1c (d : Dev) (f : Hk → Hk) : (d.onHk f).w1c = d.w1c := (rfl)
@[simp] theorem Dev.onHk_cnts (d : Dev) (f : Hk → Hk) : (d.onHk f).cnts = d.cnts := (rfl)
@[simp] theorem Dev.onHk_shadow (d : Dev) (f : Hk → Hk) : (d.onHk f).shadow = d.shadow := (rfl)
@[simp] theorem Dev.onHk_ctxs (d : Dev) (f : Hk → Hk) : (d.onHk f).ctxs = d.ctxs := (rfl)
@[simp] theorem Dev.onHk_engines (d : Dev) (f : Hk → Hk) : (d.onHk f).engines = d.engines := (rfl)
@[simp] theorem Dev.onHk_mode (d : Dev) (f : Hk → Hk) : (d.onHk f).mode = d.mode := (rfl)
@[simp] theorem Dev.onHk_pools (d : Dev) (f : Hk → Hk) : (d.onHk f).pools = d.pools := (rfl)
@[simp] theorem Dev.onHk_idx (d : Dev) (f : Hk → Hk) : (d.onHk f).idx = d.idx := (rfl)
@[simp] theorem Dev.onHk_cm (d : Dev) (f : Hk → Hk) : (d.onHk f).cm = d.cm := (rfl)
@[simp] theorem Dev.onHk_cx (d : Dev) (f : Hk → Hk) : (d.onHk f).cx = d.cx := (rfl)
@[simp] theorem Dev.onHk_fm (d : Dev) (f : Hk → Hk) : (d.onHk f).fm = d.fm := (rfl)
@[simp] theorem Dev.onHk_sh (d : Dev) (f : Hk → Hk) : (d.onHk f).sh = d.sh := (rfl)
@[simp] theorem Dev.onHk_vol (d : Dev) (f : Hk → Hk) : (d.onHk f).vol = d.vol := (rfl)
@[simp] theorem Dev.onHk_links (d : Dev) (f : Hk → Hk) : (d.onHk f).links = d.links := (rfl)
@[simp] theorem Dev.onHk_tc (d : Dev) (f : Hk → Hk) : (d.onHk f).tc = d.tc := (rfl)
@[simp] theorem Dev.onHk_er (d : Dev) (f : Hk → Hk) : (d.onHk f).er = d.er := (rfl)
@[simp] theorem Dev.onHk_mi (d : Dev) (f : Hk → Hk) : (d.onHk f).mi = d.mi := (rfl)
@[simp] theorem Dev.onHk_hk (d : Dev) (f : Hk → Hk) : (d.onHk f).hk = f d.hk := (rfl)
@[simp] theorem Dev.onHk_cs (d : Dev) (f : Hk → Hk) : (d.onHk f).cs = d.cs := (rfl)
@[simp] theorem Dev.onHk_fu (d : Dev) (f : Hk → Hk) : (d.onHk f).fu = d.fu := (rfl)
@[simp] theorem Dev.onHk_en (d : Dev) (f : Hk → Hk) : (d.onHk f).en = d.en := (rfl)
@[simp] theorem Dev.onHk_sn (d : Dev) (f : Hk → Hk) : (d.onHk f).sn = d.sn := (rfl)
@[simp] theorem Dev.onHk_boot (d : Dev) (f : Hk → Hk) : (d.onHk f).boot = d.boot := (rfl)
@[simp] theorem Dev.onHk_pins (d : Dev) (f : Hk → Hk) : (d.onHk f).pins = d.pins := (rfl)
@[simp] theorem Dev.onHk_draws (d : Dev) (f : Hk → Hk) : (d.onHk f).draws = d.draws := (rfl)

@[simp] theorem Dev.onCs_clk (d : Dev) (f : Cascade → Cascade) : (d.onCs f).clk = d.clk := (rfl)
@[simp] theorem Dev.onCs_pa (d : Dev) (f : Cascade → Cascade) : (d.onCs f).pa = d.pa := (rfl)
@[simp] theorem Dev.onCs_pb (d : Dev) (f : Cascade → Cascade) : (d.onCs f).pb = d.pb := (rfl)
@[simp] theorem Dev.onCs_hostA (d : Dev) (f : Cascade → Cascade) : (d.onCs f).hostA = d.hostA := (rfl)
@[simp] theorem Dev.onCs_hostB (d : Dev) (f : Cascade → Cascade) : (d.onCs f).hostB = d.hostB := (rfl)
@[simp] theorem Dev.onCs_hostR (d : Dev) (f : Cascade → Cascade) : (d.onCs f).hostR = d.hostR := (rfl)
@[simp] theorem Dev.onCs_pairs (d : Dev) (f : Cascade → Cascade) : (d.onCs f).pairs = d.pairs := (rfl)
@[simp] theorem Dev.onCs_arb (d : Dev) (f : Cascade → Cascade) : (d.onCs f).arb = d.arb := (rfl)
@[simp] theorem Dev.onCs_cmds (d : Dev) (f : Cascade → Cascade) : (d.onCs f).cmds = d.cmds := (rfl)
@[simp] theorem Dev.onCs_notices (d : Dev) (f : Cascade → Cascade) : (d.onCs f).notices = d.notices := (rfl)
@[simp] theorem Dev.onCs_heldZeros (d : Dev) (f : Cascade → Cascade) : (d.onCs f).heldZeros = d.heldZeros := (rfl)
@[simp] theorem Dev.onCs_regs (d : Dev) (f : Cascade → Cascade) : (d.onCs f).regs = d.regs := (rfl)
@[simp] theorem Dev.onCs_w1c (d : Dev) (f : Cascade → Cascade) : (d.onCs f).w1c = d.w1c := (rfl)
@[simp] theorem Dev.onCs_cnts (d : Dev) (f : Cascade → Cascade) : (d.onCs f).cnts = d.cnts := (rfl)
@[simp] theorem Dev.onCs_shadow (d : Dev) (f : Cascade → Cascade) : (d.onCs f).shadow = d.shadow := (rfl)
@[simp] theorem Dev.onCs_ctxs (d : Dev) (f : Cascade → Cascade) : (d.onCs f).ctxs = d.ctxs := (rfl)
@[simp] theorem Dev.onCs_engines (d : Dev) (f : Cascade → Cascade) : (d.onCs f).engines = d.engines := (rfl)
@[simp] theorem Dev.onCs_mode (d : Dev) (f : Cascade → Cascade) : (d.onCs f).mode = d.mode := (rfl)
@[simp] theorem Dev.onCs_pools (d : Dev) (f : Cascade → Cascade) : (d.onCs f).pools = d.pools := (rfl)
@[simp] theorem Dev.onCs_idx (d : Dev) (f : Cascade → Cascade) : (d.onCs f).idx = d.idx := (rfl)
@[simp] theorem Dev.onCs_cm (d : Dev) (f : Cascade → Cascade) : (d.onCs f).cm = d.cm := (rfl)
@[simp] theorem Dev.onCs_cx (d : Dev) (f : Cascade → Cascade) : (d.onCs f).cx = d.cx := (rfl)
@[simp] theorem Dev.onCs_fm (d : Dev) (f : Cascade → Cascade) : (d.onCs f).fm = d.fm := (rfl)
@[simp] theorem Dev.onCs_sh (d : Dev) (f : Cascade → Cascade) : (d.onCs f).sh = d.sh := (rfl)
@[simp] theorem Dev.onCs_vol (d : Dev) (f : Cascade → Cascade) : (d.onCs f).vol = d.vol := (rfl)
@[simp] theorem Dev.onCs_links (d : Dev) (f : Cascade → Cascade) : (d.onCs f).links = d.links := (rfl)
@[simp] theorem Dev.onCs_tc (d : Dev) (f : Cascade → Cascade) : (d.onCs f).tc = d.tc := (rfl)
@[simp] theorem Dev.onCs_er (d : Dev) (f : Cascade → Cascade) : (d.onCs f).er = d.er := (rfl)
@[simp] theorem Dev.onCs_mi (d : Dev) (f : Cascade → Cascade) : (d.onCs f).mi = d.mi := (rfl)
@[simp] theorem Dev.onCs_hk (d : Dev) (f : Cascade → Cascade) : (d.onCs f).hk = d.hk := (rfl)
@[simp] theorem Dev.onCs_cs (d : Dev) (f : Cascade → Cascade) : (d.onCs f).cs = f d.cs := (rfl)
@[simp] theorem Dev.onCs_fu (d : Dev) (f : Cascade → Cascade) : (d.onCs f).fu = d.fu := (rfl)
@[simp] theorem Dev.onCs_en (d : Dev) (f : Cascade → Cascade) : (d.onCs f).en = d.en := (rfl)
@[simp] theorem Dev.onCs_sn (d : Dev) (f : Cascade → Cascade) : (d.onCs f).sn = d.sn := (rfl)
@[simp] theorem Dev.onCs_boot (d : Dev) (f : Cascade → Cascade) : (d.onCs f).boot = d.boot := (rfl)
@[simp] theorem Dev.onCs_pins (d : Dev) (f : Cascade → Cascade) : (d.onCs f).pins = d.pins := (rfl)
@[simp] theorem Dev.onCs_draws (d : Dev) (f : Cascade → Cascade) : (d.onCs f).draws = d.draws := (rfl)

@[simp] theorem Dev.onFu_clk (d : Dev) (f : Fuses → Fuses) : (d.onFu f).clk = d.clk := (rfl)
@[simp] theorem Dev.onFu_pa (d : Dev) (f : Fuses → Fuses) : (d.onFu f).pa = d.pa := (rfl)
@[simp] theorem Dev.onFu_pb (d : Dev) (f : Fuses → Fuses) : (d.onFu f).pb = d.pb := (rfl)
@[simp] theorem Dev.onFu_hostA (d : Dev) (f : Fuses → Fuses) : (d.onFu f).hostA = d.hostA := (rfl)
@[simp] theorem Dev.onFu_hostB (d : Dev) (f : Fuses → Fuses) : (d.onFu f).hostB = d.hostB := (rfl)
@[simp] theorem Dev.onFu_hostR (d : Dev) (f : Fuses → Fuses) : (d.onFu f).hostR = d.hostR := (rfl)
@[simp] theorem Dev.onFu_pairs (d : Dev) (f : Fuses → Fuses) : (d.onFu f).pairs = d.pairs := (rfl)
@[simp] theorem Dev.onFu_arb (d : Dev) (f : Fuses → Fuses) : (d.onFu f).arb = d.arb := (rfl)
@[simp] theorem Dev.onFu_cmds (d : Dev) (f : Fuses → Fuses) : (d.onFu f).cmds = d.cmds := (rfl)
@[simp] theorem Dev.onFu_notices (d : Dev) (f : Fuses → Fuses) : (d.onFu f).notices = d.notices := (rfl)
@[simp] theorem Dev.onFu_heldZeros (d : Dev) (f : Fuses → Fuses) : (d.onFu f).heldZeros = d.heldZeros := (rfl)
@[simp] theorem Dev.onFu_regs (d : Dev) (f : Fuses → Fuses) : (d.onFu f).regs = d.regs := (rfl)
@[simp] theorem Dev.onFu_w1c (d : Dev) (f : Fuses → Fuses) : (d.onFu f).w1c = d.w1c := (rfl)
@[simp] theorem Dev.onFu_cnts (d : Dev) (f : Fuses → Fuses) : (d.onFu f).cnts = d.cnts := (rfl)
@[simp] theorem Dev.onFu_shadow (d : Dev) (f : Fuses → Fuses) : (d.onFu f).shadow = d.shadow := (rfl)
@[simp] theorem Dev.onFu_ctxs (d : Dev) (f : Fuses → Fuses) : (d.onFu f).ctxs = d.ctxs := (rfl)
@[simp] theorem Dev.onFu_engines (d : Dev) (f : Fuses → Fuses) : (d.onFu f).engines = d.engines := (rfl)
@[simp] theorem Dev.onFu_mode (d : Dev) (f : Fuses → Fuses) : (d.onFu f).mode = d.mode := (rfl)
@[simp] theorem Dev.onFu_pools (d : Dev) (f : Fuses → Fuses) : (d.onFu f).pools = d.pools := (rfl)
@[simp] theorem Dev.onFu_idx (d : Dev) (f : Fuses → Fuses) : (d.onFu f).idx = d.idx := (rfl)
@[simp] theorem Dev.onFu_cm (d : Dev) (f : Fuses → Fuses) : (d.onFu f).cm = d.cm := (rfl)
@[simp] theorem Dev.onFu_cx (d : Dev) (f : Fuses → Fuses) : (d.onFu f).cx = d.cx := (rfl)
@[simp] theorem Dev.onFu_fm (d : Dev) (f : Fuses → Fuses) : (d.onFu f).fm = d.fm := (rfl)
@[simp] theorem Dev.onFu_sh (d : Dev) (f : Fuses → Fuses) : (d.onFu f).sh = d.sh := (rfl)
@[simp] theorem Dev.onFu_vol (d : Dev) (f : Fuses → Fuses) : (d.onFu f).vol = d.vol := (rfl)
@[simp] theorem Dev.onFu_links (d : Dev) (f : Fuses → Fuses) : (d.onFu f).links = d.links := (rfl)
@[simp] theorem Dev.onFu_tc (d : Dev) (f : Fuses → Fuses) : (d.onFu f).tc = d.tc := (rfl)
@[simp] theorem Dev.onFu_er (d : Dev) (f : Fuses → Fuses) : (d.onFu f).er = d.er := (rfl)
@[simp] theorem Dev.onFu_mi (d : Dev) (f : Fuses → Fuses) : (d.onFu f).mi = d.mi := (rfl)
@[simp] theorem Dev.onFu_hk (d : Dev) (f : Fuses → Fuses) : (d.onFu f).hk = d.hk := (rfl)
@[simp] theorem Dev.onFu_cs (d : Dev) (f : Fuses → Fuses) : (d.onFu f).cs = d.cs := (rfl)
@[simp] theorem Dev.onFu_fu (d : Dev) (f : Fuses → Fuses) : (d.onFu f).fu = f d.fu := (rfl)
@[simp] theorem Dev.onFu_en (d : Dev) (f : Fuses → Fuses) : (d.onFu f).en = d.en := (rfl)
@[simp] theorem Dev.onFu_sn (d : Dev) (f : Fuses → Fuses) : (d.onFu f).sn = d.sn := (rfl)
@[simp] theorem Dev.onFu_boot (d : Dev) (f : Fuses → Fuses) : (d.onFu f).boot = d.boot := (rfl)
@[simp] theorem Dev.onFu_pins (d : Dev) (f : Fuses → Fuses) : (d.onFu f).pins = d.pins := (rfl)
@[simp] theorem Dev.onFu_draws (d : Dev) (f : Fuses → Fuses) : (d.onFu f).draws = d.draws := (rfl)

@[simp] theorem Dev.onEn_clk (d : Dev) (f : Patches → Patches) : (d.onEn f).clk = d.clk := (rfl)
@[simp] theorem Dev.onEn_pa (d : Dev) (f : Patches → Patches) : (d.onEn f).pa = d.pa := (rfl)
@[simp] theorem Dev.onEn_pb (d : Dev) (f : Patches → Patches) : (d.onEn f).pb = d.pb := (rfl)
@[simp] theorem Dev.onEn_hostA (d : Dev) (f : Patches → Patches) : (d.onEn f).hostA = d.hostA := (rfl)
@[simp] theorem Dev.onEn_hostB (d : Dev) (f : Patches → Patches) : (d.onEn f).hostB = d.hostB := (rfl)
@[simp] theorem Dev.onEn_hostR (d : Dev) (f : Patches → Patches) : (d.onEn f).hostR = d.hostR := (rfl)
@[simp] theorem Dev.onEn_pairs (d : Dev) (f : Patches → Patches) : (d.onEn f).pairs = d.pairs := (rfl)
@[simp] theorem Dev.onEn_arb (d : Dev) (f : Patches → Patches) : (d.onEn f).arb = d.arb := (rfl)
@[simp] theorem Dev.onEn_cmds (d : Dev) (f : Patches → Patches) : (d.onEn f).cmds = d.cmds := (rfl)
@[simp] theorem Dev.onEn_notices (d : Dev) (f : Patches → Patches) : (d.onEn f).notices = d.notices := (rfl)
@[simp] theorem Dev.onEn_heldZeros (d : Dev) (f : Patches → Patches) : (d.onEn f).heldZeros = d.heldZeros := (rfl)
@[simp] theorem Dev.onEn_regs (d : Dev) (f : Patches → Patches) : (d.onEn f).regs = d.regs := (rfl)
@[simp] theorem Dev.onEn_w1c (d : Dev) (f : Patches → Patches) : (d.onEn f).w1c = d.w1c := (rfl)
@[simp] theorem Dev.onEn_cnts (d : Dev) (f : Patches → Patches) : (d.onEn f).cnts = d.cnts := (rfl)
@[simp] theorem Dev.onEn_shadow (d : Dev) (f : Patches → Patches) : (d.onEn f).shadow = d.shadow := (rfl)
@[simp] theorem Dev.onEn_ctxs (d : Dev) (f : Patches → Patches) : (d.onEn f).ctxs = d.ctxs := (rfl)
@[simp] theorem Dev.onEn_engines (d : Dev) (f : Patches → Patches) : (d.onEn f).engines = d.engines := (rfl)
@[simp] theorem Dev.onEn_mode (d : Dev) (f : Patches → Patches) : (d.onEn f).mode = d.mode := (rfl)
@[simp] theorem Dev.onEn_pools (d : Dev) (f : Patches → Patches) : (d.onEn f).pools = d.pools := (rfl)
@[simp] theorem Dev.onEn_idx (d : Dev) (f : Patches → Patches) : (d.onEn f).idx = d.idx := (rfl)
@[simp] theorem Dev.onEn_cm (d : Dev) (f : Patches → Patches) : (d.onEn f).cm = d.cm := (rfl)
@[simp] theorem Dev.onEn_cx (d : Dev) (f : Patches → Patches) : (d.onEn f).cx = d.cx := (rfl)
@[simp] theorem Dev.onEn_fm (d : Dev) (f : Patches → Patches) : (d.onEn f).fm = d.fm := (rfl)
@[simp] theorem Dev.onEn_sh (d : Dev) (f : Patches → Patches) : (d.onEn f).sh = d.sh := (rfl)
@[simp] theorem Dev.onEn_vol (d : Dev) (f : Patches → Patches) : (d.onEn f).vol = d.vol := (rfl)
@[simp] theorem Dev.onEn_links (d : Dev) (f : Patches → Patches) : (d.onEn f).links = d.links := (rfl)
@[simp] theorem Dev.onEn_tc (d : Dev) (f : Patches → Patches) : (d.onEn f).tc = d.tc := (rfl)
@[simp] theorem Dev.onEn_er (d : Dev) (f : Patches → Patches) : (d.onEn f).er = d.er := (rfl)
@[simp] theorem Dev.onEn_mi (d : Dev) (f : Patches → Patches) : (d.onEn f).mi = d.mi := (rfl)
@[simp] theorem Dev.onEn_hk (d : Dev) (f : Patches → Patches) : (d.onEn f).hk = d.hk := (rfl)
@[simp] theorem Dev.onEn_cs (d : Dev) (f : Patches → Patches) : (d.onEn f).cs = d.cs := (rfl)
@[simp] theorem Dev.onEn_fu (d : Dev) (f : Patches → Patches) : (d.onEn f).fu = d.fu := (rfl)
@[simp] theorem Dev.onEn_en (d : Dev) (f : Patches → Patches) : (d.onEn f).en = f d.en := (rfl)
@[simp] theorem Dev.onEn_sn (d : Dev) (f : Patches → Patches) : (d.onEn f).sn = d.sn := (rfl)
@[simp] theorem Dev.onEn_boot (d : Dev) (f : Patches → Patches) : (d.onEn f).boot = d.boot := (rfl)
@[simp] theorem Dev.onEn_pins (d : Dev) (f : Patches → Patches) : (d.onEn f).pins = d.pins := (rfl)
@[simp] theorem Dev.onEn_draws (d : Dev) (f : Patches → Patches) : (d.onEn f).draws = d.draws := (rfl)

@[simp] theorem Dev.onSn_clk (d : Dev) (f : Snap → Snap) : (d.onSn f).clk = d.clk := (rfl)
@[simp] theorem Dev.onSn_pa (d : Dev) (f : Snap → Snap) : (d.onSn f).pa = d.pa := (rfl)
@[simp] theorem Dev.onSn_pb (d : Dev) (f : Snap → Snap) : (d.onSn f).pb = d.pb := (rfl)
@[simp] theorem Dev.onSn_hostA (d : Dev) (f : Snap → Snap) : (d.onSn f).hostA = d.hostA := (rfl)
@[simp] theorem Dev.onSn_hostB (d : Dev) (f : Snap → Snap) : (d.onSn f).hostB = d.hostB := (rfl)
@[simp] theorem Dev.onSn_hostR (d : Dev) (f : Snap → Snap) : (d.onSn f).hostR = d.hostR := (rfl)
@[simp] theorem Dev.onSn_pairs (d : Dev) (f : Snap → Snap) : (d.onSn f).pairs = d.pairs := (rfl)
@[simp] theorem Dev.onSn_arb (d : Dev) (f : Snap → Snap) : (d.onSn f).arb = d.arb := (rfl)
@[simp] theorem Dev.onSn_cmds (d : Dev) (f : Snap → Snap) : (d.onSn f).cmds = d.cmds := (rfl)
@[simp] theorem Dev.onSn_notices (d : Dev) (f : Snap → Snap) : (d.onSn f).notices = d.notices := (rfl)
@[simp] theorem Dev.onSn_heldZeros (d : Dev) (f : Snap → Snap) : (d.onSn f).heldZeros = d.heldZeros := (rfl)
@[simp] theorem Dev.onSn_regs (d : Dev) (f : Snap → Snap) : (d.onSn f).regs = d.regs := (rfl)
@[simp] theorem Dev.onSn_w1c (d : Dev) (f : Snap → Snap) : (d.onSn f).w1c = d.w1c := (rfl)
@[simp] theorem Dev.onSn_cnts (d : Dev) (f : Snap → Snap) : (d.onSn f).cnts = d.cnts := (rfl)
@[simp] theorem Dev.onSn_shadow (d : Dev) (f : Snap → Snap) : (d.onSn f).shadow = d.shadow := (rfl)
@[simp] theorem Dev.onSn_ctxs (d : Dev) (f : Snap → Snap) : (d.onSn f).ctxs = d.ctxs := (rfl)
@[simp] theorem Dev.onSn_engines (d : Dev) (f : Snap → Snap) : (d.onSn f).engines = d.engines := (rfl)
@[simp] theorem Dev.onSn_mode (d : Dev) (f : Snap → Snap) : (d.onSn f).mode = d.mode := (rfl)
@[simp] theorem Dev.onSn_pools (d : Dev) (f : Snap → Snap) : (d.onSn f).pools = d.pools := (rfl)
@[simp] theorem Dev.onSn_idx (d : Dev) (f : Snap → Snap) : (d.onSn f).idx = d.idx := (rfl)
@[simp] theorem Dev.onSn_cm (d : Dev) (f : Snap → Snap) : (d.onSn f).cm = d.cm := (rfl)
@[simp] theorem Dev.onSn_cx (d : Dev) (f : Snap → Snap) : (d.onSn f).cx = d.cx := (rfl)
@[simp] theorem Dev.onSn_fm (d : Dev) (f : Snap → Snap) : (d.onSn f).fm = d.fm := (rfl)
@[simp] theorem Dev.onSn_sh (d : Dev) (f : Snap → Snap) : (d.onSn f).sh = d.sh := (rfl)
@[simp] theorem Dev.onSn_vol (d : Dev) (f : Snap → Snap) : (d.onSn f).vol = d.vol := (rfl)
@[simp] theorem Dev.onSn_links (d : Dev) (f : Snap → Snap) : (d.onSn f).links = d.links := (rfl)
@[simp] theorem Dev.onSn_tc (d : Dev) (f : Snap → Snap) : (d.onSn f).tc = d.tc := (rfl)
@[simp] theorem Dev.onSn_er (d : Dev) (f : Snap → Snap) : (d.onSn f).er = d.er := (rfl)
@[simp] theorem Dev.onSn_mi (d : Dev) (f : Snap → Snap) : (d.onSn f).mi = d.mi := (rfl)
@[simp] theorem Dev.onSn_hk (d : Dev) (f : Snap → Snap) : (d.onSn f).hk = d.hk := (rfl)
@[simp] theorem Dev.onSn_cs (d : Dev) (f : Snap → Snap) : (d.onSn f).cs = d.cs := (rfl)
@[simp] theorem Dev.onSn_fu (d : Dev) (f : Snap → Snap) : (d.onSn f).fu = d.fu := (rfl)
@[simp] theorem Dev.onSn_en (d : Dev) (f : Snap → Snap) : (d.onSn f).en = d.en := (rfl)
@[simp] theorem Dev.onSn_sn (d : Dev) (f : Snap → Snap) : (d.onSn f).sn = f d.sn := (rfl)
@[simp] theorem Dev.onSn_boot (d : Dev) (f : Snap → Snap) : (d.onSn f).boot = d.boot := (rfl)
@[simp] theorem Dev.onSn_pins (d : Dev) (f : Snap → Snap) : (d.onSn f).pins = d.pins := (rfl)
@[simp] theorem Dev.onSn_draws (d : Dev) (f : Snap → Snap) : (d.onSn f).draws = d.draws := (rfl)

@[simp] theorem Dev.onBoot_clk (d : Dev) (f : Boot → Boot) : (d.onBoot f).clk = d.clk := (rfl)
@[simp] theorem Dev.onBoot_pa (d : Dev) (f : Boot → Boot) : (d.onBoot f).pa = d.pa := (rfl)
@[simp] theorem Dev.onBoot_pb (d : Dev) (f : Boot → Boot) : (d.onBoot f).pb = d.pb := (rfl)
@[simp] theorem Dev.onBoot_hostA (d : Dev) (f : Boot → Boot) : (d.onBoot f).hostA = d.hostA := (rfl)
@[simp] theorem Dev.onBoot_hostB (d : Dev) (f : Boot → Boot) : (d.onBoot f).hostB = d.hostB := (rfl)
@[simp] theorem Dev.onBoot_hostR (d : Dev) (f : Boot → Boot) : (d.onBoot f).hostR = d.hostR := (rfl)
@[simp] theorem Dev.onBoot_pairs (d : Dev) (f : Boot → Boot) : (d.onBoot f).pairs = d.pairs := (rfl)
@[simp] theorem Dev.onBoot_arb (d : Dev) (f : Boot → Boot) : (d.onBoot f).arb = d.arb := (rfl)
@[simp] theorem Dev.onBoot_cmds (d : Dev) (f : Boot → Boot) : (d.onBoot f).cmds = d.cmds := (rfl)
@[simp] theorem Dev.onBoot_notices (d : Dev) (f : Boot → Boot) : (d.onBoot f).notices = d.notices := (rfl)
@[simp] theorem Dev.onBoot_heldZeros (d : Dev) (f : Boot → Boot) : (d.onBoot f).heldZeros = d.heldZeros := (rfl)
@[simp] theorem Dev.onBoot_regs (d : Dev) (f : Boot → Boot) : (d.onBoot f).regs = d.regs := (rfl)
@[simp] theorem Dev.onBoot_w1c (d : Dev) (f : Boot → Boot) : (d.onBoot f).w1c = d.w1c := (rfl)
@[simp] theorem Dev.onBoot_cnts (d : Dev) (f : Boot → Boot) : (d.onBoot f).cnts = d.cnts := (rfl)
@[simp] theorem Dev.onBoot_shadow (d : Dev) (f : Boot → Boot) : (d.onBoot f).shadow = d.shadow := (rfl)
@[simp] theorem Dev.onBoot_ctxs (d : Dev) (f : Boot → Boot) : (d.onBoot f).ctxs = d.ctxs := (rfl)
@[simp] theorem Dev.onBoot_engines (d : Dev) (f : Boot → Boot) : (d.onBoot f).engines = d.engines := (rfl)
@[simp] theorem Dev.onBoot_mode (d : Dev) (f : Boot → Boot) : (d.onBoot f).mode = d.mode := (rfl)
@[simp] theorem Dev.onBoot_pools (d : Dev) (f : Boot → Boot) : (d.onBoot f).pools = d.pools := (rfl)
@[simp] theorem Dev.onBoot_idx (d : Dev) (f : Boot → Boot) : (d.onBoot f).idx = d.idx := (rfl)
@[simp] theorem Dev.onBoot_cm (d : Dev) (f : Boot → Boot) : (d.onBoot f).cm = d.cm := (rfl)
@[simp] theorem Dev.onBoot_cx (d : Dev) (f : Boot → Boot) : (d.onBoot f).cx = d.cx := (rfl)
@[simp] theorem Dev.onBoot_fm (d : Dev) (f : Boot → Boot) : (d.onBoot f).fm = d.fm := (rfl)
@[simp] theorem Dev.onBoot_sh (d : Dev) (f : Boot → Boot) : (d.onBoot f).sh = d.sh := (rfl)
@[simp] theorem Dev.onBoot_vol (d : Dev) (f : Boot → Boot) : (d.onBoot f).vol = d.vol := (rfl)
@[simp] theorem Dev.onBoot_links (d : Dev) (f : Boot → Boot) : (d.onBoot f).links = d.links := (rfl)
@[simp] theorem Dev.onBoot_tc (d : Dev) (f : Boot → Boot) : (d.onBoot f).tc = d.tc := (rfl)
@[simp] theorem Dev.onBoot_er (d : Dev) (f : Boot → Boot) : (d.onBoot f).er = d.er := (rfl)
@[simp] theorem Dev.onBoot_mi (d : Dev) (f : Boot → Boot) : (d.onBoot f).mi = d.mi := (rfl)
@[simp] theorem Dev.onBoot_hk (d : Dev) (f : Boot → Boot) : (d.onBoot f).hk = d.hk := (rfl)
@[simp] theorem Dev.onBoot_cs (d : Dev) (f : Boot → Boot) : (d.onBoot f).cs = d.cs := (rfl)
@[simp] theorem Dev.onBoot_fu (d : Dev) (f : Boot → Boot) : (d.onBoot f).fu = d.fu := (rfl)
@[simp] theorem Dev.onBoot_en (d : Dev) (f : Boot → Boot) : (d.onBoot f).en = d.en := (rfl)
@[simp] theorem Dev.onBoot_sn (d : Dev) (f : Boot → Boot) : (d.onBoot f).sn = d.sn := (rfl)
@[simp] theorem Dev.onBoot_boot (d : Dev) (f : Boot → Boot) : (d.onBoot f).boot = f d.boot := (rfl)
@[simp] theorem Dev.onBoot_pins (d : Dev) (f : Boot → Boot) : (d.onBoot f).pins = d.pins := (rfl)
@[simp] theorem Dev.onBoot_draws (d : Dev) (f : Boot → Boot) : (d.onBoot f).draws = d.draws := (rfl)

@[simp] theorem Dev.onPins_clk (d : Dev) (f : Pins → Pins) : (d.onPins f).clk = d.clk := (rfl)
@[simp] theorem Dev.onPins_pa (d : Dev) (f : Pins → Pins) : (d.onPins f).pa = d.pa := (rfl)
@[simp] theorem Dev.onPins_pb (d : Dev) (f : Pins → Pins) : (d.onPins f).pb = d.pb := (rfl)
@[simp] theorem Dev.onPins_hostA (d : Dev) (f : Pins → Pins) : (d.onPins f).hostA = d.hostA := (rfl)
@[simp] theorem Dev.onPins_hostB (d : Dev) (f : Pins → Pins) : (d.onPins f).hostB = d.hostB := (rfl)
@[simp] theorem Dev.onPins_hostR (d : Dev) (f : Pins → Pins) : (d.onPins f).hostR = d.hostR := (rfl)
@[simp] theorem Dev.onPins_pairs (d : Dev) (f : Pins → Pins) : (d.onPins f).pairs = d.pairs := (rfl)
@[simp] theorem Dev.onPins_arb (d : Dev) (f : Pins → Pins) : (d.onPins f).arb = d.arb := (rfl)
@[simp] theorem Dev.onPins_cmds (d : Dev) (f : Pins → Pins) : (d.onPins f).cmds = d.cmds := (rfl)
@[simp] theorem Dev.onPins_notices (d : Dev) (f : Pins → Pins) : (d.onPins f).notices = d.notices := (rfl)
@[simp] theorem Dev.onPins_heldZeros (d : Dev) (f : Pins → Pins) : (d.onPins f).heldZeros = d.heldZeros := (rfl)
@[simp] theorem Dev.onPins_regs (d : Dev) (f : Pins → Pins) : (d.onPins f).regs = d.regs := (rfl)
@[simp] theorem Dev.onPins_w1c (d : Dev) (f : Pins → Pins) : (d.onPins f).w1c = d.w1c := (rfl)
@[simp] theorem Dev.onPins_cnts (d : Dev) (f : Pins → Pins) : (d.onPins f).cnts = d.cnts := (rfl)
@[simp] theorem Dev.onPins_shadow (d : Dev) (f : Pins → Pins) : (d.onPins f).shadow = d.shadow := (rfl)
@[simp] theorem Dev.onPins_ctxs (d : Dev) (f : Pins → Pins) : (d.onPins f).ctxs = d.ctxs := (rfl)
@[simp] theorem Dev.onPins_engines (d : Dev) (f : Pins → Pins) : (d.onPins f).engines = d.engines := (rfl)
@[simp] theorem Dev.onPins_mode (d : Dev) (f : Pins → Pins) : (d.onPins f).mode = d.mode := (rfl)
@[simp] theorem Dev.onPins_pools (d : Dev) (f : Pins → Pins) : (d.onPins f).pools = d.pools := (rfl)
@[simp] theorem Dev.onPins_idx (d : Dev) (f : Pins → Pins) : (d.onPins f).idx = d.idx := (rfl)
@[simp] theorem Dev.onPins_cm (d : Dev) (f : Pins → Pins) : (d.onPins f).cm = d.cm := (rfl)
@[simp] theorem Dev.onPins_cx (d : Dev) (f : Pins → Pins) : (d.onPins f).cx = d.cx := (rfl)
@[simp] theorem Dev.onPins_fm (d : Dev) (f : Pins → Pins) : (d.onPins f).fm = d.fm := (rfl)
@[simp] theorem Dev.onPins_sh (d : Dev) (f : Pins → Pins) : (d.onPins f).sh = d.sh := (rfl)
@[simp] theorem Dev.onPins_vol (d : Dev) (f : Pins → Pins) : (d.onPins f).vol = d.vol := (rfl)
@[simp] theorem Dev.onPins_links (d : Dev) (f : Pins → Pins) : (d.onPins f).links = d.links := (rfl)
@[simp] theorem Dev.onPins_tc (d : Dev) (f : Pins → Pins) : (d.onPins f).tc = d.tc := (rfl)
@[simp] theorem Dev.onPins_er (d : Dev) (f : Pins → Pins) : (d.onPins f).er = d.er := (rfl)
@[simp] theorem Dev.onPins_mi (d : Dev) (f : Pins → Pins) : (d.onPins f).mi = d.mi := (rfl)
@[simp] theorem Dev.onPins_hk (d : Dev) (f : Pins → Pins) : (d.onPins f).hk = d.hk := (rfl)
@[simp] theorem Dev.onPins_cs (d : Dev) (f : Pins → Pins) : (d.onPins f).cs = d.cs := (rfl)
@[simp] theorem Dev.onPins_fu (d : Dev) (f : Pins → Pins) : (d.onPins f).fu = d.fu := (rfl)
@[simp] theorem Dev.onPins_en (d : Dev) (f : Pins → Pins) : (d.onPins f).en = d.en := (rfl)
@[simp] theorem Dev.onPins_sn (d : Dev) (f : Pins → Pins) : (d.onPins f).sn = d.sn := (rfl)
@[simp] theorem Dev.onPins_boot (d : Dev) (f : Pins → Pins) : (d.onPins f).boot = d.boot := (rfl)
@[simp] theorem Dev.onPins_pins (d : Dev) (f : Pins → Pins) : (d.onPins f).pins = f d.pins := (rfl)
@[simp] theorem Dev.onPins_draws (d : Dev) (f : Pins → Pins) : (d.onPins f).draws = d.draws := (rfl)

@[simp] theorem Dev.onCtx_clk (d : Dev) (c : Nat) (f : Ctx → Ctx) : (d.onCtx c f).clk = d.clk := (rfl)
@[simp] theorem Dev.onCtx_pa (d : Dev) (c : Nat) (f : Ctx → Ctx) : (d.onCtx c f).pa = d.pa := (rfl)
@[simp] theorem Dev.onCtx_pb (d : Dev) (c : Nat) (f : Ctx → Ctx) : (d.onCtx c f).pb = d.pb := (rfl)
@[simp] theorem Dev.onCtx_hostA (d : Dev) (c : Nat) (f : Ctx → Ctx) : (d.onCtx c f).hostA = d.hostA := (rfl)
@[simp] theorem Dev.onCtx_hostB (d : Dev) (c : Nat) (f : Ctx → Ctx) : (d.onCtx c f).hostB = d.hostB := (rfl)
@[simp] theorem Dev.onCtx_hostR (d : Dev) (c : Nat) (f : Ctx → Ctx) : (d.onCtx c f).hostR = d.hostR := (rfl)
@[simp] theorem Dev.onCtx_pairs (d : Dev) (c : Nat) (f : Ctx → Ctx) : (d.onCtx c f).pairs = d.pairs := (rfl)
@[simp] theorem Dev.onCtx_arb (d : Dev) (c : Nat) (f : Ctx → Ctx) : (d.onCtx c f).arb = d.arb := (rfl)
@[simp] theorem Dev.onCtx_cmds (d : Dev) (c : Nat) (f : Ctx → Ctx) : (d.onCtx c f).cmds = d.cmds := (rfl)
@[simp] theorem Dev.onCtx_notices (d : Dev) (c : Nat) (f : Ctx → Ctx) : (d.onCtx c f).notices = d.notices := (rfl)
@[simp] theorem Dev.onCtx_heldZeros (d : Dev) (c : Nat) (f : Ctx → Ctx) : (d.onCtx c f).heldZeros = d.heldZeros := (rfl)
@[simp] theorem Dev.onCtx_regs (d : Dev) (c : Nat) (f : Ctx → Ctx) : (d.onCtx c f).regs = d.regs := (rfl)
@[simp] theorem Dev.onCtx_w1c (d : Dev) (c : Nat) (f : Ctx → Ctx) : (d.onCtx c f).w1c = d.w1c := (rfl)
@[simp] theorem Dev.onCtx_cnts (d : Dev) (c : Nat) (f : Ctx → Ctx) : (d.onCtx c f).cnts = d.cnts := (rfl)
@[simp] theorem Dev.onCtx_shadow (d : Dev) (c : Nat) (f : Ctx → Ctx) : (d.onCtx c f).shadow = d.shadow := (rfl)
@[simp] theorem Dev.onCtx_ctxs (d : Dev) (c : Nat) (f : Ctx → Ctx) : (d.onCtx c f).ctxs = d.ctxs.modify c f := (rfl)
@[simp] theorem Dev.onCtx_engines (d : Dev) (c : Nat) (f : Ctx → Ctx) : (d.onCtx c f).engines = d.engines := (rfl)
@[simp] theorem Dev.onCtx_mode (d : Dev) (c : Nat) (f : Ctx → Ctx) : (d.onCtx c f).mode = d.mode := (rfl)
@[simp] theorem Dev.onCtx_pools (d : Dev) (c : Nat) (f : Ctx → Ctx) : (d.onCtx c f).pools = d.pools := (rfl)
@[simp] theorem Dev.onCtx_idx (d : Dev) (c : Nat) (f : Ctx → Ctx) : (d.onCtx c f).idx = d.idx := (rfl)
@[simp] theorem Dev.onCtx_cm (d : Dev) (c : Nat) (f : Ctx → Ctx) : (d.onCtx c f).cm = d.cm := (rfl)
@[simp] theorem Dev.onCtx_cx (d : Dev) (c : Nat) (f : Ctx → Ctx) : (d.onCtx c f).cx = d.cx := (rfl)
@[simp] theorem Dev.onCtx_fm (d : Dev) (c : Nat) (f : Ctx → Ctx) : (d.onCtx c f).fm = d.fm := (rfl)
@[simp] theorem Dev.onCtx_sh (d : Dev) (c : Nat) (f : Ctx → Ctx) : (d.onCtx c f).sh = d.sh := (rfl)
@[simp] theorem Dev.onCtx_vol (d : Dev) (c : Nat) (f : Ctx → Ctx) : (d.onCtx c f).vol = d.vol := (rfl)
@[simp] theorem Dev.onCtx_links (d : Dev) (c : Nat) (f : Ctx → Ctx) : (d.onCtx c f).links = d.links := (rfl)
@[simp] theorem Dev.onCtx_tc (d : Dev) (c : Nat) (f : Ctx → Ctx) : (d.onCtx c f).tc = d.tc := (rfl)
@[simp] theorem Dev.onCtx_er (d : Dev) (c : Nat) (f : Ctx → Ctx) : (d.onCtx c f).er = d.er := (rfl)
@[simp] theorem Dev.onCtx_mi (d : Dev) (c : Nat) (f : Ctx → Ctx) : (d.onCtx c f).mi = d.mi := (rfl)
@[simp] theorem Dev.onCtx_hk (d : Dev) (c : Nat) (f : Ctx → Ctx) : (d.onCtx c f).hk = d.hk := (rfl)
@[simp] theorem Dev.onCtx_cs (d : Dev) (c : Nat) (f : Ctx → Ctx) : (d.onCtx c f).cs = d.cs := (rfl)
@[simp] theorem Dev.onCtx_fu (d : Dev) (c : Nat) (f : Ctx → Ctx) : (d.onCtx c f).fu = d.fu := (rfl)
@[simp] theorem Dev.onCtx_en (d : Dev) (c : Nat) (f : Ctx → Ctx) : (d.onCtx c f).en = d.en := (rfl)
@[simp] theorem Dev.onCtx_sn (d : Dev) (c : Nat) (f : Ctx → Ctx) : (d.onCtx c f).sn = d.sn := (rfl)
@[simp] theorem Dev.onCtx_boot (d : Dev) (c : Nat) (f : Ctx → Ctx) : (d.onCtx c f).boot = d.boot := (rfl)
@[simp] theorem Dev.onCtx_pins (d : Dev) (c : Nat) (f : Ctx → Ctx) : (d.onCtx c f).pins = d.pins := (rfl)
@[simp] theorem Dev.onCtx_draws (d : Dev) (c : Nat) (f : Ctx → Ctx) : (d.onCtx c f).draws = d.draws := (rfl)

@[simp] theorem Dev.onLink_clk (d : Dev) (t : Nat) (f : Link → Link) : (d.onLink t f).clk = d.clk := (rfl)
@[simp] theorem Dev.onLink_pa (d : Dev) (t : Nat) (f : Link → Link) : (d.onLink t f).pa = d.pa := (rfl)
@[simp] theorem Dev.onLink_pb (d : Dev) (t : Nat) (f : Link → Link) : (d.onLink t f).pb = d.pb := (rfl)
@[simp] theorem Dev.onLink_hostA (d : Dev) (t : Nat) (f : Link → Link) : (d.onLink t f).hostA = d.hostA := (rfl)
@[simp] theorem Dev.onLink_hostB (d : Dev) (t : Nat) (f : Link → Link) : (d.onLink t f).hostB = d.hostB := (rfl)
@[simp] theorem Dev.onLink_hostR (d : Dev) (t : Nat) (f : Link → Link) : (d.onLink t f).hostR = d.hostR := (rfl)
@[simp] theorem Dev.onLink_pairs (d : Dev) (t : Nat) (f : Link → Link) : (d.onLink t f).pairs = d.pairs := (rfl)
@[simp] theorem Dev.onLink_arb (d : Dev) (t : Nat) (f : Link → Link) : (d.onLink t f).arb = d.arb := (rfl)
@[simp] theorem Dev.onLink_cmds (d : Dev) (t : Nat) (f : Link → Link) : (d.onLink t f).cmds = d.cmds := (rfl)
@[simp] theorem Dev.onLink_notices (d : Dev) (t : Nat) (f : Link → Link) : (d.onLink t f).notices = d.notices := (rfl)
@[simp] theorem Dev.onLink_heldZeros (d : Dev) (t : Nat) (f : Link → Link) : (d.onLink t f).heldZeros = d.heldZeros := (rfl)
@[simp] theorem Dev.onLink_regs (d : Dev) (t : Nat) (f : Link → Link) : (d.onLink t f).regs = d.regs := (rfl)
@[simp] theorem Dev.onLink_w1c (d : Dev) (t : Nat) (f : Link → Link) : (d.onLink t f).w1c = d.w1c := (rfl)
@[simp] theorem Dev.onLink_cnts (d : Dev) (t : Nat) (f : Link → Link) : (d.onLink t f).cnts = d.cnts := (rfl)
@[simp] theorem Dev.onLink_shadow (d : Dev) (t : Nat) (f : Link → Link) : (d.onLink t f).shadow = d.shadow := (rfl)
@[simp] theorem Dev.onLink_ctxs (d : Dev) (t : Nat) (f : Link → Link) : (d.onLink t f).ctxs = d.ctxs := (rfl)
@[simp] theorem Dev.onLink_engines (d : Dev) (t : Nat) (f : Link → Link) : (d.onLink t f).engines = d.engines := (rfl)
@[simp] theorem Dev.onLink_mode (d : Dev) (t : Nat) (f : Link → Link) : (d.onLink t f).mode = d.mode := (rfl)
@[simp] theorem Dev.onLink_pools (d : Dev) (t : Nat) (f : Link → Link) : (d.onLink t f).pools = d.pools := (rfl)
@[simp] theorem Dev.onLink_idx (d : Dev) (t : Nat) (f : Link → Link) : (d.onLink t f).idx = d.idx := (rfl)
@[simp] theorem Dev.onLink_cm (d : Dev) (t : Nat) (f : Link → Link) : (d.onLink t f).cm = d.cm := (rfl)
@[simp] theorem Dev.onLink_cx (d : Dev) (t : Nat) (f : Link → Link) : (d.onLink t f).cx = d.cx := (rfl)
@[simp] theorem Dev.onLink_fm (d : Dev) (t : Nat) (f : Link → Link) : (d.onLink t f).fm = d.fm := (rfl)
@[simp] theorem Dev.onLink_sh (d : Dev) (t : Nat) (f : Link → Link) : (d.onLink t f).sh = d.sh := (rfl)
@[simp] theorem Dev.onLink_vol (d : Dev) (t : Nat) (f : Link → Link) : (d.onLink t f).vol = d.vol := (rfl)
@[simp] theorem Dev.onLink_links (d : Dev) (t : Nat) (f : Link → Link) : (d.onLink t f).links = d.links.modify t f := (rfl)
@[simp] theorem Dev.onLink_tc (d : Dev) (t : Nat) (f : Link → Link) : (d.onLink t f).tc = d.tc := (rfl)
@[simp] theorem Dev.onLink_er (d : Dev) (t : Nat) (f : Link → Link) : (d.onLink t f).er = d.er := (rfl)
@[simp] theorem Dev.onLink_mi (d : Dev) (t : Nat) (f : Link → Link) : (d.onLink t f).mi = d.mi := (rfl)
@[simp] theorem Dev.onLink_hk (d : Dev) (t : Nat) (f : Link → Link) : (d.onLink t f).hk = d.hk := (rfl)
@[simp] theorem Dev.onLink_cs (d : Dev) (t : Nat) (f : Link → Link) : (d.onLink t f).cs = d.cs := (rfl)
@[simp] theorem Dev.onLink_fu (d : Dev) (t : Nat) (f : Link → Link) : (d.onLink t f).fu = d.fu := (rfl)
@[simp] theorem Dev.onLink_en (d : Dev) (t : Nat) (f : Link → Link) : (d.onLink t f).en = d.en := (rfl)
@[simp] theorem Dev.onLink_sn (d : Dev) (t : Nat) (f : Link → Link) : (d.onLink t f).sn = d.sn := (rfl)
@[simp] theorem Dev.onLink_boot (d : Dev) (t : Nat) (f : Link → Link) : (d.onLink t f).boot = d.boot := (rfl)
@[simp] theorem Dev.onLink_pins (d : Dev) (t : Nat) (f : Link → Link) : (d.onLink t f).pins = d.pins := (rfl)
@[simp] theorem Dev.onLink_draws (d : Dev) (t : Nat) (f : Link → Link) : (d.onLink t f).draws = d.draws := (rfl)

@[simp] theorem Dev.onPair_clk (d : Dev) (q : Nat) (f : Pair → Pair) : (d.onPair q f).clk = d.clk := (rfl)
@[simp] theorem Dev.onPair_pa (d : Dev) (q : Nat) (f : Pair → Pair) : (d.onPair q f).pa = d.pa := (rfl)
@[simp] theorem Dev.onPair_pb (d : Dev) (q : Nat) (f : Pair → Pair) : (d.onPair q f).pb = d.pb := (rfl)
@[simp] theorem Dev.onPair_hostA (d : Dev) (q : Nat) (f : Pair → Pair) : (d.onPair q f).hostA = d.hostA := (rfl)
@[simp] theorem Dev.onPair_hostB (d : Dev) (q : Nat) (f : Pair → Pair) : (d.onPair q f).hostB = d.hostB := (rfl)
@[simp] theorem Dev.onPair_hostR (d : Dev) (q : Nat) (f : Pair → Pair) : (d.onPair q f).hostR = d.hostR := (rfl)
@[simp] theorem Dev.onPair_pairs (d : Dev) (q : Nat) (f : Pair → Pair) : (d.onPair q f).pairs = d.pairs.modify q f := (rfl)
@[simp] theorem Dev.onPair_arb (d : Dev) (q : Nat) (f : Pair → Pair) : (d.onPair q f).arb = d.arb := (rfl)
@[simp] theorem Dev.onPair_cmds (d : Dev) (q : Nat) (f : Pair → Pair) : (d.onPair q f).cmds = d.cmds := (rfl)
@[simp] theorem Dev.onPair_notices (d : Dev) (q : Nat) (f : Pair → Pair) : (d.onPair q f).notices = d.notices := (rfl)
@[simp] theorem Dev.onPair_heldZeros (d : Dev) (q : Nat) (f : Pair → Pair) : (d.onPair q f).heldZeros = d.heldZeros := (rfl)
@[simp] theorem Dev.onPair_regs (d : Dev) (q : Nat) (f : Pair → Pair) : (d.onPair q f).regs = d.regs := (rfl)
@[simp] theorem Dev.onPair_w1c (d : Dev) (q : Nat) (f : Pair → Pair) : (d.onPair q f).w1c = d.w1c := (rfl)
@[simp] theorem Dev.onPair_cnts (d : Dev) (q : Nat) (f : Pair → Pair) : (d.onPair q f).cnts = d.cnts := (rfl)
@[simp] theorem Dev.onPair_shadow (d : Dev) (q : Nat) (f : Pair → Pair) : (d.onPair q f).shadow = d.shadow := (rfl)
@[simp] theorem Dev.onPair_ctxs (d : Dev) (q : Nat) (f : Pair → Pair) : (d.onPair q f).ctxs = d.ctxs := (rfl)
@[simp] theorem Dev.onPair_engines (d : Dev) (q : Nat) (f : Pair → Pair) : (d.onPair q f).engines = d.engines := (rfl)
@[simp] theorem Dev.onPair_mode (d : Dev) (q : Nat) (f : Pair → Pair) : (d.onPair q f).mode = d.mode := (rfl)
@[simp] theorem Dev.onPair_pools (d : Dev) (q : Nat) (f : Pair → Pair) : (d.onPair q f).pools = d.pools := (rfl)
@[simp] theorem Dev.onPair_idx (d : Dev) (q : Nat) (f : Pair → Pair) : (d.onPair q f).idx = d.idx := (rfl)
@[simp] theorem Dev.onPair_cm (d : Dev) (q : Nat) (f : Pair → Pair) : (d.onPair q f).cm = d.cm := (rfl)
@[simp] theorem Dev.onPair_cx (d : Dev) (q : Nat) (f : Pair → Pair) : (d.onPair q f).cx = d.cx := (rfl)
@[simp] theorem Dev.onPair_fm (d : Dev) (q : Nat) (f : Pair → Pair) : (d.onPair q f).fm = d.fm := (rfl)
@[simp] theorem Dev.onPair_sh (d : Dev) (q : Nat) (f : Pair → Pair) : (d.onPair q f).sh = d.sh := (rfl)
@[simp] theorem Dev.onPair_vol (d : Dev) (q : Nat) (f : Pair → Pair) : (d.onPair q f).vol = d.vol := (rfl)
@[simp] theorem Dev.onPair_links (d : Dev) (q : Nat) (f : Pair → Pair) : (d.onPair q f).links = d.links := (rfl)
@[simp] theorem Dev.onPair_tc (d : Dev) (q : Nat) (f : Pair → Pair) : (d.onPair q f).tc = d.tc := (rfl)
@[simp] theorem Dev.onPair_er (d : Dev) (q : Nat) (f : Pair → Pair) : (d.onPair q f).er = d.er := (rfl)
@[simp] theorem Dev.onPair_mi (d : Dev) (q : Nat) (f : Pair → Pair) : (d.onPair q f).mi = d.mi := (rfl)
@[simp] theorem Dev.onPair_hk (d : Dev) (q : Nat) (f : Pair → Pair) : (d.onPair q f).hk = d.hk := (rfl)
@[simp] theorem Dev.onPair_cs (d : Dev) (q : Nat) (f : Pair → Pair) : (d.onPair q f).cs = d.cs := (rfl)
@[simp] theorem Dev.onPair_fu (d : Dev) (q : Nat) (f : Pair → Pair) : (d.onPair q f).fu = d.fu := (rfl)
@[simp] theorem Dev.onPair_en (d : Dev) (q : Nat) (f : Pair → Pair) : (d.onPair q f).en = d.en := (rfl)
@[simp] theorem Dev.onPair_sn (d : Dev) (q : Nat) (f : Pair → Pair) : (d.onPair q f).sn = d.sn := (rfl)
@[simp] theorem Dev.onPair_boot (d : Dev) (q : Nat) (f : Pair → Pair) : (d.onPair q f).boot = d.boot := (rfl)
@[simp] theorem Dev.onPair_pins (d : Dev) (q : Nat) (f : Pair → Pair) : (d.onPair q f).pins = d.pins := (rfl)
@[simp] theorem Dev.onPair_draws (d : Dev) (q : Nat) (f : Pair → Pair) : (d.onPair q f).draws = d.draws := (rfl)

@[simp] theorem Dev.setRegB_clk (d : Dev) (a bank : Nat) (v : W32) : (d.setRegB a bank v).clk = d.clk := (rfl)
@[simp] theorem Dev.setRegB_pa (d : Dev) (a bank : Nat) (v : W32) : (d.setRegB a bank v).pa = d.pa := (rfl)
@[simp] theorem Dev.setRegB_pb (d : Dev) (a bank : Nat) (v : W32) : (d.setRegB a bank v).pb = d.pb := (rfl)
@[simp] theorem Dev.setRegB_hostA (d : Dev) (a bank : Nat) (v : W32) : (d.setRegB a bank v).hostA = d.hostA := (rfl)
@[simp] theorem Dev.setRegB_hostB (d : Dev) (a bank : Nat) (v : W32) : (d.setRegB a bank v).hostB = d.hostB := (rfl)
@[simp] theorem Dev.setRegB_hostR (d : Dev) (a bank : Nat) (v : W32) : (d.setRegB a bank v).hostR = d.hostR := (rfl)
@[simp] theorem Dev.setRegB_pairs (d : Dev) (a bank : Nat) (v : W32) : (d.setRegB a bank v).pairs = d.pairs := (rfl)
@[simp] theorem Dev.setRegB_arb (d : Dev) (a bank : Nat) (v : W32) : (d.setRegB a bank v).arb = d.arb := (rfl)
@[simp] theorem Dev.setRegB_cmds (d : Dev) (a bank : Nat) (v : W32) : (d.setRegB a bank v).cmds = d.cmds := (rfl)
@[simp] theorem Dev.setRegB_notices (d : Dev) (a bank : Nat) (v : W32) : (d.setRegB a bank v).notices = d.notices := (rfl)
@[simp] theorem Dev.setRegB_heldZeros (d : Dev) (a bank : Nat) (v : W32) : (d.setRegB a bank v).heldZeros = d.heldZeros := (rfl)
@[simp] theorem Dev.setRegB_regs (d : Dev) (a bank : Nat) (v : W32) : (d.setRegB a bank v).regs = d.regs.set (regKey a bank) (if v = resetReg a then none else some v) := (rfl)
@[simp] theorem Dev.setRegB_w1c (d : Dev) (a bank : Nat) (v : W32) : (d.setRegB a bank v).w1c = d.w1c := (rfl)
@[simp] theorem Dev.setRegB_cnts (d : Dev) (a bank : Nat) (v : W32) : (d.setRegB a bank v).cnts = d.cnts := (rfl)
@[simp] theorem Dev.setRegB_shadow (d : Dev) (a bank : Nat) (v : W32) : (d.setRegB a bank v).shadow = d.shadow := (rfl)
@[simp] theorem Dev.setRegB_ctxs (d : Dev) (a bank : Nat) (v : W32) : (d.setRegB a bank v).ctxs = d.ctxs := (rfl)
@[simp] theorem Dev.setRegB_engines (d : Dev) (a bank : Nat) (v : W32) : (d.setRegB a bank v).engines = d.engines := (rfl)
@[simp] theorem Dev.setRegB_mode (d : Dev) (a bank : Nat) (v : W32) : (d.setRegB a bank v).mode = d.mode := (rfl)
@[simp] theorem Dev.setRegB_pools (d : Dev) (a bank : Nat) (v : W32) : (d.setRegB a bank v).pools = d.pools := (rfl)
@[simp] theorem Dev.setRegB_idx (d : Dev) (a bank : Nat) (v : W32) : (d.setRegB a bank v).idx = d.idx := (rfl)
@[simp] theorem Dev.setRegB_cm (d : Dev) (a bank : Nat) (v : W32) : (d.setRegB a bank v).cm = d.cm := (rfl)
@[simp] theorem Dev.setRegB_cx (d : Dev) (a bank : Nat) (v : W32) : (d.setRegB a bank v).cx = d.cx := (rfl)
@[simp] theorem Dev.setRegB_fm (d : Dev) (a bank : Nat) (v : W32) : (d.setRegB a bank v).fm = d.fm := (rfl)
@[simp] theorem Dev.setRegB_sh (d : Dev) (a bank : Nat) (v : W32) : (d.setRegB a bank v).sh = d.sh := (rfl)
@[simp] theorem Dev.setRegB_vol (d : Dev) (a bank : Nat) (v : W32) : (d.setRegB a bank v).vol = d.vol := (rfl)
@[simp] theorem Dev.setRegB_links (d : Dev) (a bank : Nat) (v : W32) : (d.setRegB a bank v).links = d.links := (rfl)
@[simp] theorem Dev.setRegB_tc (d : Dev) (a bank : Nat) (v : W32) : (d.setRegB a bank v).tc = d.tc := (rfl)
@[simp] theorem Dev.setRegB_er (d : Dev) (a bank : Nat) (v : W32) : (d.setRegB a bank v).er = d.er := (rfl)
@[simp] theorem Dev.setRegB_mi (d : Dev) (a bank : Nat) (v : W32) : (d.setRegB a bank v).mi = d.mi := (rfl)
@[simp] theorem Dev.setRegB_hk (d : Dev) (a bank : Nat) (v : W32) : (d.setRegB a bank v).hk = d.hk := (rfl)
@[simp] theorem Dev.setRegB_cs (d : Dev) (a bank : Nat) (v : W32) : (d.setRegB a bank v).cs = d.cs := (rfl)
@[simp] theorem Dev.setRegB_fu (d : Dev) (a bank : Nat) (v : W32) : (d.setRegB a bank v).fu = d.fu := (rfl)
@[simp] theorem Dev.setRegB_en (d : Dev) (a bank : Nat) (v : W32) : (d.setRegB a bank v).en = d.en := (rfl)
@[simp] theorem Dev.setRegB_sn (d : Dev) (a bank : Nat) (v : W32) : (d.setRegB a bank v).sn = d.sn := (rfl)
@[simp] theorem Dev.setRegB_boot (d : Dev) (a bank : Nat) (v : W32) : (d.setRegB a bank v).boot = d.boot := (rfl)
@[simp] theorem Dev.setRegB_pins (d : Dev) (a bank : Nat) (v : W32) : (d.setRegB a bank v).pins = d.pins := (rfl)
@[simp] theorem Dev.setRegB_draws (d : Dev) (a bank : Nat) (v : W32) : (d.setRegB a bank v).draws = d.draws := (rfl)

@[simp] theorem Dev.setW1f_clk (d : Dev) (a bank hi lo x : Nat) : (d.setW1f a bank hi lo x).clk = d.clk := (rfl)
@[simp] theorem Dev.setW1f_pa (d : Dev) (a bank hi lo x : Nat) : (d.setW1f a bank hi lo x).pa = d.pa := (rfl)
@[simp] theorem Dev.setW1f_pb (d : Dev) (a bank hi lo x : Nat) : (d.setW1f a bank hi lo x).pb = d.pb := (rfl)
@[simp] theorem Dev.setW1f_hostA (d : Dev) (a bank hi lo x : Nat) : (d.setW1f a bank hi lo x).hostA = d.hostA := (rfl)
@[simp] theorem Dev.setW1f_hostB (d : Dev) (a bank hi lo x : Nat) : (d.setW1f a bank hi lo x).hostB = d.hostB := (rfl)
@[simp] theorem Dev.setW1f_hostR (d : Dev) (a bank hi lo x : Nat) : (d.setW1f a bank hi lo x).hostR = d.hostR := (rfl)
@[simp] theorem Dev.setW1f_pairs (d : Dev) (a bank hi lo x : Nat) : (d.setW1f a bank hi lo x).pairs = d.pairs := (rfl)
@[simp] theorem Dev.setW1f_arb (d : Dev) (a bank hi lo x : Nat) : (d.setW1f a bank hi lo x).arb = d.arb := (rfl)
@[simp] theorem Dev.setW1f_cmds (d : Dev) (a bank hi lo x : Nat) : (d.setW1f a bank hi lo x).cmds = d.cmds := (rfl)
@[simp] theorem Dev.setW1f_notices (d : Dev) (a bank hi lo x : Nat) : (d.setW1f a bank hi lo x).notices = d.notices := (rfl)
@[simp] theorem Dev.setW1f_heldZeros (d : Dev) (a bank hi lo x : Nat) : (d.setW1f a bank hi lo x).heldZeros = d.heldZeros := (rfl)
@[simp] theorem Dev.setW1f_regs (d : Dev) (a bank hi lo x : Nat) : (d.setW1f a bank hi lo x).regs = d.regs := (rfl)
@[simp] theorem Dev.setW1f_w1c (d : Dev) (a bank hi lo x : Nat) : (d.setW1f a bank hi lo x).w1c = d.w1c.set (regKey a bank) (putField (d.w1cB a bank) hi lo x) := (rfl)
@[simp] theorem Dev.setW1f_cnts (d : Dev) (a bank hi lo x : Nat) : (d.setW1f a bank hi lo x).cnts = d.cnts := (rfl)
@[simp] theorem Dev.setW1f_shadow (d : Dev) (a bank hi lo x : Nat) : (d.setW1f a bank hi lo x).shadow = d.shadow := (rfl)
@[simp] theorem Dev.setW1f_ctxs (d : Dev) (a bank hi lo x : Nat) : (d.setW1f a bank hi lo x).ctxs = d.ctxs := (rfl)
@[simp] theorem Dev.setW1f_engines (d : Dev) (a bank hi lo x : Nat) : (d.setW1f a bank hi lo x).engines = d.engines := (rfl)
@[simp] theorem Dev.setW1f_mode (d : Dev) (a bank hi lo x : Nat) : (d.setW1f a bank hi lo x).mode = d.mode := (rfl)
@[simp] theorem Dev.setW1f_pools (d : Dev) (a bank hi lo x : Nat) : (d.setW1f a bank hi lo x).pools = d.pools := (rfl)
@[simp] theorem Dev.setW1f_idx (d : Dev) (a bank hi lo x : Nat) : (d.setW1f a bank hi lo x).idx = d.idx := (rfl)
@[simp] theorem Dev.setW1f_cm (d : Dev) (a bank hi lo x : Nat) : (d.setW1f a bank hi lo x).cm = d.cm := (rfl)
@[simp] theorem Dev.setW1f_cx (d : Dev) (a bank hi lo x : Nat) : (d.setW1f a bank hi lo x).cx = d.cx := (rfl)
@[simp] theorem Dev.setW1f_fm (d : Dev) (a bank hi lo x : Nat) : (d.setW1f a bank hi lo x).fm = d.fm := (rfl)
@[simp] theorem Dev.setW1f_sh (d : Dev) (a bank hi lo x : Nat) : (d.setW1f a bank hi lo x).sh = d.sh := (rfl)
@[simp] theorem Dev.setW1f_vol (d : Dev) (a bank hi lo x : Nat) : (d.setW1f a bank hi lo x).vol = d.vol := (rfl)
@[simp] theorem Dev.setW1f_links (d : Dev) (a bank hi lo x : Nat) : (d.setW1f a bank hi lo x).links = d.links := (rfl)
@[simp] theorem Dev.setW1f_tc (d : Dev) (a bank hi lo x : Nat) : (d.setW1f a bank hi lo x).tc = d.tc := (rfl)
@[simp] theorem Dev.setW1f_er (d : Dev) (a bank hi lo x : Nat) : (d.setW1f a bank hi lo x).er = d.er := (rfl)
@[simp] theorem Dev.setW1f_mi (d : Dev) (a bank hi lo x : Nat) : (d.setW1f a bank hi lo x).mi = d.mi := (rfl)
@[simp] theorem Dev.setW1f_hk (d : Dev) (a bank hi lo x : Nat) : (d.setW1f a bank hi lo x).hk = d.hk := (rfl)
@[simp] theorem Dev.setW1f_cs (d : Dev) (a bank hi lo x : Nat) : (d.setW1f a bank hi lo x).cs = d.cs := (rfl)
@[simp] theorem Dev.setW1f_fu (d : Dev) (a bank hi lo x : Nat) : (d.setW1f a bank hi lo x).fu = d.fu := (rfl)
@[simp] theorem Dev.setW1f_en (d : Dev) (a bank hi lo x : Nat) : (d.setW1f a bank hi lo x).en = d.en := (rfl)
@[simp] theorem Dev.setW1f_sn (d : Dev) (a bank hi lo x : Nat) : (d.setW1f a bank hi lo x).sn = d.sn := (rfl)
@[simp] theorem Dev.setW1f_boot (d : Dev) (a bank hi lo x : Nat) : (d.setW1f a bank hi lo x).boot = d.boot := (rfl)
@[simp] theorem Dev.setW1f_pins (d : Dev) (a bank hi lo x : Nat) : (d.setW1f a bank hi lo x).pins = d.pins := (rfl)
@[simp] theorem Dev.setW1f_draws (d : Dev) (a bank hi lo x : Nat) : (d.setW1f a bank hi lo x).draws = d.draws := (rfl)

@[simp] theorem Dev.count_clk (d : Dev) (blk sub i n : Nat) : (d.count blk sub i n).clk = d.clk := (rfl)
@[simp] theorem Dev.count_pa (d : Dev) (blk sub i n : Nat) : (d.count blk sub i n).pa = d.pa := (rfl)
@[simp] theorem Dev.count_pb (d : Dev) (blk sub i n : Nat) : (d.count blk sub i n).pb = d.pb := (rfl)
@[simp] theorem Dev.count_hostA (d : Dev) (blk sub i n : Nat) : (d.count blk sub i n).hostA = d.hostA := (rfl)
@[simp] theorem Dev.count_hostB (d : Dev) (blk sub i n : Nat) : (d.count blk sub i n).hostB = d.hostB := (rfl)
@[simp] theorem Dev.count_hostR (d : Dev) (blk sub i n : Nat) : (d.count blk sub i n).hostR = d.hostR := (rfl)
@[simp] theorem Dev.count_pairs (d : Dev) (blk sub i n : Nat) : (d.count blk sub i n).pairs = d.pairs := (rfl)
@[simp] theorem Dev.count_arb (d : Dev) (blk sub i n : Nat) : (d.count blk sub i n).arb = d.arb := (rfl)
@[simp] theorem Dev.count_cmds (d : Dev) (blk sub i n : Nat) : (d.count blk sub i n).cmds = d.cmds := (rfl)
@[simp] theorem Dev.count_notices (d : Dev) (blk sub i n : Nat) : (d.count blk sub i n).notices = d.notices := (rfl)
@[simp] theorem Dev.count_heldZeros (d : Dev) (blk sub i n : Nat) : (d.count blk sub i n).heldZeros = d.heldZeros := (rfl)
@[simp] theorem Dev.count_regs (d : Dev) (blk sub i n : Nat) : (d.count blk sub i n).regs = d.regs := (rfl)
@[simp] theorem Dev.count_w1c (d : Dev) (blk sub i n : Nat) : (d.count blk sub i n).w1c = d.w1c := (rfl)
@[simp] theorem Dev.count_cnts (d : Dev) (blk sub i n : Nat) : (d.count blk sub i n).cnts = d.cnts.modify (cntKey blk sub i) (fun v => (v + n) % 2 ^ 64) := (rfl)
@[simp] theorem Dev.count_shadow (d : Dev) (blk sub i n : Nat) : (d.count blk sub i n).shadow = d.shadow := (rfl)
@[simp] theorem Dev.count_ctxs (d : Dev) (blk sub i n : Nat) : (d.count blk sub i n).ctxs = d.ctxs := (rfl)
@[simp] theorem Dev.count_engines (d : Dev) (blk sub i n : Nat) : (d.count blk sub i n).engines = d.engines := (rfl)
@[simp] theorem Dev.count_mode (d : Dev) (blk sub i n : Nat) : (d.count blk sub i n).mode = d.mode := (rfl)
@[simp] theorem Dev.count_pools (d : Dev) (blk sub i n : Nat) : (d.count blk sub i n).pools = d.pools := (rfl)
@[simp] theorem Dev.count_idx (d : Dev) (blk sub i n : Nat) : (d.count blk sub i n).idx = d.idx := (rfl)
@[simp] theorem Dev.count_cm (d : Dev) (blk sub i n : Nat) : (d.count blk sub i n).cm = d.cm := (rfl)
@[simp] theorem Dev.count_cx (d : Dev) (blk sub i n : Nat) : (d.count blk sub i n).cx = d.cx := (rfl)
@[simp] theorem Dev.count_fm (d : Dev) (blk sub i n : Nat) : (d.count blk sub i n).fm = d.fm := (rfl)
@[simp] theorem Dev.count_sh (d : Dev) (blk sub i n : Nat) : (d.count blk sub i n).sh = d.sh := (rfl)
@[simp] theorem Dev.count_vol (d : Dev) (blk sub i n : Nat) : (d.count blk sub i n).vol = d.vol := (rfl)
@[simp] theorem Dev.count_links (d : Dev) (blk sub i n : Nat) : (d.count blk sub i n).links = d.links := (rfl)
@[simp] theorem Dev.count_tc (d : Dev) (blk sub i n : Nat) : (d.count blk sub i n).tc = d.tc := (rfl)
@[simp] theorem Dev.count_er (d : Dev) (blk sub i n : Nat) : (d.count blk sub i n).er = d.er := (rfl)
@[simp] theorem Dev.count_mi (d : Dev) (blk sub i n : Nat) : (d.count blk sub i n).mi = d.mi := (rfl)
@[simp] theorem Dev.count_hk (d : Dev) (blk sub i n : Nat) : (d.count blk sub i n).hk = d.hk := (rfl)
@[simp] theorem Dev.count_cs (d : Dev) (blk sub i n : Nat) : (d.count blk sub i n).cs = d.cs := (rfl)
@[simp] theorem Dev.count_fu (d : Dev) (blk sub i n : Nat) : (d.count blk sub i n).fu = d.fu := (rfl)
@[simp] theorem Dev.count_en (d : Dev) (blk sub i n : Nat) : (d.count blk sub i n).en = d.en := (rfl)
@[simp] theorem Dev.count_sn (d : Dev) (blk sub i n : Nat) : (d.count blk sub i n).sn = d.sn := (rfl)
@[simp] theorem Dev.count_boot (d : Dev) (blk sub i n : Nat) : (d.count blk sub i n).boot = d.boot := (rfl)
@[simp] theorem Dev.count_pins (d : Dev) (blk sub i n : Nat) : (d.count blk sub i n).pins = d.pins := (rfl)
@[simp] theorem Dev.count_draws (d : Dev) (blk sub i n : Nat) : (d.count blk sub i n).draws = d.draws := (rfl)

@[simp] theorem Dev.latch_clk (d : Dev) (id : Nat) (k : Completion) : (d.latch id k).clk = d.clk := (rfl)
@[simp] theorem Dev.latch_pa (d : Dev) (id : Nat) (k : Completion) : (d.latch id k).pa = d.pa := (rfl)
@[simp] theorem Dev.latch_pb (d : Dev) (id : Nat) (k : Completion) : (d.latch id k).pb = d.pb := (rfl)
@[simp] theorem Dev.latch_hostA (d : Dev) (id : Nat) (k : Completion) : (d.latch id k).hostA = d.hostA := (rfl)
@[simp] theorem Dev.latch_hostB (d : Dev) (id : Nat) (k : Completion) : (d.latch id k).hostB = d.hostB := (rfl)
@[simp] theorem Dev.latch_hostR (d : Dev) (id : Nat) (k : Completion) : (d.latch id k).hostR = d.hostR := (rfl)
@[simp] theorem Dev.latch_pairs (d : Dev) (id : Nat) (k : Completion) : (d.latch id k).pairs = d.pairs := (rfl)
@[simp] theorem Dev.latch_arb (d : Dev) (id : Nat) (k : Completion) : (d.latch id k).arb = d.arb := (rfl)
@[simp] theorem Dev.latch_notices (d : Dev) (id : Nat) (k : Completion) : (d.latch id k).notices = d.notices := (rfl)
@[simp] theorem Dev.latch_heldZeros (d : Dev) (id : Nat) (k : Completion) : (d.latch id k).heldZeros = d.heldZeros := (rfl)
@[simp] theorem Dev.latch_regs (d : Dev) (id : Nat) (k : Completion) : (d.latch id k).regs = d.regs := (rfl)
@[simp] theorem Dev.latch_w1c (d : Dev) (id : Nat) (k : Completion) : (d.latch id k).w1c = d.w1c := (rfl)
@[simp] theorem Dev.latch_cnts (d : Dev) (id : Nat) (k : Completion) : (d.latch id k).cnts = d.cnts := (rfl)
@[simp] theorem Dev.latch_shadow (d : Dev) (id : Nat) (k : Completion) : (d.latch id k).shadow = d.shadow := (rfl)
@[simp] theorem Dev.latch_ctxs (d : Dev) (id : Nat) (k : Completion) : (d.latch id k).ctxs = d.ctxs := (rfl)
@[simp] theorem Dev.latch_engines (d : Dev) (id : Nat) (k : Completion) : (d.latch id k).engines = d.engines := (rfl)
@[simp] theorem Dev.latch_mode (d : Dev) (id : Nat) (k : Completion) : (d.latch id k).mode = d.mode := (rfl)
@[simp] theorem Dev.latch_pools (d : Dev) (id : Nat) (k : Completion) : (d.latch id k).pools = d.pools := (rfl)
@[simp] theorem Dev.latch_idx (d : Dev) (id : Nat) (k : Completion) : (d.latch id k).idx = d.idx := (rfl)
@[simp] theorem Dev.latch_cm (d : Dev) (id : Nat) (k : Completion) : (d.latch id k).cm = d.cm := (rfl)
@[simp] theorem Dev.latch_cx (d : Dev) (id : Nat) (k : Completion) : (d.latch id k).cx = d.cx := (rfl)
@[simp] theorem Dev.latch_fm (d : Dev) (id : Nat) (k : Completion) : (d.latch id k).fm = d.fm := (rfl)
@[simp] theorem Dev.latch_sh (d : Dev) (id : Nat) (k : Completion) : (d.latch id k).sh = d.sh := (rfl)
@[simp] theorem Dev.latch_vol (d : Dev) (id : Nat) (k : Completion) : (d.latch id k).vol = d.vol := (rfl)
@[simp] theorem Dev.latch_links (d : Dev) (id : Nat) (k : Completion) : (d.latch id k).links = d.links := (rfl)
@[simp] theorem Dev.latch_tc (d : Dev) (id : Nat) (k : Completion) : (d.latch id k).tc = d.tc := (rfl)
@[simp] theorem Dev.latch_er (d : Dev) (id : Nat) (k : Completion) : (d.latch id k).er = d.er := (rfl)
@[simp] theorem Dev.latch_mi (d : Dev) (id : Nat) (k : Completion) : (d.latch id k).mi = d.mi := (rfl)
@[simp] theorem Dev.latch_hk (d : Dev) (id : Nat) (k : Completion) : (d.latch id k).hk = d.hk := (rfl)
@[simp] theorem Dev.latch_cs (d : Dev) (id : Nat) (k : Completion) : (d.latch id k).cs = d.cs := (rfl)
@[simp] theorem Dev.latch_fu (d : Dev) (id : Nat) (k : Completion) : (d.latch id k).fu = d.fu := (rfl)
@[simp] theorem Dev.latch_en (d : Dev) (id : Nat) (k : Completion) : (d.latch id k).en = d.en := (rfl)
@[simp] theorem Dev.latch_sn (d : Dev) (id : Nat) (k : Completion) : (d.latch id k).sn = d.sn := (rfl)
@[simp] theorem Dev.latch_boot (d : Dev) (id : Nat) (k : Completion) : (d.latch id k).boot = d.boot := (rfl)
@[simp] theorem Dev.latch_pins (d : Dev) (id : Nat) (k : Completion) : (d.latch id k).pins = d.pins := (rfl)
@[simp] theorem Dev.latch_draws (d : Dev) (id : Nat) (k : Completion) : (d.latch id k).draws = d.draws := (rfl)

@[simp] theorem Dev.notice_clk (d : Dev) (k : NoticeKind) (r : W64) (s : Stamp) : (d.notice k r s).clk = d.clk := (rfl)
@[simp] theorem Dev.notice_pa (d : Dev) (k : NoticeKind) (r : W64) (s : Stamp) : (d.notice k r s).pa = d.pa := (rfl)
@[simp] theorem Dev.notice_pb (d : Dev) (k : NoticeKind) (r : W64) (s : Stamp) : (d.notice k r s).pb = d.pb := (rfl)
@[simp] theorem Dev.notice_hostA (d : Dev) (k : NoticeKind) (r : W64) (s : Stamp) : (d.notice k r s).hostA = d.hostA := (rfl)
@[simp] theorem Dev.notice_hostB (d : Dev) (k : NoticeKind) (r : W64) (s : Stamp) : (d.notice k r s).hostB = d.hostB := (rfl)
@[simp] theorem Dev.notice_hostR (d : Dev) (k : NoticeKind) (r : W64) (s : Stamp) : (d.notice k r s).hostR = d.hostR := (rfl)
@[simp] theorem Dev.notice_pairs (d : Dev) (k : NoticeKind) (r : W64) (s : Stamp) : (d.notice k r s).pairs = d.pairs := (rfl)
@[simp] theorem Dev.notice_arb (d : Dev) (k : NoticeKind) (r : W64) (s : Stamp) : (d.notice k r s).arb = d.arb := (rfl)
@[simp] theorem Dev.notice_cmds (d : Dev) (k : NoticeKind) (r : W64) (s : Stamp) : (d.notice k r s).cmds = d.cmds := (rfl)
@[simp] theorem Dev.notice_heldZeros (d : Dev) (k : NoticeKind) (r : W64) (s : Stamp) : (d.notice k r s).heldZeros = d.heldZeros := (rfl)
@[simp] theorem Dev.notice_regs (d : Dev) (k : NoticeKind) (r : W64) (s : Stamp) : (d.notice k r s).regs = d.regs := (rfl)
@[simp] theorem Dev.notice_w1c (d : Dev) (k : NoticeKind) (r : W64) (s : Stamp) : (d.notice k r s).w1c = d.w1c := (rfl)
@[simp] theorem Dev.notice_cnts (d : Dev) (k : NoticeKind) (r : W64) (s : Stamp) : (d.notice k r s).cnts = d.cnts := (rfl)
@[simp] theorem Dev.notice_shadow (d : Dev) (k : NoticeKind) (r : W64) (s : Stamp) : (d.notice k r s).shadow = d.shadow := (rfl)
@[simp] theorem Dev.notice_ctxs (d : Dev) (k : NoticeKind) (r : W64) (s : Stamp) : (d.notice k r s).ctxs = d.ctxs := (rfl)
@[simp] theorem Dev.notice_engines (d : Dev) (k : NoticeKind) (r : W64) (s : Stamp) : (d.notice k r s).engines = d.engines := (rfl)
@[simp] theorem Dev.notice_mode (d : Dev) (k : NoticeKind) (r : W64) (s : Stamp) : (d.notice k r s).mode = d.mode := (rfl)
@[simp] theorem Dev.notice_pools (d : Dev) (k : NoticeKind) (r : W64) (s : Stamp) : (d.notice k r s).pools = d.pools := (rfl)
@[simp] theorem Dev.notice_idx (d : Dev) (k : NoticeKind) (r : W64) (s : Stamp) : (d.notice k r s).idx = d.idx := (rfl)
@[simp] theorem Dev.notice_cm (d : Dev) (k : NoticeKind) (r : W64) (s : Stamp) : (d.notice k r s).cm = d.cm := (rfl)
@[simp] theorem Dev.notice_cx (d : Dev) (k : NoticeKind) (r : W64) (s : Stamp) : (d.notice k r s).cx = d.cx := (rfl)
@[simp] theorem Dev.notice_fm (d : Dev) (k : NoticeKind) (r : W64) (s : Stamp) : (d.notice k r s).fm = d.fm := (rfl)
@[simp] theorem Dev.notice_sh (d : Dev) (k : NoticeKind) (r : W64) (s : Stamp) : (d.notice k r s).sh = d.sh := (rfl)
@[simp] theorem Dev.notice_vol (d : Dev) (k : NoticeKind) (r : W64) (s : Stamp) : (d.notice k r s).vol = d.vol := (rfl)
@[simp] theorem Dev.notice_links (d : Dev) (k : NoticeKind) (r : W64) (s : Stamp) : (d.notice k r s).links = d.links := (rfl)
@[simp] theorem Dev.notice_tc (d : Dev) (k : NoticeKind) (r : W64) (s : Stamp) : (d.notice k r s).tc = d.tc := (rfl)
@[simp] theorem Dev.notice_er (d : Dev) (k : NoticeKind) (r : W64) (s : Stamp) : (d.notice k r s).er = d.er := (rfl)
@[simp] theorem Dev.notice_mi (d : Dev) (k : NoticeKind) (r : W64) (s : Stamp) : (d.notice k r s).mi = d.mi := (rfl)
@[simp] theorem Dev.notice_hk (d : Dev) (k : NoticeKind) (r : W64) (s : Stamp) : (d.notice k r s).hk = d.hk := (rfl)
@[simp] theorem Dev.notice_cs (d : Dev) (k : NoticeKind) (r : W64) (s : Stamp) : (d.notice k r s).cs = d.cs := (rfl)
@[simp] theorem Dev.notice_fu (d : Dev) (k : NoticeKind) (r : W64) (s : Stamp) : (d.notice k r s).fu = d.fu := (rfl)
@[simp] theorem Dev.notice_en (d : Dev) (k : NoticeKind) (r : W64) (s : Stamp) : (d.notice k r s).en = d.en := (rfl)
@[simp] theorem Dev.notice_sn (d : Dev) (k : NoticeKind) (r : W64) (s : Stamp) : (d.notice k r s).sn = d.sn := (rfl)
@[simp] theorem Dev.notice_boot (d : Dev) (k : NoticeKind) (r : W64) (s : Stamp) : (d.notice k r s).boot = d.boot := (rfl)
@[simp] theorem Dev.notice_pins (d : Dev) (k : NoticeKind) (r : W64) (s : Stamp) : (d.notice k r s).pins = d.pins := (rfl)
@[simp] theorem Dev.notice_draws (d : Dev) (k : NoticeKind) (r : W64) (s : Stamp) : (d.notice k r s).draws = d.draws := (rfl)

@[simp] theorem State.onDev_dev (s : State) (f : Dev → Dev) : (s.onDev f).dev = f s.dev := (rfl)
@[simp] theorem State.onDev_pending (s : State) (f : Dev → Dev) : (s.onDev f).pending = s.pending := (rfl)

end Sys2Proof.Machine
end

