-- ==== Sys2Proof/Laws/Frames.lean ====
section
/-! SUPPORT. Frames of the shared operations: the parts of the device that stamps, error records, refused registers, W1C counts, messages and the
like leave as they are. -/

namespace Sys2Proof.Machine

@[simp] theorem Dev.setW1_clk (d : Dev) (a bank bit : Nat) : (d.setW1 a bank bit).clk = d.clk := by simp [Dev.setW1]
@[simp] theorem Dev.setW1_pa (d : Dev) (a bank bit : Nat) : (d.setW1 a bank bit).pa = d.pa := by simp [Dev.setW1]
@[simp] theorem Dev.setW1_pb (d : Dev) (a bank bit : Nat) : (d.setW1 a bank bit).pb = d.pb := by simp [Dev.setW1]
@[simp] theorem Dev.setW1_hostA (d : Dev) (a bank bit : Nat) : (d.setW1 a bank bit).hostA = d.hostA := by simp [Dev.setW1]
@[simp] theorem Dev.setW1_hostB (d : Dev) (a bank bit : Nat) : (d.setW1 a bank bit).hostB = d.hostB := by simp [Dev.setW1]
@[simp] theorem Dev.setW1_hostR (d : Dev) (a bank bit : Nat) : (d.setW1 a bank bit).hostR = d.hostR := by simp [Dev.setW1]
@[simp] theorem Dev.setW1_pairs (d : Dev) (a bank bit : Nat) : (d.setW1 a bank bit).pairs = d.pairs := by simp [Dev.setW1]
@[simp] theorem Dev.setW1_arb (d : Dev) (a bank bit : Nat) : (d.setW1 a bank bit).arb = d.arb := by simp [Dev.setW1]
@[simp] theorem Dev.setW1_cmds (d : Dev) (a bank bit : Nat) : (d.setW1 a bank bit).cmds = d.cmds := by simp [Dev.setW1]
@[simp] theorem Dev.setW1_notices (d : Dev) (a bank bit : Nat) : (d.setW1 a bank bit).notices = d.notices := by simp [Dev.setW1]
@[simp] theorem Dev.setW1_regs (d : Dev) (a bank bit : Nat) : (d.setW1 a bank bit).regs = d.regs := by simp [Dev.setW1]
@[simp] theorem Dev.setW1_cnts (d : Dev) (a bank bit : Nat) : (d.setW1 a bank bit).cnts = d.cnts := by simp [Dev.setW1]
@[simp] theorem Dev.setW1_shadow (d : Dev) (a bank bit : Nat) : (d.setW1 a bank bit).shadow = d.shadow := by simp [Dev.setW1]
@[simp] theorem Dev.setW1_ctxs (d : Dev) (a bank bit : Nat) : (d.setW1 a bank bit).ctxs = d.ctxs := by simp [Dev.setW1]
@[simp] theorem Dev.setW1_engines (d : Dev) (a bank bit : Nat) : (d.setW1 a bank bit).engines = d.engines := by simp [Dev.setW1]
@[simp] theorem Dev.setW1_mode (d : Dev) (a bank bit : Nat) : (d.setW1 a bank bit).mode = d.mode := by simp [Dev.setW1]
@[simp] theorem Dev.setW1_pools (d : Dev) (a bank bit : Nat) : (d.setW1 a bank bit).pools = d.pools := by simp [Dev.setW1]
@[simp] theorem Dev.setW1_idx (d : Dev) (a bank bit : Nat) : (d.setW1 a bank bit).idx = d.idx := by simp [Dev.setW1]
@[simp] theorem Dev.setW1_cm (d : Dev) (a bank bit : Nat) : (d.setW1 a bank bit).cm = d.cm := by simp [Dev.setW1]
@[simp] theorem Dev.setW1_cx (d : Dev) (a bank bit : Nat) : (d.setW1 a bank bit).cx = d.cx := by simp [Dev.setW1]
@[simp] theorem Dev.setW1_fm (d : Dev) (a bank bit : Nat) : (d.setW1 a bank bit).fm = d.fm := by simp [Dev.setW1]
@[simp] theorem Dev.setW1_sh (d : Dev) (a bank bit : Nat) : (d.setW1 a bank bit).sh = d.sh := by simp [Dev.setW1]
@[simp] theorem Dev.setW1_vol (d : Dev) (a bank bit : Nat) : (d.setW1 a bank bit).vol = d.vol := by simp [Dev.setW1]
@[simp] theorem Dev.setW1_links (d : Dev) (a bank bit : Nat) : (d.setW1 a bank bit).links = d.links := by simp [Dev.setW1]
@[simp] theorem Dev.setW1_tc (d : Dev) (a bank bit : Nat) : (d.setW1 a bank bit).tc = d.tc := by simp [Dev.setW1]
@[simp] theorem Dev.setW1_er (d : Dev) (a bank bit : Nat) : (d.setW1 a bank bit).er = d.er := by simp [Dev.setW1]
@[simp] theorem Dev.setW1_mi (d : Dev) (a bank bit : Nat) : (d.setW1 a bank bit).mi = d.mi := by simp [Dev.setW1]
@[simp] theorem Dev.setW1_hk (d : Dev) (a bank bit : Nat) : (d.setW1 a bank bit).hk = d.hk := by simp [Dev.setW1]
@[simp] theorem Dev.setW1_cs (d : Dev) (a bank bit : Nat) : (d.setW1 a bank bit).cs = d.cs := by simp [Dev.setW1]
@[simp] theorem Dev.setW1_fu (d : Dev) (a bank bit : Nat) : (d.setW1 a bank bit).fu = d.fu := by simp [Dev.setW1]
@[simp] theorem Dev.setW1_en (d : Dev) (a bank bit : Nat) : (d.setW1 a bank bit).en = d.en := by simp [Dev.setW1]
@[simp] theorem Dev.setW1_sn (d : Dev) (a bank bit : Nat) : (d.setW1 a bank bit).sn = d.sn := by simp [Dev.setW1]
@[simp] theorem Dev.setW1_boot (d : Dev) (a bank bit : Nat) : (d.setW1 a bank bit).boot = d.boot := by simp [Dev.setW1]
@[simp] theorem Dev.setW1_pins (d : Dev) (a bank bit : Nat) : (d.setW1 a bank bit).pins = d.pins := by simp [Dev.setW1]
@[simp] theorem Dev.setW1_draws (d : Dev) (a bank bit : Nat) : (d.setW1 a bank bit).draws = d.draws := by simp [Dev.setW1]

@[simp] theorem Dev.bumpW1_clk (d : Dev) (a bank hi lo : Nat) : (d.bumpW1 a bank hi lo).clk = d.clk := by simp [Dev.bumpW1]
@[simp] theorem Dev.bumpW1_pa (d : Dev) (a bank hi lo : Nat) : (d.bumpW1 a bank hi lo).pa = d.pa := by simp [Dev.bumpW1]
@[simp] theorem Dev.bumpW1_pb (d : Dev) (a bank hi lo : Nat) : (d.bumpW1 a bank hi lo).pb = d.pb := by simp [Dev.bumpW1]
@[simp] theorem Dev.bumpW1_hostA (d : Dev) (a bank hi lo : Nat) : (d.bumpW1 a bank hi lo).hostA = d.hostA := by simp [Dev.bumpW1]
@[simp] theorem Dev.bumpW1_hostB (d : Dev) (a bank hi lo : Nat) : (d.bumpW1 a bank hi lo).hostB = d.hostB := by simp [Dev.bumpW1]
@[simp] theorem Dev.bumpW1_hostR (d : Dev) (a bank hi lo : Nat) : (d.bumpW1 a bank hi lo).hostR = d.hostR := by simp [Dev.bumpW1]
@[simp] theorem Dev.bumpW1_pairs (d : Dev) (a bank hi lo : Nat) : (d.bumpW1 a bank hi lo).pairs = d.pairs := by simp [Dev.bumpW1]
@[simp] theorem Dev.bumpW1_arb (d : Dev) (a bank hi lo : Nat) : (d.bumpW1 a bank hi lo).arb = d.arb := by simp [Dev.bumpW1]
@[simp] theorem Dev.bumpW1_cmds (d : Dev) (a bank hi lo : Nat) : (d.bumpW1 a bank hi lo).cmds = d.cmds := by simp [Dev.bumpW1]
@[simp] theorem Dev.bumpW1_notices (d : Dev) (a bank hi lo : Nat) : (d.bumpW1 a bank hi lo).notices = d.notices := by simp [Dev.bumpW1]
@[simp] theorem Dev.bumpW1_regs (d : Dev) (a bank hi lo : Nat) : (d.bumpW1 a bank hi lo).regs = d.regs := by simp [Dev.bumpW1]
@[simp] theorem Dev.bumpW1_cnts (d : Dev) (a bank hi lo : Nat) : (d.bumpW1 a bank hi lo).cnts = d.cnts := by simp [Dev.bumpW1]
@[simp] theorem Dev.bumpW1_shadow (d : Dev) (a bank hi lo : Nat) : (d.bumpW1 a bank hi lo).shadow = d.shadow := by simp [Dev.bumpW1]
@[simp] theorem Dev.bumpW1_ctxs (d : Dev) (a bank hi lo : Nat) : (d.bumpW1 a bank hi lo).ctxs = d.ctxs := by simp [Dev.bumpW1]
@[simp] theorem Dev.bumpW1_engines (d : Dev) (a bank hi lo : Nat) : (d.bumpW1 a bank hi lo).engines = d.engines := by simp [Dev.bumpW1]
@[simp] theorem Dev.bumpW1_mode (d : Dev) (a bank hi lo : Nat) : (d.bumpW1 a bank hi lo).mode = d.mode := by simp [Dev.bumpW1]
@[simp] theorem Dev.bumpW1_pools (d : Dev) (a bank hi lo : Nat) : (d.bumpW1 a bank hi lo).pools = d.pools := by simp [Dev.bumpW1]
@[simp] theorem Dev.bumpW1_idx (d : Dev) (a bank hi lo : Nat) : (d.bumpW1 a bank hi lo).idx = d.idx := by simp [Dev.bumpW1]
@[simp] theorem Dev.bumpW1_cm (d : Dev) (a bank hi lo : Nat) : (d.bumpW1 a bank hi lo).cm = d.cm := by simp [Dev.bumpW1]
@[simp] theorem Dev.bumpW1_cx (d : Dev) (a bank hi lo : Nat) : (d.bumpW1 a bank hi lo).cx = d.cx := by simp [Dev.bumpW1]
@[simp] theorem Dev.bumpW1_fm (d : Dev) (a bank hi lo : Nat) : (d.bumpW1 a bank hi lo).fm = d.fm := by simp [Dev.bumpW1]
@[simp] theorem Dev.bumpW1_sh (d : Dev) (a bank hi lo : Nat) : (d.bumpW1 a bank hi lo).sh = d.sh := by simp [Dev.bumpW1]
@[simp] theorem Dev.bumpW1_vol (d : Dev) (a bank hi lo : Nat) : (d.bumpW1 a bank hi lo).vol = d.vol := by simp [Dev.bumpW1]
@[simp] theorem Dev.bumpW1_links (d : Dev) (a bank hi lo : Nat) : (d.bumpW1 a bank hi lo).links = d.links := by simp [Dev.bumpW1]
@[simp] theorem Dev.bumpW1_tc (d : Dev) (a bank hi lo : Nat) : (d.bumpW1 a bank hi lo).tc = d.tc := by simp [Dev.bumpW1]
@[simp] theorem Dev.bumpW1_er (d : Dev) (a bank hi lo : Nat) : (d.bumpW1 a bank hi lo).er = d.er := by simp [Dev.bumpW1]
@[simp] theorem Dev.bumpW1_mi (d : Dev) (a bank hi lo : Nat) : (d.bumpW1 a bank hi lo).mi = d.mi := by simp [Dev.bumpW1]
@[simp] theorem Dev.bumpW1_hk (d : Dev) (a bank hi lo : Nat) : (d.bumpW1 a bank hi lo).hk = d.hk := by simp [Dev.bumpW1]
@[simp] theorem Dev.bumpW1_cs (d : Dev) (a bank hi lo : Nat) : (d.bumpW1 a bank hi lo).cs = d.cs := by simp [Dev.bumpW1]
@[simp] theorem Dev.bumpW1_fu (d : Dev) (a bank hi lo : Nat) : (d.bumpW1 a bank hi lo).fu = d.fu := by simp [Dev.bumpW1]
@[simp] theorem Dev.bumpW1_en (d : Dev) (a bank hi lo : Nat) : (d.bumpW1 a bank hi lo).en = d.en := by simp [Dev.bumpW1]
@[simp] theorem Dev.bumpW1_sn (d : Dev) (a bank hi lo : Nat) : (d.bumpW1 a bank hi lo).sn = d.sn := by simp [Dev.bumpW1]
@[simp] theorem Dev.bumpW1_boot (d : Dev) (a bank hi lo : Nat) : (d.bumpW1 a bank hi lo).boot = d.boot := by simp [Dev.bumpW1]
@[simp] theorem Dev.bumpW1_pins (d : Dev) (a bank hi lo : Nat) : (d.bumpW1 a bank hi lo).pins = d.pins := by simp [Dev.bumpW1]
@[simp] theorem Dev.bumpW1_draws (d : Dev) (a bank hi lo : Nat) : (d.bumpW1 a bank hi lo).draws = d.draws := by simp [Dev.bumpW1]

@[simp] theorem Dev.setReg_clk (d : Dev) (a : Nat) (v : W32) : (d.setReg a v).clk = d.clk := by simp [Dev.setReg]
@[simp] theorem Dev.setReg_pa (d : Dev) (a : Nat) (v : W32) : (d.setReg a v).pa = d.pa := by simp [Dev.setReg]
@[simp] theorem Dev.setReg_pb (d : Dev) (a : Nat) (v : W32) : (d.setReg a v).pb = d.pb := by simp [Dev.setReg]
@[simp] theorem Dev.setReg_hostA (d : Dev) (a : Nat) (v : W32) : (d.setReg a v).hostA = d.hostA := by simp [Dev.setReg]
@[simp] theorem Dev.setReg_hostB (d : Dev) (a : Nat) (v : W32) : (d.setReg a v).hostB = d.hostB := by simp [Dev.setReg]
@[simp] theorem Dev.setReg_hostR (d : Dev) (a : Nat) (v : W32) : (d.setReg a v).hostR = d.hostR := by simp [Dev.setReg]
@[simp] theorem Dev.setReg_pairs (d : Dev) (a : Nat) (v : W32) : (d.setReg a v).pairs = d.pairs := by simp [Dev.setReg]
@[simp] theorem Dev.setReg_arb (d : Dev) (a : Nat) (v : W32) : (d.setReg a v).arb = d.arb := by simp [Dev.setReg]
@[simp] theorem Dev.setReg_cmds (d : Dev) (a : Nat) (v : W32) : (d.setReg a v).cmds = d.cmds := by simp [Dev.setReg]
@[simp] theorem Dev.setReg_notices (d : Dev) (a : Nat) (v : W32) : (d.setReg a v).notices = d.notices := by simp [Dev.setReg]
@[simp] theorem Dev.setReg_w1c (d : Dev) (a : Nat) (v : W32) : (d.setReg a v).w1c = d.w1c := by simp [Dev.setReg]
@[simp] theorem Dev.setReg_cnts (d : Dev) (a : Nat) (v : W32) : (d.setReg a v).cnts = d.cnts := by simp [Dev.setReg]
@[simp] theorem Dev.setReg_shadow (d : Dev) (a : Nat) (v : W32) : (d.setReg a v).shadow = d.shadow := by simp [Dev.setReg]
@[simp] theorem Dev.setReg_ctxs (d : Dev) (a : Nat) (v : W32) : (d.setReg a v).ctxs = d.ctxs := by simp [Dev.setReg]
@[simp] theorem Dev.setReg_engines (d : Dev) (a : Nat) (v : W32) : (d.setReg a v).engines = d.engines := by simp [Dev.setReg]
@[simp] theorem Dev.setReg_mode (d : Dev) (a : Nat) (v : W32) : (d.setReg a v).mode = d.mode := by simp [Dev.setReg]
@[simp] theorem Dev.setReg_pools (d : Dev) (a : Nat) (v : W32) : (d.setReg a v).pools = d.pools := by simp [Dev.setReg]
@[simp] theorem Dev.setReg_idx (d : Dev) (a : Nat) (v : W32) : (d.setReg a v).idx = d.idx := by simp [Dev.setReg]
@[simp] theorem Dev.setReg_cm (d : Dev) (a : Nat) (v : W32) : (d.setReg a v).cm = d.cm := by simp [Dev.setReg]
@[simp] theorem Dev.setReg_cx (d : Dev) (a : Nat) (v : W32) : (d.setReg a v).cx = d.cx := by simp [Dev.setReg]
@[simp] theorem Dev.setReg_fm (d : Dev) (a : Nat) (v : W32) : (d.setReg a v).fm = d.fm := by simp [Dev.setReg]
@[simp] theorem Dev.setReg_sh (d : Dev) (a : Nat) (v : W32) : (d.setReg a v).sh = d.sh := by simp [Dev.setReg]
@[simp] theorem Dev.setReg_vol (d : Dev) (a : Nat) (v : W32) : (d.setReg a v).vol = d.vol := by simp [Dev.setReg]
@[simp] theorem Dev.setReg_links (d : Dev) (a : Nat) (v : W32) : (d.setReg a v).links = d.links := by simp [Dev.setReg]
@[simp] theorem Dev.setReg_tc (d : Dev) (a : Nat) (v : W32) : (d.setReg a v).tc = d.tc := by simp [Dev.setReg]
@[simp] theorem Dev.setReg_er (d : Dev) (a : Nat) (v : W32) : (d.setReg a v).er = d.er := by simp [Dev.setReg]
@[simp] theorem Dev.setReg_mi (d : Dev) (a : Nat) (v : W32) : (d.setReg a v).mi = d.mi := by simp [Dev.setReg]
@[simp] theorem Dev.setReg_hk (d : Dev) (a : Nat) (v : W32) : (d.setReg a v).hk = d.hk := by simp [Dev.setReg]
@[simp] theorem Dev.setReg_cs (d : Dev) (a : Nat) (v : W32) : (d.setReg a v).cs = d.cs := by simp [Dev.setReg]
@[simp] theorem Dev.setReg_fu (d : Dev) (a : Nat) (v : W32) : (d.setReg a v).fu = d.fu := by simp [Dev.setReg]
@[simp] theorem Dev.setReg_en (d : Dev) (a : Nat) (v : W32) : (d.setReg a v).en = d.en := by simp [Dev.setReg]
@[simp] theorem Dev.setReg_sn (d : Dev) (a : Nat) (v : W32) : (d.setReg a v).sn = d.sn := by simp [Dev.setReg]
@[simp] theorem Dev.setReg_boot (d : Dev) (a : Nat) (v : W32) : (d.setReg a v).boot = d.boot := by simp [Dev.setReg]
@[simp] theorem Dev.setReg_pins (d : Dev) (a : Nat) (v : W32) : (d.setReg a v).pins = d.pins := by simp [Dev.setReg]
@[simp] theorem Dev.setReg_draws (d : Dev) (a : Nat) (v : W32) : (d.setReg a v).draws = d.draws := by simp [Dev.setReg]

@[simp] theorem Dev.setRf_clk (d : Dev) (a hi lo x : Nat) : (d.setRf a hi lo x).clk = d.clk := by simp [Dev.setRf]
@[simp] theorem Dev.setRf_pa (d : Dev) (a hi lo x : Nat) : (d.setRf a hi lo x).pa = d.pa := by simp [Dev.setRf]
@[simp] theorem Dev.setRf_pb (d : Dev) (a hi lo x : Nat) : (d.setRf a hi lo x).pb = d.pb := by simp [Dev.setRf]
@[simp] theorem Dev.setRf_hostA (d : Dev) (a hi lo x : Nat) : (d.setRf a hi lo x).hostA = d.hostA := by simp [Dev.setRf]
@[simp] theorem Dev.setRf_hostB (d : Dev) (a hi lo x : Nat) : (d.setRf a hi lo x).hostB = d.hostB := by simp [Dev.setRf]
@[simp] theorem Dev.setRf_hostR (d : Dev) (a hi lo x : Nat) : (d.setRf a hi lo x).hostR = d.hostR := by simp [Dev.setRf]
@[simp] theorem Dev.setRf_pairs (d : Dev) (a hi lo x : Nat) : (d.setRf a hi lo x).pairs = d.pairs := by simp [Dev.setRf]
@[simp] theorem Dev.setRf_arb (d : Dev) (a hi lo x : Nat) : (d.setRf a hi lo x).arb = d.arb := by simp [Dev.setRf]
@[simp] theorem Dev.setRf_cmds (d : Dev) (a hi lo x : Nat) : (d.setRf a hi lo x).cmds = d.cmds := by simp [Dev.setRf]
@[simp] theorem Dev.setRf_notices (d : Dev) (a hi lo x : Nat) : (d.setRf a hi lo x).notices = d.notices := by simp [Dev.setRf]
@[simp] theorem Dev.setRf_w1c (d : Dev) (a hi lo x : Nat) : (d.setRf a hi lo x).w1c = d.w1c := by simp [Dev.setRf]
@[simp] theorem Dev.setRf_cnts (d : Dev) (a hi lo x : Nat) : (d.setRf a hi lo x).cnts = d.cnts := by simp [Dev.setRf]
@[simp] theorem Dev.setRf_shadow (d : Dev) (a hi lo x : Nat) : (d.setRf a hi lo x).shadow = d.shadow := by simp [Dev.setRf]
@[simp] theorem Dev.setRf_ctxs (d : Dev) (a hi lo x : Nat) : (d.setRf a hi lo x).ctxs = d.ctxs := by simp [Dev.setRf]
@[simp] theorem Dev.setRf_engines (d : Dev) (a hi lo x : Nat) : (d.setRf a hi lo x).engines = d.engines := by simp [Dev.setRf]
@[simp] theorem Dev.setRf_mode (d : Dev) (a hi lo x : Nat) : (d.setRf a hi lo x).mode = d.mode := by simp [Dev.setRf]
@[simp] theorem Dev.setRf_pools (d : Dev) (a hi lo x : Nat) : (d.setRf a hi lo x).pools = d.pools := by simp [Dev.setRf]
@[simp] theorem Dev.setRf_idx (d : Dev) (a hi lo x : Nat) : (d.setRf a hi lo x).idx = d.idx := by simp [Dev.setRf]
@[simp] theorem Dev.setRf_cm (d : Dev) (a hi lo x : Nat) : (d.setRf a hi lo x).cm = d.cm := by simp [Dev.setRf]
@[simp] theorem Dev.setRf_cx (d : Dev) (a hi lo x : Nat) : (d.setRf a hi lo x).cx = d.cx := by simp [Dev.setRf]
@[simp] theorem Dev.setRf_fm (d : Dev) (a hi lo x : Nat) : (d.setRf a hi lo x).fm = d.fm := by simp [Dev.setRf]
@[simp] theorem Dev.setRf_sh (d : Dev) (a hi lo x : Nat) : (d.setRf a hi lo x).sh = d.sh := by simp [Dev.setRf]
@[simp] theorem Dev.setRf_vol (d : Dev) (a hi lo x : Nat) : (d.setRf a hi lo x).vol = d.vol := by simp [Dev.setRf]
@[simp] theorem Dev.setRf_links (d : Dev) (a hi lo x : Nat) : (d.setRf a hi lo x).links = d.links := by simp [Dev.setRf]
@[simp] theorem Dev.setRf_tc (d : Dev) (a hi lo x : Nat) : (d.setRf a hi lo x).tc = d.tc := by simp [Dev.setRf]
@[simp] theorem Dev.setRf_er (d : Dev) (a hi lo x : Nat) : (d.setRf a hi lo x).er = d.er := by simp [Dev.setRf]
@[simp] theorem Dev.setRf_mi (d : Dev) (a hi lo x : Nat) : (d.setRf a hi lo x).mi = d.mi := by simp [Dev.setRf]
@[simp] theorem Dev.setRf_hk (d : Dev) (a hi lo x : Nat) : (d.setRf a hi lo x).hk = d.hk := by simp [Dev.setRf]
@[simp] theorem Dev.setRf_cs (d : Dev) (a hi lo x : Nat) : (d.setRf a hi lo x).cs = d.cs := by simp [Dev.setRf]
@[simp] theorem Dev.setRf_fu (d : Dev) (a hi lo x : Nat) : (d.setRf a hi lo x).fu = d.fu := by simp [Dev.setRf]
@[simp] theorem Dev.setRf_en (d : Dev) (a hi lo x : Nat) : (d.setRf a hi lo x).en = d.en := by simp [Dev.setRf]
@[simp] theorem Dev.setRf_sn (d : Dev) (a hi lo x : Nat) : (d.setRf a hi lo x).sn = d.sn := by simp [Dev.setRf]
@[simp] theorem Dev.setRf_boot (d : Dev) (a hi lo x : Nat) : (d.setRf a hi lo x).boot = d.boot := by simp [Dev.setRf]
@[simp] theorem Dev.setRf_pins (d : Dev) (a hi lo x : Nat) : (d.setRf a hi lo x).pins = d.pins := by simp [Dev.setRf]
@[simp] theorem Dev.setRf_draws (d : Dev) (a hi lo x : Nat) : (d.setRf a hi lo x).draws = d.draws := by simp [Dev.setRf]

@[simp] theorem Dev.noteLead_pa (d : Dev) (u l : Nat) : (d.noteLead u l).pa = d.pa := by unfold Dev.noteLead; split <;> simp
@[simp] theorem Dev.noteLead_pb (d : Dev) (u l : Nat) : (d.noteLead u l).pb = d.pb := by unfold Dev.noteLead; split <;> simp
@[simp] theorem Dev.noteLead_hostA (d : Dev) (u l : Nat) : (d.noteLead u l).hostA = d.hostA := by unfold Dev.noteLead; split <;> simp
@[simp] theorem Dev.noteLead_hostB (d : Dev) (u l : Nat) : (d.noteLead u l).hostB = d.hostB := by unfold Dev.noteLead; split <;> simp
@[simp] theorem Dev.noteLead_hostR (d : Dev) (u l : Nat) : (d.noteLead u l).hostR = d.hostR := by unfold Dev.noteLead; split <;> simp
@[simp] theorem Dev.noteLead_pairs (d : Dev) (u l : Nat) : (d.noteLead u l).pairs = d.pairs := by unfold Dev.noteLead; split <;> simp
@[simp] theorem Dev.noteLead_arb (d : Dev) (u l : Nat) : (d.noteLead u l).arb = d.arb := by unfold Dev.noteLead; split <;> simp
@[simp] theorem Dev.noteLead_cmds (d : Dev) (u l : Nat) : (d.noteLead u l).cmds = d.cmds := by unfold Dev.noteLead; split <;> simp
@[simp] theorem Dev.noteLead_notices (d : Dev) (u l : Nat) : (d.noteLead u l).notices = d.notices := by unfold Dev.noteLead; split <;> simp
@[simp] theorem Dev.noteLead_regs (d : Dev) (u l : Nat) : (d.noteLead u l).regs = d.regs := by unfold Dev.noteLead; split <;> simp
@[simp] theorem Dev.noteLead_cnts (d : Dev) (u l : Nat) : (d.noteLead u l).cnts = d.cnts := by unfold Dev.noteLead; split <;> simp
@[simp] theorem Dev.noteLead_shadow (d : Dev) (u l : Nat) : (d.noteLead u l).shadow = d.shadow := by unfold Dev.noteLead; split <;> simp
@[simp] theorem Dev.noteLead_ctxs (d : Dev) (u l : Nat) : (d.noteLead u l).ctxs = d.ctxs := by unfold Dev.noteLead; split <;> simp
@[simp] theorem Dev.noteLead_engines (d : Dev) (u l : Nat) : (d.noteLead u l).engines = d.engines := by unfold Dev.noteLead; split <;> simp
@[simp] theorem Dev.noteLead_mode (d : Dev) (u l : Nat) : (d.noteLead u l).mode = d.mode := by unfold Dev.noteLead; split <;> simp
@[simp] theorem Dev.noteLead_pools (d : Dev) (u l : Nat) : (d.noteLead u l).pools = d.pools := by unfold Dev.noteLead; split <;> simp
@[simp] theorem Dev.noteLead_idx (d : Dev) (u l : Nat) : (d.noteLead u l).idx = d.idx := by unfold Dev.noteLead; split <;> simp
@[simp] theorem Dev.noteLead_cm (d : Dev) (u l : Nat) : (d.noteLead u l).cm = d.cm := by unfold Dev.noteLead; split <;> simp
@[simp] theorem Dev.noteLead_cx (d : Dev) (u l : Nat) : (d.noteLead u l).cx = d.cx := by unfold Dev.noteLead; split <;> simp
@[simp] theorem Dev.noteLead_fm (d : Dev) (u l : Nat) : (d.noteLead u l).fm = d.fm := by unfold Dev.noteLead; split <;> simp
@[simp] theorem Dev.noteLead_sh (d : Dev) (u l : Nat) : (d.noteLead u l).sh = d.sh := by unfold Dev.noteLead; split <;> simp
@[simp] theorem Dev.noteLead_vol (d : Dev) (u l : Nat) : (d.noteLead u l).vol = d.vol := by unfold Dev.noteLead; split <;> simp
@[simp] theorem Dev.noteLead_links (d : Dev) (u l : Nat) : (d.noteLead u l).links = d.links := by unfold Dev.noteLead; split <;> simp
@[simp] theorem Dev.noteLead_tc (d : Dev) (u l : Nat) : (d.noteLead u l).tc = d.tc := by unfold Dev.noteLead; split <;> simp
@[simp] theorem Dev.noteLead_er (d : Dev) (u l : Nat) : (d.noteLead u l).er = d.er := by unfold Dev.noteLead; split <;> simp
@[simp] theorem Dev.noteLead_mi (d : Dev) (u l : Nat) : (d.noteLead u l).mi = d.mi := by unfold Dev.noteLead; split <;> simp
@[simp] theorem Dev.noteLead_hk (d : Dev) (u l : Nat) : (d.noteLead u l).hk = d.hk := by unfold Dev.noteLead; split <;> simp
@[simp] theorem Dev.noteLead_cs (d : Dev) (u l : Nat) : (d.noteLead u l).cs = d.cs := by unfold Dev.noteLead; split <;> simp
@[simp] theorem Dev.noteLead_fu (d : Dev) (u l : Nat) : (d.noteLead u l).fu = d.fu := by unfold Dev.noteLead; split <;> simp
@[simp] theorem Dev.noteLead_en (d : Dev) (u l : Nat) : (d.noteLead u l).en = d.en := by unfold Dev.noteLead; split <;> simp
@[simp] theorem Dev.noteLead_sn (d : Dev) (u l : Nat) : (d.noteLead u l).sn = d.sn := by unfold Dev.noteLead; split <;> simp
@[simp] theorem Dev.noteLead_boot (d : Dev) (u l : Nat) : (d.noteLead u l).boot = d.boot := by unfold Dev.noteLead; split <;> simp
@[simp] theorem Dev.noteLead_pins (d : Dev) (u l : Nat) : (d.noteLead u l).pins = d.pins := by unfold Dev.noteLead; split <;> simp
@[simp] theorem Dev.noteLead_draws (d : Dev) (u l : Nat) : (d.noteLead u l).draws = d.draws := by unfold Dev.noteLead; split <;> simp

@[simp] theorem Dev.advanceTo_pa (d : Dev) (t : Nat) : (d.advanceTo t).pa = d.pa := by unfold Dev.advanceTo; split <;> simp
@[simp] theorem Dev.advanceTo_pb (d : Dev) (t : Nat) : (d.advanceTo t).pb = d.pb := by unfold Dev.advanceTo; split <;> simp
@[simp] theorem Dev.advanceTo_hostA (d : Dev) (t : Nat) : (d.advanceTo t).hostA = d.hostA := by unfold Dev.advanceTo; split <;> simp
@[simp] theorem Dev.advanceTo_hostB (d : Dev) (t : Nat) : (d.advanceTo t).hostB = d.hostB := by unfold Dev.advanceTo; split <;> simp
@[simp] theorem Dev.advanceTo_hostR (d : Dev) (t : Nat) : (d.advanceTo t).hostR = d.hostR := by unfold Dev.advanceTo; split <;> simp
@[simp] theorem Dev.advanceTo_pairs (d : Dev) (t : Nat) : (d.advanceTo t).pairs = d.pairs := by unfold Dev.advanceTo; split <;> simp
@[simp] theorem Dev.advanceTo_arb (d : Dev) (t : Nat) : (d.advanceTo t).arb = d.arb := by unfold Dev.advanceTo; split <;> simp
@[simp] theorem Dev.advanceTo_cmds (d : Dev) (t : Nat) : (d.advanceTo t).cmds = d.cmds := by unfold Dev.advanceTo; split <;> simp
@[simp] theorem Dev.advanceTo_notices (d : Dev) (t : Nat) : (d.advanceTo t).notices = d.notices := by unfold Dev.advanceTo; split <;> simp
@[simp] theorem Dev.advanceTo_regs (d : Dev) (t : Nat) : (d.advanceTo t).regs = d.regs := by unfold Dev.advanceTo; split <;> simp
@[simp] theorem Dev.advanceTo_cnts (d : Dev) (t : Nat) : (d.advanceTo t).cnts = d.cnts := by unfold Dev.advanceTo; split <;> simp
@[simp] theorem Dev.advanceTo_shadow (d : Dev) (t : Nat) : (d.advanceTo t).shadow = d.shadow := by unfold Dev.advanceTo; split <;> simp
@[simp] theorem Dev.advanceTo_ctxs (d : Dev) (t : Nat) : (d.advanceTo t).ctxs = d.ctxs := by unfold Dev.advanceTo; split <;> simp
@[simp] theorem Dev.advanceTo_engines (d : Dev) (t : Nat) : (d.advanceTo t).engines = d.engines := by unfold Dev.advanceTo; split <;> simp
@[simp] theorem Dev.advanceTo_mode (d : Dev) (t : Nat) : (d.advanceTo t).mode = d.mode := by unfold Dev.advanceTo; split <;> simp
@[simp] theorem Dev.advanceTo_pools (d : Dev) (t : Nat) : (d.advanceTo t).pools = d.pools := by unfold Dev.advanceTo; split <;> simp
@[simp] theorem Dev.advanceTo_idx (d : Dev) (t : Nat) : (d.advanceTo t).idx = d.idx := by unfold Dev.advanceTo; split <;> simp
@[simp] theorem Dev.advanceTo_cm (d : Dev) (t : Nat) : (d.advanceTo t).cm = d.cm := by unfold Dev.advanceTo; split <;> simp
@[simp] theorem Dev.advanceTo_cx (d : Dev) (t : Nat) : (d.advanceTo t).cx = d.cx := by unfold Dev.advanceTo; split <;> simp
@[simp] theorem Dev.advanceTo_fm (d : Dev) (t : Nat) : (d.advanceTo t).fm = d.fm := by unfold Dev.advanceTo; split <;> simp
@[simp] theorem Dev.advanceTo_sh (d : Dev) (t : Nat) : (d.advanceTo t).sh = d.sh := by unfold Dev.advanceTo; split <;> simp
@[simp] theorem Dev.advanceTo_vol (d : Dev) (t : Nat) : (d.advanceTo t).vol = d.vol := by unfold Dev.advanceTo; split <;> simp
@[simp] theorem Dev.advanceTo_links (d : Dev) (t : Nat) : (d.advanceTo t).links = d.links := by unfold Dev.advanceTo; split <;> simp
@[simp] theorem Dev.advanceTo_tc (d : Dev) (t : Nat) : (d.advanceTo t).tc = d.tc := by unfold Dev.advanceTo; split <;> simp
@[simp] theorem Dev.advanceTo_er (d : Dev) (t : Nat) : (d.advanceTo t).er = d.er := by unfold Dev.advanceTo; split <;> simp
@[simp] theorem Dev.advanceTo_mi (d : Dev) (t : Nat) : (d.advanceTo t).mi = d.mi := by unfold Dev.advanceTo; split <;> simp
@[simp] theorem Dev.advanceTo_hk (d : Dev) (t : Nat) : (d.advanceTo t).hk = d.hk := by unfold Dev.advanceTo; split <;> simp
@[simp] theorem Dev.advanceTo_cs (d : Dev) (t : Nat) : (d.advanceTo t).cs = d.cs := by unfold Dev.advanceTo; split <;> simp
@[simp] theorem Dev.advanceTo_fu (d : Dev) (t : Nat) : (d.advanceTo t).fu = d.fu := by unfold Dev.advanceTo; split <;> simp
@[simp] theorem Dev.advanceTo_en (d : Dev) (t : Nat) : (d.advanceTo t).en = d.en := by unfold Dev.advanceTo; split <;> simp
@[simp] theorem Dev.advanceTo_sn (d : Dev) (t : Nat) : (d.advanceTo t).sn = d.sn := by unfold Dev.advanceTo; split <;> simp
@[simp] theorem Dev.advanceTo_boot (d : Dev) (t : Nat) : (d.advanceTo t).boot = d.boot := by unfold Dev.advanceTo; split <;> simp
@[simp] theorem Dev.advanceTo_pins (d : Dev) (t : Nat) : (d.advanceTo t).pins = d.pins := by unfold Dev.advanceTo; split <;> simp
@[simp] theorem Dev.advanceTo_draws (d : Dev) (t : Nat) : (d.advanceTo t).draws = d.draws := by unfold Dev.advanceTo; split <;> simp

@[simp] theorem Dev.noteStall_pa (d : Dev) (u t : Nat) : (d.noteStall u t).pa = d.pa := by unfold Dev.noteStall; split <;> simp
@[simp] theorem Dev.noteStall_pb (d : Dev) (u t : Nat) : (d.noteStall u t).pb = d.pb := by unfold Dev.noteStall; split <;> simp
@[simp] theorem Dev.noteStall_hostA (d : Dev) (u t : Nat) : (d.noteStall u t).hostA = d.hostA := by unfold Dev.noteStall; split <;> simp
@[simp] theorem Dev.noteStall_hostB (d : Dev) (u t : Nat) : (d.noteStall u t).hostB = d.hostB := by unfold Dev.noteStall; split <;> simp
@[simp] theorem Dev.noteStall_hostR (d : Dev) (u t : Nat) : (d.noteStall u t).hostR = d.hostR := by unfold Dev.noteStall; split <;> simp
@[simp] theorem Dev.noteStall_pairs (d : Dev) (u t : Nat) : (d.noteStall u t).pairs = d.pairs := by unfold Dev.noteStall; split <;> simp
@[simp] theorem Dev.noteStall_arb (d : Dev) (u t : Nat) : (d.noteStall u t).arb = d.arb := by unfold Dev.noteStall; split <;> simp
@[simp] theorem Dev.noteStall_cmds (d : Dev) (u t : Nat) : (d.noteStall u t).cmds = d.cmds := by unfold Dev.noteStall; split <;> simp
@[simp] theorem Dev.noteStall_notices (d : Dev) (u t : Nat) : (d.noteStall u t).notices = d.notices := by unfold Dev.noteStall; split <;> simp
@[simp] theorem Dev.noteStall_regs (d : Dev) (u t : Nat) : (d.noteStall u t).regs = d.regs := by unfold Dev.noteStall; split <;> simp
@[simp] theorem Dev.noteStall_cnts (d : Dev) (u t : Nat) : (d.noteStall u t).cnts = d.cnts := by unfold Dev.noteStall; split <;> simp
@[simp] theorem Dev.noteStall_shadow (d : Dev) (u t : Nat) : (d.noteStall u t).shadow = d.shadow := by unfold Dev.noteStall; split <;> simp
@[simp] theorem Dev.noteStall_ctxs (d : Dev) (u t : Nat) : (d.noteStall u t).ctxs = d.ctxs := by unfold Dev.noteStall; split <;> simp
@[simp] theorem Dev.noteStall_engines (d : Dev) (u t : Nat) : (d.noteStall u t).engines = d.engines := by unfold Dev.noteStall; split <;> simp
@[simp] theorem Dev.noteStall_mode (d : Dev) (u t : Nat) : (d.noteStall u t).mode = d.mode := by unfold Dev.noteStall; split <;> simp
@[simp] theorem Dev.noteStall_pools (d : Dev) (u t : Nat) : (d.noteStall u t).pools = d.pools := by unfold Dev.noteStall; split <;> simp
@[simp] theorem Dev.noteStall_idx (d : Dev) (u t : Nat) : (d.noteStall u t).idx = d.idx := by unfold Dev.noteStall; split <;> simp
@[simp] theorem Dev.noteStall_cm (d : Dev) (u t : Nat) : (d.noteStall u t).cm = d.cm := by unfold Dev.noteStall; split <;> simp
@[simp] theorem Dev.noteStall_cx (d : Dev) (u t : Nat) : (d.noteStall u t).cx = d.cx := by unfold Dev.noteStall; split <;> simp
@[simp] theorem Dev.noteStall_fm (d : Dev) (u t : Nat) : (d.noteStall u t).fm = d.fm := by unfold Dev.noteStall; split <;> simp
@[simp] theorem Dev.noteStall_sh (d : Dev) (u t : Nat) : (d.noteStall u t).sh = d.sh := by unfold Dev.noteStall; split <;> simp
@[simp] theorem Dev.noteStall_vol (d : Dev) (u t : Nat) : (d.noteStall u t).vol = d.vol := by unfold Dev.noteStall; split <;> simp
@[simp] theorem Dev.noteStall_links (d : Dev) (u t : Nat) : (d.noteStall u t).links = d.links := by unfold Dev.noteStall; split <;> simp
@[simp] theorem Dev.noteStall_tc (d : Dev) (u t : Nat) : (d.noteStall u t).tc = d.tc := by unfold Dev.noteStall; split <;> simp
@[simp] theorem Dev.noteStall_er (d : Dev) (u t : Nat) : (d.noteStall u t).er = d.er := by unfold Dev.noteStall; split <;> simp
@[simp] theorem Dev.noteStall_mi (d : Dev) (u t : Nat) : (d.noteStall u t).mi = d.mi := by unfold Dev.noteStall; split <;> simp
@[simp] theorem Dev.noteStall_hk (d : Dev) (u t : Nat) : (d.noteStall u t).hk = d.hk := by unfold Dev.noteStall; split <;> simp
@[simp] theorem Dev.noteStall_cs (d : Dev) (u t : Nat) : (d.noteStall u t).cs = d.cs := by unfold Dev.noteStall; split <;> simp
@[simp] theorem Dev.noteStall_fu (d : Dev) (u t : Nat) : (d.noteStall u t).fu = d.fu := by unfold Dev.noteStall; split <;> simp
@[simp] theorem Dev.noteStall_en (d : Dev) (u t : Nat) : (d.noteStall u t).en = d.en := by unfold Dev.noteStall; split <;> simp
@[simp] theorem Dev.noteStall_sn (d : Dev) (u t : Nat) : (d.noteStall u t).sn = d.sn := by unfold Dev.noteStall; split <;> simp
@[simp] theorem Dev.noteStall_boot (d : Dev) (u t : Nat) : (d.noteStall u t).boot = d.boot := by unfold Dev.noteStall; split <;> simp
@[simp] theorem Dev.noteStall_pins (d : Dev) (u t : Nat) : (d.noteStall u t).pins = d.pins := by unfold Dev.noteStall; split <;> simp
@[simp] theorem Dev.noteStall_draws (d : Dev) (u t : Nat) : (d.noteStall u t).draws = d.draws := by unfold Dev.noteStall; split <;> simp

@[simp] theorem Dev.stamp_pa (d : Dev) (u a : Nat) : ((d.stamp u a).2).pa = d.pa := by simp [Dev.stamp]
@[simp] theorem Dev.stamp_pb (d : Dev) (u a : Nat) : ((d.stamp u a).2).pb = d.pb := by simp [Dev.stamp]
@[simp] theorem Dev.stamp_hostA (d : Dev) (u a : Nat) : ((d.stamp u a).2).hostA = d.hostA := by simp [Dev.stamp]
@[simp] theorem Dev.stamp_hostB (d : Dev) (u a : Nat) : ((d.stamp u a).2).hostB = d.hostB := by simp [Dev.stamp]
@[simp] theorem Dev.stamp_hostR (d : Dev) (u a : Nat) : ((d.stamp u a).2).hostR = d.hostR := by simp [Dev.stamp]
@[simp] theorem Dev.stamp_pairs (d : Dev) (u a : Nat) : ((d.stamp u a).2).pairs = d.pairs := by simp [Dev.stamp]
@[simp] theorem Dev.stamp_arb (d : Dev) (u a : Nat) : ((d.stamp u a).2).arb = d.arb := by simp [Dev.stamp]
@[simp] theorem Dev.stamp_cmds (d : Dev) (u a : Nat) : ((d.stamp u a).2).cmds = d.cmds := by simp [Dev.stamp]
@[simp] theorem Dev.stamp_notices (d : Dev) (u a : Nat) : ((d.stamp u a).2).notices = d.notices := by simp [Dev.stamp]
@[simp] theorem Dev.stamp_regs (d : Dev) (u a : Nat) : ((d.stamp u a).2).regs = d.regs := by simp [Dev.stamp]
@[simp] theorem Dev.stamp_cnts (d : Dev) (u a : Nat) : ((d.stamp u a).2).cnts = d.cnts := by simp [Dev.stamp]
@[simp] theorem Dev.stamp_shadow (d : Dev) (u a : Nat) : ((d.stamp u a).2).shadow = d.shadow := by simp [Dev.stamp]
@[simp] theorem Dev.stamp_ctxs (d : Dev) (u a : Nat) : ((d.stamp u a).2).ctxs = d.ctxs := by simp [Dev.stamp]
@[simp] theorem Dev.stamp_engines (d : Dev) (u a : Nat) : ((d.stamp u a).2).engines = d.engines := by simp [Dev.stamp]
@[simp] theorem Dev.stamp_mode (d : Dev) (u a : Nat) : ((d.stamp u a).2).mode = d.mode := by simp [Dev.stamp]
@[simp] theorem Dev.stamp_pools (d : Dev) (u a : Nat) : ((d.stamp u a).2).pools = d.pools := by simp [Dev.stamp]
@[simp] theorem Dev.stamp_idx (d : Dev) (u a : Nat) : ((d.stamp u a).2).idx = d.idx := by simp [Dev.stamp]
@[simp] theorem Dev.stamp_cm (d : Dev) (u a : Nat) : ((d.stamp u a).2).cm = d.cm := by simp [Dev.stamp]
@[simp] theorem Dev.stamp_cx (d : Dev) (u a : Nat) : ((d.stamp u a).2).cx = d.cx := by simp [Dev.stamp]
@[simp] theorem Dev.stamp_fm (d : Dev) (u a : Nat) : ((d.stamp u a).2).fm = d.fm := by simp [Dev.stamp]
@[simp] theorem Dev.stamp_sh (d : Dev) (u a : Nat) : ((d.stamp u a).2).sh = d.sh := by simp [Dev.stamp]
@[simp] theorem Dev.stamp_vol (d : Dev) (u a : Nat) : ((d.stamp u a).2).vol = d.vol := by simp [Dev.stamp]
@[simp] theorem Dev.stamp_links (d : Dev) (u a : Nat) : ((d.stamp u a).2).links = d.links := by simp [Dev.stamp]
@[simp] theorem Dev.stamp_tc (d : Dev) (u a : Nat) : ((d.stamp u a).2).tc = d.tc := by simp [Dev.stamp]
@[simp] theorem Dev.stamp_er (d : Dev) (u a : Nat) : ((d.stamp u a).2).er = d.er := by simp [Dev.stamp]
@[simp] theorem Dev.stamp_mi (d : Dev) (u a : Nat) : ((d.stamp u a).2).mi = d.mi := by simp [Dev.stamp]
@[simp] theorem Dev.stamp_hk (d : Dev) (u a : Nat) : ((d.stamp u a).2).hk = d.hk := by simp [Dev.stamp]
@[simp] theorem Dev.stamp_cs (d : Dev) (u a : Nat) : ((d.stamp u a).2).cs = d.cs := by simp [Dev.stamp]
@[simp] theorem Dev.stamp_fu (d : Dev) (u a : Nat) : ((d.stamp u a).2).fu = d.fu := by simp [Dev.stamp]
@[simp] theorem Dev.stamp_en (d : Dev) (u a : Nat) : ((d.stamp u a).2).en = d.en := by simp [Dev.stamp]
@[simp] theorem Dev.stamp_sn (d : Dev) (u a : Nat) : ((d.stamp u a).2).sn = d.sn := by simp [Dev.stamp]
@[simp] theorem Dev.stamp_boot (d : Dev) (u a : Nat) : ((d.stamp u a).2).boot = d.boot := by simp [Dev.stamp]
@[simp] theorem Dev.stamp_pins (d : Dev) (u a : Nat) : ((d.stamp u a).2).pins = d.pins := by simp [Dev.stamp]

@[simp] theorem Dev.logRoom_clk (d : Dev) : (d.logRoom).clk = d.clk := by unfold Dev.logRoom; split <;> simp
@[simp] theorem Dev.logRoom_pa (d : Dev) : (d.logRoom).pa = d.pa := by unfold Dev.logRoom; split <;> simp
@[simp] theorem Dev.logRoom_pb (d : Dev) : (d.logRoom).pb = d.pb := by unfold Dev.logRoom; split <;> simp
@[simp] theorem Dev.logRoom_hostA (d : Dev) : (d.logRoom).hostA = d.hostA := by unfold Dev.logRoom; split <;> simp
@[simp] theorem Dev.logRoom_hostB (d : Dev) : (d.logRoom).hostB = d.hostB := by unfold Dev.logRoom; split <;> simp
@[simp] theorem Dev.logRoom_hostR (d : Dev) : (d.logRoom).hostR = d.hostR := by unfold Dev.logRoom; split <;> simp
@[simp] theorem Dev.logRoom_pairs (d : Dev) : (d.logRoom).pairs = d.pairs := by unfold Dev.logRoom; split <;> simp
@[simp] theorem Dev.logRoom_arb (d : Dev) : (d.logRoom).arb = d.arb := by unfold Dev.logRoom; split <;> simp
@[simp] theorem Dev.logRoom_cmds (d : Dev) : (d.logRoom).cmds = d.cmds := by unfold Dev.logRoom; split <;> simp
@[simp] theorem Dev.logRoom_notices (d : Dev) : (d.logRoom).notices = d.notices := by unfold Dev.logRoom; split <;> simp
@[simp] theorem Dev.logRoom_regs (d : Dev) : (d.logRoom).regs = d.regs := by unfold Dev.logRoom; split <;> simp
@[simp] theorem Dev.logRoom_cnts (d : Dev) : (d.logRoom).cnts = d.cnts := by unfold Dev.logRoom; split <;> simp
@[simp] theorem Dev.logRoom_shadow (d : Dev) : (d.logRoom).shadow = d.shadow := by unfold Dev.logRoom; split <;> simp
@[simp] theorem Dev.logRoom_ctxs (d : Dev) : (d.logRoom).ctxs = d.ctxs := by unfold Dev.logRoom; split <;> simp
@[simp] theorem Dev.logRoom_engines (d : Dev) : (d.logRoom).engines = d.engines := by unfold Dev.logRoom; split <;> simp
@[simp] theorem Dev.logRoom_mode (d : Dev) : (d.logRoom).mode = d.mode := by unfold Dev.logRoom; split <;> simp
@[simp] theorem Dev.logRoom_pools (d : Dev) : (d.logRoom).pools = d.pools := by unfold Dev.logRoom; split <;> simp
@[simp] theorem Dev.logRoom_idx (d : Dev) : (d.logRoom).idx = d.idx := by unfold Dev.logRoom; split <;> simp
@[simp] theorem Dev.logRoom_cm (d : Dev) : (d.logRoom).cm = d.cm := by unfold Dev.logRoom; split <;> simp
@[simp] theorem Dev.logRoom_cx (d : Dev) : (d.logRoom).cx = d.cx := by unfold Dev.logRoom; split <;> simp
@[simp] theorem Dev.logRoom_fm (d : Dev) : (d.logRoom).fm = d.fm := by unfold Dev.logRoom; split <;> simp
@[simp] theorem Dev.logRoom_sh (d : Dev) : (d.logRoom).sh = d.sh := by unfold Dev.logRoom; split <;> simp
@[simp] theorem Dev.logRoom_vol (d : Dev) : (d.logRoom).vol = d.vol := by unfold Dev.logRoom; split <;> simp
@[simp] theorem Dev.logRoom_links (d : Dev) : (d.logRoom).links = d.links := by unfold Dev.logRoom; split <;> simp
@[simp] theorem Dev.logRoom_tc (d : Dev) : (d.logRoom).tc = d.tc := by unfold Dev.logRoom; split <;> simp
@[simp] theorem Dev.logRoom_mi (d : Dev) : (d.logRoom).mi = d.mi := by unfold Dev.logRoom; split <;> simp
@[simp] theorem Dev.logRoom_hk (d : Dev) : (d.logRoom).hk = d.hk := by unfold Dev.logRoom; split <;> simp
@[simp] theorem Dev.logRoom_cs (d : Dev) : (d.logRoom).cs = d.cs := by unfold Dev.logRoom; split <;> simp
@[simp] theorem Dev.logRoom_fu (d : Dev) : (d.logRoom).fu = d.fu := by unfold Dev.logRoom; split <;> simp
@[simp] theorem Dev.logRoom_en (d : Dev) : (d.logRoom).en = d.en := by unfold Dev.logRoom; split <;> simp
@[simp] theorem Dev.logRoom_sn (d : Dev) : (d.logRoom).sn = d.sn := by unfold Dev.logRoom; split <;> simp
@[simp] theorem Dev.logRoom_boot (d : Dev) : (d.logRoom).boot = d.boot := by unfold Dev.logRoom; split <;> simp
@[simp] theorem Dev.logRoom_pins (d : Dev) : (d.logRoom).pins = d.pins := by unfold Dev.logRoom; split <;> simp
@[simp] theorem Dev.logRoom_draws (d : Dev) : (d.logRoom).draws = d.draws := by unfold Dev.logRoom; split <;> simp

@[simp] theorem Dev.log_pa (d : Dev) (r : Report) (b : Bool) : ((d.log r b).2.2).pa = d.pa := by simp only [Dev.log, Dev.onEr]; split <;> simp
@[simp] theorem Dev.log_pb (d : Dev) (r : Report) (b : Bool) : ((d.log r b).2.2).pb = d.pb := by simp only [Dev.log, Dev.onEr]; split <;> simp
@[simp] theorem Dev.log_hostA (d : Dev) (r : Report) (b : Bool) : ((d.log r b).2.2).hostA = d.hostA := by simp only [Dev.log, Dev.onEr]; split <;> simp
@[simp] theorem Dev.log_hostB (d : Dev) (r : Report) (b : Bool) : ((d.log r b).2.2).hostB = d.hostB := by simp only [Dev.log, Dev.onEr]; split <;> simp
@[simp] theorem Dev.log_hostR (d : Dev) (r : Report) (b : Bool) : ((d.log r b).2.2).hostR = d.hostR := by simp only [Dev.log, Dev.onEr]; split <;> simp
@[simp] theorem Dev.log_pairs (d : Dev) (r : Report) (b : Bool) : ((d.log r b).2.2).pairs = d.pairs := by simp only [Dev.log, Dev.onEr]; split <;> simp
@[simp] theorem Dev.log_arb (d : Dev) (r : Report) (b : Bool) : ((d.log r b).2.2).arb = d.arb := by simp only [Dev.log, Dev.onEr]; split <;> simp
@[simp] theorem Dev.log_cmds (d : Dev) (r : Report) (b : Bool) : ((d.log r b).2.2).cmds = d.cmds := by simp only [Dev.log, Dev.onEr]; split <;> simp
@[simp] theorem Dev.log_notices (d : Dev) (r : Report) (b : Bool) : ((d.log r b).2.2).notices = d.notices := by simp only [Dev.log, Dev.onEr]; split <;> simp
@[simp] theorem Dev.log_regs (d : Dev) (r : Report) (b : Bool) : ((d.log r b).2.2).regs = d.regs := by simp only [Dev.log, Dev.onEr]; split <;> simp
@[simp] theorem Dev.log_cnts (d : Dev) (r : Report) (b : Bool) : ((d.log r b).2.2).cnts = d.cnts := by simp only [Dev.log, Dev.onEr]; split <;> simp
@[simp] theorem Dev.log_shadow (d : Dev) (r : Report) (b : Bool) : ((d.log r b).2.2).shadow = d.shadow := by simp only [Dev.log, Dev.onEr]; split <;> simp
@[simp] theorem Dev.log_ctxs (d : Dev) (r : Report) (b : Bool) : ((d.log r b).2.2).ctxs = d.ctxs := by simp only [Dev.log, Dev.onEr]; split <;> simp
@[simp] theorem Dev.log_engines (d : Dev) (r : Report) (b : Bool) : ((d.log r b).2.2).engines = d.engines := by simp only [Dev.log, Dev.onEr]; split <;> simp
@[simp] theorem Dev.log_mode (d : Dev) (r : Report) (b : Bool) : ((d.log r b).2.2).mode = d.mode := by simp only [Dev.log, Dev.onEr]; split <;> simp
@[simp] theorem Dev.log_pools (d : Dev) (r : Report) (b : Bool) : ((d.log r b).2.2).pools = d.pools := by simp only [Dev.log, Dev.onEr]; split <;> simp
@[simp] theorem Dev.log_idx (d : Dev) (r : Report) (b : Bool) : ((d.log r b).2.2).idx = d.idx := by simp only [Dev.log, Dev.onEr]; split <;> simp
@[simp] theorem Dev.log_cm (d : Dev) (r : Report) (b : Bool) : ((d.log r b).2.2).cm = d.cm := by simp only [Dev.log, Dev.onEr]; split <;> simp
@[simp] theorem Dev.log_cx (d : Dev) (r : Report) (b : Bool) : ((d.log r b).2.2).cx = d.cx := by simp only [Dev.log, Dev.onEr]; split <;> simp
@[simp] theorem Dev.log_fm (d : Dev) (r : Report) (b : Bool) : ((d.log r b).2.2).fm = d.fm := by simp only [Dev.log, Dev.onEr]; split <;> simp
@[simp] theorem Dev.log_sh (d : Dev) (r : Report) (b : Bool) : ((d.log r b).2.2).sh = d.sh := by simp only [Dev.log, Dev.onEr]; split <;> simp
@[simp] theorem Dev.log_vol (d : Dev) (r : Report) (b : Bool) : ((d.log r b).2.2).vol = d.vol := by simp only [Dev.log, Dev.onEr]; split <;> simp
@[simp] theorem Dev.log_links (d : Dev) (r : Report) (b : Bool) : ((d.log r b).2.2).links = d.links := by simp only [Dev.log, Dev.onEr]; split <;> simp
@[simp] theorem Dev.log_tc (d : Dev) (r : Report) (b : Bool) : ((d.log r b).2.2).tc = d.tc := by simp only [Dev.log, Dev.onEr]; split <;> simp
@[simp] theorem Dev.log_mi (d : Dev) (r : Report) (b : Bool) : ((d.log r b).2.2).mi = d.mi := by simp only [Dev.log, Dev.onEr]; split <;> simp
@[simp] theorem Dev.log_hk (d : Dev) (r : Report) (b : Bool) : ((d.log r b).2.2).hk = d.hk := by simp only [Dev.log, Dev.onEr]; split <;> simp
@[simp] theorem Dev.log_cs (d : Dev) (r : Report) (b : Bool) : ((d.log r b).2.2).cs = d.cs := by simp only [Dev.log, Dev.onEr]; split <;> simp
@[simp] theorem Dev.log_fu (d : Dev) (r : Report) (b : Bool) : ((d.log r b).2.2).fu = d.fu := by simp only [Dev.log, Dev.onEr]; split <;> simp
@[simp] theorem Dev.log_en (d : Dev) (r : Report) (b : Bool) : ((d.log r b).2.2).en = d.en := by simp only [Dev.log, Dev.onEr]; split <;> simp
@[simp] theorem Dev.log_sn (d : Dev) (r : Report) (b : Bool) : ((d.log r b).2.2).sn = d.sn := by simp only [Dev.log, Dev.onEr]; split <;> simp
@[simp] theorem Dev.log_boot (d : Dev) (r : Report) (b : Bool) : ((d.log r b).2.2).boot = d.boot := by simp only [Dev.log, Dev.onEr]; split <;> simp
@[simp] theorem Dev.log_pins (d : Dev) (r : Report) (b : Bool) : ((d.log r b).2.2).pins = d.pins := by simp only [Dev.log, Dev.onEr]; split <;> simp

@[simp] theorem Dev.note_pa (d : Dev) (r : Report) : (d.note r).pa = d.pa := by simp [Dev.note]
@[simp] theorem Dev.note_pb (d : Dev) (r : Report) : (d.note r).pb = d.pb := by simp [Dev.note]
@[simp] theorem Dev.note_hostA (d : Dev) (r : Report) : (d.note r).hostA = d.hostA := by simp [Dev.note]
@[simp] theorem Dev.note_hostB (d : Dev) (r : Report) : (d.note r).hostB = d.hostB := by simp [Dev.note]
@[simp] theorem Dev.note_hostR (d : Dev) (r : Report) : (d.note r).hostR = d.hostR := by simp [Dev.note]
@[simp] theorem Dev.note_pairs (d : Dev) (r : Report) : (d.note r).pairs = d.pairs := by simp [Dev.note]
@[simp] theorem Dev.note_arb (d : Dev) (r : Report) : (d.note r).arb = d.arb := by simp [Dev.note]
@[simp] theorem Dev.note_cmds (d : Dev) (r : Report) : (d.note r).cmds = d.cmds := by simp [Dev.note]
@[simp] theorem Dev.note_notices (d : Dev) (r : Report) : (d.note r).notices = d.notices := by simp [Dev.note]
@[simp] theorem Dev.note_regs (d : Dev) (r : Report) : (d.note r).regs = d.regs := by simp [Dev.note]
@[simp] theorem Dev.note_cnts (d : Dev) (r : Report) : (d.note r).cnts = d.cnts := by simp [Dev.note]
@[simp] theorem Dev.note_shadow (d : Dev) (r : Report) : (d.note r).shadow = d.shadow := by simp [Dev.note]
@[simp] theorem Dev.note_ctxs (d : Dev) (r : Report) : (d.note r).ctxs = d.ctxs := by simp [Dev.note]
@[simp] theorem Dev.note_engines (d : Dev) (r : Report) : (d.note r).engines = d.engines := by simp [Dev.note]
@[simp] theorem Dev.note_mode (d : Dev) (r : Report) : (d.note r).mode = d.mode := by simp [Dev.note]
@[simp] theorem Dev.note_pools (d : Dev) (r : Report) : (d.note r).pools = d.pools := by simp [Dev.note]
@[simp] theorem Dev.note_idx (d : Dev) (r : Report) : (d.note r).idx = d.idx := by simp [Dev.note]
@[simp] theorem Dev.note_cm (d : Dev) (r : Report) : (d.note r).cm = d.cm := by simp [Dev.note]
@[simp] theorem Dev.note_cx (d : Dev) (r : Report) : (d.note r).cx = d.cx := by simp [Dev.note]
@[simp] theorem Dev.note_fm (d : Dev) (r : Report) : (d.note r).fm = d.fm := by simp [Dev.note]
@[simp] theorem Dev.note_sh (d : Dev) (r : Report) : (d.note r).sh = d.sh := by simp [Dev.note]
@[simp] theorem Dev.note_vol (d : Dev) (r : Report) : (d.note r).vol = d.vol := by simp [Dev.note]
@[simp] theorem Dev.note_links (d : Dev) (r : Report) : (d.note r).links = d.links := by simp [Dev.note]
@[simp] theorem Dev.note_tc (d : Dev) (r : Report) : (d.note r).tc = d.tc := by simp [Dev.note]
@[simp] theorem Dev.note_mi (d : Dev) (r : Report) : (d.note r).mi = d.mi := by simp [Dev.note]
@[simp] theorem Dev.note_hk (d : Dev) (r : Report) : (d.note r).hk = d.hk := by simp [Dev.note]
@[simp] theorem Dev.note_cs (d : Dev) (r : Report) : (d.note r).cs = d.cs := by simp [Dev.note]
@[simp] theorem Dev.note_fu (d : Dev) (r : Report) : (d.note r).fu = d.fu := by simp [Dev.note]
@[simp] theorem Dev.note_en (d : Dev) (r : Report) : (d.note r).en = d.en := by simp [Dev.note]
@[simp] theorem Dev.note_sn (d : Dev) (r : Report) : (d.note r).sn = d.sn := by simp [Dev.note]
@[simp] theorem Dev.note_boot (d : Dev) (r : Report) : (d.note r).boot = d.boot := by simp [Dev.note]
@[simp] theorem Dev.note_pins (d : Dev) (r : Report) : (d.note r).pins = d.pins := by simp [Dev.note]

@[simp] theorem Dev.c0_pa (d : Dev) (u : UnitId) (cat : Nat) (x y : W64) : (d.c0 u cat x y).pa = d.pa := by simp [Dev.c0]
@[simp] theorem Dev.c0_pb (d : Dev) (u : UnitId) (cat : Nat) (x y : W64) : (d.c0 u cat x y).pb = d.pb := by simp [Dev.c0]
@[simp] theorem Dev.c0_hostA (d : Dev) (u : UnitId) (cat : Nat) (x y : W64) : (d.c0 u cat x y).hostA = d.hostA := by simp [Dev.c0]
@[simp] theorem Dev.c0_hostB (d : Dev) (u : UnitId) (cat : Nat) (x y : W64) : (d.c0 u cat x y).hostB = d.hostB := by simp [Dev.c0]
@[simp] theorem Dev.c0_hostR (d : Dev) (u : UnitId) (cat : Nat) (x y : W64) : (d.c0 u cat x y).hostR = d.hostR := by simp [Dev.c0]
@[simp] theorem Dev.c0_pairs (d : Dev) (u : UnitId) (cat : Nat) (x y : W64) : (d.c0 u cat x y).pairs = d.pairs := by simp [Dev.c0]
@[simp] theorem Dev.c0_arb (d : Dev) (u : UnitId) (cat : Nat) (x y : W64) : (d.c0 u cat x y).arb = d.arb := by simp [Dev.c0]
@[simp] theorem Dev.c0_cmds (d : Dev) (u : UnitId) (cat : Nat) (x y : W64) : (d.c0 u cat x y).cmds = d.cmds := by simp [Dev.c0]
@[simp] theorem Dev.c0_notices (d : Dev) (u : UnitId) (cat : Nat) (x y : W64) : (d.c0 u cat x y).notices = d.notices := by simp [Dev.c0]
@[simp] theorem Dev.c0_regs (d : Dev) (u : UnitId) (cat : Nat) (x y : W64) : (d.c0 u cat x y).regs = d.regs := by simp [Dev.c0]
@[simp] theorem Dev.c0_cnts (d : Dev) (u : UnitId) (cat : Nat) (x y : W64) : (d.c0 u cat x y).cnts = d.cnts := by simp [Dev.c0]
@[simp] theorem Dev.c0_shadow (d : Dev) (u : UnitId) (cat : Nat) (x y : W64) : (d.c0 u cat x y).shadow = d.shadow := by simp [Dev.c0]
@[simp] theorem Dev.c0_ctxs (d : Dev) (u : UnitId) (cat : Nat) (x y : W64) : (d.c0 u cat x y).ctxs = d.ctxs := by simp [Dev.c0]
@[simp] theorem Dev.c0_engines (d : Dev) (u : UnitId) (cat : Nat) (x y : W64) : (d.c0 u cat x y).engines = d.engines := by simp [Dev.c0]
@[simp] theorem Dev.c0_mode (d : Dev) (u : UnitId) (cat : Nat) (x y : W64) : (d.c0 u cat x y).mode = d.mode := by simp [Dev.c0]
@[simp] theorem Dev.c0_pools (d : Dev) (u : UnitId) (cat : Nat) (x y : W64) : (d.c0 u cat x y).pools = d.pools := by simp [Dev.c0]
@[simp] theorem Dev.c0_idx (d : Dev) (u : UnitId) (cat : Nat) (x y : W64) : (d.c0 u cat x y).idx = d.idx := by simp [Dev.c0]
@[simp] theorem Dev.c0_cm (d : Dev) (u : UnitId) (cat : Nat) (x y : W64) : (d.c0 u cat x y).cm = d.cm := by simp [Dev.c0]
@[simp] theorem Dev.c0_cx (d : Dev) (u : UnitId) (cat : Nat) (x y : W64) : (d.c0 u cat x y).cx = d.cx := by simp [Dev.c0]
@[simp] theorem Dev.c0_fm (d : Dev) (u : UnitId) (cat : Nat) (x y : W64) : (d.c0 u cat x y).fm = d.fm := by simp [Dev.c0]
@[simp] theorem Dev.c0_sh (d : Dev) (u : UnitId) (cat : Nat) (x y : W64) : (d.c0 u cat x y).sh = d.sh := by simp [Dev.c0]
@[simp] theorem Dev.c0_vol (d : Dev) (u : UnitId) (cat : Nat) (x y : W64) : (d.c0 u cat x y).vol = d.vol := by simp [Dev.c0]
@[simp] theorem Dev.c0_links (d : Dev) (u : UnitId) (cat : Nat) (x y : W64) : (d.c0 u cat x y).links = d.links := by simp [Dev.c0]
@[simp] theorem Dev.c0_tc (d : Dev) (u : UnitId) (cat : Nat) (x y : W64) : (d.c0 u cat x y).tc = d.tc := by simp [Dev.c0]
@[simp] theorem Dev.c0_mi (d : Dev) (u : UnitId) (cat : Nat) (x y : W64) : (d.c0 u cat x y).mi = d.mi := by simp [Dev.c0]
@[simp] theorem Dev.c0_hk (d : Dev) (u : UnitId) (cat : Nat) (x y : W64) : (d.c0 u cat x y).hk = d.hk := by simp [Dev.c0]
@[simp] theorem Dev.c0_cs (d : Dev) (u : UnitId) (cat : Nat) (x y : W64) : (d.c0 u cat x y).cs = d.cs := by simp [Dev.c0]
@[simp] theorem Dev.c0_fu (d : Dev) (u : UnitId) (cat : Nat) (x y : W64) : (d.c0 u cat x y).fu = d.fu := by simp [Dev.c0]
@[simp] theorem Dev.c0_en (d : Dev) (u : UnitId) (cat : Nat) (x y : W64) : (d.c0 u cat x y).en = d.en := by simp [Dev.c0]
@[simp] theorem Dev.c0_sn (d : Dev) (u : UnitId) (cat : Nat) (x y : W64) : (d.c0 u cat x y).sn = d.sn := by simp [Dev.c0]
@[simp] theorem Dev.c0_boot (d : Dev) (u : UnitId) (cat : Nat) (x y : W64) : (d.c0 u cat x y).boot = d.boot := by simp [Dev.c0]
@[simp] theorem Dev.c0_pins (d : Dev) (u : UnitId) (cat : Nat) (x y : W64) : (d.c0 u cat x y).pins = d.pins := by simp [Dev.c0]

@[simp] theorem Dev.regEvent_pa (d : Dev) (p : Path) (a : Nat) (v : W32) : (d.regEvent p a v).pa = d.pa := Dev.note_pa d _
@[simp] theorem Dev.regEvent_pb (d : Dev) (p : Path) (a : Nat) (v : W32) : (d.regEvent p a v).pb = d.pb := Dev.note_pb d _
@[simp] theorem Dev.regEvent_hostA (d : Dev) (p : Path) (a : Nat) (v : W32) : (d.regEvent p a v).hostA = d.hostA := Dev.note_hostA d _
@[simp] theorem Dev.regEvent_hostB (d : Dev) (p : Path) (a : Nat) (v : W32) : (d.regEvent p a v).hostB = d.hostB := Dev.note_hostB d _
@[simp] theorem Dev.regEvent_hostR (d : Dev) (p : Path) (a : Nat) (v : W32) : (d.regEvent p a v).hostR = d.hostR := Dev.note_hostR d _
@[simp] theorem Dev.regEvent_pairs (d : Dev) (p : Path) (a : Nat) (v : W32) : (d.regEvent p a v).pairs = d.pairs := Dev.note_pairs d _
@[simp] theorem Dev.regEvent_arb (d : Dev) (p : Path) (a : Nat) (v : W32) : (d.regEvent p a v).arb = d.arb := Dev.note_arb d _
@[simp] theorem Dev.regEvent_cmds (d : Dev) (p : Path) (a : Nat) (v : W32) : (d.regEvent p a v).cmds = d.cmds := Dev.note_cmds d _
@[simp] theorem Dev.regEvent_notices (d : Dev) (p : Path) (a : Nat) (v : W32) : (d.regEvent p a v).notices = d.notices := Dev.note_notices d _
@[simp] theorem Dev.regEvent_regs (d : Dev) (p : Path) (a : Nat) (v : W32) : (d.regEvent p a v).regs = d.regs := Dev.note_regs d _
@[simp] theorem Dev.regEvent_cnts (d : Dev) (p : Path) (a : Nat) (v : W32) : (d.regEvent p a v).cnts = d.cnts := Dev.note_cnts d _
@[simp] theorem Dev.regEvent_shadow (d : Dev) (p : Path) (a : Nat) (v : W32) : (d.regEvent p a v).shadow = d.shadow := Dev.note_shadow d _
@[simp] theorem Dev.regEvent_ctxs (d : Dev) (p : Path) (a : Nat) (v : W32) : (d.regEvent p a v).ctxs = d.ctxs := Dev.note_ctxs d _
@[simp] theorem Dev.regEvent_engines (d : Dev) (p : Path) (a : Nat) (v : W32) : (d.regEvent p a v).engines = d.engines := Dev.note_engines d _
@[simp] theorem Dev.regEvent_mode (d : Dev) (p : Path) (a : Nat) (v : W32) : (d.regEvent p a v).mode = d.mode := Dev.note_mode d _
@[simp] theorem Dev.regEvent_pools (d : Dev) (p : Path) (a : Nat) (v : W32) : (d.regEvent p a v).pools = d.pools := Dev.note_pools d _
@[simp] theorem Dev.regEvent_idx (d : Dev) (p : Path) (a : Nat) (v : W32) : (d.regEvent p a v).idx = d.idx := Dev.note_idx d _
@[simp] theorem Dev.regEvent_cm (d : Dev) (p : Path) (a : Nat) (v : W32) : (d.regEvent p a v).cm = d.cm := Dev.note_cm d _
@[simp] theorem Dev.regEvent_cx (d : Dev) (p : Path) (a : Nat) (v : W32) : (d.regEvent p a v).cx = d.cx := Dev.note_cx d _
@[simp] theorem Dev.regEvent_fm (d : Dev) (p : Path) (a : Nat) (v : W32) : (d.regEvent p a v).fm = d.fm := Dev.note_fm d _
@[simp] theorem Dev.regEvent_sh (d : Dev) (p : Path) (a : Nat) (v : W32) : (d.regEvent p a v).sh = d.sh := Dev.note_sh d _
@[simp] theorem Dev.regEvent_vol (d : Dev) (p : Path) (a : Nat) (v : W32) : (d.regEvent p a v).vol = d.vol := Dev.note_vol d _
@[simp] theorem Dev.regEvent_links (d : Dev) (p : Path) (a : Nat) (v : W32) : (d.regEvent p a v).links = d.links := Dev.note_links d _
@[simp] theorem Dev.regEvent_tc (d : Dev) (p : Path) (a : Nat) (v : W32) : (d.regEvent p a v).tc = d.tc := Dev.note_tc d _
@[simp] theorem Dev.regEvent_mi (d : Dev) (p : Path) (a : Nat) (v : W32) : (d.regEvent p a v).mi = d.mi := Dev.note_mi d _
@[simp] theorem Dev.regEvent_hk (d : Dev) (p : Path) (a : Nat) (v : W32) : (d.regEvent p a v).hk = d.hk := Dev.note_hk d _
@[simp] theorem Dev.regEvent_cs (d : Dev) (p : Path) (a : Nat) (v : W32) : (d.regEvent p a v).cs = d.cs := Dev.note_cs d _
@[simp] theorem Dev.regEvent_fu (d : Dev) (p : Path) (a : Nat) (v : W32) : (d.regEvent p a v).fu = d.fu := Dev.note_fu d _
@[simp] theorem Dev.regEvent_en (d : Dev) (p : Path) (a : Nat) (v : W32) : (d.regEvent p a v).en = d.en := Dev.note_en d _
@[simp] theorem Dev.regEvent_sn (d : Dev) (p : Path) (a : Nat) (v : W32) : (d.regEvent p a v).sn = d.sn := Dev.note_sn d _
@[simp] theorem Dev.regEvent_boot (d : Dev) (p : Path) (a : Nat) (v : W32) : (d.regEvent p a v).boot = d.boot := Dev.note_boot d _
@[simp] theorem Dev.regEvent_pins (d : Dev) (p : Path) (a : Nat) (v : W32) : (d.regEvent p a v).pins = d.pins := Dev.note_pins d _

@[simp] theorem Dev.sendWay_clk (d : Dev) (k : MsgKind) (o m : Nat) (s : Stamp) (w : Bool) (b : List Byte) : (d.sendWay k o m s w b).clk = d.clk := by simp [Dev.sendWay]
@[simp] theorem Dev.sendWay_pa (d : Dev) (k : MsgKind) (o m : Nat) (s : Stamp) (w : Bool) (b : List Byte) : (d.sendWay k o m s w b).pa = d.pa := by simp [Dev.sendWay]
@[simp] theorem Dev.sendWay_pb (d : Dev) (k : MsgKind) (o m : Nat) (s : Stamp) (w : Bool) (b : List Byte) : (d.sendWay k o m s w b).pb = d.pb := by simp [Dev.sendWay]
@[simp] theorem Dev.sendWay_hostA (d : Dev) (k : MsgKind) (o m : Nat) (s : Stamp) (w : Bool) (b : List Byte) : (d.sendWay k o m s w b).hostA = d.hostA := by simp [Dev.sendWay]
@[simp] theorem Dev.sendWay_hostB (d : Dev) (k : MsgKind) (o m : Nat) (s : Stamp) (w : Bool) (b : List Byte) : (d.sendWay k o m s w b).hostB = d.hostB := by simp [Dev.sendWay]
@[simp] theorem Dev.sendWay_hostR (d : Dev) (k : MsgKind) (o m : Nat) (s : Stamp) (w : Bool) (b : List Byte) : (d.sendWay k o m s w b).hostR = d.hostR := by simp [Dev.sendWay]
@[simp] theorem Dev.sendWay_pairs (d : Dev) (k : MsgKind) (o m : Nat) (s : Stamp) (w : Bool) (b : List Byte) : (d.sendWay k o m s w b).pairs = d.pairs := by simp [Dev.sendWay]
@[simp] theorem Dev.sendWay_arb (d : Dev) (k : MsgKind) (o m : Nat) (s : Stamp) (w : Bool) (b : List Byte) : (d.sendWay k o m s w b).arb = d.arb := by simp [Dev.sendWay]
@[simp] theorem Dev.sendWay_cmds (d : Dev) (k : MsgKind) (o m : Nat) (s : Stamp) (w : Bool) (b : List Byte) : (d.sendWay k o m s w b).cmds = d.cmds := by simp [Dev.sendWay]
@[simp] theorem Dev.sendWay_notices (d : Dev) (k : MsgKind) (o m : Nat) (s : Stamp) (w : Bool) (b : List Byte) : (d.sendWay k o m s w b).notices = d.notices := by simp [Dev.sendWay]
@[simp] theorem Dev.sendWay_regs (d : Dev) (k : MsgKind) (o m : Nat) (s : Stamp) (w : Bool) (b : List Byte) : (d.sendWay k o m s w b).regs = d.regs := by simp [Dev.sendWay]
@[simp] theorem Dev.sendWay_w1c (d : Dev) (k : MsgKind) (o m : Nat) (s : Stamp) (w : Bool) (b : List Byte) : (d.sendWay k o m s w b).w1c = d.w1c := by simp [Dev.sendWay]
@[simp] theorem Dev.sendWay_shadow (d : Dev) (k : MsgKind) (o m : Nat) (s : Stamp) (w : Bool) (b : List Byte) : (d.sendWay k o m s w b).shadow = d.shadow := by simp [Dev.sendWay]
@[simp] theorem Dev.sendWay_ctxs (d : Dev) (k : MsgKind) (o m : Nat) (s : Stamp) (w : Bool) (b : List Byte) : (d.sendWay k o m s w b).ctxs = d.ctxs := by simp [Dev.sendWay]
@[simp] theorem Dev.sendWay_engines (d : Dev) (k : MsgKind) (o m : Nat) (s : Stamp) (w : Bool) (b : List Byte) : (d.sendWay k o m s w b).engines = d.engines := by simp [Dev.sendWay]
@[simp] theorem Dev.sendWay_mode (d : Dev) (k : MsgKind) (o m : Nat) (s : Stamp) (w : Bool) (b : List Byte) : (d.sendWay k o m s w b).mode = d.mode := by simp [Dev.sendWay]
@[simp] theorem Dev.sendWay_pools (d : Dev) (k : MsgKind) (o m : Nat) (s : Stamp) (w : Bool) (b : List Byte) : (d.sendWay k o m s w b).pools = d.pools := by simp [Dev.sendWay]
@[simp] theorem Dev.sendWay_idx (d : Dev) (k : MsgKind) (o m : Nat) (s : Stamp) (w : Bool) (b : List Byte) : (d.sendWay k o m s w b).idx = d.idx := by simp [Dev.sendWay]
@[simp] theorem Dev.sendWay_cm (d : Dev) (k : MsgKind) (o m : Nat) (s : Stamp) (w : Bool) (b : List Byte) : (d.sendWay k o m s w b).cm = d.cm := by simp [Dev.sendWay]
@[simp] theorem Dev.sendWay_cx (d : Dev) (k : MsgKind) (o m : Nat) (s : Stamp) (w : Bool) (b : List Byte) : (d.sendWay k o m s w b).cx = d.cx := by simp [Dev.sendWay]
@[simp] theorem Dev.sendWay_fm (d : Dev) (k : MsgKind) (o m : Nat) (s : Stamp) (w : Bool) (b : List Byte) : (d.sendWay k o m s w b).fm = d.fm := by simp [Dev.sendWay]
@[simp] theorem Dev.sendWay_sh (d : Dev) (k : MsgKind) (o m : Nat) (s : Stamp) (w : Bool) (b : List Byte) : (d.sendWay k o m s w b).sh = d.sh := by simp [Dev.sendWay]
@[simp] theorem Dev.sendWay_vol (d : Dev) (k : MsgKind) (o m : Nat) (s : Stamp) (w : Bool) (b : List Byte) : (d.sendWay k o m s w b).vol = d.vol := by simp [Dev.sendWay]
@[simp] theorem Dev.sendWay_links (d : Dev) (k : MsgKind) (o m : Nat) (s : Stamp) (w : Bool) (b : List Byte) : (d.sendWay k o m s w b).links = d.links := by simp [Dev.sendWay]
@[simp] theorem Dev.sendWay_tc (d : Dev) (k : MsgKind) (o m : Nat) (s : Stamp) (w : Bool) (b : List Byte) : (d.sendWay k o m s w b).tc = d.tc := by simp [Dev.sendWay]
@[simp] theorem Dev.sendWay_er (d : Dev) (k : MsgKind) (o m : Nat) (s : Stamp) (w : Bool) (b : List Byte) : (d.sendWay k o m s w b).er = d.er := by simp [Dev.sendWay]
@[simp] theorem Dev.sendWay_mi (d : Dev) (k : MsgKind) (o m : Nat) (s : Stamp) (w : Bool) (b : List Byte) : (d.sendWay k o m s w b).mi = d.mi := by simp [Dev.sendWay]
@[simp] theorem Dev.sendWay_hk (d : Dev) (k : MsgKind) (o m : Nat) (s : Stamp) (w : Bool) (b : List Byte) : (d.sendWay k o m s w b).hk = d.hk := by simp [Dev.sendWay]
@[simp] theorem Dev.sendWay_fu (d : Dev) (k : MsgKind) (o m : Nat) (s : Stamp) (w : Bool) (b : List Byte) : (d.sendWay k o m s w b).fu = d.fu := by simp [Dev.sendWay]
@[simp] theorem Dev.sendWay_en (d : Dev) (k : MsgKind) (o m : Nat) (s : Stamp) (w : Bool) (b : List Byte) : (d.sendWay k o m s w b).en = d.en := by simp [Dev.sendWay]
@[simp] theorem Dev.sendWay_sn (d : Dev) (k : MsgKind) (o m : Nat) (s : Stamp) (w : Bool) (b : List Byte) : (d.sendWay k o m s w b).sn = d.sn := by simp [Dev.sendWay]
@[simp] theorem Dev.sendWay_boot (d : Dev) (k : MsgKind) (o m : Nat) (s : Stamp) (w : Bool) (b : List Byte) : (d.sendWay k o m s w b).boot = d.boot := by simp [Dev.sendWay]
@[simp] theorem Dev.sendWay_pins (d : Dev) (k : MsgKind) (o m : Nat) (s : Stamp) (w : Bool) (b : List Byte) : (d.sendWay k o m s w b).pins = d.pins := by simp [Dev.sendWay]
@[simp] theorem Dev.sendWay_draws (d : Dev) (k : MsgKind) (o m : Nat) (s : Stamp) (w : Bool) (b : List Byte) : (d.sendWay k o m s w b).draws = d.draws := by simp [Dev.sendWay]

@[simp] theorem Dev.send_clk (d : Dev) (k : MsgKind) (m : Nat) (s : Stamp) (b : List Byte) : (d.send k m s b).clk = d.clk := by unfold Dev.send; split <;> simp
@[simp] theorem Dev.send_pa (d : Dev) (k : MsgKind) (m : Nat) (s : Stamp) (b : List Byte) : (d.send k m s b).pa = d.pa := by unfold Dev.send; split <;> simp
@[simp] theorem Dev.send_pb (d : Dev) (k : MsgKind) (m : Nat) (s : Stamp) (b : List Byte) : (d.send k m s b).pb = d.pb := by unfold Dev.send; split <;> simp
@[simp] theorem Dev.send_hostA (d : Dev) (k : MsgKind) (m : Nat) (s : Stamp) (b : List Byte) : (d.send k m s b).hostA = d.hostA := by unfold Dev.send; split <;> simp
@[simp] theorem Dev.send_hostB (d : Dev) (k : MsgKind) (m : Nat) (s : Stamp) (b : List Byte) : (d.send k m s b).hostB = d.hostB := by unfold Dev.send; split <;> simp
@[simp] theorem Dev.send_hostR (d : Dev) (k : MsgKind) (m : Nat) (s : Stamp) (b : List Byte) : (d.send k m s b).hostR = d.hostR := by unfold Dev.send; split <;> simp
@[simp] theorem Dev.send_pairs (d : Dev) (k : MsgKind) (m : Nat) (s : Stamp) (b : List Byte) : (d.send k m s b).pairs = d.pairs := by unfold Dev.send; split <;> simp
@[simp] theorem Dev.send_arb (d : Dev) (k : MsgKind) (m : Nat) (s : Stamp) (b : List Byte) : (d.send k m s b).arb = d.arb := by unfold Dev.send; split <;> simp
@[simp] theorem Dev.send_cmds (d : Dev) (k : MsgKind) (m : Nat) (s : Stamp) (b : List Byte) : (d.send k m s b).cmds = d.cmds := by unfold Dev.send; split <;> simp
@[simp] theorem Dev.send_notices (d : Dev) (k : MsgKind) (m : Nat) (s : Stamp) (b : List Byte) : (d.send k m s b).notices = d.notices := by unfold Dev.send; split <;> simp
@[simp] theorem Dev.send_regs (d : Dev) (k : MsgKind) (m : Nat) (s : Stamp) (b : List Byte) : (d.send k m s b).regs = d.regs := by unfold Dev.send; split <;> simp
@[simp] theorem Dev.send_w1c (d : Dev) (k : MsgKind) (m : Nat) (s : Stamp) (b : List Byte) : (d.send k m s b).w1c = d.w1c := by unfold Dev.send; split <;> simp
@[simp] theorem Dev.send_shadow (d : Dev) (k : MsgKind) (m : Nat) (s : Stamp) (b : List Byte) : (d.send k m s b).shadow = d.shadow := by unfold Dev.send; split <;> simp
@[simp] theorem Dev.send_ctxs (d : Dev) (k : MsgKind) (m : Nat) (s : Stamp) (b : List Byte) : (d.send k m s b).ctxs = d.ctxs := by unfold Dev.send; split <;> simp
@[simp] theorem Dev.send_engines (d : Dev) (k : MsgKind) (m : Nat) (s : Stamp) (b : List Byte) : (d.send k m s b).engines = d.engines := by unfold Dev.send; split <;> simp
@[simp] theorem Dev.send_mode (d : Dev) (k : MsgKind) (m : Nat) (s : Stamp) (b : List Byte) : (d.send k m s b).mode = d.mode := by unfold Dev.send; split <;> simp
@[simp] theorem Dev.send_pools (d : Dev) (k : MsgKind) (m : Nat) (s : Stamp) (b : List Byte) : (d.send k m s b).pools = d.pools := by unfold Dev.send; split <;> simp
@[simp] theorem Dev.send_idx (d : Dev) (k : MsgKind) (m : Nat) (s : Stamp) (b : List Byte) : (d.send k m s b).idx = d.idx := by unfold Dev.send; split <;> simp
@[simp] theorem Dev.send_cm (d : Dev) (k : MsgKind) (m : Nat) (s : Stamp) (b : List Byte) : (d.send k m s b).cm = d.cm := by unfold Dev.send; split <;> simp
@[simp] theorem Dev.send_cx (d : Dev) (k : MsgKind) (m : Nat) (s : Stamp) (b : List Byte) : (d.send k m s b).cx = d.cx := by unfold Dev.send; split <;> simp
@[simp] theorem Dev.send_fm (d : Dev) (k : MsgKind) (m : Nat) (s : Stamp) (b : List Byte) : (d.send k m s b).fm = d.fm := by unfold Dev.send; split <;> simp
@[simp] theorem Dev.send_sh (d : Dev) (k : MsgKind) (m : Nat) (s : Stamp) (b : List Byte) : (d.send k m s b).sh = d.sh := by unfold Dev.send; split <;> simp
@[simp] theorem Dev.send_vol (d : Dev) (k : MsgKind) (m : Nat) (s : Stamp) (b : List Byte) : (d.send k m s b).vol = d.vol := by unfold Dev.send; split <;> simp
@[simp] theorem Dev.send_links (d : Dev) (k : MsgKind) (m : Nat) (s : Stamp) (b : List Byte) : (d.send k m s b).links = d.links := by unfold Dev.send; split <;> simp
@[simp] theorem Dev.send_tc (d : Dev) (k : MsgKind) (m : Nat) (s : Stamp) (b : List Byte) : (d.send k m s b).tc = d.tc := by unfold Dev.send; split <;> simp
@[simp] theorem Dev.send_er (d : Dev) (k : MsgKind) (m : Nat) (s : Stamp) (b : List Byte) : (d.send k m s b).er = d.er := by unfold Dev.send; split <;> simp
@[simp] theorem Dev.send_mi (d : Dev) (k : MsgKind) (m : Nat) (s : Stamp) (b : List Byte) : (d.send k m s b).mi = d.mi := by unfold Dev.send; split <;> simp
@[simp] theorem Dev.send_hk (d : Dev) (k : MsgKind) (m : Nat) (s : Stamp) (b : List Byte) : (d.send k m s b).hk = d.hk := by unfold Dev.send; split <;> simp
@[simp] theorem Dev.send_fu (d : Dev) (k : MsgKind) (m : Nat) (s : Stamp) (b : List Byte) : (d.send k m s b).fu = d.fu := by unfold Dev.send; split <;> simp
@[simp] theorem Dev.send_en (d : Dev) (k : MsgKind) (m : Nat) (s : Stamp) (b : List Byte) : (d.send k m s b).en = d.en := by unfold Dev.send; split <;> simp
@[simp] theorem Dev.send_sn (d : Dev) (k : MsgKind) (m : Nat) (s : Stamp) (b : List Byte) : (d.send k m s b).sn = d.sn := by unfold Dev.send; split <;> simp
@[simp] theorem Dev.send_boot (d : Dev) (k : MsgKind) (m : Nat) (s : Stamp) (b : List Byte) : (d.send k m s b).boot = d.boot := by unfold Dev.send; split <;> simp
@[simp] theorem Dev.send_pins (d : Dev) (k : MsgKind) (m : Nat) (s : Stamp) (b : List Byte) : (d.send k m s b).pins = d.pins := by unfold Dev.send; split <;> simp
@[simp] theorem Dev.send_draws (d : Dev) (k : MsgKind) (m : Nat) (s : Stamp) (b : List Byte) : (d.send k m s b).draws = d.draws := by unfold Dev.send; split <;> simp

@[simp] theorem Dev.failRecord_pa (d : Dev) (c : Nat) (s : W16) (h : Bool) (x y : W64) (k : Option Nat) (z : W32) : (d.failRecord c s h x y k z).pa = d.pa := by
  unfold Dev.failRecord
  split
  · rfl
  · split
    · rfl
    · exact Dev.note_pa d _
@[simp] theorem Dev.failRecord_pb (d : Dev) (c : Nat) (s : W16) (h : Bool) (x y : W64) (k : Option Nat) (z : W32) : (d.failRecord c s h x y k z).pb = d.pb := by
  unfold Dev.failRecord
  split
  · rfl
  · split
    · rfl
    · exact Dev.note_pb d _
@[simp] theorem Dev.failRecord_hostA (d : Dev) (c : Nat) (s : W16) (h : Bool) (x y : W64) (k : Option Nat) (z : W32) : (d.failRecord c s h x y k z).hostA = d.hostA := by
  unfold Dev.failRecord
  split
  · rfl
  · split
    · rfl
    · exact Dev.note_hostA d _
@[simp] theorem Dev.failRecord_hostB (d : Dev) (c : Nat) (s : W16) (h : Bool) (x y : W64) (k : Option Nat) (z : W32) : (d.failRecord c s h x y k z).hostB = d.hostB := by
  unfold Dev.failRecord
  split
  · rfl
  · split
    · rfl
    · exact Dev.note_hostB d _
@[simp] theorem Dev.failRecord_hostR (d : Dev) (c : Nat) (s : W16) (h : Bool) (x y : W64) (k : Option Nat) (z : W32) : (d.failRecord c s h x y k z).hostR = d.hostR := by
  unfold Dev.failRecord
  split
  · rfl
  · split
    · rfl
    · exact Dev.note_hostR d _
@[simp] theorem Dev.failRecord_pairs (d : Dev) (c : Nat) (s : W16) (h : Bool) (x y : W64) (k : Option Nat) (z : W32) : (d.failRecord c s h x y k z).pairs = d.pairs := by
  unfold Dev.failRecord
  split
  · rfl
  · split
    · rfl
    · exact Dev.note_pairs d _
@[simp] theorem Dev.failRecord_arb (d : Dev) (c : Nat) (s : W16) (h : Bool) (x y : W64) (k : Option Nat) (z : W32) : (d.failRecord c s h x y k z).arb = d.arb := by
  unfold Dev.failRecord
  split
  · rfl
  · split
    · rfl
    · exact Dev.note_arb d _
@[simp] theorem Dev.failRecord_cmds (d : Dev) (c : Nat) (s : W16) (h : Bool) (x y : W64) (k : Option Nat) (z : W32) : (d.failRecord c s h x y k z).cmds = d.cmds := by
  unfold Dev.failRecord
  split
  · rfl
  · split
    · rfl
    · exact Dev.note_cmds d _
@[simp] theorem Dev.failRecord_notices (d : Dev) (c : Nat) (s : W16) (h : Bool) (x y : W64) (k : Option Nat) (z : W32) : (d.failRecord c s h x y k z).notices = d.notices := by
  unfold Dev.failRecord
  split
  · rfl
  · split
    · rfl
    · exact Dev.note_notices d _
@[simp] theorem Dev.failRecord_regs (d : Dev) (c : Nat) (s : W16) (h : Bool) (x y : W64) (k : Option Nat) (z : W32) : (d.failRecord c s h x y k z).regs = d.regs := by
  unfold Dev.failRecord
  split
  · rfl
  · split
    · rfl
    · exact Dev.note_regs d _
@[simp] theorem Dev.failRecord_cnts (d : Dev) (c : Nat) (s : W16) (h : Bool) (x y : W64) (k : Option Nat) (z : W32) : (d.failRecord c s h x y k z).cnts = d.cnts := by
  unfold Dev.failRecord
  split
  · rfl
  · split
    · rfl
    · exact Dev.note_cnts d _
@[simp] theorem Dev.failRecord_shadow (d : Dev) (c : Nat) (s : W16) (h : Bool) (x y : W64) (k : Option Nat) (z : W32) : (d.failRecord c s h x y k z).shadow = d.shadow := by
  unfold Dev.failRecord
  split
  · rfl
  · split
    · rfl
    · exact Dev.note_shadow d _
@[simp] theorem Dev.failRecord_ctxs (d : Dev) (c : Nat) (s : W16) (h : Bool) (x y : W64) (k : Option Nat) (z : W32) : (d.failRecord c s h x y k z).ctxs = d.ctxs := by
  unfold Dev.failRecord
  split
  · rfl
  · split
    · rfl
    · exact Dev.note_ctxs d _
@[simp] theorem Dev.failRecord_engines (d : Dev) (c : Nat) (s : W16) (h : Bool) (x y : W64) (k : Option Nat) (z : W32) : (d.failRecord c s h x y k z).engines = d.engines := by
  unfold Dev.failRecord
  split
  · rfl
  · split
    · rfl
    · exact Dev.note_engines d _
@[simp] theorem Dev.failRecord_mode (d : Dev) (c : Nat) (s : W16) (h : Bool) (x y : W64) (k : Option Nat) (z : W32) : (d.failRecord c s h x y k z).mode = d.mode := by
  unfold Dev.failRecord
  split
  · rfl
  · split
    · rfl
    · exact Dev.note_mode d _
@[simp] theorem Dev.failRecord_pools (d : Dev) (c : Nat) (s : W16) (h : Bool) (x y : W64) (k : Option Nat) (z : W32) : (d.failRecord c s h x y k z).pools = d.pools := by
  unfold Dev.failRecord
  split
  · rfl
  · split
    · rfl
    · exact Dev.note_pools d _
@[simp] theorem Dev.failRecord_idx (d : Dev) (c : Nat) (s : W16) (h : Bool) (x y : W64) (k : Option Nat) (z : W32) : (d.failRecord c s h x y k z).idx = d.idx := by
  unfold Dev.failRecord
  split
  · rfl
  · split
    · rfl
    · exact Dev.note_idx d _
@[simp] theorem Dev.failRecord_cm (d : Dev) (c : Nat) (s : W16) (h : Bool) (x y : W64) (k : Option Nat) (z : W32) : (d.failRecord c s h x y k z).cm = d.cm := by
  unfold Dev.failRecord
  split
  · rfl
  · split
    · rfl
    · exact Dev.note_cm d _
@[simp] theorem Dev.failRecord_cx (d : Dev) (c : Nat) (s : W16) (h : Bool) (x y : W64) (k : Option Nat) (z : W32) : (d.failRecord c s h x y k z).cx = d.cx := by
  unfold Dev.failRecord
  split
  · rfl
  · split
    · rfl
    · exact Dev.note_cx d _
@[simp] theorem Dev.failRecord_fm (d : Dev) (c : Nat) (s : W16) (h : Bool) (x y : W64) (k : Option Nat) (z : W32) : (d.failRecord c s h x y k z).fm = d.fm := by
  unfold Dev.failRecord
  split
  · rfl
  · split
    · rfl
    · exact Dev.note_fm d _
@[simp] theorem Dev.failRecord_sh (d : Dev) (c : Nat) (s : W16) (h : Bool) (x y : W64) (k : Option Nat) (z : W32) : (d.failRecord c s h x y k z).sh = d.sh := by
  unfold Dev.failRecord
  split
  · rfl
  · split
    · rfl
    · exact Dev.note_sh d _
@[simp] theorem Dev.failRecord_vol (d : Dev) (c : Nat) (s : W16) (h : Bool) (x y : W64) (k : Option Nat) (z : W32) : (d.failRecord c s h x y k z).vol = d.vol := by
  unfold Dev.failRecord
  split
  · rfl
  · split
    · rfl
    · exact Dev.note_vol d _
@[simp] theorem Dev.failRecord_links (d : Dev) (c : Nat) (s : W16) (h : Bool) (x y : W64) (k : Option Nat) (z : W32) : (d.failRecord c s h x y k z).links = d.links := by
  unfold Dev.failRecord
  split
  · rfl
  · split
    · rfl
    · exact Dev.note_links d _
@[simp] theorem Dev.failRecord_tc (d : Dev) (c : Nat) (s : W16) (h : Bool) (x y : W64) (k : Option Nat) (z : W32) : (d.failRecord c s h x y k z).tc = d.tc := by
  unfold Dev.failRecord
  split
  · rfl
  · split
    · rfl
    · exact Dev.note_tc d _
@[simp] theorem Dev.failRecord_mi (d : Dev) (c : Nat) (s : W16) (h : Bool) (x y : W64) (k : Option Nat) (z : W32) : (d.failRecord c s h x y k z).mi = d.mi := by
  unfold Dev.failRecord
  split
  · rfl
  · split
    · rfl
    · exact Dev.note_mi d _
@[simp] theorem Dev.failRecord_hk (d : Dev) (c : Nat) (s : W16) (h : Bool) (x y : W64) (k : Option Nat) (z : W32) : (d.failRecord c s h x y k z).hk = d.hk := by
  unfold Dev.failRecord
  split
  · rfl
  · split
    · rfl
    · exact Dev.note_hk d _
@[simp] theorem Dev.failRecord_cs (d : Dev) (c : Nat) (s : W16) (h : Bool) (x y : W64) (k : Option Nat) (z : W32) : (d.failRecord c s h x y k z).cs = d.cs := by
  unfold Dev.failRecord
  split
  · rfl
  · split
    · rfl
    · exact Dev.note_cs d _
@[simp] theorem Dev.failRecord_fu (d : Dev) (c : Nat) (s : W16) (h : Bool) (x y : W64) (k : Option Nat) (z : W32) : (d.failRecord c s h x y k z).fu = d.fu := by
  unfold Dev.failRecord
  split
  · rfl
  · split
    · rfl
    · exact Dev.note_fu d _
@[simp] theorem Dev.failRecord_en (d : Dev) (c : Nat) (s : W16) (h : Bool) (x y : W64) (k : Option Nat) (z : W32) : (d.failRecord c s h x y k z).en = d.en := by
  unfold Dev.failRecord
  split
  · rfl
  · split
    · rfl
    · exact Dev.note_en d _
@[simp] theorem Dev.failRecord_sn (d : Dev) (c : Nat) (s : W16) (h : Bool) (x y : W64) (k : Option Nat) (z : W32) : (d.failRecord c s h x y k z).sn = d.sn := by
  unfold Dev.failRecord
  split
  · rfl
  · split
    · rfl
    · exact Dev.note_sn d _
@[simp] theorem Dev.failRecord_boot (d : Dev) (c : Nat) (s : W16) (h : Bool) (x y : W64) (k : Option Nat) (z : W32) : (d.failRecord c s h x y k z).boot = d.boot := by
  unfold Dev.failRecord
  split
  · rfl
  · split
    · rfl
    · exact Dev.note_boot d _
@[simp] theorem Dev.failRecord_pins (d : Dev) (c : Nat) (s : W16) (h : Bool) (x y : W64) (k : Option Nat) (z : W32) : (d.failRecord c s h x y k z).pins = d.pins := by
  unfold Dev.failRecord
  split
  · rfl
  · split
    · rfl
    · exact Dev.note_pins d _

@[simp] theorem Dev.fence_clk (d : Dev) (u : UnitId) : (d.fence u).clk = d.clk := by unfold Dev.fence; split <;> simp
@[simp] theorem Dev.fence_pa (d : Dev) (u : UnitId) : (d.fence u).pa = d.pa := by unfold Dev.fence; split <;> simp
@[simp] theorem Dev.fence_pb (d : Dev) (u : UnitId) : (d.fence u).pb = d.pb := by unfold Dev.fence; split <;> simp
@[simp] theorem Dev.fence_hostA (d : Dev) (u : UnitId) : (d.fence u).hostA = d.hostA := by unfold Dev.fence; split <;> simp
@[simp] theorem Dev.fence_hostB (d : Dev) (u : UnitId) : (d.fence u).hostB = d.hostB := by unfold Dev.fence; split <;> simp
@[simp] theorem Dev.fence_hostR (d : Dev) (u : UnitId) : (d.fence u).hostR = d.hostR := by unfold Dev.fence; split <;> simp
@[simp] theorem Dev.fence_pairs (d : Dev) (u : UnitId) : (d.fence u).pairs = d.pairs := by unfold Dev.fence; split <;> simp
@[simp] theorem Dev.fence_arb (d : Dev) (u : UnitId) : (d.fence u).arb = d.arb := by unfold Dev.fence; split <;> simp
@[simp] theorem Dev.fence_cmds (d : Dev) (u : UnitId) : (d.fence u).cmds = d.cmds := by unfold Dev.fence; split <;> simp
@[simp] theorem Dev.fence_notices (d : Dev) (u : UnitId) : (d.fence u).notices = d.notices := by unfold Dev.fence; split <;> simp
@[simp] theorem Dev.fence_regs (d : Dev) (u : UnitId) : (d.fence u).regs = d.regs := by unfold Dev.fence; split <;> simp
@[simp] theorem Dev.fence_w1c (d : Dev) (u : UnitId) : (d.fence u).w1c = d.w1c := by unfold Dev.fence; split <;> simp
@[simp] theorem Dev.fence_cnts (d : Dev) (u : UnitId) : (d.fence u).cnts = d.cnts := by unfold Dev.fence; split <;> simp
@[simp] theorem Dev.fence_shadow (d : Dev) (u : UnitId) : (d.fence u).shadow = d.shadow := by unfold Dev.fence; split <;> simp
@[simp] theorem Dev.fence_ctxs (d : Dev) (u : UnitId) : (d.fence u).ctxs = d.ctxs := by unfold Dev.fence; split <;> simp
@[simp] theorem Dev.fence_engines (d : Dev) (u : UnitId) : (d.fence u).engines = d.engines := by unfold Dev.fence; split <;> simp
@[simp] theorem Dev.fence_mode (d : Dev) (u : UnitId) : (d.fence u).mode = d.mode := by unfold Dev.fence; split <;> simp
@[simp] theorem Dev.fence_pools (d : Dev) (u : UnitId) : (d.fence u).pools = d.pools := by unfold Dev.fence; split <;> simp
@[simp] theorem Dev.fence_idx (d : Dev) (u : UnitId) : (d.fence u).idx = d.idx := by unfold Dev.fence; split <;> simp
@[simp] theorem Dev.fence_cm (d : Dev) (u : UnitId) : (d.fence u).cm = d.cm := by unfold Dev.fence; split <;> simp
@[simp] theorem Dev.fence_cx (d : Dev) (u : UnitId) : (d.fence u).cx = d.cx := by unfold Dev.fence; split <;> simp
@[simp] theorem Dev.fence_fm (d : Dev) (u : UnitId) : (d.fence u).fm = d.fm := by unfold Dev.fence; split <;> simp
@[simp] theorem Dev.fence_sh (d : Dev) (u : UnitId) : (d.fence u).sh = d.sh := by unfold Dev.fence; split <;> simp
@[simp] theorem Dev.fence_vol (d : Dev) (u : UnitId) : (d.fence u).vol = d.vol := by unfold Dev.fence; split <;> simp
@[simp] theorem Dev.fence_links (d : Dev) (u : UnitId) : (d.fence u).links = d.links := by unfold Dev.fence; split <;> simp
@[simp] theorem Dev.fence_tc (d : Dev) (u : UnitId) : (d.fence u).tc = d.tc := by unfold Dev.fence; split <;> simp
@[simp] theorem Dev.fence_mi (d : Dev) (u : UnitId) : (d.fence u).mi = d.mi := by unfold Dev.fence; split <;> simp
@[simp] theorem Dev.fence_hk (d : Dev) (u : UnitId) : (d.fence u).hk = d.hk := by unfold Dev.fence; split <;> simp
@[simp] theorem Dev.fence_cs (d : Dev) (u : UnitId) : (d.fence u).cs = d.cs := by unfold Dev.fence; split <;> simp
@[simp] theorem Dev.fence_fu (d : Dev) (u : UnitId) : (d.fence u).fu = d.fu := by unfold Dev.fence; split <;> simp
@[simp] theorem Dev.fence_en (d : Dev) (u : UnitId) : (d.fence u).en = d.en := by unfold Dev.fence; split <;> simp
@[simp] theorem Dev.fence_sn (d : Dev) (u : UnitId) : (d.fence u).sn = d.sn := by unfold Dev.fence; split <;> simp
@[simp] theorem Dev.fence_boot (d : Dev) (u : UnitId) : (d.fence u).boot = d.boot := by unfold Dev.fence; split <;> simp
@[simp] theorem Dev.fence_pins (d : Dev) (u : UnitId) : (d.fence u).pins = d.pins := by unfold Dev.fence; split <;> simp
@[simp] theorem Dev.fence_draws (d : Dev) (u : UnitId) : (d.fence u).draws = d.draws := by unfold Dev.fence; split <;> simp

@[simp] theorem Dev.ask_pa (d : Dev) (c a n : Nat) : (d.ask c a n).pa = d.pa := by unfold Dev.ask; split <;> simp
@[simp] theorem Dev.ask_pb (d : Dev) (c a n : Nat) : (d.ask c a n).pb = d.pb := by unfold Dev.ask; split <;> simp
@[simp] theorem Dev.ask_hostA (d : Dev) (c a n : Nat) : (d.ask c a n).hostA = d.hostA := by unfold Dev.ask; split <;> simp
@[simp] theorem Dev.ask_hostB (d : Dev) (c a n : Nat) : (d.ask c a n).hostB = d.hostB := by unfold Dev.ask; split <;> simp
@[simp] theorem Dev.ask_hostR (d : Dev) (c a n : Nat) : (d.ask c a n).hostR = d.hostR := by unfold Dev.ask; split <;> simp
@[simp] theorem Dev.ask_pairs (d : Dev) (c a n : Nat) : (d.ask c a n).pairs = d.pairs := by unfold Dev.ask; split <;> simp
@[simp] theorem Dev.ask_arb (d : Dev) (c a n : Nat) : (d.ask c a n).arb = d.arb := by unfold Dev.ask; split <;> simp
@[simp] theorem Dev.ask_cmds (d : Dev) (c a n : Nat) : (d.ask c a n).cmds = d.cmds := by unfold Dev.ask; split <;> simp
@[simp] theorem Dev.ask_notices (d : Dev) (c a n : Nat) : (d.ask c a n).notices = d.notices := by unfold Dev.ask; split <;> simp
@[simp] theorem Dev.ask_regs (d : Dev) (c a n : Nat) : (d.ask c a n).regs = d.regs := by unfold Dev.ask; split <;> simp
@[simp] theorem Dev.ask_shadow (d : Dev) (c a n : Nat) : (d.ask c a n).shadow = d.shadow := by unfold Dev.ask; split <;> simp
@[simp] theorem Dev.ask_ctxs (d : Dev) (c a n : Nat) : (d.ask c a n).ctxs = d.ctxs := by unfold Dev.ask; split <;> simp
@[simp] theorem Dev.ask_engines (d : Dev) (c a n : Nat) : (d.ask c a n).engines = d.engines := by unfold Dev.ask; split <;> simp
@[simp] theorem Dev.ask_mode (d : Dev) (c a n : Nat) : (d.ask c a n).mode = d.mode := by unfold Dev.ask; split <;> simp
@[simp] theorem Dev.ask_pools (d : Dev) (c a n : Nat) : (d.ask c a n).pools = d.pools := by unfold Dev.ask; split <;> simp
@[simp] theorem Dev.ask_idx (d : Dev) (c a n : Nat) : (d.ask c a n).idx = d.idx := by unfold Dev.ask; split <;> simp
@[simp] theorem Dev.ask_cm (d : Dev) (c a n : Nat) : (d.ask c a n).cm = d.cm := by unfold Dev.ask; split <;> simp
@[simp] theorem Dev.ask_cx (d : Dev) (c a n : Nat) : (d.ask c a n).cx = d.cx := by unfold Dev.ask; split <;> simp
@[simp] theorem Dev.ask_fm (d : Dev) (c a n : Nat) : (d.ask c a n).fm = d.fm := by unfold Dev.ask; split <;> simp
@[simp] theorem Dev.ask_sh (d : Dev) (c a n : Nat) : (d.ask c a n).sh = d.sh := by unfold Dev.ask; split <;> simp
@[simp] theorem Dev.ask_vol (d : Dev) (c a n : Nat) : (d.ask c a n).vol = d.vol := by unfold Dev.ask; split <;> simp
@[simp] theorem Dev.ask_links (d : Dev) (c a n : Nat) : (d.ask c a n).links = d.links := by unfold Dev.ask; split <;> simp
@[simp] theorem Dev.ask_tc (d : Dev) (c a n : Nat) : (d.ask c a n).tc = d.tc := by unfold Dev.ask; split <;> simp
@[simp] theorem Dev.ask_er (d : Dev) (c a n : Nat) : (d.ask c a n).er = d.er := by unfold Dev.ask; split <;> simp
@[simp] theorem Dev.ask_mi (d : Dev) (c a n : Nat) : (d.ask c a n).mi = d.mi := by unfold Dev.ask; split <;> simp
@[simp] theorem Dev.ask_hk (d : Dev) (c a n : Nat) : (d.ask c a n).hk = d.hk := by unfold Dev.ask; split <;> simp
@[simp] theorem Dev.ask_fu (d : Dev) (c a n : Nat) : (d.ask c a n).fu = d.fu := by unfold Dev.ask; split <;> simp
@[simp] theorem Dev.ask_en (d : Dev) (c a n : Nat) : (d.ask c a n).en = d.en := by unfold Dev.ask; split <;> simp
@[simp] theorem Dev.ask_sn (d : Dev) (c a n : Nat) : (d.ask c a n).sn = d.sn := by unfold Dev.ask; split <;> simp
@[simp] theorem Dev.ask_boot (d : Dev) (c a n : Nat) : (d.ask c a n).boot = d.boot := by unfold Dev.ask; split <;> simp
@[simp] theorem Dev.ask_pins (d : Dev) (c a n : Nat) : (d.ask c a n).pins = d.pins := by unfold Dev.ask; split <;> simp

end Sys2Proof.Machine
end

