-- ==== Sys2Proof/Laws/Guards.lean ====
section
/-! SUPPORT. What a guarded command answers: its effect where the guard holds, always a next state, never a change of the queue. -/

namespace Sys2Proof.Machine

theorem State.whenDev_of {s : State} {g : Dev → Bool} (f : Dev → Dev) (h : g s.dev = true) : s.whenDev g f = .next (s.onDev f) := by
  simp [State.whenDev, h]

theorem State.whenDev_not {s : State} {g : Dev → Bool} (f : Dev → Dev) (h : g s.dev = false) : s.whenDev g f = .next s := by
  simp [State.whenDev, h]

theorem State.live_of {s : State} (f : Dev → Dev) (h : s.dev.alive = true) : s.live f = .next (s.onDev f) := State.whenDev_of f h

theorem State.work_of {s : State} (f : Dev → Dev) (h : s.dev.working = true) : s.work f = .next (s.onDev f) := State.whenDev_of f h

theorem State.flow_of {s : State} (f : Dev → Dev) (h : s.dev.working = true) (hh : s.dev.er.halted = false) :
    s.flow f = .next (s.onDev f) := State.whenDev_of f (by simp [h, hh])

theorem State.insn_of {s : State} {c op : Nat} (f : Dev → Dev) (h : s.dev.working = true) (hi : s.dev.mayIssue c op = true) :
    s.insn c op f = .next (s.onDev (fun d => f (d.useTurn c))) := by
  simp [State.insn, State.work_of _ h, State.onDev, hi]

/-- A guarded command answers a next state and keeps the queue. -/
theorem State.whenDev_next (s : State) (g : Dev → Bool) (f : Dev → Dev) : ∃ d, s.whenDev g f = .next ⟨d, s.pending⟩ := by
  cases h : g s.dev
  · exact ⟨s.dev, State.whenDev_not f h⟩
  · exact ⟨f s.dev, State.whenDev_of f h⟩

theorem State.live_next (s : State) (f : Dev → Dev) : ∃ d, s.live f = .next ⟨d, s.pending⟩ := s.whenDev_next _ f
theorem State.work_next (s : State) (f : Dev → Dev) : ∃ d, s.work f = .next ⟨d, s.pending⟩ := s.whenDev_next _ f
theorem State.flow_next (s : State) (f : Dev → Dev) : ∃ d, s.flow f = .next ⟨d, s.pending⟩ := s.whenDev_next _ f
theorem State.always_next (s : State) (f : Dev → Dev) : ∃ d, s.always f = .next ⟨d, s.pending⟩ := ⟨f s.dev, rfl⟩
theorem State.insnMod_of {s : State} {c op m : Nat} (f : Dev → Dev) (h : s.dev.working = true) (hi : s.dev.mayIssue c op = true)
    (hm : s.dev.modIs c m = true) : s.insnMod c op m f = .next (s.onDev (fun d => f (d.useTurn c))) := by
  simp [State.insnMod, State.work_of _ h, State.onDev, hi, hm]

theorem State.insnMod_next (s : State) (c op m : Nat) (f : Dev → Dev) : ∃ d, s.insnMod c op m f = .next ⟨d, s.pending⟩ := s.work_next _
theorem State.insn_next (s : State) (c op : Nat) (f : Dev → Dev) : ∃ d, s.insn c op f = .next ⟨d, s.pending⟩ := s.work_next _
theorem State.write_next (s : State) (p : Path) (a : Nat) (v : Dev → W32) : ∃ d, s.write p a v = .next ⟨d, s.pending⟩ := s.whenDev_next _ _

end Sys2Proof.Machine
end

