-- ==== Sys2Proof/Laws/Memory.lean ====
section
/-! SUPPORT. Host memory as bytes: what a read gives after a write, and that every operation keeps the canonical form. -/

namespace Sys2Proof.Machine

/-- A byte outside the bytes written keeps its value. -/
theorem writeBytes_get_out (m : Table Byte 0) (bs : List Byte) (a k : Nat) (h : k < a ∨ a + bs.length ≤ k) :
    (writeBytes m a bs).get k = m.get k := by
  induction bs generalizing m a with
  | nil => rfl
  | cons b t ih =>
    simp only [writeBytes, List.length_cons] at *
    rw [ih (m.set a b) (a + 1) (by omega), Table.get_set_ne _ _ (by omega)]

/-- A byte written reads back. -/
theorem writeBytes_get_in (m : Table Byte 0) (bs : List Byte) (a i : Nat) (h : i < bs.length) :
    (writeBytes m a bs).get (a + i) = bs[i] := by
  induction bs generalizing m a i with
  | nil => simp at h
  | cons b t ih =>
    cases i with
    | zero => simp only [writeBytes]; rw [writeBytes_get_out _ _ _ _ (by omega)]; simp
    | succ i =>
      have := ih (m.set a b) (a + 1) i (by simpa using h)
      simpa [writeBytes, Nat.add_assoc, Nat.add_comm 1 i] using this

/-- The bytes written, read back from the same address. -/
theorem readBytes_writeBytes (m : Table Byte 0) (bs : List Byte) (a : Nat) : readBytes (writeBytes m a bs) a bs.length = bs := by
  induction bs generalizing m a with
  | nil => rfl
  | cons b t ih =>
    have h : (writeBytes (m.set a b) (a + 1) t).get a = b := by rw [writeBytes_get_out _ _ _ _ (by omega)]; simp
    simp [readBytes, writeBytes, h, ih]

theorem writeBytes_wf (m : Table Byte 0) (bs : List Byte) (a : Nat) (h : m.wf = true) : (writeBytes m a bs).wf = true := by
  induction bs generalizing m a with
  | nil => exact h
  | cons b t ih => exact ih _ _ (Table.wf_set h a b)

theorem placeCells_wf (m : Table Byte 0) (w : HostWrites) (h : m.wf = true) : (placeCells m w).wf = true := by
  induction w generalizing m with
  | nil => exact h
  | cons x t ih => exact ih _ (Table.wf_set h _ _)

theorem writeRanges_wf (m : Table Byte 0) (rs : List (Nat × Nat)) (bs : List Byte) (h : m.wf = true) : (writeRanges m rs bs).wf = true := by
  induction rs generalizing m bs with
  | nil => exact h
  | cons r t ih => exact ih _ _ (writeBytes_wf _ _ _ h)

/-- Little-endian bytes of a number give it back modulo their range. -/
theorem leNat_leBytes (n v : Nat) : leNat (leBytes n v) = v % 256 ^ n := by
  induction n generalizing v with
  | zero => simp [leBytes, leNat, Nat.mod_one]
  | succ n ih =>
    have h : v % 256 ^ (n + 1) = v % 256 + 256 * (v / 256 % 256 ^ n) := by rw [show 256 ^ (n + 1) = 256 * 256 ^ n from Nat.pow_succ', Nat.mod_mul]
    simp [leBytes, leNat, ih, h]

theorem leBytes_length (n v : Nat) : (leBytes n v).length = n := by
  induction n generalizing v with
  | zero => rfl
  | succ n ih => simp [leBytes, ih]

end Sys2Proof.Machine
end

