-- ==== Sys2Proof/WellFormed.lean ====
section
/-! DEFINITION. Which commands are well formed: every number names something the device has, and every byte string has the
length its kind needs. An ill-formed command names no event of the hardware. -/

namespace Sys2Proof

/-- Contexts 0 to 255 (03_ritriard_programs, The context). -/
def ctxOk (c : Nat) : Bool := decide (c < 256)
/-- Lanes 0 to 31 (01_architecture, domains 32 to 39). -/
def laneOk (n : Nat) : Bool := decide (n < 32)
/-- Head links 0 to 15 (01_architecture, domain 66). -/
def linkOk (t : Nat) : Bool := decide (t < 16)
/-- Slots 0 to 1,023 (R145). -/
def keySlotOk (s : Nat) : Bool := decide (s < 1024)
/-- Vectors 0 to 1,023 (R45). -/
def vecOk (v : Nat) : Bool := decide (v < 1024)
/-- Pairs 0 to 511 of a port (02_host_queues, Queue pairs). -/
def qidOk (q : Nat) : Bool := decide (q < 512)
/-- Engine clusters 0 to 3 (04_order_and_stamps). -/
def clusterOk (c : Nat) : Bool := decide (c < 4)
/-- Buffer words of the 256 GiB (R298). -/
def wordOk (w : Nat) : Bool := decide (w < 2 ^ 35)
/-- Members 0 to 7 (R331). -/
def memberOk (m : Nat) : Bool := decide (m < 8)
/-- A message between members (R335). -/
def headOk (h : MsgHead) : Bool := memberOk h.src && memberOk h.dst && decide (h.seq < 2 ^ 32) && decide (h.stampT < 2 ^ 64) && decide (h.len < 2 ^ 32)
  && decide (h.endSeq < 2 ^ 32)

/-- Engines 0 to 31 (03_ritriard_programs, The context). -/
def engineOk (e : Nat) : Bool := decide (e < 32)
/-- Cipher pipes 0 to 15 (01_architecture, the write and read path tables). -/
def pipeOk (p : Nat) : Bool := decide (p < 16)
/-- Ingest FIFOs 0 to 31 of a port (01_architecture, domains 48 and 49). -/
def fifoOk (f : Nat) : Bool := decide (f < 32)
/-- Servo slots 0 to 7 (12_transport_control). -/
def servoSlotOk (s : Nat) : Bool := decide (s < 8)
/-- Discrete inputs 0 to 3 (R273). -/
def inputOk (n : Nat) : Bool := decide (n < 4)

/-- Well-formed commands. -/
def Instr.wf : Instr → Bool
  | .sqTailDoorbell _ _ _ => true
  | .cqHeadDoorbell _ _ _ => true
  | .queueCreate _ => true
  | .queueDelete _ => true
  | .sqeFetch _ => true
  | .contextDispatch c => ctxOk c
  | .programLineArrive e _ _ => engineOk e
  | .completionPost _ qid => qidOk qid
  | .coalesceTimeout _ v => vecOk v
  | .vectorUnmask _ v => vecOk v
  | .noticePost => true
  | .portLoss _ _ => true
  | .portLinkUp _ _ _ _ => true
  | .busMasterEnable _ _ => true
  | .queueMemoryError _ qid _ => qidOk qid
  | .add c => ctxOk c
  | .sub c => ctxOk c
  | .and c => ctxOk c
  | .or c => ctxOk c
  | .xor c => ctxOk c
  | .shl c => ctxOk c
  | .shr c => ctxOk c
  | .sar c => ctxOk c
  | .mul c => ctxOk c
  | .addi c => ctxOk c
  | .movi c => ctxOk c
  | .cmp c => ctxOk c
  | .cmpi c => ctxOk c
  | .andi c => ctxOk c
  | .b c => ctxOk c
  | .call c => ctxOk c
  | .ret c => ctxOk c
  | .br c => ctxOk c
  | .wait c => ctxOk c
  | .waitExpire c => ctxOk c
  | .end_ c => ctxOk c
  | .ld c _ _ => ctxOk c
  | .st c _ => ctxOk c
  | .dseek c => ctxOk c
  | .put c => ctxOk c
  | .patch c => ctxOk c
  | .get c => ctxOk c
  | .delete c => ctxOk c
  | .stat c => ctxOk c
  | .compress c => ctxOk c
  | .decompress c => ctxOk c
  | .format c => ctxOk c
  | .load c => ctxOk c
  | .unload c => ctxOk c
  | .locate c => ctxOk c
  | .seal c => ctxOk c
  | .flush c => ctxOk c
  | .migrate c => ctxOk c
  | .keyImport c _ _ => ctxOk c
  | .keyLoad c _ _ => ctxOk c
  | .keySave c _ => ctxOk c
  | .keyErase c => ctxOk c
  | .keyEraseNow c => ctxOk c
  | .bufAlloc c => ctxOk c
  | .bufShare c => ctxOk c
  | .bufFree c => ctxOk c
  | .abort c => ctxOk c
  | .fence c => ctxOk c
  | .maintEnter c => ctxOk c
  | .maintExit c => ctxOk c
  | .movePos c => ctxOk c
  | .moveVel c => ctxOk c
  | .moveStop c => ctxOk c
  | .headSeek c => ctxOk c
  | .thread c => ctxOk c
  | .unthread c => ctxOk c
  | .snap c => ctxOk c
  | .qstat c => ctxOk c
  | .instructionFinish c _ => ctxOk c
  | .writeCommit c => ctxOk c
  | .indexLookup c => ctxOk c
  | .indexRebuild _ => true
  | .indexRebuildDone _ => true
  | .carveApply _ => true
  | .bufferRequest _ _ _ => true
  | .bufferRelease _ _ => true
  | .ingestDataArrive c _ _ _ => ctxOk c
  | .fifoDrainStart _ f => fifoOk f
  | .compressBlockStart lane => laneOk lane
  | .blockCompressed lane _ => laneOk lane
  | .verifyVerdict lane _ => laneOk lane
  | .blockReleaseToCipher => true
  | .restoreBlockDecode c _ lane _ => ctxOk c && laneOk lane
  | .restoreBlockRetry c _ lane _ => ctxOk c && laneOk lane
  | .blockJoinRecord => true
  | .recordIdleClose slot => keySlotOk slot
  | .recordTagDone pipe => pipeOk pipe
  | .ivLogEnable _ _ => true
  | .restoreRecordCheck c _ _ => ctxOk c
  | .revocationDone slot => keySlotOk slot
  | .rngHealthFail => true
  | .formeAssemble => true
  | .writeRunStart => true
  | .proofLagMeasure _ => true
  | .formePositionSend => true
  | .proofRowResult _ row _ => decide (row < 176)
  | .proofVerdict _ => true
  | .stepEval => true
  | .runIdleStop => true
  | .endRun _ => true
  | .resume _ => true
  | .sheafTurn => true
  | .readTurnEnd => true
  | .formeDecode sheaf _ slot marks => decide (sheaf < 160) && decide (slot < 8) && marks.all (fun m => decide (m.1 < 16))
  | .l3RecoveryDone _ _ _ => true
  | .cartridgePresent => true
  | .cartridgeLoss => true
  | .linkEnable _ _ => true
  | .linkRetry _ t => linkOk t
  | .linkSignalDetect t => linkOk t
  | .linkAdaptDone t => linkOk t
  | .linkAlignLock t => linkOk t
  | .link t _ => linkOk t
  | .linkTrainTimeout t => linkOk t
  | .linkReadyDeadline t => linkOk t
  | .linkLoss t => linkOk t
  | .statusTimeout t => linkOk t
  | .symbolBlockRx t _ => linkOk t
  | .pes t _ => linkOk t
  | .status t _ => linkOk t
  | .chsetWrite _ _ => true
  | .sampleTimerEdge codes => decide (codes.length = 8)
  | .saturationFault slot => servoSlotOk slot
  | .profileComplete => true
  | .headLock => true
  | .headSeekTimeout => true
  | .pesFault source => decide (source < 2)
  | .sensorRailFault port channel => decide (port < 2) && decide (channel < 4)
  | .encoderFault => true
  | .discreteInputChange n _ => inputOk n
  | .chatterFault n => inputOk n
  | .stuckFault n => inputOk n
  | .estopGate => true
  | .tcArm _ => true
  | .brakeRelease => true
  | .tcSafe _ => true
  | .stopHoldExpire => true
  | .driveDisable => true
  | .faultClear _ _ => true
  | .slotCommit _ slot => servoSlotOk slot
  | .tcTimerWrite _ _ => true
  | .errorRaise _ _ _ _ _ => true
  | .unitFault _ => true
  | .recoveryStart => true
  | .recoveryResume _ => true
  | .returnTestDone _ => true
  | .c4Timeout => true
  | .recordRelease _ _ => true
  | .lossRecordRelease _ _ => true
  | .snapshotRelease _ _ => true
  | .bufferUncorrectable word => wordOk word
  | .mergeApply stack => decide (stack < 4)
  | .rowRepairDone word => wordOk word
  | .laneRepair stack channel k => decide (stack < 4) && decide (channel < 16) && decide (k < 79)
  | .winnowLapEnd _ => true
  | .winnowLapLate => true
  | .repairBurn _ => true
  | .logClearAll _ => true
  | .logClearEntry _ _ => true
  | .flipArm _ => true
  | .onchipMemoryError group _ _ => decide (group < 13)
  | .refreshStepDown => true
  | .hkRoundEnd codes speeds _ => decide (codes.length = 24) && decide (speeds.length = 48)
  | .throttleGraceEnd => true
  | .throttleRateWrite _ _ => true
  | .drainHalt => true
  | .drainLimitExpire => true
  | .hardTrip => true
  | .refclkLoss => true
  | .discoveryTimeout => true
  | .join _ _ => true
  | .echo _ _ _ => true
  | .memberAdmit m _ _ => memberOk m
  | .cascadeJoin _ => true
  | .cascadeLeave _ => true
  | .timeSend => true
  | .time h _ _ => headOk h
  | .epoch h _ => headOk h
  | .forward h _ _ _ _ => headOk h
  | .result h _ => headOk h
  | .dmaRd h _ _ => headOk h
  | .dmaData h _ _ => headOk h
  | .dmaWr h _ _ => headOk h
  | .lendReq h pool => headOk h && decide (pool < 6)
  | .lendGrant h pool _ => headOk h && decide (pool < 6)
  | .lendFree h _ => headOk h
  | .bufRd h _ _ _ => headOk h
  | .bufWr h _ _ _ => headOk h
  | .abortDecide h _ _ => headOk h
  | .setOp h _ => headOk h
  | .loss h member => headOk h && memberOk member
  | .ack _ _ _ => true
  | .stripe _ stream _ symbols => decide (stream = 1 ∨ stream = 2) && decide (symbols.length = 153191)
  | .stripeLagExpire _ => true
  | .memberLoss m => memberOk m
  | .settingBurn _ => true
  | .controlFuseBurn _ => true
  | .fuseBurnDone _ => true
  | .tamper source => decide (source = 1 ∨ source = 3)
  | .debugRequest _ level => decide (level = 1 ∨ level = 2)
  | .debugVerify _ => true
  | .debugLevelClear _ => true
  | .patchLoadStart _ _ _ => true
  | .patchLoadCancel _ => true
  | .clusterQuiesced cl => clusterOk cl
  | .microwordMalformed run => ctxOk run.ctx
  | .engineSleep e => engineOk e
  | .engineWake e => engineOk e
  | .snapIn => true
  | .domainLatchSupply domain => decide (domain < 80)
  | .snapshotLatched => true
  | .dbgReg _ => true
  | .dbgSnap domain => decide (domain < 80 ∨ domain = 0x7F)
  | .dbgScan => true
  | .dbgPatch _ => true
  | .pwrResetAssert => true
  | .warmResetAssert => true
  | .pwrResetRelease _ _ => true
  | .warmResetRelease => true
  | .fuseLoadDone _ => true
  | .initFillDone => true
  | .bistDone _ _ => true
  | .bootFlashDone _ => true
  | .ready => true
  | .latchedLoRead _ _ => true
  | .i2cRead _ => true
  | .registerWrite _ _ _ _ => true
  | .quadratureEdge _ _ _ => true
  | .pageRangeSegmentArrive c _ _ => ctxOk c
  | .bufferCorrection word _ => wordOk word
  | .interfaceCalibrationTimeout stack => decide (stack < 4)
  | .hopLoss _ lanesLeft => decide (lanesLeft < 8)
  | .jtagInstruction _ => true
  | .supplyRamp _ _ => true
  | .stampStallEnd _ => true

end Sys2Proof
end

