-- ==== Sys2Proof/Laws/PerInstr.lean ====
section
/-! SUPPORT. One lemma per command: a well-formed command of a context names one of the 256 contexts. -/

namespace Sys2Proof.Laws

/-- The context a command is issued by, or acts on (03_ritriard_programs, The context). -/
def issuer : Instr → Option Nat
  | .sqTailDoorbell _ _ _ => none
  | .cqHeadDoorbell _ _ _ => none
  | .queueCreate _ => none
  | .queueDelete _ => none
  | .sqeFetch _ => none
  | .contextDispatch c => some c
  | .programLineArrive _ _ _ => none
  | .completionPost _ _ => none
  | .coalesceTimeout _ _ => none
  | .vectorUnmask _ _ => none
  | .noticePost => none
  | .portLoss _ _ => none
  | .portLinkUp _ _ _ _ => none
  | .busMasterEnable _ _ => none
  | .queueMemoryError _ _ _ => none
  | .add c => some c
  | .sub c => some c
  | .and c => some c
  | .or c => some c
  | .xor c => some c
  | .shl c => some c
  | .shr c => some c
  | .sar c => some c
  | .mul c => some c
  | .addi c => some c
  | .movi c => some c
  | .cmp c => some c
  | .cmpi c => some c
  | .andi c => some c
  | .b c => some c
  | .call c => some c
  | .ret c => some c
  | .br c => some c
  | .wait c => some c
  | .waitExpire c => some c
  | .end_ c => some c
  | .ld c _ _ => some c
  | .st c _ => some c
  | .dseek c => some c
  | .put c => some c
  | .patch c => some c
  | .get c => some c
  | .delete c => some c
  | .stat c => some c
  | .compress c => some c
  | .decompress c => some c
  | .format c => some c
  | .load c => some c
  | .unload c => some c
  | .locate c => some c
  | .seal c => some c
  | .flush c => some c
  | .migrate c => some c
  | .keyImport c _ _ => some c
  | .keyLoad c _ _ => some c
  | .keySave c _ => some c
  | .keyErase c => some c
  | .keyEraseNow c => some c
  | .bufAlloc c => some c
  | .bufShare c => some c
  | .bufFree c => some c
  | .abort c => some c
  | .fence c => some c
  | .maintEnter c => some c
  | .maintExit c => some c
  | .movePos c => some c
  | .moveVel c => some c
  | .moveStop c => some c
  | .headSeek c => some c
  | .thread c => some c
  | .unthread c => some c
  | .snap c => some c
  | .qstat c => some c
  | .instructionFinish c _ => some c
  | .writeCommit c => some c
  | .indexLookup c => some c
  | .indexRebuild _ => none
  | .indexRebuildDone _ => none
  | .carveApply _ => none
  | .bufferRequest _ _ _ => none
  | .bufferRelease _ _ => none
  | .ingestDataArrive c _ _ _ => some c
  | .fifoDrainStart _ _ => none
  | .compressBlockStart _ => none
  | .blockCompressed _ _ => none
  | .verifyVerdict _ _ => none
  | .blockReleaseToCipher => none
  | .restoreBlockDecode c _ _ _ => some c
  | .restoreBlockRetry c _ _ _ => some c
  | .blockJoinRecord => none
  | .recordIdleClose _ => none
  | .recordTagDone _ => none
  | .ivLogEnable _ _ => none
  | .restoreRecordCheck c _ _ => some c
  | .revocationDone _ => none
  | .rngHealthFail => none
  | .formeAssemble => none
  | .writeRunStart => none
  | .proofLagMeasure _ => none
  | .formePositionSend => none
  | .proofRowResult _ _ _ => none
  | .proofVerdict _ => none
  | .stepEval => none
  | .runIdleStop => none
  | .endRun _ => none
  | .resume _ => none
  | .sheafTurn => none
  | .readTurnEnd => none
  | .formeDecode _ _ _ _ => none
  | .l3RecoveryDone _ _ _ => none
  | .cartridgePresent => none
  | .cartridgeLoss => none
  | .linkEnable _ _ => none
  | .linkRetry _ _ => none
  | .linkSignalDetect _ => none
  | .linkAdaptDone _ => none
  | .linkAlignLock _ => none
  | .link _ _ => none
  | .linkTrainTimeout _ => none
  | .linkReadyDeadline _ => none
  | .linkLoss _ => none
  | .statusTimeout _ => none
  | .symbolBlockRx _ _ => none
  | .pes _ _ => none
  | .status _ _ => none
  | .chsetWrite _ _ => none
  | .sampleTimerEdge _ => none
  | .saturationFault _ => none
  | .profileComplete => none
  | .headLock => none
  | .headSeekTimeout => none
  | .pesFault _ => none
  | .sensorRailFault _ _ => none
  | .encoderFault => none
  | .discreteInputChange _ _ => none
  | .chatterFault _ => none
  | .stuckFault _ => none
  | .estopGate => none
  | .tcArm _ => none
  | .brakeRelease => none
  | .tcSafe _ => none
  | .stopHoldExpire => none
  | .driveDisable => none
  | .faultClear _ _ => none
  | .slotCommit _ _ => none
  | .tcTimerWrite _ _ => none
  | .errorRaise _ _ _ _ _ => none
  | .unitFault _ => none
  | .recoveryStart => none
  | .recoveryResume _ => none
  | .returnTestDone _ => none
  | .c4Timeout => none
  | .recordRelease _ _ => none
  | .lossRecordRelease _ _ => none
  | .snapshotRelease _ _ => none
  | .bufferUncorrectable _ => none
  | .mergeApply _ => none
  | .rowRepairDone _ => none
  | .laneRepair _ _ _ => none
  | .winnowLapEnd _ => none
  | .winnowLapLate => none
  | .repairBurn _ => none
  | .logClearAll _ => none
  | .logClearEntry _ _ => none
  | .flipArm _ => none
  | .onchipMemoryError _ _ _ => none
  | .refreshStepDown => none
  | .hkRoundEnd _ _ _ => none
  | .throttleGraceEnd => none
  | .throttleRateWrite _ _ => none
  | .drainHalt => none
  | .drainLimitExpire => none
  | .hardTrip => none
  | .refclkLoss => none
  | .discoveryTimeout => none
  | .join _ _ => none
  | .echo _ _ _ => none
  | .memberAdmit _ _ _ => none
  | .cascadeJoin _ => none
  | .cascadeLeave _ => none
  | .timeSend => none
  | .time _ _ _ => none
  | .epoch _ _ => none
  | .forward _ _ _ _ _ => none
  | .result _ _ => none
  | .dmaRd _ _ _ => none
  | .dmaData _ _ _ => none
  | .dmaWr _ _ _ => none
  | .lendReq _ _ => none
  | .lendGrant _ _ _ => none
  | .lendFree _ _ => none
  | .bufRd _ _ _ _ => none
  | .bufWr _ _ _ _ => none
  | .abortDecide _ _ _ => none
  | .setOp _ _ => none
  | .loss _ _ => none
  | .ack _ _ _ => none
  | .stripe _ _ _ _ => none
  | .stripeLagExpire _ => none
  | .memberLoss _ => none
  | .settingBurn _ => none
  | .controlFuseBurn _ => none
  | .fuseBurnDone _ => none
  | .tamper _ => none
  | .debugRequest _ _ => none
  | .debugVerify _ => none
  | .debugLevelClear _ => none
  | .patchLoadStart _ _ _ => none
  | .patchLoadCancel _ => none
  | .clusterQuiesced _ => none
  | .microwordMalformed _ => none
  | .engineSleep _ => none
  | .engineWake _ => none
  | .snapIn => none
  | .domainLatchSupply _ => none
  | .snapshotLatched => none
  | .dbgReg _ => none
  | .dbgSnap _ => none
  | .dbgScan => none
  | .dbgPatch _ => none
  | .pwrResetAssert => none
  | .warmResetAssert => none
  | .pwrResetRelease _ _ => none
  | .warmResetRelease => none
  | .fuseLoadDone _ => none
  | .initFillDone => none
  | .bistDone _ _ => none
  | .bootFlashDone _ => none
  | .ready => none
  | .latchedLoRead _ _ => none
  | .i2cRead _ => none
  | .registerWrite _ _ _ _ => none
  | .quadratureEdge _ _ _ => none
  | .pageRangeSegmentArrive c _ _ => some c
  | .bufferCorrection _ _ => none
  | .interfaceCalibrationTimeout _ => none
  | .hopLoss _ _ => none
  | .jtagInstruction _ => none
  | .supplyRamp _ _ => none
  | .stampStallEnd _ => none

/-- A well-formed command of a context names a context that exists. -/
def Issuer.Statement (i : Instr) : Prop := i.wf = true → ∀ c, issuer i = some c → c < 256

theorem ctx_lt {c : Nat} (h : ctxOk c = true) : c < 256 := of_decide_eq_true h

theorem Issuer.none_of {i : Instr} (h : issuer i = none) : Issuer.Statement i := fun _ c hc => by simp [h] at hc

theorem Issuer.some_of {i : Instr} {c : Nat} (h : issuer i = some c) (hw : i.wf = true → c < 256) : Issuer.Statement i :=
  fun w d hd => by
    rw [h] at hd
    exact Option.some.inj hd ▸ hw w

theorem Issuer.sqTailDoorbell (p : PortId) (qid : BitVec 9) (value : W32) : Issuer.Statement (.sqTailDoorbell p qid value) := Issuer.none_of rfl
theorem Issuer.cqHeadDoorbell (p : PortId) (qid : BitVec 9) (value : W32) : Issuer.Statement (.cqHeadDoorbell p qid value) := Issuer.none_of rfl
theorem Issuer.queueCreate (path : Path) : Issuer.Statement (.queueCreate path) := Issuer.none_of rfl
theorem Issuer.queueDelete (path : Path) : Issuer.Statement (.queueDelete path) := Issuer.none_of rfl
theorem Issuer.sqeFetch (mem : HostWrites) : Issuer.Statement (.sqeFetch mem) := Issuer.none_of rfl
theorem Issuer.contextDispatch (c : Nat) : Issuer.Statement (.contextDispatch c) := Issuer.some_of rfl ctx_lt
theorem Issuer.programLineArrive (e : Nat) (mem : HostWrites) (ok : Bool) : Issuer.Statement (.programLineArrive e mem ok) := Issuer.none_of rfl
theorem Issuer.completionPost (p : PortId) (qid : Nat) : Issuer.Statement (.completionPost p qid) := Issuer.none_of rfl
theorem Issuer.coalesceTimeout (p : PortId) (v : Nat) : Issuer.Statement (.coalesceTimeout p v) := Issuer.none_of rfl
theorem Issuer.vectorUnmask (p : PortId) (v : Nat) : Issuer.Statement (.vectorUnmask p v) := Issuer.none_of rfl
theorem Issuer.noticePost : Issuer.Statement (.noticePost) := Issuer.none_of rfl
theorem Issuer.portLoss (p : PortId) (cause : LossCause) : Issuer.Statement (.portLoss p cause) := Issuer.none_of rfl
theorem Issuer.portLinkUp (p : PortId) (flit : Bool) (speed : Nat) (width : Nat) : Issuer.Statement (.portLinkUp p flit speed width) := Issuer.none_of rfl
theorem Issuer.busMasterEnable (p : PortId) (on : Bool) : Issuer.Statement (.busMasterEnable p on) := Issuer.none_of rfl
theorem Issuer.queueMemoryError (p : PortId) (qid : Nat) (cqWrite : Bool) : Issuer.Statement (.queueMemoryError p qid cqWrite) := Issuer.none_of rfl
theorem Issuer.add (c : Nat) : Issuer.Statement (.add c) := Issuer.some_of rfl ctx_lt
theorem Issuer.sub (c : Nat) : Issuer.Statement (.sub c) := Issuer.some_of rfl ctx_lt
theorem Issuer.and (c : Nat) : Issuer.Statement (.and c) := Issuer.some_of rfl ctx_lt
theorem Issuer.or (c : Nat) : Issuer.Statement (.or c) := Issuer.some_of rfl ctx_lt
theorem Issuer.xor (c : Nat) : Issuer.Statement (.xor c) := Issuer.some_of rfl ctx_lt
theorem Issuer.shl (c : Nat) : Issuer.Statement (.shl c) := Issuer.some_of rfl ctx_lt
theorem Issuer.shr (c : Nat) : Issuer.Statement (.shr c) := Issuer.some_of rfl ctx_lt
theorem Issuer.sar (c : Nat) : Issuer.Statement (.sar c) := Issuer.some_of rfl ctx_lt
theorem Issuer.mul (c : Nat) : Issuer.Statement (.mul c) := Issuer.some_of rfl ctx_lt
theorem Issuer.addi (c : Nat) : Issuer.Statement (.addi c) := Issuer.some_of rfl ctx_lt
theorem Issuer.movi (c : Nat) : Issuer.Statement (.movi c) := Issuer.some_of rfl ctx_lt
theorem Issuer.cmp (c : Nat) : Issuer.Statement (.cmp c) := Issuer.some_of rfl ctx_lt
theorem Issuer.cmpi (c : Nat) : Issuer.Statement (.cmpi c) := Issuer.some_of rfl ctx_lt
theorem Issuer.andi (c : Nat) : Issuer.Statement (.andi c) := Issuer.some_of rfl ctx_lt
theorem Issuer.b (c : Nat) : Issuer.Statement (.b c) := Issuer.some_of rfl ctx_lt
theorem Issuer.call (c : Nat) : Issuer.Statement (.call c) := Issuer.some_of rfl ctx_lt
theorem Issuer.ret (c : Nat) : Issuer.Statement (.ret c) := Issuer.some_of rfl ctx_lt
theorem Issuer.br (c : Nat) : Issuer.Statement (.br c) := Issuer.some_of rfl ctx_lt
theorem Issuer.wait (c : Nat) : Issuer.Statement (.wait c) := Issuer.some_of rfl ctx_lt
theorem Issuer.waitExpire (c : Nat) : Issuer.Statement (.waitExpire c) := Issuer.some_of rfl ctx_lt
theorem Issuer.end_ (c : Nat) : Issuer.Statement (.end_ c) := Issuer.some_of rfl ctx_lt
theorem Issuer.ld (c : Nat) (mem : HostWrites) (ok : Bool) : Issuer.Statement (.ld c mem ok) := Issuer.some_of rfl ctx_lt
theorem Issuer.st (c : Nat) (ok : Bool) : Issuer.Statement (.st c ok) := Issuer.some_of rfl ctx_lt
theorem Issuer.dseek (c : Nat) : Issuer.Statement (.dseek c) := Issuer.some_of rfl ctx_lt
theorem Issuer.put (c : Nat) : Issuer.Statement (.put c) := Issuer.some_of rfl ctx_lt
theorem Issuer.patch (c : Nat) : Issuer.Statement (.patch c) := Issuer.some_of rfl ctx_lt
theorem Issuer.get (c : Nat) : Issuer.Statement (.get c) := Issuer.some_of rfl ctx_lt
theorem Issuer.delete (c : Nat) : Issuer.Statement (.delete c) := Issuer.some_of rfl ctx_lt
theorem Issuer.stat (c : Nat) : Issuer.Statement (.stat c) := Issuer.some_of rfl ctx_lt
theorem Issuer.compress (c : Nat) : Issuer.Statement (.compress c) := Issuer.some_of rfl ctx_lt
theorem Issuer.decompress (c : Nat) : Issuer.Statement (.decompress c) := Issuer.some_of rfl ctx_lt
theorem Issuer.format (c : Nat) : Issuer.Statement (.format c) := Issuer.some_of rfl ctx_lt
theorem Issuer.load (c : Nat) : Issuer.Statement (.load c) := Issuer.some_of rfl ctx_lt
theorem Issuer.unload (c : Nat) : Issuer.Statement (.unload c) := Issuer.some_of rfl ctx_lt
theorem Issuer.locate (c : Nat) : Issuer.Statement (.locate c) := Issuer.some_of rfl ctx_lt
theorem Issuer.seal (c : Nat) : Issuer.Statement (.seal c) := Issuer.some_of rfl ctx_lt
theorem Issuer.flush (c : Nat) : Issuer.Statement (.flush c) := Issuer.some_of rfl ctx_lt
theorem Issuer.migrate (c : Nat) : Issuer.Statement (.migrate c) := Issuer.some_of rfl ctx_lt
theorem Issuer.keyImport (c : Nat) (mem : HostWrites) (ok : Bool) : Issuer.Statement (.keyImport c mem ok) := Issuer.some_of rfl ctx_lt
theorem Issuer.keyLoad (c : Nat) (mem : HostWrites) (ok : Bool) : Issuer.Statement (.keyLoad c mem ok) := Issuer.some_of rfl ctx_lt
theorem Issuer.keySave (c : Nat) (ok : Bool) : Issuer.Statement (.keySave c ok) := Issuer.some_of rfl ctx_lt
theorem Issuer.keyErase (c : Nat) : Issuer.Statement (.keyErase c) := Issuer.some_of rfl ctx_lt
theorem Issuer.keyEraseNow (c : Nat) : Issuer.Statement (.keyEraseNow c) := Issuer.some_of rfl ctx_lt
theorem Issuer.bufAlloc (c : Nat) : Issuer.Statement (.bufAlloc c) := Issuer.some_of rfl ctx_lt
theorem Issuer.bufShare (c : Nat) : Issuer.Statement (.bufShare c) := Issuer.some_of rfl ctx_lt
theorem Issuer.bufFree (c : Nat) : Issuer.Statement (.bufFree c) := Issuer.some_of rfl ctx_lt
theorem Issuer.abort (c : Nat) : Issuer.Statement (.abort c) := Issuer.some_of rfl ctx_lt
theorem Issuer.fence (c : Nat) : Issuer.Statement (.fence c) := Issuer.some_of rfl ctx_lt
theorem Issuer.maintEnter (c : Nat) : Issuer.Statement (.maintEnter c) := Issuer.some_of rfl ctx_lt
theorem Issuer.maintExit (c : Nat) : Issuer.Statement (.maintExit c) := Issuer.some_of rfl ctx_lt
theorem Issuer.movePos (c : Nat) : Issuer.Statement (.movePos c) := Issuer.some_of rfl ctx_lt
theorem Issuer.moveVel (c : Nat) : Issuer.Statement (.moveVel c) := Issuer.some_of rfl ctx_lt
theorem Issuer.moveStop (c : Nat) : Issuer.Statement (.moveStop c) := Issuer.some_of rfl ctx_lt
theorem Issuer.headSeek (c : Nat) : Issuer.Statement (.headSeek c) := Issuer.some_of rfl ctx_lt
theorem Issuer.thread (c : Nat) : Issuer.Statement (.thread c) := Issuer.some_of rfl ctx_lt
theorem Issuer.unthread (c : Nat) : Issuer.Statement (.unthread c) := Issuer.some_of rfl ctx_lt
theorem Issuer.snap (c : Nat) : Issuer.Statement (.snap c) := Issuer.some_of rfl ctx_lt
theorem Issuer.qstat (c : Nat) : Issuer.Statement (.qstat c) := Issuer.some_of rfl ctx_lt
theorem Issuer.instructionFinish (c : Nat) (cause : FinishCause) : Issuer.Statement (.instructionFinish c cause) := Issuer.some_of rfl ctx_lt
theorem Issuer.writeCommit (c : Nat) : Issuer.Statement (.writeCommit c) := Issuer.some_of rfl ctx_lt
theorem Issuer.indexLookup (c : Nat) : Issuer.Statement (.indexLookup c) := Issuer.some_of rfl ctx_lt
theorem Issuer.indexRebuild (path : Path) : Issuer.Statement (.indexRebuild path) := Issuer.none_of rfl
theorem Issuer.indexRebuildDone (micros16 : Nat) : Issuer.Statement (.indexRebuildDone micros16) := Issuer.none_of rfl
theorem Issuer.carveApply (path : Path) : Issuer.Statement (.carveApply path) := Issuer.none_of rfl
theorem Issuer.bufferRequest (u : BufUnit) (size : Nat) (spill : Bool) : Issuer.Statement (.bufferRequest u size spill) := Issuer.none_of rfl
theorem Issuer.bufferRelease (u : BufUnit) (buf : Nat) : Issuer.Statement (.bufferRelease u buf) := Issuer.none_of rfl
theorem Issuer.ingestDataArrive (c : Nat) (n : Nat) (mem : HostWrites) (ok : Bool) : Issuer.Statement (.ingestDataArrive c n mem ok) := Issuer.some_of rfl ctx_lt
theorem Issuer.fifoDrainStart (p : PortId) (f : Nat) : Issuer.Statement (.fifoDrainStart p f) := Issuer.none_of rfl
theorem Issuer.compressBlockStart (lane : Nat) : Issuer.Statement (.compressBlockStart lane) := Issuer.none_of rfl
theorem Issuer.blockCompressed (lane : Nat) (r : FrameResult) : Issuer.Statement (.blockCompressed lane r) := Issuer.none_of rfl
theorem Issuer.verifyVerdict (lane : Nat) (v : Verdict) : Issuer.Statement (.verifyVerdict lane v) := Issuer.none_of rfl
theorem Issuer.blockReleaseToCipher : Issuer.Statement (.blockReleaseToCipher) := Issuer.none_of rfl
theorem Issuer.restoreBlockDecode (c : Nat) (k : Nat) (lane : Nat) (ok : Bool) : Issuer.Statement (.restoreBlockDecode c k lane ok) := Issuer.some_of rfl (fun h => ctx_lt (Bool.and_eq_true_iff.mp h).1)
theorem Issuer.restoreBlockRetry (c : Nat) (k : Nat) (lane : Nat) (ok : Bool) : Issuer.Statement (.restoreBlockRetry c k lane ok) := Issuer.some_of rfl (fun h => ctx_lt (Bool.and_eq_true_iff.mp h).1)
theorem Issuer.blockJoinRecord : Issuer.Statement (.blockJoinRecord) := Issuer.none_of rfl
theorem Issuer.recordIdleClose (slot : Nat) : Issuer.Statement (.recordIdleClose slot) := Issuer.none_of rfl
theorem Issuer.recordTagDone (pipe : Nat) : Issuer.Statement (.recordTagDone pipe) := Issuer.none_of rfl
theorem Issuer.ivLogEnable (path : Path) (value : W32) : Issuer.Statement (.ivLogEnable path value) := Issuer.none_of rfl
theorem Issuer.restoreRecordCheck (c : Nat) (k : Nat) (tagOk : Bool) : Issuer.Statement (.restoreRecordCheck c k tagOk) := Issuer.some_of rfl ctx_lt
theorem Issuer.revocationDone (slot : Nat) : Issuer.Statement (.revocationDone slot) := Issuer.none_of rfl
theorem Issuer.rngHealthFail : Issuer.Statement (.rngHealthFail) := Issuer.none_of rfl
theorem Issuer.formeAssemble : Issuer.Statement (.formeAssemble) := Issuer.none_of rfl
theorem Issuer.writeRunStart : Issuer.Statement (.writeRunStart) := Issuer.none_of rfl
theorem Issuer.proofLagMeasure (found : Option Nat) : Issuer.Statement (.proofLagMeasure found) := Issuer.none_of rfl
theorem Issuer.formePositionSend : Issuer.Statement (.formePositionSend) := Issuer.none_of rfl
theorem Issuer.proofRowResult (copy : Nat) (row : Nat) (mark : Option Nat) : Issuer.Statement (.proofRowResult copy row mark) := Issuer.none_of rfl
theorem Issuer.proofVerdict (copy : Nat) : Issuer.Statement (.proofVerdict copy) := Issuer.none_of rfl
theorem Issuer.stepEval : Issuer.Statement (.stepEval) := Issuer.none_of rfl
theorem Issuer.runIdleStop : Issuer.Statement (.runIdleStop) := Issuer.none_of rfl
theorem Issuer.endRun (path : Path) : Issuer.Statement (.endRun path) := Issuer.none_of rfl
theorem Issuer.resume (path : Path) : Issuer.Statement (.resume path) := Issuer.none_of rfl
theorem Issuer.sheafTurn : Issuer.Statement (.sheafTurn) := Issuer.none_of rfl
theorem Issuer.readTurnEnd : Issuer.Statement (.readTurnEnd) := Issuer.none_of rfl
theorem Issuer.formeDecode (sheaf : Nat) (position : Nat) (slot : Nat) (marks : List (Nat × Nat)) : Issuer.Statement (.formeDecode sheaf position slot marks) := Issuer.none_of rfl
theorem Issuer.l3RecoveryDone (groupBase : Nat) (ok : Bool) (others : List (Nat × List (Nat × List Byte))) : Issuer.Statement (.l3RecoveryDone groupBase ok others) := Issuer.none_of rfl
theorem Issuer.cartridgePresent : Issuer.Statement (.cartridgePresent) := Issuer.none_of rfl
theorem Issuer.cartridgeLoss : Issuer.Statement (.cartridgeLoss) := Issuer.none_of rfl
theorem Issuer.linkEnable (path : Path) (value : W32) : Issuer.Statement (.linkEnable path value) := Issuer.none_of rfl
theorem Issuer.linkRetry (path : Path) (t : Nat) : Issuer.Statement (.linkRetry path t) := Issuer.none_of rfl
theorem Issuer.linkSignalDetect (t : Nat) : Issuer.Statement (.linkSignalDetect t) := Issuer.none_of rfl
theorem Issuer.linkAdaptDone (t : Nat) : Issuer.Statement (.linkAdaptDone t) := Issuer.none_of rfl
theorem Issuer.linkAlignLock (t : Nat) : Issuer.Statement (.linkAlignLock t) := Issuer.none_of rfl
theorem Issuer.link (t : Nat) (blk : BitVec 256) : Issuer.Statement (.link t blk) := Issuer.none_of rfl
theorem Issuer.linkTrainTimeout (t : Nat) : Issuer.Statement (.linkTrainTimeout t) := Issuer.none_of rfl
theorem Issuer.linkReadyDeadline (t : Nat) : Issuer.Statement (.linkReadyDeadline t) := Issuer.none_of rfl
theorem Issuer.linkLoss (t : Nat) : Issuer.Statement (.linkLoss t) := Issuer.none_of rfl
theorem Issuer.statusTimeout (t : Nat) : Issuer.Statement (.statusTimeout t) := Issuer.none_of rfl
theorem Issuer.symbolBlockRx (t : Nat) (block : BitVec 256) : Issuer.Statement (.symbolBlockRx t block) := Issuer.none_of rfl
theorem Issuer.pes (t : Nat) (blk : BitVec 256) : Issuer.Statement (.pes t blk) := Issuer.none_of rfl
theorem Issuer.status (t : Nat) (blk : BitVec 256) : Issuer.Statement (.status t blk) := Issuer.none_of rfl
theorem Issuer.chsetWrite (path : Path) (value : W32) : Issuer.Statement (.chsetWrite path value) := Issuer.none_of rfl
theorem Issuer.sampleTimerEdge (codes : List (BitVec 16)) : Issuer.Statement (.sampleTimerEdge codes) := Issuer.none_of rfl
theorem Issuer.saturationFault (slot : Nat) : Issuer.Statement (.saturationFault slot) := Issuer.none_of rfl
theorem Issuer.profileComplete : Issuer.Statement (.profileComplete) := Issuer.none_of rfl
theorem Issuer.headLock : Issuer.Statement (.headLock) := Issuer.none_of rfl
theorem Issuer.headSeekTimeout : Issuer.Statement (.headSeekTimeout) := Issuer.none_of rfl
theorem Issuer.pesFault (source : Nat) : Issuer.Statement (.pesFault source) := Issuer.none_of rfl
theorem Issuer.sensorRailFault (port : Nat) (channel : Nat) : Issuer.Statement (.sensorRailFault port channel) := Issuer.none_of rfl
theorem Issuer.encoderFault : Issuer.Statement (.encoderFault) := Issuer.none_of rfl
theorem Issuer.discreteInputChange (n : Nat) (levels : List Bool) : Issuer.Statement (.discreteInputChange n levels) := Issuer.none_of rfl
theorem Issuer.chatterFault (n : Nat) : Issuer.Statement (.chatterFault n) := Issuer.none_of rfl
theorem Issuer.stuckFault (n : Nat) : Issuer.Statement (.stuckFault n) := Issuer.none_of rfl
theorem Issuer.estopGate : Issuer.Statement (.estopGate) := Issuer.none_of rfl
theorem Issuer.tcArm (path : Path) : Issuer.Statement (.tcArm path) := Issuer.none_of rfl
theorem Issuer.brakeRelease : Issuer.Statement (.brakeRelease) := Issuer.none_of rfl
theorem Issuer.tcSafe (path : Path) : Issuer.Statement (.tcSafe path) := Issuer.none_of rfl
theorem Issuer.stopHoldExpire : Issuer.Statement (.stopHoldExpire) := Issuer.none_of rfl
theorem Issuer.driveDisable : Issuer.Statement (.driveDisable) := Issuer.none_of rfl
theorem Issuer.faultClear (path : Path) (value : W32) : Issuer.Statement (.faultClear path value) := Issuer.none_of rfl
theorem Issuer.slotCommit (path : Path) (slot : Nat) : Issuer.Statement (.slotCommit path slot) := Issuer.none_of rfl
theorem Issuer.tcTimerWrite (path : Path) (value : W32) : Issuer.Statement (.tcTimerWrite path value) := Issuer.none_of rfl
theorem Issuer.errorRaise (cls : EClass) (u : UnitId) (category : Nat) (d0 : W64) (d1 : W64) : Issuer.Statement (.errorRaise cls u category d0 d1) := Issuer.none_of rfl
theorem Issuer.unitFault (u : UnitId) : Issuer.Statement (.unitFault u) := Issuer.none_of rfl
theorem Issuer.recoveryStart : Issuer.Statement (.recoveryStart) := Issuer.none_of rfl
theorem Issuer.recoveryResume (u : UnitId) : Issuer.Statement (.recoveryResume u) := Issuer.none_of rfl
theorem Issuer.returnTestDone (pass : Bool) : Issuer.Statement (.returnTestDone pass) := Issuer.none_of rfl
theorem Issuer.c4Timeout : Issuer.Statement (.c4Timeout) := Issuer.none_of rfl
theorem Issuer.recordRelease (path : Path) (seq : W32) : Issuer.Statement (.recordRelease path seq) := Issuer.none_of rfl
theorem Issuer.lossRecordRelease (path : Path) (index : W32) : Issuer.Statement (.lossRecordRelease path index) := Issuer.none_of rfl
theorem Issuer.snapshotRelease (path : Path) (viaEr : Bool) : Issuer.Statement (.snapshotRelease path viaEr) := Issuer.none_of rfl
theorem Issuer.bufferUncorrectable (word : Nat) : Issuer.Statement (.bufferUncorrectable word) := Issuer.none_of rfl
theorem Issuer.mergeApply (stack : Nat) : Issuer.Statement (.mergeApply stack) := Issuer.none_of rfl
theorem Issuer.rowRepairDone (word : Nat) : Issuer.Statement (.rowRepairDone word) := Issuer.none_of rfl
theorem Issuer.laneRepair (stack : Nat) (channel : Nat) (k : Nat) : Issuer.Statement (.laneRepair stack channel k) := Issuer.none_of rfl
theorem Issuer.winnowLapEnd (tenths : Nat) : Issuer.Statement (.winnowLapEnd tenths) := Issuer.none_of rfl
theorem Issuer.winnowLapLate : Issuer.Statement (.winnowLapLate) := Issuer.none_of rfl
theorem Issuer.repairBurn (path : Path) : Issuer.Statement (.repairBurn path) := Issuer.none_of rfl
theorem Issuer.logClearAll (path : Path) : Issuer.Statement (.logClearAll path) := Issuer.none_of rfl
theorem Issuer.logClearEntry (path : Path) (entry : BitVec 5) : Issuer.Statement (.logClearEntry path entry) := Issuer.none_of rfl
theorem Issuer.flipArm (path : Path) : Issuer.Statement (.flipArm path) := Issuer.none_of rfl
theorem Issuer.onchipMemoryError (group : Nat) (u : UnitId) (detail : Nat) : Issuer.Statement (.onchipMemoryError group u detail) := Issuer.none_of rfl
theorem Issuer.refreshStepDown : Issuer.Statement (.refreshStepDown) := Issuer.none_of rfl
theorem Issuer.hkRoundEnd (codes : List (BitVec 12)) (speeds : List W16) (avs : Option (Nat × Nat)) : Issuer.Statement (.hkRoundEnd codes speeds avs) := Issuer.none_of rfl
theorem Issuer.throttleGraceEnd : Issuer.Statement (.throttleGraceEnd) := Issuer.none_of rfl
theorem Issuer.throttleRateWrite (path : Path) (value : W32) : Issuer.Statement (.throttleRateWrite path value) := Issuer.none_of rfl
theorem Issuer.drainHalt : Issuer.Statement (.drainHalt) := Issuer.none_of rfl
theorem Issuer.drainLimitExpire : Issuer.Statement (.drainLimitExpire) := Issuer.none_of rfl
theorem Issuer.hardTrip : Issuer.Statement (.hardTrip) := Issuer.none_of rfl
theorem Issuer.refclkLoss : Issuer.Statement (.refclkLoss) := Issuer.none_of rfl
theorem Issuer.discoveryTimeout : Issuer.Statement (.discoveryTimeout) := Issuer.none_of rfl
theorem Issuer.join (cp : CasPort) (blk : BitVec 256) : Issuer.Statement (.join cp blk) := Issuer.none_of rfl
theorem Issuer.echo (cp : CasPort) (reply : Bool) (t : W64) : Issuer.Statement (.echo cp reply t) := Issuer.none_of rfl
theorem Issuer.memberAdmit (m : Nat) (masterCount : Nat) (masterEpoch : Nat) : Issuer.Statement (.memberAdmit m masterCount masterEpoch) := Issuer.none_of rfl
theorem Issuer.cascadeJoin (path : Path) : Issuer.Statement (.cascadeJoin path) := Issuer.none_of rfl
theorem Issuer.cascadeLeave (path : Path) : Issuer.Statement (.cascadeLeave path) := Issuer.none_of rfl
theorem Issuer.timeSend : Issuer.Statement (.timeSend) := Issuer.none_of rfl
theorem Issuer.time (h : MsgHead) (count : Nat) (horizon : Nat) : Issuer.Statement (.time h count horizon) := Issuer.none_of rfl
theorem Issuer.epoch (h : MsgHead) (value : Nat) : Issuer.Statement (.epoch h value) := Issuer.none_of rfl
theorem Issuer.forward (h : MsgHead) (sqe : BitVec 512) (arrivalT : Nat) (arrivalO : BitVec 8) (dqn : Nat) : Issuer.Statement (.forward h sqe arrivalT arrivalO dqn) := Issuer.none_of rfl
theorem Issuer.result (h : MsgHead) (cqe : BitVec 256) : Issuer.Statement (.result h cqe) := Issuer.none_of rfl
theorem Issuer.dmaRd (h : MsgHead) (addr : Nat) (len : Nat) : Issuer.Statement (.dmaRd h addr len) := Issuer.none_of rfl
theorem Issuer.dmaData (h : MsgHead) (data : List Byte) (ok : Bool) : Issuer.Statement (.dmaData h data ok) := Issuer.none_of rfl
theorem Issuer.dmaWr (h : MsgHead) (addr : Nat) (data : List Byte) : Issuer.Statement (.dmaWr h addr data) := Issuer.none_of rfl
theorem Issuer.lendReq (h : MsgHead) (pool : Nat) : Issuer.Statement (.lendReq h pool) := Issuer.none_of rfl
theorem Issuer.lendGrant (h : MsgHead) (pool : Nat) (buf : Nat) : Issuer.Statement (.lendGrant h pool buf) := Issuer.none_of rfl
theorem Issuer.lendFree (h : MsgHead) (buf : Nat) : Issuer.Statement (.lendFree h buf) := Issuer.none_of rfl
theorem Issuer.bufRd (h : MsgHead) (buf : Nat) (off : Nat) (len : Nat) : Issuer.Statement (.bufRd h buf off len) := Issuer.none_of rfl
theorem Issuer.bufWr (h : MsgHead) (buf : Nat) (off : Nat) (data : List Byte) : Issuer.Statement (.bufWr h buf off data) := Issuer.none_of rfl
theorem Issuer.abortDecide (h : MsgHead) (cid : W16) (dqn : Nat) : Issuer.Statement (.abortDecide h cid dqn) := Issuer.none_of rfl
theorem Issuer.setOp (h : MsgHead) (op : SetOp) : Issuer.Statement (.setOp h op) := Issuer.none_of rfl
theorem Issuer.loss (h : MsgHead) (member : Nat) : Issuer.Statement (.loss h member) := Issuer.none_of rfl
theorem Issuer.ack (cp : CasPort) (seq : Nat) (negative : Bool) : Issuer.Statement (.ack cp seq negative) := Issuer.none_of rfl
theorem Issuer.stripe (cp : CasPort) (stream : Nat) (number : Nat) (symbols : List (BitVec 10)) : Issuer.Statement (.stripe cp stream number symbols) := Issuer.none_of rfl
theorem Issuer.stripeLagExpire (number : Nat) : Issuer.Statement (.stripeLagExpire number) := Issuer.none_of rfl
theorem Issuer.memberLoss (m : Nat) : Issuer.Statement (.memberLoss m) := Issuer.none_of rfl
theorem Issuer.settingBurn (path : Path) : Issuer.Statement (.settingBurn path) := Issuer.none_of rfl
theorem Issuer.controlFuseBurn (path : Path) : Issuer.Statement (.controlFuseBurn path) := Issuer.none_of rfl
theorem Issuer.fuseBurnDone (readBackOk : Bool) : Issuer.Statement (.fuseBurnDone readBackOk) := Issuer.none_of rfl
theorem Issuer.tamper (source : Nat) : Issuer.Statement (.tamper source) := Issuer.none_of rfl
theorem Issuer.debugRequest (path : Path) (level : Nat) : Issuer.Statement (.debugRequest path level) := Issuer.none_of rfl
theorem Issuer.debugVerify (path : Path) : Issuer.Statement (.debugVerify path) := Issuer.none_of rfl
theorem Issuer.debugLevelClear (path : Path) : Issuer.Statement (.debugLevelClear path) := Issuer.none_of rfl
theorem Issuer.patchLoadStart (path : Path) (mem : HostWrites) (ok : Bool) : Issuer.Statement (.patchLoadStart path mem ok) := Issuer.none_of rfl
theorem Issuer.patchLoadCancel (path : Path) : Issuer.Statement (.patchLoadCancel path) := Issuer.none_of rfl
theorem Issuer.clusterQuiesced (cl : Nat) : Issuer.Statement (.clusterQuiesced cl) := Issuer.none_of rfl
theorem Issuer.microwordMalformed (run : MicroRun) : Issuer.Statement (.microwordMalformed run) := Issuer.none_of rfl
theorem Issuer.engineSleep (e : Nat) : Issuer.Statement (.engineSleep e) := Issuer.none_of rfl
theorem Issuer.engineWake (e : Nat) : Issuer.Statement (.engineWake e) := Issuer.none_of rfl
theorem Issuer.snapIn : Issuer.Statement (.snapIn) := Issuer.none_of rfl
theorem Issuer.domainLatchSupply (domain : Nat) : Issuer.Statement (.domainLatchSupply domain) := Issuer.none_of rfl
theorem Issuer.snapshotLatched : Issuer.Statement (.snapshotLatched) := Issuer.none_of rfl
theorem Issuer.dbgReg (data : W64) : Issuer.Statement (.dbgReg data) := Issuer.none_of rfl
theorem Issuer.dbgSnap (domain : BitVec 7) : Issuer.Statement (.dbgSnap domain) := Issuer.none_of rfl
theorem Issuer.dbgScan : Issuer.Statement (.dbgScan) := Issuer.none_of rfl
theorem Issuer.dbgPatch (data : BitVec 185) : Issuer.Statement (.dbgPatch data) := Issuer.none_of rfl
theorem Issuer.pwrResetAssert : Issuer.Statement (.pwrResetAssert) := Issuer.none_of rfl
theorem Issuer.warmResetAssert : Issuer.Statement (.warmResetAssert) := Issuer.none_of rfl
theorem Issuer.pwrResetRelease (cascId : BitVec 3) (i2cAddr : Bool) : Issuer.Statement (.pwrResetRelease cascId i2cAddr) := Issuer.none_of rfl
theorem Issuer.warmResetRelease : Issuer.Statement (.warmResetRelease) := Issuer.none_of rfl
theorem Issuer.fuseLoadDone (cells : HostWrites) : Issuer.Statement (.fuseLoadDone cells) := Issuer.none_of rfl
theorem Issuer.initFillDone : Issuer.Statement (.initFillDone) := Issuer.none_of rfl
theorem Issuer.bistDone (failed : BitVec 13) (units : List UnitId) : Issuer.Statement (.bistDone failed units) := Issuer.none_of rfl
theorem Issuer.bootFlashDone (flash : Option HostWrites) : Issuer.Statement (.bootFlashDone flash) := Issuer.none_of rfl
theorem Issuer.ready : Issuer.Statement (.ready) := Issuer.none_of rfl
theorem Issuer.latchedLoRead (path : Path) (addr : W32) : Issuer.Statement (.latchedLoRead path addr) := Issuer.none_of rfl
theorem Issuer.i2cRead (offset : W32) : Issuer.Statement (.i2cRead offset) := Issuer.none_of rfl
theorem Issuer.registerWrite (path : Path) (bar : Bar) (addr : W32) (value : W32) : Issuer.Statement (.registerWrite path bar addr value) := Issuer.none_of rfl
theorem Issuer.quadratureEdge (takeUp : Bool) (a : Bool) (b : Bool) : Issuer.Statement (.quadratureEdge takeUp a b) := Issuer.none_of rfl
theorem Issuer.pageRangeSegmentArrive (c : Nat) (mem : HostWrites) (ok : Bool) : Issuer.Statement (.pageRangeSegmentArrive c mem ok) := Issuer.some_of rfl ctx_lt
theorem Issuer.bufferCorrection (word : Nat) (winnow : Bool) : Issuer.Statement (.bufferCorrection word winnow) := Issuer.none_of rfl
theorem Issuer.interfaceCalibrationTimeout (stack : Nat) : Issuer.Statement (.interfaceCalibrationTimeout stack) := Issuer.none_of rfl
theorem Issuer.hopLoss (cp : CasPort) (lanesLeft : Nat) : Issuer.Statement (.hopLoss cp lanesLeft) := Issuer.none_of rfl
theorem Issuer.jtagInstruction (code : BitVec 8) : Issuer.Statement (.jtagInstruction code) := Issuer.none_of rfl
theorem Issuer.supplyRamp (vioUp : Bool) (coreUp : Bool) : Issuer.Statement (.supplyRamp vioUp coreUp) := Issuer.none_of rfl
theorem Issuer.stampStallEnd (u : Nat) : Issuer.Statement (.stampStallEnd u) := Issuer.none_of rfl

end Sys2Proof.Laws
end

