-- ==== Sys2Proof/Laws/Pools.lean ====
section
/-! SUPPORT. What the requests of the buffer pool manager can do: the decision rests on the pools and registers alone (R104), and a grant takes the
lowest free buffer (R106). -/

namespace Sys2Proof.Machine

/-- The decision of R104 reads the pools and the quota registers, nothing else. -/
theorem Dev.decideGrant_congr {d e : Dev} (hp : d.pools = e.pools) (hr : d.regs = e.regs) (req size : Nat) (spill : Bool) :
    d.decideGrant req size spill = e.decideGrant req size spill := by
  simp [Dev.decideGrant, Dev.quota, Dev.rfB, Dev.regB, Dev.floorOf, Dev.freeFor, hp, hr]

@[simp] theorem Dev.stamp_decideGrant (d : Dev) (u a req size : Nat) (spill : Bool) :
    (d.stamp u a).2.decideGrant req size spill = d.decideGrant req size spill :=
  Dev.decideGrant_congr (Dev.stamp_pools d u a) (Dev.stamp_regs d u a) req size spill

/-- A request served at once: the lowest free buffer of the pool, with its holders. -/
theorem Dev.request_of {d : Dev} {u : BufUnit} {tag : List Nat} {size p k : Nat} {spill : Bool} {share : List Holder}
    (hd : d.decideGrant (unitReq u) size spill = .from p) (hk : d.pools.lowest p = some k) :
    (d.request u tag size spill share).1 = some k ∧
    (d.request u tag size spill share).2.pools.bufs = d.pools.bufs.set k (some (grantOf (unitReq u) share d.pools.gens)) := by
  simp [Dev.request, hd, Dev.take, hk, Dev.onPools]

/-- A request that finds its pools empty waits on each that it tried, behind the requests that wait already (R105). -/
theorem Dev.request_waits {d : Dev} {u : BufUnit} {tag : List Nat} {size a : Nat} {spill : Bool} {share : List Holder} {s : W16} {l : List Nat}
    (hd : d.decideGrant (unitReq u) size spill = .refused s (a :: l)) :
    (d.request u tag size spill share).1 = none ∧
    ∃ w, (d.request u tag size spill share).2.pools.waiters = d.pools.waiters ++ [w] ∧ w.unit = u ∧ w.tag = tag ∧ w.share = share ∧ w.pools = a :: l := by
  have hp : ((d.stamp 7).2.countRefusal s).pools = d.pools := by unfold Dev.countRefusal; split <;> (try split) <;> simp
  simp [Dev.request, hd, Dev.onPools, hp]

/-- Work that was given a buffer while it waited takes that one. -/
theorem Dev.grab_ready {d : Dev} {u : BufUnit} {tag : List Nat} {size k : Nat} {share : List Holder} (h : d.pools.readyFor u tag = some k) :
    (d.grab u tag size share).1 = some k ∧ (d.grab u tag size share).2.pools.bufs = d.pools.bufs := by
  simp [Dev.grab, h, Dev.onPools]

/-- Work that waits already asks no second time. -/
theorem Dev.grab_waits {d : Dev} {u : BufUnit} {tag : List Nat} {size : Nat} {share : List Holder} (h : d.pools.readyFor u tag = none)
    (hw : d.pools.waiters.any (fun w => w.unit == u && w.tag == tag) = true) : d.grab u tag size share = (none, d) := by
  simp [Dev.grab, h, hw]

/-- Work that neither waits nor was given a buffer requests one, without spill. -/
theorem Dev.grab_request {d : Dev} {u : BufUnit} {tag : List Nat} {size : Nat} {share : List Holder} (h : d.pools.readyFor u tag = none)
    (hw : d.pools.waiters.any (fun w => w.unit == u && w.tag == tag) = false) : d.grab u tag size share = d.request u tag size false share := by
  simp [Dev.grab, h, hw]

/-- Such a request, served at once. -/
theorem Dev.grab_grants {d : Dev} {u : BufUnit} {tag : List Nat} {size p k : Nat} {share : List Holder} (h : d.pools.readyFor u tag = none)
    (hw : d.pools.waiters.any (fun w => w.unit == u && w.tag == tag) = false) (hd : d.decideGrant (unitReq u) size false = .from p)
    (hk : d.pools.lowest p = some k) : ∃ d1, d.grab u tag size share = (some k, d1) ∧
      d1.pools.bufs = d.pools.bufs.set k (some (grantOf (unitReq u) share d.pools.gens)) := by
  have hr := Dev.request_of (tag := tag) (share := share) hd hk
  exact ⟨(d.request u tag size false share).2, by rw [Dev.grab_request h hw, ← hr.1], hr.2⟩

end Sys2Proof.Machine
end

