-- ==== Sys2Proof/Machine/Package.lean ====
section
/-! DEFINITION. Balls and pins (20_package_electrical): what each of the 2,116 balls carries (R397 to R400), and the state of each low-speed pin
(R405, R408, Table 20.8). -/

namespace Sys2Proof.Machine

/-! ### Signals -/

/-- The lanes of Table 20.2. -/
inductive Lane where
  | paTx | paRx | pbTx | pbRx | hlTx | hlRx | c0Tx | c0Rx | c1Tx | c1Rx
  deriving DecidableEq, Repr

/-- The low-speed pins of Table 20.3. -/
inductive Pin where
  | pwrResetN | warmResetN | cascId (i : Nat) | testEn | thermAlertN | thermtripN | snapInN | snapOutN
  | tck | tms | tdi | tdo | trstN | i2cScl | i2cSda | i2cAddr | avsClk | avsMdata | avsSdata
  | flSck | flCsN | flIo0 | flIo1 | flRstN | gpio (i : Nat) | encSA | encSB | encTA | encTB
  | cartPresent | doorClosed | leaderSense | estopN | txDriveEn | txBrakeN
  | spCnv (i : Nat) | spSclk (i : Nat) | spSdi (i : Nat) | dpSclk (i : Nat) | dpSdo (i : Nat) | dpLdN (i : Nat) | ain (i : Nat)
  deriving DecidableEq, Repr

/-- A signal; `neg` is the N of a pair. -/
inductive Signal where
  | lane (l : Lane) (k : Nat) (neg : Bool)
  | portClk (p : PortId) (neg : Bool)
  | refclk (neg : Bool)
  | perstN (p : PortId)
  | pin (p : Pin)
  deriving DecidableEq, Repr

/-- Supplies (R400, Table 20.6). -/
inductive Supply where
  | vss | vcore | vsd | vsdh | vdds | vsram | vpps | vio | vfuse
  deriving DecidableEq, Repr

/-- What a ball carries. -/
inductive Ball where
  | signal (s : Signal)
  | supply (s : Supply)
  deriving DecidableEq, Repr

/-! ### The ball map -/

/-- Rows 39 and 40 from column 7 (Table 20.3). -/
def row39 : List Pin :=
  [.pwrResetN, .warmResetN, .cascId 0, .cascId 1, .cascId 2, .testEn, .thermAlertN, .thermtripN, .snapInN, .snapOutN, .tck, .tms, .tdi, .tdo, .trstN,
   .i2cScl, .i2cSda, .i2cAddr, .avsClk, .avsMdata, .avsSdata, .flSck, .flCsN, .flIo0, .flIo1, .flRstN] ++ (List.range 6).map Pin.gpio
def row40 : List Pin :=
  [.gpio 6, .gpio 7, .encSA, .encSB, .encTA, .encTB, .cartPresent, .doorClosed, .leaderSense, .estopN, .txDriveEn, .txBrakeN,
   .spCnv 0, .spSclk 0, .spSdi 0, .spCnv 1, .spSclk 1, .spSdi 1, .dpSclk 0, .dpSdo 0, .dpLdN 0, .dpSclk 1, .dpSdo 1, .dpLdN 1]
    ++ (List.range 8).map Pin.ain

/-- The index k of `base + 2k`, one of `n`. -/
def laneAt (base n x : Nat) : Option Nat := if base ≤ x ∧ (x - base) % 2 = 0 ∧ (x - base) / 2 < n then some ((x - base) / 2) else none

/-- The lane of a place on an edge: `depth` is the distance from it, 1 and 2 for the transmitter, 4 and 5 for the receiver, P the outer one. -/
def edgeLane (tx rx : Lane) (base n depth x : Nat) : Option Signal :=
  (laneAt base n x).bind (fun k =>
    if depth = 1 then some (.lane tx k false) else if depth = 2 then some (.lane tx k true)
    else if depth = 4 then some (.lane rx k false) else if depth = 5 then some (.lane rx k true) else none)

/-- A port's clock and PERST in column 40. -/
def portSide (p : PortId) (depth : Nat) : Option Signal :=
  if depth = 1 then some (.portClk p false) else if depth = 2 then some (.portClk p true) else if depth = 4 then some (.perstN p) else none

/-- The signal on a ball, if any (Tables 20.2 and 20.3): rows from the north edge, columns from the west. -/
def signalAt (row col : Nat) : Option Signal :=
  if row = 40 ∧ col = 1 then some (.refclk false) else if row = 40 ∧ col = 2 then some (.refclk true)
  else if row = 39 ∧ 7 ≤ col then (row39[col - 7]?).map Signal.pin
  else if row = 40 ∧ 7 ≤ col then (row40[col - 7]?).map Signal.pin
  else if col = 40 ∧ row ≤ 5 then portSide .a row
  else if col = 40 ∧ 42 ≤ row then portSide .b (47 - row)
  else if row ≤ 5 then edgeLane .paTx .paRx 7 16 row col
  else if 42 ≤ row then edgeLane .pbTx .pbRx 7 16 (47 - row) col
  else if col ≤ 5 then edgeLane .hlTx .hlRx 7 16 col row
  else if 42 ≤ col then
    (match edgeLane .c0Tx .c0Rx 7 8 (47 - col) row with
     | some s => some s
     | none => edgeLane .c1Tx .c1Rx 23 8 (47 - col) row)
  else none

/-- Whether a ball lies in a stack zone. -/
def inZone (row col : Nat) : Bool :=
  ((decide (7 ≤ row) && decide (row ≤ 12)) || (decide (31 ≤ row) && decide (row ≤ 36)))
    && ((decide (7 ≤ col) && decide (col ≤ 12)) || (decide (35 ≤ col) && decide (col ≤ 40)))

/-- The supply of a ball that carries no signal: the first rule of R400 that it meets. -/
def supplyAt (row col : Nat) : Supply :=
  let odd := (row + col) % 2 == 1
  if ((row = 6 ∨ row = 41) ∧ 6 ≤ col ∧ col ≤ 41) ∨ ((col = 6 ∨ col = 41) ∧ 6 ≤ row ∧ row ≤ 41) then (if odd then .vsdh else .vsd)
  else if row ≤ 6 ∨ 41 ≤ row ∨ col ≤ 6 ∨ 41 ≤ col then .vss
  else if row = 37 then .vss
  else if row = 38 then (if col % 2 = 0 then .vio else .vss)
  else if row = 39 ∨ row = 40 then (if col = 39 then .vfuse else .vss)
  else if !odd then .vss
  else if inZone row col then (if col = 7 ∨ col = 12 ∨ col = 35 ∨ col = 40 then .vpps else .vdds)
  else if col = 23 ∨ col = 24 then .vsram
  else .vcore

/-- What the ball at row/column carries, both from 1 to 46. -/
def ballAt (row col : Nat) : Ball :=
  match signalAt row col with
  | some s => .signal s
  | none => .supply (supplyAt row col)

/-! ### Pin states (Table 20.8) -/

/-- What a pin does: nothing, an input, a level driven, an open-drain output let go, or the traffic of its interface. -/
inductive PinState where
  | hiZ
  | input
  | drives (high : Bool)
  | released
  | active
  deriving DecidableEq, Repr

/-- The conditions of R408. -/
inductive PinPhase where
  | unpowered | reset | startUp | operation
  deriving DecidableEq, Repr

/-- The condition the device is in: VIO below 1.4 V; a reset asserted or R405; before READY; after it. -/
def Dev.pinPhase (d : Dev) : PinPhase :=
  if !d.pins.vioUp then .unpowered
  else if d.boot.pwrLow ∨ d.boot.warmLow ∨ !d.pins.coreUp then .reset
  else if d.boot.ready then .operation else .startUp

/-- An open-drain output that is low, or let go. -/
def openDrain (low : Bool) : PinState := if low then .drives false else .released

/-- The state of a low-speed pin. The transport's outputs hold their reset levels in reset unless boundary scan drives them (R367). -/
def Dev.pinState (d : Dev) (p : Pin) : PinState :=
  let ph := d.pinPhase
  if ph = .unpowered then .hiZ else
  let reset := ph == .reset
  match p with
  | .txDriveEn => .drives d.tc.driveEn
  | .txBrakeN => .drives d.tc.brakeN
  | .dpSclk _ => if reset then .drives false else .active
  | .dpSdo _ => if reset then .drives false else .active
  | .dpLdN _ => if reset then .drives true else .active
  | .spCnv _ => if reset then .drives false else .active
  | .spSclk _ => if reset then .drives false else .active
  | .gpio n => if !reset && d.gpioDrives n then .drives ((d.rf Reg.GL_GPIO 23 16).testBit n) else .input
  | .thermAlertN => openDrain (!reset && d.hk.alert)
  | .thermtripN => openDrain d.hk.tripped
  | .snapOutN => .drives (reset || !d.pins.snapOutLow)
  | .tdo => .hiZ
  | .flCsN => if ph == .startUp && d.mi.bistDone && !d.boot.bootDone then .active else .drives true
  | .flSck => if ph == .startUp && d.mi.bistDone && !d.boot.bootDone then .active else .drives false
  | .flIo0 => if ph == .startUp && d.mi.bistDone && !d.boot.bootDone then .active else .drives false
  | .flRstN => .drives (!reset && d.fu.loadDone)
  | .avsClk => if ph == .operation || (!reset && d.hk.commanded) then .active else .drives false
  | .avsMdata => if ph == .operation || (!reset && d.hk.commanded) then .active else .drives true
  | .i2cScl => .released
  | .i2cSda => if !reset && d.fu.loadDone then .active else .released
  | _ => .input

end Sys2Proof.Machine
end

