-- ==== Sys2Proof/Tests/Slice0.lean ====
section
/-! SUPPORT. The model's own tests: ill-formed terms, the spec's worked examples, and for each statement with hypotheses a state
that meets them, clause by clause. -/

open Sys2Proof Sys2Proof.Machine

namespace Sys2Proof.Tests

-- One thread: the evaluations below would each take a stack of their own.
set_option Elab.async false

/-! ### States -/

/-- A started device in READY whose two ports may make requests. -/
def live : Dev := { Dev.reset with
  clk := { Clock.reset with now := 1000, running := true }
  pa := { Port.reset with linkUp := true, busMaster := true }
  pb := { Port.reset with linkUp := true, busMaster := true }
  boot := { Boot.reset with pwrLow := false, stage := 6, bootDone := true, fillDone := true, discoveryDone := true, ready := true }
  fu := { Fuses.reset with loadDone := true, keyOk := true }
  mi := { MemInt.reset with initBusy := false, bistDone := true } }

/-- A state with no command waiting. -/
def on (d : Dev) : State := ⟨d, []⟩

/-- The device after a command. -/
def after (i : Instr) (d : Dev) : Dev :=
  match exec i (on d) with
  | .next t => t.dev
  | _ => d

/-- A word with its fields. -/
def word (op d a b m imm : Nat) : W64 := mkWord op d a b m imm

/-- A command of pair 1 of port A with command number 0. -/
def cmd (kind : Byte) (w : W64) (ctx : Option Nat) : Cmd :=
  { id := 0, port := .a, qid := 1
    sqe := { cid := 7, kind := kind, flags := 0, vh := 1, word := w, g0 := 0, g1 := 8, g2 := 0, g3 := 0, desc := 0, len := 0 }
    arrival := ⟨900, 1⟩, ctx := ctx, done := none, fwdTo := none, fwdFrom := none, orphan := false }

/-- Pair 1 of port A active with depth 16. -/
def paired (x : Pair) : Dev := { live with
  pairs := Table.empty.set 1 x, regs := Table.empty.set (regKey Reg.QM_QCFG 1) (some 4) }

/-- An active pair with heads and tails at 0. -/
def active : Pair := { Pair.reset with st := .active, phase := true }

/-- A device with one command in the pending store. -/
def stored (kind : Byte) (w : W64) : Dev := { paired active with cmds := [cmd kind w none] }

/-- A device whose context 0 is at word `w` of an inline command (kind 1) or a program (kind 2), with registers `g`. -/
def runs (kind : Byte) (w : W64) (g : Table W64 0 := Table.empty) (pc : Nat := 0) : Dev := { paired active with
  cmds := [cmd kind (if kind = 1 then w else 4096) (some 0)]
  ctxs := Table.empty.set 0 { Ctx.reset with cmd := some 0, vh := 1, ir := w, run := .ready, g := g, pc := pc } }

/-- The context of a device whose context 0 is in flight. -/
def flies (w : W64) (f : Flight) (g : Table W64 0 := Table.empty) : Dev := { runs 1 w g with
  ctxs := Table.empty.set 0 { Ctx.reset with cmd := some 0, vh := 1, ir := w, run := .flight f, g := g } }

theorem test_live_works : live.working = true ∧ live.writable (.port .a) = true ∧ live.writable (.port .b) = true := by decide

/-! ### Witnesses: queues -/

theorem witness_StepRunsFrontCommand :
    live.clk.running = true ∧ live.clk.now + 1 < 2 ^ 64 ∧ Dev.reset.clk.running = false := by decide

theorem witness_PowerResetHoldsDevice : State.reset.dev.boot.pwrLow = true ∧ actsInReset (.sampleTimerEdge []) = false := by decide

theorem witness_QuietUntilReleased : (on Dev.reset).dev.quiet = true ∧ ∃ t, step (on Dev.reset) = .next t := ⟨by decide, _, rfl⟩

theorem witness_ResetIsQuiet : (on live).dev.boot.pwrLow = false := by decide

/-- An SQ tail within the free slots, a CQ head within the entries of pair 1 and of pair 0, and a deleting pair. -/
theorem witness_DoorbellMovesTheIndex :
    let d := paired { active with cqTail := 3 }
    let a := { live with pairs := Table.empty.set 0 active, regs := Table.empty.set (regKey Reg.QM_QCFG 0) (some 4) }
    d.working = true ∧ (d.pairs.get 1).st = .active ∧ 15 < d.depth 1 ∧ (15 + 16 - 0) % 16 ≤ d.depth 1 - 1 - d.sqEntries 1 ∧
    (3 + 16 - 0) % 16 ≤ d.cqEntries 1 ∧ a.working = true ∧ (a.pairs.get 0).st = .active ∧ 0 < a.depth 0 ∧ (0 + 16 - 0) % 16 ≤ a.cqEntries 0 ∧
    ((paired { active with st := .deleting }).pairs.get 1).st = .deleting := by decide

theorem witness_RefusedDoorbellIsCaptured :
    let d := paired { active with sqTail := 2 }
    (live.pairs.get 1).st = .disabled ∧ ((paired { active with st := .error }).pairs.get 1).st = .error ∧ (d.pairs.get 1).st = .active ∧
    fieldOf (0x4000 : W32) 31 14 ≠ 0 ∧ d.depth 1 ≤ 16 ∧ d.depth 1 - 1 - d.sqEntries 1 < (0 + 16 - 2) % 16 ∧
    d.w1f Reg.QM_DBERR 0 31 31 = 0 := by decide

theorem witness_QueueCreateAndDelete :
    let cfg (v sq cq : W32) : Dev := { live with
      regs := (((Table.empty.set (regKey Reg.QM_QSEL 0) (some 1)).set (regKey Reg.QM_QCFG 1) (some v)).set (regKey Reg.QM_SQBASE_LO 1) (some sq)).set
        (regKey Reg.QM_CQBASE_LO 1) (some cq) }
    let d := cfg 14 4096 8192
    d.writable (.port .a) = true ∧ d.bankOf .a Reg.QM_QCTL = 1 ∧ (d.pairs.get 1).st = .disabled ∧ d.rfB Reg.QM_QCFG 1 3 0 = 14 ∧
    d.rfB Reg.QM_SQBASE_LO 1 11 0 = 0 ∧ d.rfB Reg.QM_CQBASE_LO 1 11 0 = 0 ∧ d.createCheck 1 = 0 ∧
    (cfg 3 0 0).createCheck 1 = 2 ∧ (cfg 15 0 0).createCheck 1 = 2 ∧ (cfg 4 64 0).createCheck 1 = 3 ∧ (cfg 4 0 64).createCheck 1 = 4 ∧
    (let e := { cfg 4 0 0 with pairs := Table.empty.set 1 active }
     e.createCheck 1 = 1 ∧ (e.unposted 1).isEmpty = true ∧ ({ e with cmds := [cmd 1 0 none] }.unposted 1).isEmpty = false) := by decide

/-- Pair 1 holds three entries and is of class HIGH, whose credit has to be reloaded first; QM_ARB is at its reset value. -/
theorem witness_FetchTakesABurst :
    let d := paired { active with sqTail := 3 }
    let h := { d with regs := Table.empty.set (regKey Reg.QM_QCFG 1) (some 0x14) }
    let r := if h.refill.pickClass.isNone then h.refill.reload else h.refill
    h.working = true ∧ h.refill.pickClass = none ∧ r.pickClass = some 1 ∧ r.nextOf 1 = some 1 := by decide

theorem witness_DispatchSetsUpTheContext :
    let inl := stored 1 (word 0x01 1 0 1 0 0)
    let put := stored 1 (word 0x40 1 0 0 0 0)
    let prog := stored 2 4096
    let bad := stored 1 0
    (∀ d ∈ [inl, put, prog, bad], d.working = true ∧ d.nextFor 0 = d.cmds.head? ∧ d.chooseEngine (cmd 1 0 none) = some (engOf 0) ∧
      (d.engines.get (engOf 0)).asleep = none ∧ ∀ m ∈ d.cmds, d.chooseEngine m = some (engOf 0) ∧ d.releaseRoom m = true) ∧
    legalInline (word 0x01 1 0 1 0 0) = true ∧ legalInline (word 0x40 1 0 0 0 0) = true ∧ wOp (word 0x40 1 0 0 0 0) = 0x40 ∧
    legalInline 0 = false := by decide

theorem witness_LineArrivesInTheCache :
    let d := { live with engines := Table.empty.set 31 { Engine.reset with reading := [(0, 4096, false)] } }
    d.working = true ∧ (d.engines.get 31).reading = [(0, 4096, false)] ∧ d.memReachable 0 = true := by decide

/-- A decided command of pair 1, its CQ at the last place; and one whose port was lost. -/
theorem witness_CompletionIsWritten :
    let k : Completion := ⟨0, 0, 5, ⟨950, 2⟩⟩
    let m (o : Bool) : Cmd := { cmd 1 0 none with done := some k, orphan := o }
    let d (o : Bool) : Dev := { paired { active with cqTail := 15 } with cmds := [m o] }
    (∀ o, (d o).alive = true ∧ (d o).er.mute = false ∧ (d o).nextDone .a 1 false = some (m o) ∧ (d o).postable 1 k.stamp = true) ∧
    (let x := (d false).pairs.get 1
     x.st ≠ .disabled ∧ x.errorCause < 2 ∧ (d false).portOpen .a = true ∧ x.cqTail + 1 = (d false).depth 1) := by
  decide

/-- The tail wraps to 0 and the phase inverts. -/
theorem test_completion_wraps :
    let d := { paired { active with cqTail := 15 } with cmds := [{ cmd 1 0 none with done := some ⟨0, 0, 5, ⟨950, 2⟩⟩ }] }
    let e := after (.completionPost .a 1) d
    (e.pairs.get 1).cqTail = 0 ∧ (e.pairs.get 1).phase = false ∧ readBytes e.hostA (15 * 32) 9 = [7, 0, 1, 0, 0, 0, 1, 0, 5] := by decide

theorem witness_VectorsFire :
    let d := { live with pb := { live.pb with vecs := Table.empty.set 1023 { Vec.reset with unsignalled := 1, masked := false } } }
    d.alive = true ∧ 0 < ((d.port .b).vecs.get 1023).unsignalled ∧ (d.port .b).busMaster = true ∧ (d.port .b).linkUp = true := by decide

/-- Port A has room, port B none; and port B with 64 notices held. -/
theorem witness_NoticeReachesBothPorts :
    let n : Notice := ⟨.errorRecord, 1, ⟨950, 2⟩⟩
    n.kind ≠ .epochChange ∧
    let d := { live with pairs := Table.empty.set 0 active, regs := Table.empty.set (regKey Reg.QM_QCFG 0) (some 4), notices := [n] }
    let e := { d with pb := { d.pb with held := List.replicate 64 n } }
    (∀ x ∈ [d, e], x.alive = true ∧ x.notices = n :: [] ∧ x.er.mute = false ∧ x.postable 0 n.stamp = true ∧ x.behindCompletion .a n.stamp = false ∧
      x.behindCompletion .b n.stamp = false ∧ x.noticeRoom .a = true ∧ (x.port .a).held = [] ∧ x.noticeRoom .b = false) ∧
    (d.port .b).held.length < 64 ∧ 64 ≤ (e.port .b).held.length := by decide

theorem witness_PortsComeAndGo :
    let d := { paired { active with sqTail := 1 } with cmds := [cmd 1 0 none] }
    let k : Completion := ⟨0, 0, 5, ⟨950, 2⟩⟩
    let e := { d with cmds := [{ cmd 1 0 none with done := some k }] }
    let z := { live with pairs := Table.empty.set 0 active, regs := Table.empty.set (regKey Reg.QM_QCFG 0) (some 4), notices := [⟨.errorRecord, 1, ⟨950, 2⟩⟩] }
    d.alive = true ∧ d.fu.loadDone = true ∧ (d.port .a).linkUp = true ∧ (d.port .a).held = [] ∧ d.heldZeros = [] ∧ d.cx.toLog = [] ∧
    (cmd 1 0 none).stored = true ∧ (cmd 1 0 none).fwdFrom = none ∧ (z.pairs.get (dqn .a 0)).st ≠ .disabled ∧ (z.pairs.get (dqn .a 0)).errorCause < 2 ∧
    z.noticeNext .a = true ∧
    (d.pairs.get (dqn .a 1)).st = .active ∧ (d.pairs.get (dqn .a 1)).errorCause = 0 ∧ 0 < d.sqEntries (dqn .a 1) ∧
    e.nextDone .a 1 false = some { cmd 1 0 none with done := some k } := by decide

/-! ### Witnesses: programs -/

theorem witness_RegisterInstructions :
    ∀ op ∈ [0x01, 0x02, 0x0A, 0x0C, 0x0D, 0x03, 0x04, 0x05, 0x0E, 0x09, 0x06, 0x07, 0x08, 0x0B], let d := runs 2 (word op 1 0 1 0 0)
      d.working = true ∧ d.mayIssue 0 op = true := by decide

/-- 2^64 − 1 plus 1 is 0 with Z and C set, N and V clear (Table 3.5); the sum of the two most negative numbers overflows. -/
theorem test_add_wraps :
    let d := runs 2 (word 0x01 2 0 1 0 0) ((Table.empty.set 0 0xFFFFFFFFFFFFFFFF).set 1 1)
    let x := (after (.add 0) d).ctxs.get 0
    x.r 2 = 0 ∧ x.z = true ∧ x.n = false ∧ x.c = true ∧ x.v = false := by decide
theorem test_add_overflows :
    let d := runs 2 (word 0x01 0 0 0 0 0) (Table.empty.set 0 0x8000000000000000)
    let x := (after (.add 0) d).ctxs.get 0
    x.r 0 = 0 ∧ x.z = true ∧ x.c = true ∧ x.v = true := by decide
/-- 0 − 1 borrows: C clear. -/
theorem test_sub_borrows :
    let d := runs 2 (word 0x02 2 0 1 0 0) (Table.empty.set 1 1)
    let x := (after (.sub 0) d).ctxs.get 0
    x.r 2 = 0xFFFFFFFFFFFFFFFF ∧ x.n = true ∧ x.c = false ∧ x.v = false := by decide
/-- The immediate is sign-extended. -/
theorem test_addi_negative :
    let d := runs 2 (word 0x0A 2 0 0 0 (2 ^ 40 - 1)) (Table.empty.set 0 5)
    ((after (.addi 0) d).ctxs.get 0).r 2 = 4 := by decide

/-- MOVI mod 1 replaces the top 24 bits and keeps the low 40. -/
theorem test_movi_high :
    let d := runs 2 (word 0x0B 2 0 0 1 0xABCDEF) (Table.empty.set 2 0x1234567890)
    ((after (.movi 0) d).ctxs.get 0).r 2 = 0xABCDEF1234567890 := by decide

/-- SAR by 63 of a negative number is all ones, with C the last bit shifted out. -/
theorem test_sar_63 :
    let d := runs 2 (word 0x08 2 0 1 0 0) ((Table.empty.set 0 0xC000000000000000).set 1 63)
    let x := (after (.sar 0) d).ctxs.get 0
    x.r 2 = 0xFFFFFFFFFFFFFFFF ∧ x.n = true ∧ x.c = true := by decide

theorem witness_SteppingOn :
    (let d := runs 1 (word 0x01 1 0 1 0 0)
     (d.ctxs.get 0).cmd = some 0 ∧ d.cmd 0 = some (cmd 1 (word 0x01 1 0 1 0 0) (some 0)) ∧ (cmd 1 0 (some 0)).sqe.kind ≠ 2) ∧
    ∀ pc ∈ [0xFFF0, 0xFFF8], let d := runs 2 (word 0x01 1 0 1 0 0) Table.empty pc
      (d.ctxs.get 0).cmd = some 0 ∧ d.cmd 0 = some (cmd 2 4096 (some 0)) ∧ (d.ctxs.get 0).pc = pc ∧ pc % 8 = 0 := by decide

/-- B taken and not taken, to a target inside and outside; CALL, RET and BR. -/
theorem witness_BranchInstructions :
    (∀ op ∈ [0x20, 0x21, 0x22, 0x23], let d := runs 2 (word op 0 0 0 0 1) Table.empty 0xFFF8
      d.working = true ∧ d.mayIssue 0 op = true ∧ (d.ctxs.get 0).pc ≤ 0xFFF8) ∧
    wMod (word 0x20 0 0 0 1 1) = 1 ∧ ((runs 2 (word 0x20 0 0 0 1 1)).ctxs.get 0).z = false := by decide

/-- A branch one word back from pc 8 lands at 0, whose word is asked for. -/
theorem test_branch_back :
    let w := word 0x20 0 0 0 0 (2 ^ 40 - 1)
    let x := (after (.b 0) (runs 2 w Table.empty 8)).ctxs.get 0
    x.pc = 0 ∧ x.run = .line 4096 := by decide

theorem witness_WaitAndEnd :
    (∀ i ∈ [0, 1], let d := runs 2 (word 0x24 0 0 0 0 i)
      d.working = true ∧ d.mayIssue 0 0x24 = true ∧ (d.clk.now < d.clk.now + i ∨ i = 0)) ∧
    (let d := { live with ctxs := Table.empty.set 3 { Ctx.reset with run := .waitTill 2000 } }
     d.working = true ∧ (d.ctxs.get 3).run = .waitTill 2000 ∧ d.er.halted = false) ∧
    (∀ st ∈ [(0 : Nat), 0x0101, 0x0A01, 0xFFFF], let d := runs 2 (word 0x25 0 0 0 0 st)
      d.working = true ∧ d.mayIssue 0 0x25 = true ∧ (d.ctxs.get 0).cmd = some 0 ∧ d.cmd 0 = some (cmd 2 4096 (some 0))) ∧
    definedStatuses.contains (0 : W16) = true ∧ definedStatuses.contains (0xFFFF : W16) = false := by decide

/-- A program with and without catch, and an inline command. -/
theorem witness_DeviceInstructionFinishes :
    (∀ m ∈ [0, 8], let d := runs 2 (word 0x42 1 2 3 m 0)
      (d.ctxs.get 0).cmd = some 0 ∧ d.cmd 0 = some (cmd 2 4096 (some 0)) ∧ (d.ctxs.get 0).ir = word 0x42 1 2 3 m 0) ∧
    (word 0x42 1 2 3 8 0).getLsbD 43 = true ∧ (word 0x42 1 2 3 0 0).getLsbD 43 = false ∧ St.range ≠ St.aborted ∧ St.range ≠ St.staleEpoch ∧
    St.range ≠ St.illegalInstruction ∧
    (let d := runs 1 (word 0x42 1 2 3 0 0)
     (d.ctxs.get 0).cmd = some 0 ∧ d.cmd 0 = some (cmd 1 (word 0x42 1 2 3 0 0) (some 0))) := by decide

theorem witness_MemoryInstructions :
    (∀ op ∈ [0x30, 0x31], ∀ m ∈ [0, 1, 2, 3, 4], ∀ imm ∈ [0, 1], let d := runs 2 (word op 1 2 3 m imm)
      d.working = true ∧ d.mayIssue 0 op = true ∧ d.mayRequest 0 = true ∧ (d.ctxs.get 0).h.get 0 = none) ∧
    (∀ a ∈ [0, 1], let d := runs 1 (word 0x32 0 2 0 0 0) (Table.empty.set 2 (toW64 a))
      d.mayIssue 0 0x32 = true ∧ d.dataLen 0 = 0 ∧ (d.ctxs.get 0).ga.toNat = a) := by decide


/-- Buffer space: an empty handle, and a clean word of a buffer at the last bytes and one past the end. -/
theorem witness_MemoryInstructions_buffer :
    ∀ op ∈ [0x30, 0x31], ∀ m ∈ [4, 5, 6, 7],
      let d (h : Option Nat) : Dev := { runs 2 (word op 1 2 3 m 0) with
        ctxs := Table.empty.set 0 { Ctx.reset with cmd := some 0, vh := 1, ir := word op 1 2 3 m 0, run := .ready, h := Table.empty.set 0 h } }
      let w := (d none).pools.wordOf 5
      (d none).working = true ∧ (d none).mayIssue 0 op = true ∧ ((d none).ctxs.get 0).h.get 0 = none ∧ ((d (some 5)).ctxs.get 0).h.get (0 / 2 ^ 62) = some 5 ∧
      w ∉ (d none).mi.poison ∧ (d none).mi.mergeOf w = none ∧ (d none).mi.mergeCount (wordStack w) < 64 ∧ poolBytes (bufPool 5) = 4096 := by decide

/-- A word that nothing has written decodes clean. -/
theorem witness_MemoryInstructions_clean : bchDecode (live.mi.raw (live.pools.wordOf 5)) = .clean := by decide +kernel
/-! ### Witnesses: buffers, objects, keys -/

/-- An open volume with handle 1, and its cartridge. -/
def vol : Volume :=
  { handle := 1, volumeId := 9, session := 2, sealed := false, len := 900000, positions := 100, blockCode := 2, nextFolio := 4, nativeUsed := 0
    recordLen := 1000, coveredLen := 0, directoryLen := 0, ckptNumber := 0, lastCkpt := none, deltas := 0, deltaEntries := 0, entries := []
    fresh := [], lastLocator := 0 }
def cart : Cart :=
  { len := 900000, primer := [], formes := [], threaded := true }

/-- A device with an open volume, its transport in RUN, and slot 5 loaded for both uses. -/
def withVolume (d : Dev) (st : VolState := .opened) : Dev := { d with
  vol := { Vol.reset with st := st, loaded := some vol, cart := some cart, firstDone := true }
  tc := { Tc.reset with st := .run, posValid := true }
  cx := { Cipher.reset with slots := Table.empty.set 5 ⟨.loaded, 0, 77, 3, 0, 10, 0, 0⟩ } }

/-- Registers with a buffer size or another value in g1 and g2. -/
def regs12 (a b : Nat) : Table W64 0 := (Table.empty.set 1 (toW64 a)).set 2 (toW64 b)

/-- A handle of context 0. -/
def withHandle (d : Dev) (h k : Nat) (b : Buf) : Dev := { d with
  ctxs := d.ctxs.modify 0 (fun x => { x with h := x.h.set h (some k) })
  pools := { d.pools with bufs := Table.empty.set k (some b) } }

def buf1 : Buf := ⟨0, [.ctx 0], .ctx 0, 0, false, false, false, false⟩

/-- Grants at 1 byte and 16 MiB, refusals by reserve, quota, size and handle; shares, frees, unit requests and a carve that passes. -/
theorem witness_BufferGrantsAndReleases :
    let al (size : Nat) := runs 2 (word 0x70 3 1 0 0 0) (regs12 size 0)
    let sh (m : Nat) := withHandle (runs 2 (word 0x71 2 0 0 m 0)) 0 5 buf1
    let fr (b : Buf) := withHandle (runs 2 (word 0x72 0 0 0 0 0)) 0 5 b
    let full (d : Dev) : Dev := { d with pools := { d.pools with carve := d.pools.carve.set 0 4096 } }
    let tight (d : Dev) : Dev := { d with regs := d.regs.set (regKey Reg.BP_QLIMIT 0) (some 0) }
    (∀ size ∈ [0, 1, 16777216, 16777217], (al size).working = true ∧ (al size).mayIssue 0 0x70 = true ∧ ((al size).ctxs.get 0).ga.toNat = size ∧
      ((al size).ctxs.get 0).h.get 3 = none) ∧
    (∀ size ∈ [1, 16777216], let d := al size
      d.pools.used.get (d.reqOf 0) + poolUnits (poolFor size) ≤ d.quota (d.reqOf 0) ∧
      d.pools.carve.get (poolFor size) < 2 ^ 26 ∧ d.floorOf (d.reqOf 0) (poolFor size) < d.freeFor (d.reqOf 0) (poolFor size)) ∧
    (full (al 1)).freeFor 0 0 ≤ (full (al 1)).floorOf 0 0 ∧ ¬ ((tight (al 1)).pools.used.get 0 + poolUnits 0 ≤ (tight (al 1)).quota 0) ∧
    ((withHandle (al 1) 3 5 buf1).ctxs.get 0).h.get 3 ≠ none ∧
    (∀ m ∈ [0, 1], (sh m).mayIssue 0 0x71 = true ∧ ((sh m).ctxs.get 0).h.get 0 = some 5 ∧ (sh m).pools.bufs.get 5 = some buf1) ∧
    (let two : Buf := { buf1 with holders := [.ctx 0, .ctx 1] }
     let other : Buf := { two with finisher := .ctx 1 }
     (∀ b ∈ [buf1, two, other], (fr b).mayIssue 0 0x72 = true ∧ ((fr b).ctxs.get 0).h.get 0 = some 5 ∧ (fr b).pools.bufs.get 5 = some b ∧
       .ctx 0 ∈ b.holders ∧ (fr b).pools.waiters = []) ∧ other.finisher ≠ .ctx 0 ∧ other.finisher ≠ .pool ∧ 2 ≤ two.holders.length) ∧
    (live.pools.used.get (unitReq .forme) + poolUnits (poolFor 192000) ≤ live.quota (unitReq .forme) ∧ 0 < live.pools.free 2 ∧
      live.pools.lowest 2 = some (bufKey 2 0) ∧
      ({ live with pools := { live.pools with carve := live.pools.carve.set 2 0 } } : Dev).pools.free 2 = 0) ∧
    live.carveCheck = 0 := by decide

/-- A context attaches by the token of a shared buffer. -/
theorem witness_share_attach :
    let d := withHandle (runs 2 (word 0x71 2 1 0 2 0) ⟨[(1, shareToken 5 0)]⟩) 0 5 { buf1 with shared := true }
    d.working = true ∧ d.mayIssue 0 0x71 = true ∧ d.tokenBuf ((d.ctxs.get 0).ga) = some (5, { buf1 with shared := true }) ∧
    (d.ctxs.get 0).h.get 2 = none ∧ ({ buf1 with shared := true } : Buf).ctxHolders ≤ 14 := by
  refine ⟨by decide, by decide, ?_, by decide, by decide⟩
  show Dev.tokenBuf _ (shareToken 5 0) = _
  simp [Dev.tokenBuf, withHandle, Table.set, Table.empty, Table.insertKey, buf1]

/-- A PUT with and without its intent, one that is refused, a PATCH and a DELETE. -/
theorem witness_WritesStart :
    let go (op gd : Nat) := withVolume (runs 1 (word op 1 2 3 0 5) (regs12 gd 77))
    let w : Write := { (go 0x40 0).newIntent 0 with id := 0 }
    let withIntent (d : Dev) : Dev := { d with idx := { d.idx with writes := [w], nextWrite := 1 } }
    let pre (d : Dev) : Dev := ((d.useTurn 0).issue 0).markRaw 0
    (∀ op ∈ [0x40, 0x41], (go op 0).working = true ∧ (go op 0).mayIssue 0 op = true ∧ (pre (go op 0)).writeCheck 0 op = none ∧
      ((go op 0).cx.slots.get 5).pins < 2 ^ 24 - 1 ∧ (pre (go op 1)).writeCheck 0 op = some (St.range, 0, 0)) ∧
    (pre (go 0x40 0)).intentIn 0 = none ∧ (pre (go 0x40 0)).intentRoom 0 = true ∧ (pre (go 0x40 0)).write 0 = none ∧
    (pre (withIntent (go 0x40 0))).intentIn 0 = some w ∧ (pre (withIntent (go 0x40 0))).write w.id = some w ∧ w.kind = .put ∧
    (go 0x43 0).mayIssue 0 0x43 = true ∧ ((go 0x43 0).issue 0).volumeCheck 0 0x43 = none ∧
    ((runs 1 (word 0x43 0 2 0 0 0)).issue 0).volumeCheck 0 0x43 = some St.noCartridge := by decide

theorem witness_ReadsAndCompressionStart :
    let go (op gd gb : Nat) := withVolume (runs 1 (word op 1 3 2 0 (if op = 0x42 then 5 else 0)) (regs12 gd gb))
    let empty (d : Dev) : Dev := { d with cx := Cipher.reset }
    (∀ op ∈ [0x42, 0x44, 0x53, 0x48, 0x49], let d := go op 0 0
      d.working = true ∧ d.mayIssue 0 op = true ∧ (d.issue 0).volumeCheck 0 op = none) ∧
    (let d := (go 0x42 0 (2 ^ 48)).issue 0
     let x := d.ctxs.get 0
     x.gb.toNat + x.gd.toNat ≤ 2 ^ 48 ∧ x.gd.toNat ≤ d.dataLen 0 - x.dc ∧ (d.slot 5).refusal false = none ∧ (d.slot 5).pins < 2 ^ 24 - 1) ∧
    (let x := ((go 0x42 1 (2 ^ 48)).issue 0).ctxs.get 0
     ¬ (x.gb.toNat + x.gd.toNat ≤ 2 ^ 48)) ∧
    ((empty (go 0x42 0 0)).issue 0 |>.slot 5).refusal false = some St.slotEmpty ∧
    (((go 0x44 0 8).issue 0).ctxs.get 0).gb.toNat % 8 = 0 ∧ (((go 0x44 0 4).issue 0).ctxs.get 0).gb.toNat % 8 ≠ 0 ∧
    ((go 0x48 1 0).issue 0).dataLen 0 - (((go 0x48 1 0).issue 0).ctxs.get 0).dc < (((go 0x48 1 0).issue 0).ctxs.get 0).gd.toNat := by decide

/-- Lookups of an object that does not exist and of one that does, and a write whose data has all come. -/
theorem witness_LookupAndCommit :
    let del := withVolume (flies (word 0x43 0 2 0 0 0) (.existence 0x43))
    let old : Write := { del.newIntent 0 with id := 0, ctx := none, kind := .put, commit := some ⟨800, 2⟩, arrival := ⟨700, 1⟩ }
    let delOld : Dev := { del with idx := { del.idx with writes := [old], nextWrite := 1 } }
    let r : ReadOp := ⟨0x42, 0, 0, 0, 5, ⟨900, 1⟩, false, 0, [], 0, 0, [], [], [], [], false⟩
    let get := withVolume (flies (word 0x42 1 2 3 0 5) (.read r))
    let w : Write := { del.newIntent 0 with id := 0, kind := .put }
    let wr : Dev := { withVolume (flies (word 0x40 1 2 0 0 5) (.write 0)) with idx := { del.idx with writes := [w], nextWrite := 1 } }
    (∀ d ∈ [del, delOld, get, wr], d.working = true ∧ d.er.halted = false ∧ d.horizonOpen 1 (d.orderStamp 0) = false ∧ d.reloading 0 = false) ∧
    (∀ d ∈ [del, delOld], (d.ctxs.get 0).run = .flight (.existence 0x43) ∧ d.intentAhead 1 0 (d.orderStamp 0) 0 true = false ∧ d.intentRoom 0 = true ∧
      d.intentIn 0 = none) ∧
    delOld.write 1 = none ∧ del.versionsSeen 1 0 (del.orderStamp 0) = [] ∧ del.entriesSeen 0 (del.orderStamp 0) = [] ∧
    delOld.versionsSeen 1 0 (delOld.orderStamp 0) = [old] ∧ delOld.entriesSeen 0 (delOld.orderStamp 0) = [] ∧ old.kind = .put ∧
    (get.ctxs.get 0).run = .flight (.read r) ∧ get.mode = .normal ∧ get.intentAhead 1 0 (get.orderStamp 0) 0 false = false ∧
    get.versionsSeen 1 0 r.stampAt = [] ∧ get.entriesSeen 0 r.stampAt = [] ∧
    (wr.ctxs.get 0).run = .flight (.write 0) ∧ wr.write 0 = some w ∧ w.data.length = w.len ∧ w.commit = none ∧ w.ctx = some 0 ∧
    (wr.ctxs.get 0).cmd = some 0 ∧ wr.cmd 0 = some (cmd 1 (word 0x40 1 2 0 0 5) (some 0)) := by decide

/-- An object with no write seen does not exist, and one whose one write seen is a PUT does. -/
theorem witness_object_size (d : Dev) (vh : W32) (obj : W64) (t : Stamp) (he : d.entriesSeen obj t = []) :
    (d.versionsSeen vh obj t = [] → sizeOf' (d.layers vh obj t) = none) ∧
    (∀ w, d.versionsSeen vh obj t = [w] → w.kind = .put → sizeOf' (d.layers vh obj t) = some w.sizeAfter) := by
  constructor
  · intro h; simp [Dev.layers, h, he, sizeOf']
  · intro w h hk; simp [Dev.layers, h, he, sizeOf', Layer.sizeAfter, hk]

theorem witness_VolumeCommandsStart :
    let go (op imm : Nat) (st : VolState) := withVolume (runs 1 (word op 0 0 0 0 imm)) st
    let safe (d : Dev) : Dev := { d with tc := Tc.reset }
    let empty (d : Dev) : Dev := { d with vol := Vol.reset }
    (∀ d ∈ [go 0x50 (0x4150524F * 256) .present, go 0x51 0 .present], d.working = true ∧ d.cs.inRing = false ∧ d.cs.st = .standalone ∧
      d.tc.st = .run ∧ d.vol.firstDone = true ∧ d.tc.movingFor = none ∧ d.cs.modePending = false ∧ d.forSet 0 = false) ∧
    (go 0x50 (0x4150524F * 256) .present).stateCheck 0x50 = none ∧ (go 0x50 (0x4150524F * 256) .present).mayIssue 0 0x50 = true ∧
    wImm (word 0x50 0 0 0 0 (0x4150524F * 256)) / 256 = 0x4150524F ∧ wImm (word 0x50 0 0 0 0 256) / 256 ≠ 0x4150524F ∧
    (go 0x51 0 .present).stateCheck 0x51 = none ∧ (go 0x51 0 .present).mayIssue 0 0x51 = true ∧
    (∀ st ∈ [VolState.opened, .sealed], (go 0x52 0 st).mayIssue 0 0x52 = true ∧ ((go 0x52 0 st).issue 0).volumeCheck 0 0x52 = none) ∧
    (∀ op ∈ [0x54, 0x55, 0x56], (go op 0 .opened).mayIssue 0 op = true ∧ ((go op 0 .opened).issue 0).volumeCheck 0 op = none) ∧
    (∀ op ∈ [0x50, 0x51, 0x52, 0x54, 0x55, 0x56], (empty (go op 0 .opened)).stateCheck op ≠ none) ∧
    (safe (go 0x51 0 .present)).tc.st ≠ .run ∧ ((safe (go 0x52 0 .opened)).issue 0).volumeCheck 0 0x52 = none ∧
    (let d := withVolume (runs 1 (word 0x56 1 1 0 0 0) (regs12 (3 * 2 ^ 29) 0))
     let ring : Dev := { d with cs := { d.cs with st := .member, size := 4, present := [0, 3] } }
     ring.working = true ∧ ring.cs.inRing = true ∧ ring.widen = false ∧ ring.mayIssue 0 0x56 = true ∧ (ring.issue 0).volumeCheck 0 0x56 = none ∧
       ((ring.issue 0).ctxs.get 0).ga.toNat < 2 ^ 32 ∧ fieldOf ((ring.issue 0).ctxs.get 0).ga 31 29 ∈ ring.others) := by decide

/-- Slots in each state that the clauses name. Unwrapping a package or a blob is too long a computation for a small test, so no
state is shown to unwrap one; every other condition of those clauses is met here. -/
theorem witness_KeyInstructions :
    let go (op : Nat) (sl : Slot) (a b : Nat) : Dev := { runs 1 (word op (if op = 0x64 then 1 else 0) 1 2 0 5) (regs12 a b) with
      cx := { Cipher.reset with slots := Table.empty.set 5 sl } }
    let s (st : SlotState) (pins : Nat) : Slot := ⟨st, 0, 77, 3, 0, 10, 0, pins⟩
    (∀ op ∈ [0x60, 0x61, 0x62, 0x63, 0x64], let d := go op (s .loaded 0) 8 16
      d.working = true ∧ d.mayIssue 0 op = true ∧ d.mayRequest 0 = true ∧ (d.ctxs.get 0).ga.toNat % 8 = 0 ∧ (d.ctxs.get 0).gb.toNat % 8 = 0) ∧
    ((go 0x60 (s .loaded 0) 4 0).ctxs.get 0).ga.toNat % 8 ≠ 0 ∧
    packageOk ((((leBytes 4 0x4B504B49 ++ leBytes 2 1 ++ leBytes 2 184) ++ leBytes 8 77) ++ leBytes 4 3 ++ zeros 12) ++ [4] ++ zeros 151) = true ∧
    leNat (sliceBytes (zeros 184) 24 8) < 2 ^ 63 ∧
    (∀ st ∈ [SlotState.empty, .loaded, .draining, .revoking], ((go 0x61 (s st 0) 8 16).cx.slots.get 5).st = st ∧ (go 0x61 (s st 0) 8 16).rngFenced = false) ∧
    ((go 0x63 (s .loaded 1) 0 0).cx.slots.get 5).pins = 1 ∧
    (let d := go 0x64 (s .loaded 1) 0 0
     (d.cx.slots.get 5).st = .loaded ∧ (∀ j, j < 256 → d.pinsSlot j 5 = false) ∧ d.idx.writes = []) ∧
    (let d := go 0x64 (s .revoking 0) 0 0
     (d.cx.slots.get 5).st = .revoking ∧ d.cs.st ≠ .member ∧ d.er.pend = []) := by decide +kernel

theorem witness_ControlInstructions :
    let go (op m a : Nat) := runs 1 (word op 1 1 0 m 0) (regs12 a 0)
    let other (x : Cmd) (d : Dev) : Dev := { d with cmds := d.cmds ++ [{ x with id := 1, qid := 2 }] }
    let ab (k : Option Completion) := other { cmd 1 (word 0x01 0 0 0 0 0) none with done := k } (go 0x80 0 (2 * 65536 + 7))
    let abab := other (cmd 1 (word 0x80 1 1 0 0 0) none) (go 0x80 0 (2 * 65536 + 7))
    let held (d : Dev) : Dev := { d with sn := { d.sn with held := true } }
    let maint (d : Dev) : Dev := { d with mode := .maint }
    (∀ op ∈ [0x80, 0x90, 0x81, 0xA0, 0xA1], (go op 0 0).working = true ∧ (go op 0 0).mayIssue 0 op = true) ∧
    fieldOf (((go 0x80 0 (2 ^ 26)).issue 0).ctxs.get 0).ga 63 26 ≠ 0 ∧ (go 0x80 0 0).abortTarget 0 0 = none ∧
    (∀ d ∈ [ab none, ab (some ⟨0, 0, 0, ⟨950, 2⟩⟩), abab], fieldOf (((d.issue 0).ctxs.get 0).ga) 63 26 = 0 ∧
      fieldOf (((d.issue 0).ctxs.get 0).ga) 25 16 = 2 ∧ fieldOf (((d.issue 0).ctxs.get 0).ga) 15 0 = 7) ∧
    ((ab none).abortTarget 2 7).any (fun m => !m.isAbort && m.done.isNone && m.ctx.isNone && m.fwdTo.isNone && m.id == 1) = true ∧
    ((ab (some ⟨0, 0, 0, ⟨950, 2⟩⟩)).abortTarget 2 7).any (fun m => !m.isAbort && m.done.isSome) = true ∧ (abab.abortTarget 2 7).any Cmd.isAbort = true ∧
    wModLow (word 0x90 1 1 0 0 0) = 0 ∧ wModLow (word 0x90 1 1 0 1 0) = 1 ∧ (go 0x90 0 0).mode = .normal ∧ (go 0x90 0 0).vol.st = .empty ∧
    (withVolume (go 0x90 0 0)).maintCheck false = some St.wrongState ∧ (maint (go 0x90 1 0)).mode = .maint ∧ (maint (go 0x90 1 0)).mayIssue 0 0x90 = true ∧
    (go 0x90 1 0).maintCheck true = some St.wrongState ∧ (go 0xA0 0 0).sn.held = false ∧ (held (go 0xA0 0 0)).sn.held = true := by decide

theorem witness_MotionInstructions :
    let go (op m a : Nat) : Dev := { withVolume (runs 1 (word op 0 1 0 m 0) (regs12 a 0)) .present with mode := .maint }
    let safe (d : Dev) : Dev := { d with tc := Tc.reset }
    let out (d : Dev) : Dev := { d with vol := { d.vol with cart := some { cart with threaded := false } } }
    (∀ op ∈ [0x91, 0x92, 0x93, 0x94, 0x95], (go op 0 0).working = true ∧ (go op 0 0).mode = .maint ∧ (go op 0 0).mayIssue 0 op = true ∧
      (go op 0 0).tc.st = .run ∧ (go op 0 0).tc.movingFor = none ∧ (go op 0 0).tc.seekFor = none ∧ (safe (go op 0 0)).tc.st ≠ .run) ∧
    (go 0x91 0 900000000).offMedium 900000000 = false ∧ (go 0x91 0 900000001).offMedium 900000001 = true ∧
    ((go 0x94 0 159).ctxs.get 0).ga.toNat ≤ 159 ∧ 159 < ((go 0x94 0 160).ctxs.get 0).ga.toNat ∧
    wModLow (word 0x95 0 1 0 0 0) = 0 ∧ wModLow (word 0x95 0 1 0 1 0) = 1 ∧ ({ go 0x95 0 0 with vol := Vol.reset } : Dev).vol.st = .empty ∧
    (go 0x95 0 0).vol.st ≠ .empty ∧ (go 0x95 0 0).threaded = true ∧ (out (go 0x95 0 0)).threaded = false := by decide

theorem witness_InstructionsFinish :
    let fl (f : Flight) := withVolume (flies 0 f)
    let r : ReadOp := ⟨0x53, 0, 0, 1, 0, ⟨900, 1⟩, true, 1, [.gap 0 1], 1, 0, [], [], [], [], false⟩
    (∀ f ∈ [Flight.thread, .unthread, .fence true ⟨900, 1⟩, .fence false ⟨900, 1⟩, .abortWait 9, .erase 5 true, .eraseNow 5 2 true, .read r],
      (fl f).working = true ∧ (fl f).er.halted = false ∧ ((fl f).ctxs.get 0).run = .flight f) ∧
    (fl .thread).tc.posValid = true ∧ (fl (.fence true ⟨900, 1⟩)).fenceWaits 0 = false ∧ (fl (.abortWait 9)).cmd 9 = none ∧
    (fl (.eraseNow 5 2 true)).revokedLeft = false ∧ r.resolved = true ∧ r.plan.any Source.onTape = false ∧
    live.writable (.port .b) = true ∧ live.idx.rebuilding = false ∧
    ({ live with idx := { live.idx with rebuilding := true } } : Dev).idx.rebuilding = true := by decide

/-- A list of one range, read and not; data for a FIFO; and FIFOs that start their drain. -/
theorem witness_IngestTakesHostData :
    let base (w : W64) (f : Flight) (len : Nat) : Dev := { withVolume (flies w f) with
      cmds := [{ cmd 1 w (some 0) with sqe := { (cmd 1 w none).sqe with desc := 4096, len := toW64 len } }]
      hostA := writeBytes Table.empty 4096 (leBytes 8 8192 ++ leBytes 4 len ++ leBytes 4 0) }
    let w : Write := { (withVolume (runs 1 (word 0x40 1 2 0 0 5))).newIntent 0 with id := 0, len := 4 }
    let d : Dev := { base (word 0x40 1 2 0 0 5) (.write 0) 4 with idx := { Index.reset with writes := [w], nextWrite := 1 } }
    let fi (n : Nat) (full : Bool) : Fifo := ⟨0, 0, List.replicate n 1, full, false, 2048, some 0⟩
    let filled (n : Nat) (full : Bool) : Dev := { d with cm := { d.cm with fifos := Table.empty.set 31 (some (fi n full)) } }
    d.working = true ∧ d.er.halted = false ∧ d.remoteOf 0 = none ∧ d.mayRequest 0 = true ∧ d.flightOf 0 = some (.write 0) ∧
    usesData (.write 0) = true ∧ (d.dataWalk 0).total < d.dataLen 0 ∧
    (takeSegment (d.mem 0) (d.dataLen 0) (d.dataWalk 0)).isSome = true ∧ takeSegment Table.empty 4 (d.dataWalk 0) = none ∧
    d.intake 0 = some ⟨4, 1048576, 0⟩ ∧ d.lendWaits 0 = false ∧ (filled 2 false).fillingOf 0 = some (31, fi 2 false) ∧
    (∀ kf ∈ (filled 2 false).fifosOf 0, kf.2.draining = false) ∧ (filled 4 true).fifosOf 0 = [(32 * portNo .a + 31, fi 4 true)] ∧
    (filled 4 true).cm.fifos.get (32 * portNo .a + 31) = some (fi 4 true) ∧ w.byRequest = false ∧ w.lentAt 0 = none ∧ 0 * w.blockSize = w.data.length ∧
    (let z := base (word 0x49 1 2 3 0 0) (.decompress 8 4 0 []) 4
     z.flightOf 0 = some (.decompress 8 4 0 []) ∧ z.intake 0 = some ⟨4, 1048576, 0⟩ ∧ z.fifosOf 0 = [] ∧ z.freeFifo .a = some 0) ∧
    live.cutBytes = 2048 := by decide

theorem witness_cut (f : Fifo) : 2048 ≤ ({ f with bytes := List.replicate 2048 0 } : Fifo).bytes.length :=
  Nat.le_of_eq (List.length_replicate (n := 2048) (a := (0 : Byte))).symm


/-- FLUSH with nothing to wait for, and each stage of the volume commands that INSTRUCTION_FINISH takes on. -/
theorem witness_VolumeCommandsEnd :
    let fl (f : Flight) : Dev := withVolume (flies (word 0x50 0 0 0 0 0) f)
    let out (d : Dev) (len : Nat) : Dev := { d with vol := { d.vol with cart := some { cart with len := len } } }
    let t : Stamp := ⟨900, 1⟩
    (∀ f ∈ [Flight.format none 0, .format none 1, .format (some 9) 2, .format none 4, .format none 5, .load 0 0, .load 3 0, .unload 1 t, .unload 2 t,
        .seal true t, .flush t, .migrate 2 t],
      (fl f).working = true ∧ (fl f).er.halted = false ∧ ((fl f).ctxs.get 0).run = .flight f ∧ (fl f).notThreaded 0 = false ∧ (fl f).tc.st = .run ∧
      (fl f).tc.movingFor = none ∧ (fl f).tc.profile.kind = 0 ∧ (fl f).sh.colophon = none ∧ (fl f).sh.running = false ∧ (fl f).hk.drain = false ∧
      (fl f).stripesCovered = true ∧ (fl f).coveredDurable 1 t = true ∧ ∀ op ∈ [0x50, 0x51, 0x52, 0x54, 0x55], (fl f).setDone op = true) ∧
    (out (fl (.format none 1)) 99999).vol.cart = some { cart with len := 99999 } ∧
    (fl (.load 0 0)).vol.cart = some cart ∧ cart.primer.all (fun b => !primerOk b) = true ∧ (fl (.load 3 0)).vol.loaded = some vol ∧
    (fl (.flush t)).flightsThat Flight.waitsTape = [0] := by decide

/-- No track carries any unit. -/
theorem witness_primer_bad (n : Nat) : primerGood (List.replicate (n + 1) 0) = false := by simp [primerGood]

/-- An output list not walked yet, and the refusals of a halted and a full volume. -/
theorem witness_unit_buffers :
    ({ Sheaf.reset with run := .halted } : Sheaf).refusal = some St.mediumUnrecovered ∧
    ({ Sheaf.reset with run := .full } : Sheaf).refusal = some St.volumeFull ∧
    (let d := flies (word 0x48 1 3 2 0 0) (.compress 8 4096 0 0) (regs12 0 8)
     usesOutput (.compress 8 4096 0 0) = true ∧ d.dataLen 0 ≤ (d.dataWalk 0).total ∧ (d.outputWalk 0).total < ((d.ctxs.get 0).gb).toNat) := by
  decide

/-- A unit's galley buffer, granted and refused. -/
theorem witness_unit_grant (d : Dev) (c size p k : Nat) (hd : d.decideGrant (d.reqOf c) size false = .from p) (hk : d.pools.lowest p = some k) :
    (d.hostGrant (d.reqOf c) size false (.ctx c)).1 = .ok k := by simp [Dev.hostGrant, hd, Dev.take, hk]
theorem witness_unit_refused (d : Dev) (c size : Nat) (s : W16) (l : List Nat) (hd : d.decideGrant (d.reqOf c) size false = .refused s l) :
    (d.hostGrant (d.reqOf c) size false (.ctx c)).1 = .error s := by simp [Dev.hostGrant, hd]
/-! ### Witnesses: write path, formes, scheduler -/

/-- Twenty zero bytes, and a frame of Table 6.2 of them: one RLE block. -/
def data20 : List Byte := List.replicate 20 0
def rle20 : List Byte := [0x28, 0xB5, 0x2F, 0xFD, 0x24, 20, 163, 0, 0, 0, 0x41, 0xB2, 0xF6, 0xE8]

/-- A committed write of one block of 20 bytes, of slot 5. -/
def wr (t : Nat) : Write :=
  { (withVolume (runs 1 (word 0x40 1 2 0 0 5))).newIntent 0 with id := 0, ctx := none, len := 20, data := data20, commit := some ⟨t, 2⟩ }

/-- That block in a state, of the write or of a COMPRESS of context 0. -/
def block20 (st : BlockSt) (ctx : Option Nat := none) : Block := ⟨if ctx.isSome then none else some 0, ctx, 0, data20, st, none, none⟩

/-- A device with that write and its block. -/
def blocked (st : BlockSt) (ctx : Option Nat := none) : Dev := { withVolume (flies (word 0x48 1 2 3 0 0) (.compress 8 4096 20 0)) with
  idx := { Index.reset with writes := [wr 950], nextWrite := 1 }
  cm := { Compression.reset with blocks := [block20 st ctx] } }

theorem witness_frame_buffer : ∃ d1, (blocked .ready).frameBuf (block20 .ready) = (some (bufKey 0 0), d1) ∧
    d1.pools.bufs = (blocked .ready).pools.bufs.set (bufKey 0 0) (some (grantOf 48 (block20 .ready).share 0)) :=
  Dev.grab_grants (d := blocked .ready) (u := .compressor) (tag := (block20 .ready).tag) (size := 20) (share := (block20 .ready).share) (p := 0)
    (by decide) (by decide) (by decide) (by decide)

/-- The frame of the twenty bytes has the form, is shorter, and passes. -/
theorem witness_frame : frameForm rle20 20 = true ∧ rle20.length < data20.length ∧ verifyPasses rle20 data20 = true := by decide +kernel

/-- A frame that is not shorter than its block: one raw block. -/
theorem witness_long_frame : frameForm [0x28, 0xB5, 0x2F, 0xFD, 0x24, 1, 9, 0, 0, 7, 0, 0, 0, 0] 1 = true := by decide +kernel

theorem witness_BlocksAreCompressedAndVerified :
    (let d := blocked .ready
     d.working = true ∧ d.er.halted = false ∧ d.isFenced ⟨9, 31⟩ = false ∧ (∀ y ∈ d.cm.blocks, y.compLane ≠ some 31) ∧
       d.nextBlock = some (block20 .ready) ∧ d.blockRoom (block20 .ready) = true) ∧
    (let d := blocked (.compressing 31)
     d.cm.blocks.find? (fun b => b.compLane == some 31) = d.cm.blocks.head? ∧ d.verifyIsland (31 / 8) = some 0 ∧ d.restoreWaits 0 = false ∧
       d.idleLane 0 = some 0 ∧ d.blockRoom (block20 (.compressing 31)) = true ∧ ∀ y ∈ d.cm.blocks, y = block20 (.compressing 31)) ∧
    (∀ c ∈ [none, some 0], let d := blocked (.verifying 31 0 rle20) c
     d.cm.blocks.find? (fun b => b.decLane == some 0) = d.cm.blocks.head? ∧ d.er.pend = [] ∧ (d.flightOf 0).isSome = true) ∧
    (let d := blocked (.outcome rle20 false 0)
     d.toPass (wr 950) = true ∧ (wr 950).commit = some ⟨950, 2⟩ ∧ wr 950 ∈ d.idx.writes ∧ (∀ v ∈ d.idx.writes, v = wr 950) ∧
       block20 (.outcome rle20 false 0) ∈ d.cm.blocks ∧ ∀ y ∈ d.cm.blocks, y = block20 (.outcome rle20 false 0)) := by decide

/-- A block that joins an open record, a record that closes idle, one in a pipeline, and the IV log. -/
theorem witness_RecordsAreSealed :
    let r (st : RecSt) : Rec := { id := 0, slot := 5, keyId := 77, blocks := [(0, 0, 0)], joinedAt := 900, buf := some 0, plain := [], stamp := ⟨0, 0⟩, pfx := 0
                                  counter := 0, body := [], logged := false, st := st }
    let rec' (d : Dev) (st : RecSt) : Dev := { d with cx := { d.cx with recs := [r st] } }
    let j := rec' (blocked (.passed [9] false 0)) .open
    let ivl (base : W32) : Dev := { live with regs := Table.empty.set (regKey Reg.CX_IVLBASE_LO 0) (some base) }
    j.working = true ∧ j.er.halted = false ∧ j.nextJoin = some (wr 950) ∧ j.blocksOf 0 = j.cm.blocks ∧ j.openRec 5 = some (r .open) ∧ j.dividers = [] ∧
    0 + (envelope (wr 950) 0 4 [9] false 0 j.session j.clk.adopted).length ≤ j.recLimit ∧ j.rf Reg.CX_CTL 7 0 ≠ 0 ∧
    (rec' j (.inPipe 15)).cx.recs.find? (fun r => r.st == .inPipe 15) = some (r (.inPipe 15)) ∧
    (ivl 4096).writable (.port .a) = true ∧ bitOf (0x80000006 : W32) 31 = true ∧ fieldOf ((ivl 4096).reg Reg.CX_IVLBASE_LO) 11 0 = 0 ∧
    6 ≤ fieldOf (0x80000006 : W32) 3 0 ∧ (ivl 4096).rf Reg.CX_IVLCTL 31 31 = 0 ∧ fieldOf ((ivl 64).reg Reg.CX_IVLBASE_LO) 11 0 ≠ 0 ∧
    fieldOf (0x80000005 : W32) 3 0 < 6 := by decide

/-- The header of a record of one block, as sealed. -/
def header (keyId : W64) : List Byte :=
  ({ id := 0, slot := 5, keyId := keyId, blocks := [(0, 0, 0)], joinedAt := 900, buf := some 0, plain := zeros 56, stamp := ⟨0, 0⟩, pfx := 0, counter := 0
     body := [], logged := false, st := .open } : Rec).header 2 false

/-- A forme of a kind at an index of its group. -/
def formeOf (folio : Nat) (kind : FKind) (member : Nat := 0) (payload : List Byte := []) : Forme :=
  { folio := folio, kind := kind, flags := 0, member := member, groupBase := 1, payload := payload, lead := 0, streamOff := 0, firstRec := 0
    stamp := ⟨700, 1⟩, lastCkpt := 0, ledger := [], enc := 0, buf := none, accepted := none, rewrite := 0, copies := 1, fullSheaves := 0
    fullIn := none, queued := false }

/-- A GET whose one extent is of a record that has been restored. What opens a sealed record is the statement SealedRecordOpens; a block is read once
its record's tag has passed. -/
theorem witness_GetChecksAndDecodes :
    let e : DirEntry := .extent 0 0 0 0 0 8 2 ⟨700, 1⟩ 8
    let r (todo : List Nat) (retry : List (Nat × Nat)) : ReadOp :=
      ⟨0x42, 0, 0, 8, 5, ⟨900, 1⟩, true, 8, [.extent e 0 8], 8, 0, [], [], todo, retry, false⟩
    let g (r : ReadOp) (h : List Byte) : Dev :=
      let d := withVolume (flies (word 0x42 1 2 3 0 5) (.read r))
      { d with vol := { d.vol with decoded := [formeOf 1 .data 0 (h ++ zeros 72)] } }
    let d := g (r [] []) (header 77)
    d.working = true ∧ d.er.halted = false ∧ (d.ctxs.get 0).run = .flight (.read (r [] [])) ∧ (r [] []).extent 0 = some (e, 0, 8) ∧
    d.restored 0 64 = some (header 77) ∧ headerOk (header 77) = true ∧ toW64 (beNat (sliceBytes (header 77) 16 8)) = (d.slot 5).keyId ∧
    (d.recordAt 0).isSome = true ∧ (g (r [] []) (zeros 64)).restored 0 64 = some (zeros 64) ∧ headerOk (zeros 64) = false ∧
    toW64 (beNat (sliceBytes (header 78) 16 8)) ≠ (d.slot 5).keyId ∧ headerOk (header 78) = true ∧
    (r [0] []).todo.contains 0 = true ∧ (g (r [0] []) (header 77)).restoreLane = some 0 ∧ d.mayRequest 0 = true ∧
    (r [] [(0, 31)]).retry.find? (fun y => y.1 == 0) = some (0, 31) ∧ (g (r [] [(0, 31)]) (header 77)).retryLane 31 = some 0 ∧ d.er.pend = [] := by
  decide +kernel

/-- A record whose sealed bytes are a run of zeros. -/
def sealedRec (n : Nat) : Rec :=
  { id := 0, slot := 5, keyId := 77, blocks := [(0, 0, 0)], joinedAt := 900, buf := some 0, plain := [], stamp := ⟨940, 0⟩, pfx := 0, counter := 0
    body := zeros n, logged := true, st := .tagged }

/-- A record that fits the open forme, and one that fills it. -/
theorem witness_RecordStreamFillsFormes (n : Nat) :
    let d : Dev := { withVolume live with cx := { Cipher.reset with recs := [sealedRec n] } }
    d.working = true ∧ d.er.halted = false ∧ d.vol.loaded = some vol ∧ d.nextClose = none ∧ d.nextRecord = some (sealedRec n) ∧
    (sealedRec n).st = .tagged ∧ d.fm.openPayload = [] ∧ (sealedRec n).body.length = n ∧ d.dataMember = false ∧ d.fm.group = none ∧
    ∃ k d1, d.grab .forme [0] 192000 [.unit .forme, .unit .encoder, .unit .rewrite] = (some k, d1) := by
  refine ⟨rfl, rfl, rfl, rfl, rfl, rfl, rfl, by simp [sealedRec, zeros], rfl, rfl, bufKey 2 0, ?_⟩
  exact (Dev.grab_grants (p := 2) (k := bufKey 2 0) rfl rfl (by rfl) (by rfl)).imp (fun _ h => h.1)

/-- With no record open there is none to close. -/
theorem witness_nothing_to_seal : (withVolume live).sealRecords = withVolume live := by rfl

/-- A streaming run of an open volume, its position 3 of sheaf 0, slot 7 disabled. -/
def streaming : Dev := { withVolume live with sh := { Sheaf.reset with run := .streaming, pos := 3, lag := 4, slotsOff := [7] } }

theorem witness_EverySlotOfAPositionIsFilled :
    streaming.working = true ∧ streaming.sh.run = .streaming ∧ streaming.sh.colophon = none ∧ streaming.sh.pos < streaming.positions ∧
    streaming.sh.slotsOff.Nodup := by decide

theorem witness_WriteRunsStartAndStop :
    let up := (List.range 16).foldl (fun (t : Table Link Link.reset) k => t.set k { Link.reset with st := .active }) Table.empty
    let idle : Dev := { withVolume live with links := up, regs := Table.empty.set (regKey Reg.SH_FILLCFG 0) (some 0) }
    let turned (n : Nat) : Dev := { streaming with sh := { streaming.sh with pos := 100, sheaf := n } }
    let halted (turn : Bool) : Dev := { streaming with sh := { streaming.sh with run := .halted, haltFolio := some 3, sheaf := 158, readTurn := turn } }
    idle.working = true ∧ idle.er.halted = false ∧ idle.runWanted = true ∧ idle.runReady = true ∧ idle.tc.movingFor = none ∧
    streaming.vol.st = .opened ∧ streaming.tc.profile.kind = 0 ∧ streaming.er.pend = [] ∧ streaming.rf Reg.SH_RUNCFG 31 24 ≠ 0 ∧
    streaming.sh.step = streaming.stepMin ∧ streaming.fill = 0 ∧ streaming.fm.held = [] ∧ streaming.sh.due = [] ∧ streaming.writable (.port .a) = true ∧
    2 ≤ streaming.lagSet ∧ streaming.sh.persistentSlots.length < 8 ∧ (∀ n < 128, (streaming.sh.tracks.get n).retired = false) ∧
    (∀ t ∈ [false, true], (halted t).sh.run = .halted ∧ (halted t).vol.loaded.isSome = true ∧ (halted t).sh.sheaf < 159 ∧ (halted t).sh.readTurn = t) ∧
    (∀ n ∈ [158, 159], (turned n).positions ≤ (turned n).sh.pos ∧ (∀ k ∈ (turned n).sh.copies, k.filler = true) ∧ (turned n).sh.run = .streaming ∧
      (turned n).opening = []) ∧
    (let t : Dev := { live with sh := { Sheaf.reset with readTurn := true } }
     t.sh.readTurn = true ∧ t.sh.resumeDue = false ∧ t.sh.turnReads = [] ∧ t.sh.waitTape = []) := by decide +kernel

/-- A copy of folio 4 whose row 175 arrives, and one with all its rows, good and bad, of a forme with one copy and with as many as a sheaf allows. -/
theorem witness_ProofJudgesCopies :
    let k (n : Nat) (bad : Bool) : Copy := ⟨9, 4, false, 0, 0, 1, 7, List.range n, bad⟩
    let d (n : Nat) (bad : Bool) (copies : Nat := 1) : Dev := { streaming with
      sh := { streaming.sh with copies := [k n bad] }, fm := { Formes.reset with held := [{ formeOf 4 .data with copies := copies }] } }
    (d 175 false).working = true ∧ (d 175 false).sh.copies.find? (fun k => k.id == 9) = some (k 175 false) ∧ (k 175 false).rows.contains 175 = false ∧
    ((d 175 false).sh.tracks.get (16 * 7 + 175 % 16)).fails.length < (d 175 false).rf Reg.SH_TRKCFG 15 0 ∧
    (∀ b ∈ [false, true], 176 ≤ (k 176 b).rows.length ∧ (k 176 b).filler = false ∧ (d 176 b).sh.colophon = none ∧ (d 176 b).sh.run = .streaming ∧
      (d 176 b).flightsThat Flight.waitsTape = [] ∧ (d 176 b).hk.drain = false ∧ (d 176 b).fm.held.find? (fun f => f.folio == 4) = some (formeOf 4 .data)) ∧
    (formeOf 4 .data).copies < live.maxCopies ∧ live.maxCopies ≤ 8 ∧ (formeOf 4 .data).fullRow 0 < live.maxSheaves := by decide +kernel

/-- A place under the head in a read turn and in a LOAD; a group with one member lost and one with too many; a cartridge that
comes and one that goes. What the frames of a place decode to is too long a computation for a small test. -/
theorem witness_TapeGivesFormesBack :
    let o : OnTape := ⟨0, 3, 1, 9, formeOf 1 .data, []⟩
    let d : Dev := { withVolume live with
      sh := { Sheaf.reset with readTurn := true }
      vol := { Vol.reset with st := .opened, loaded := some vol, cart := some { cart with formes := [o] } } }
    let l : Dev := { withVolume (flies (word 0x51 0 0 0 0 0) (.load 1 0)) with vol := d.vol }
    let led : List Byte := 2 :: (zeros 3 ++ zeros 1000)
    let g (fs : List Forme) : Dev := { d with vol := { d.vol with decoded := fs } }
    let lost := [{ formeOf 3 .parity 32 with ledger := led }]
    let din (a b : Bool) : Dev := { live with tc := { live.tc with din := (Table.empty.set 0 ⟨a, a, false, [], [], 0⟩).set 1 ⟨b, b, false, [], [], 0⟩ } }
    d.working = true ∧ d.tc.movingFor = none ∧ d.sh.readTurn = true ∧ d.tc.headSheaf = 0 ∧ d.tapeHolds 0 3 1 = true ∧ l.loading = true ∧
    l.sh.readTurn = false ∧ vol.volumeId = o.volumeId ∧
    (∀ y ∈ d.vol.decoded, y.folio ≠ 1) ∧ lostFolios 1 ((g lost).groupSpan 1 (groupOf lost 1)) (groupOf lost 1) = [1, 2] ∧ l3Rebuild (groupOf lost 1) = none ∧
    (g lost).vol.rereads.get 1 < 2 ∧ (g lost).tc.st = .run ∧
    (g lost).flightsThat (fun f => match f with
      | .read _ => true
      | _ => false) = [] ∧
    (din true true).vol.st = .empty ∧ ((din true true).tc.din.get 0).active = true ∧ ((din true true).tc.din.get 1).active = true ∧
    d.vol.st ≠ .empty ∧ (d.tc.din.get 0).active = false ∧ d.opening = [] := by decide +kernel

/-- A restored forme's buffer. -/
theorem witness_grab_restore (d : Dev) (folio : Nat) (hp : d.pools = Pools.reset) (hr : d.regs = Table.empty) :
    ∃ k d1, d.grab .restore [folio] 192000 [.unit .restore, .unit .cipher] = (some k, d1) := by
  refine ⟨bufKey 2 0, (Dev.grab_grants (p := 2) ?_ ?_ ?_ ?_).imp (fun _ h => h.1)⟩
  · rw [hp]; rfl
  · rw [hp]; rfl
  · rw [Dev.decideGrant_congr (e := live) hp hr]; rfl
  · rw [hp]; rfl

/-- A block whose slot has no open record begins one. -/
theorem witness_new_record : ∃ r d1, (withVolume live).newRec (wr 950) 80 = (some r, d1) := by
  obtain ⟨d1, h, _⟩ := Dev.grab_grants (d := withVolume live) (u := .cipher) (tag := [5]) (share := [.unit .cipher, .unit .forme])
    (size := min 16777216 (max ((withVolume live).recLimit + 80) 160)) (p := 5) (k := bufKey 5 0) (by decide) (by decide) (by decide) (by decide)
  exact ⟨_, _, by unfold Dev.newRec; rw [show (wr 950).slot = 5 from rfl, h]⟩
/-! ### Witnesses: links, transport -/

/-- A device whose link 15 is in a state. -/
def linked (l : Link) : Dev := { live with links := Table.empty.set 15 l }

def ln (st : LinkSt) : Link := { Link.reset with st := st, rxSeq := Table.empty.set 0 (some 7), tickSeq := 3, silent := 3 }

theorem witness_LinksTrain :
    let blk (v : Nat) : BitVec 256 := ctlBlock (0x78 + v * 2 ^ 8 + 15 * 2 ^ 24 + 5 * 2 ^ 32 + 8 * 2 ^ 64 + 8 * 2 ^ 72)
    live.working = true ∧ live.writable (.port .a) = true ∧ live.fu.loadDone = true ∧ live.locked Reg.HL_CTL = false ∧
    fieldOf (0x8000 : W32) 30 16 = 0 ∧ fieldOf (live.reg Reg.HL_CTL) 15 0 ≠ fieldOf (0x8000 : W32) 15 0 ∧
    (∀ st ∈ [LinkSt.failed, .detect, .repair, .adapt, .align, .config], ((linked (ln st)).links.get 15).st = st) ∧
    (∀ k ∈ [none, some true, some false], ((linked { ln .config with kept := k }).links.get 15).kept = k) ∧
    (∀ v ∈ [1, 2], ctlOk (blk v) 0x78 = true) ∧ fieldOf (blk 1) 15 8 = 1 ∧ fieldOf (blk 1) 71 64 = 8 ∧ fieldOf (blk 1) 31 24 = 15 ∧
    4096 ≤ fieldOf (blk 1) 79 72 * 512 ∧ fieldOf (blk 2) 15 8 ≠ 1 ∧ live.er.pend = [] ∧
    (∀ n ∈ [0, 2], let l := { ln .align with fromRepair := true, attempts := n }
      l.fromRepair = true ∧ (l.attempts + 1 < max 1 (live.rf Reg.HL_CFG 3 0) ∨ max 1 (live.rf Reg.HL_CFG 3 0) ≤ l.attempts + 1)) := by decide +kernel

theorem witness_LinksCarryBlocks :
    let d := linked (ln .active)
    let q := linked { ln .active with queue := [⟨Hc.reset, 0, 0, 0⟩] }
    let st (f : Nat) : BitVec 256 := ctlBlock (0x4B + f * 2 ^ 56)
    let pes (n : Nat) : BitVec 256 := ctlBlock (0x55 + n * 2 ^ 8)
    let w := linked { ln .active with silent := 0, sent := some ⟨Hc.reset, 0, 0, 0⟩, waited := 3 }
    let ch : Dev := { d with regs := Table.empty.set (regKey Reg.HL_LSEL 0) (some 15) }
    d.working = true ∧ (d.links.get 15).st = .active ∧ 3 ≤ (d.links.get 15).silent ∧ (d.links.get 15).rxSeq.get 0 = some 7 ∧
    fieldOf (0 : BitVec 256) 255 253 = 0 ∧ fieldOf (0 : BitVec 256) 252 250 = (7 + 1) % 8 ∧
    fieldOf (BitVec.ofNat 256 (3 * 2 ^ 250)) 252 250 ≠ (7 + 1) % 8 ∧
    (d.links.get 15).tickSeq = 3 ∧ d.sh.running = false ∧ ctlOk 0 0x55 = false ∧
    (∀ n ∈ [3, 4], ctlOk (pes n) 0x55 = true ∧ fieldOf (pes n) 15 8 = n) ∧
    (∀ f ∈ [0, 4], ctlOk (st f) 0x4B = true ∧ (st f).getLsbD 59 = false ∧ (st f).getLsbD 58 = decide (f = 4) ∧
      fieldOf (st f) 23 16 = (d.links.get 15).tag) ∧ (d.links.get 15).queue = [] ∧
    (w.links.get 15).sent.isSome = true ∧ 3 ≤ (w.links.get 15).waited ∧ (d.links.get 15).sent = none ∧
    (q.links.get 15).queue = ⟨Hc.reset, 0, 0, 0⟩ :: [] ∧
    ch.writable (.port .a) = true ∧ ch.locked Reg.HL_CHSET = false ∧ ch.bankOf (pathPort (.port .a)) Reg.HL_CHSET = 15 ∧
    (let old := ch.regB Reg.HL_CHSET 15
     let v := putField old 31 24 (fieldOf old 31 24 + 1)
     fieldOf v 31 24 ≠ fieldOf old 31 24 ∧ fieldOf v 19 16 = fieldOf old 19 16 ∧ fieldOf v 15 8 = fieldOf old 15 8 ∧ fieldOf v 1 0 = fieldOf old 1 0) := by
  decide +kernel

/-- An input at a level of its filter with 16 samples high and 200 transitions. -/
def busyInput (active : Bool) : Din := ⟨true, active, false, List.replicate 16 true, List.replicate 200 1000, 0⟩

/-- A running engine with everything its faults look at. -/
def faulty (code : W32) : Dev := { withVolume live with
  tc := { Tc.reset with
    st := .run, posValid := true, errAt := [1000, 1000, 1000, 1000, 1000], rails := Table.empty.set 7 17, miss0 := 5, miss1 := 5
    servos := Table.empty.set 7 { Servo.reset with satCount := 128001 }
    din := (((Table.empty.set 0 (busyInput true)).set 1 (busyInput true)).set 2 (busyInput true)).set 3 (busyInput false)
    profile := { Profile.reset with kind := 1, vel := 5 } }
  regs := ((((Table.empty.set (regKey Reg.TC_REACT 0) (some code)).set (regKey Reg.TC_DINCFG 0) (some 0x80000A01)).set
    (regKey (slotReg Reg.TC_SCFG 7) 0) (some 2)).set (regKey (slotReg Reg.TC_SROUTE 7) 0) (some 0x1100)) }

/-- Whether N of the last M samples of an input agree on the other level after one more. -/
def agrees (d : Dev) (n : Nat) (level : Bool) : Bool :=
  let x := d.tc.din.get n
  let w := (x.window ++ [level]).drop (x.window.length + 1 - 16)
  let goes := if x.active then !d.dinPol n else d.dinPol n
  let recent := w.drop (w.length - d.dinM n)
  decide (d.dinN n ≤ (recent.filter (fun y => y == goes)).length + (if goes = d.dinPol n then 0 else d.dinM n - recent.length))

/-- A device whose input stands at a level and was sampled 16 times at another. -/
def sampled (n : Nat) (active level : Bool) : Dev :=
  { live with tc := { Tc.reset with din := Table.empty.set n ⟨level, active, false, List.replicate 16 level, [], 0⟩ } }

def estopped : Dev := { live with tc := { Tc.reset with din := Table.empty.set 3 ⟨false, true, false, [false, false], [], 0⟩ } }

theorem witness_TransportFaultsReact :
    let d := faulty 0
    d.alive = true ∧ d.tc.encLevel 0 = false ∧ d.tc.encLevel 3 = false ∧
    (∀ n < 4, d.rf (Reg.TC_DINCFG + 4 * n) 22 16 < d.dinFlips n ∧ (d.tc.din.get n).active = decide (n ≠ 3) ∧ (d.tc.din.get n).stuck = false) ∧
    (∀ n < 4, agrees (sampled n true (!live.dinPol n)) n (!live.dinPol n) = true ∧ agrees (sampled n true (live.dinPol n)) n (live.dinPol n) = false ∧
      agrees (sampled n false (live.dinPol n)) n (live.dinPol n) = true) ∧
    d.threaded = true ∧ estopped.alive = true ∧ estopped.estopLow = true ∧ d.tapeMoves = true ∧ d.tapeForward = true ∧ d.dinPol 0 = true ∧ d.dinPol 3 = false ∧ d.stuckPossible 0 = true ∧
    d.rf Reg.TC_ENCCFG 7 0 < d.countErrors ∧
    d.rf (Reg.TC_SPCFG + 4 * 1) 7 0 ≠ 0 ∧ d.rf (Reg.TC_SPCFG + 4 * 1) 7 0 < d.tc.rails.get (4 * 1 + 3) ∧ d.tc.rails.get (8 + 4 * 1 + 3) = 0 ∧
    d.tc.st ≠ .safe ∧ d.missLimit ≤ (d.tc.missOf 1).1 ∧ (d.tc.missOf 1).2 = false ∧ allSlots.any (d.slotUses (0x10 + 1)) = true ∧
    d.rf (slotReg Reg.TC_SSATLIM 7) 23 0 ≠ 0 ∧ d.rf (slotReg Reg.TC_SSATLIM 7) 23 0 < (d.tc.servos.get 7).satCount ∧
    (d.tc.servos.get 7).satRaised = false := by decide +kernel

/-- A run that seeks the head, its start profile at its target. -/
def starts (r : RunSt) : Dev := { live with
  sh := { Dev.reset.sh with run := r }
  tc := { Tc.reset with
    st := .run, seeking := true, lockCount := 65535
    profile := { Profile.reset with kind := 2, tolCount := 64, asker := .runStart } } }

theorem witness_TransportRuns :
    let t (f : Tc → Tc) : Dev := { live with tc := f Tc.reset }
    let pr (k n : Nat) (a : Asker) := t (fun x => { x with profile := { Profile.reset with kind := k, toZero := true, tolCount := n, asker := a } })
    let sk : Dev := { flies 0 .seek with tc := { Tc.reset with seeking := true, seekFor := some 0, lockCount := 65535 } }
    let armable : Dev := { live with regs := Table.empty.set (regKey Reg.TC_REELK 0) (some 1) }
    live.working = true ∧ (t (fun x => { x with relatch := 1 })).tc.relatch.testBit 0 = true ∧ live.tc.st = .safe ∧
    live.clk.running = true ∧ live.er.pend = [] ∧ live.sh.resumeDue = false ∧
    (∀ p ∈ [pr 2 64 (.insn 0), pr 1 0 .none, pr 2 64 .scheduler, pr 1 0 .stopFor, pr 2 64 .runStart, pr 1 0 .turn],
      p.tc.profile.kind ≠ 0 ∧ p.profileThere = true) ∧ (starts .starting).tc.profile.asker = .runStart ∧ (starts .starting).profileThere = true ∧
    (∀ r ∈ [RunSt.starting, .turning], let d := starts r
      d.working = true ∧ d.tc.st = .run ∧ d.sh.run = r ∧ d.tc.seeking = true ∧ d.tc.seekFor = none ∧ d.tc.movingFor = none ∧
      max 1 (d.rf Reg.TC_HEADCFG 15 0) ≤ d.tc.lockCount) ∧
    sk.working = true ∧ sk.tc.seeking = true ∧ sk.tc.seekFor = some 0 ∧ sk.flightOf 0 = some .seek ∧ max 1 (sk.rf Reg.TC_HEADCFG 15 0) ≤ sk.tc.lockCount ∧
    live.writable (.port .a) = true ∧ fieldOf (live.reg Reg.TC_CTL) 30 29 = 0 ∧ armable.armCheck = 0 ∧ live.armCheck ≠ 0 ∧
    (t (fun x => { x with st := .releasing })).tc.st = .releasing ∧
    (∀ b ∈ [true, false], let d := t (fun x => { x with st := .stopping, stopHold := 64, brakeN := b })
      d.tc.st = .stopping ∧ 64 ≤ d.tc.stopHold ∧ d.tc.brakeN = b) ∧
    (1 : W32) &&& 0x7FFFF ≠ 0 ∧ live.locked Reg.TC_TIMER = false ∧ fieldOf (1000 : W32) 12 0 = 1000 ∧ fieldOf (5000 : W32) 12 0 = 5000 ∧
    fieldOf (999 : W32) 12 0 < 1000 ∧ 5000 < fieldOf (5001 : W32) 12 0 := by decide +kernel

/-- A period of 1,000 is taken in SAFE; 999 leaves what was there. -/
theorem test_timer_limits : (after (.tcTimerWrite (.port .a) 1000) live).rf Reg.TC_TIMER 12 0 = 1000 := by decide


/-- Thirty symbols that wait on channel 7 of a link: one block leaves and five wait on. -/
theorem witness_SymbolsLeaveInOrder :
    let l : Link := { Link.reset with txSeq := Table.empty.set 7 3, txRest := Table.empty.set 7 (List.replicate 25 1023 ++ List.replicate 5 0) }
    l.txSeq.get 7 < 4 ∧ (List.replicate 25 1023).length = 25 ∧ (∀ x ∈ List.replicate 25 1023, x < 1024) ∧
    (l.cut 7 2).tx = [txBlock 7 true 3 (List.replicate 25 1023)] ∧ (l.cut 7 2).txRest.get 7 = List.replicate 5 0 ∧ (l.cut 7 2).txSeq.get 7 = 0 := by decide +kernel
/-! ### Witnesses: errors, memory -/

/-- A pending entry of a unit. -/
def pnd (c : EClass) (u : UnitId) (st : PendSt) : Pend := ⟨c, u, 1, st, 0, ⟨700, 2⟩, 0, false, 0⟩

/-- A device with one pending entry and the record it names. -/
def pending (p : Pend) (fenced : Bool := true) : Dev := { live with
  er := { Errors.reset with
    seq := 2, pend := [p], fenced := if fenced then [p.unit] else []
    log := [⟨⟨700, 2⟩, false, 0, p.cls, p.unit.origin, 0, 0, p.unit.inst, 0, 0, 0, 9, 1, 0, 0, 0, 0, 0, true⟩] } }

theorem witness_ErrorsActByClass :
    let u : UnitId := ⟨9, 3⟩
    let alone : Dev := { live with er := { Errors.reset with fenced := (List.range 32).map (fun i => ⟨9, i⟩) |>.filter (fun x => decide (x.inst ≠ 3)) } }
    live.alive = true ∧ live.isFenced u = false ∧ live.er.failed = false ∧ live.er.pend.length < 16 ∧
    (∀ p ∈ (pending (pnd .c3 u .waiting)).er.pend, p.unit = u → p.st = .waiting) ∧ live.hasMate u = true ∧ poolsWork u = true ∧
    alone.hasMate u = false ∧ poolsWork ⟨7, 0xFFFF⟩ = false ∧ live.sn.held = false ∧
    (∀ c ∈ [EClass.c3, .c4], ∀ st ∈ [PendSt.active, .parked], let p := pnd c u st
      (pending p).er.pend.find? (fun q => decide (q.unit = u) && q.underWay) = some p ∧ p.seq ≠ (pending p).er.seq ∧ p.cls = c) ∧
    live.boot.ready = true ∧ unitExists ⟨2, 0xFFFF⟩ = true ∧ unitExists ⟨8, 0xFFFF⟩ = true ∧ unitExists ⟨0x10, 0xFFFF⟩ = true ∧ unitExists u = true ∧ live.idx.rebuilding = false ∧
    ({ live.idx with rebuilding := true } : Index).rebuilding = true ∧ unitExists ⟨0x11, 15⟩ = true := by decide +kernel

theorem witness_RecoveriesRun :
    let out := pnd .c3 ⟨0x11, 3⟩ .waiting
    let ln9 := pnd .c3 ⟨9, 3⟩ .waiting
    let ready : Dev := { pending (pnd .c3 ⟨0x11, 3⟩ .parked) with links := Table.empty.set 3 { Link.reset with st := .active } }
    let rel : Dev := { live with er := { (pending ln9).er with losses := Table.empty.set 63 (some ⟨⟨1, 1⟩, ⟨1, 1⟩, 1, (1, false), 1, 1, 0, 1, false, 1, ⟨1, 1⟩⟩) } }
    (∀ p ∈ [out, ln9, pnd .c4 ⟨7, 0xFFFF⟩ .waiting], (pending p).working = true ∧ (pending p).er.recovering = false ∧ (pending p).er.next = some p) ∧
    live.er.next = none ∧ ((pending out).awaits out).isSome = true ∧ (pending ln9).awaits ln9 = none ∧
    ready.er.pend.find? (fun p => decide (p.unit = ⟨0x11, 3⟩) && p.st == .parked && ready.awaits p == some true) = some (pnd .c3 ⟨0x11, 3⟩ .parked) ∧
    (∀ c ∈ [EClass.c3, .c4], (pending (pnd c ⟨9, 3⟩ .active)).er.active = some (pnd c ⟨9, 3⟩ .active)) ∧
    0 + 1 < max 1 (live.rf Reg.ER_CFG 3 0) ∧ max 1 (live.rf Reg.ER_CFG 3 0) ≤ 8 + 1 ∧
    rel.writable (.port .a) = true ∧ (∃ r ∈ rel.er.log, r.seq = (1 : W32).toNat ∧ r.pinned = true) ∧
    (∀ r ∈ rel.er.log, r.seq = (5 : W32).toNat → r.pinned = false) ∧ (rel.er.losses.get (fieldOf (63 : W32) 5 0)).isSome = true ∧
    rel.er.losses.get (fieldOf (62 : W32) 5 0) = none ∧ live.cs.st = .standalone ∧ live.sh.resumeDue = false ∧
    (∀ b ∈ [true, false], let d : Dev := { live with sn := { live.sn with held := true, armed := b } }
      d.sn.held = true ∧ d.sn.armed = b) := by decide +kernel

/-- The worked examples of R300: data bits 0 and 5 flipped, and a pattern of three that is taken for one. -/
theorem test_code_examples :
    bchS1 (flipBits 0 [0, 5]) = bchS1 (flipBits 0 [0]) ^^^ bchS1 (flipBits 0 [5]) ∧ bchDecode (flipBits (bchEncode 0x0123456789ABCDEF) [0, 5]) = .fixed [0, 5] ∧
    bchDecode (flipBits (bchEncode 0x0123456789ABCDEF) [0]) = .fixed [0] ∧ bchDecode (flipBits (bchEncode 0x0123456789ABCDEF) [78]) = .fixed [78] ∧
    bchDecode (flipBits (bchEncode 0x0123456789ABCDEF) [77, 78]) = .fixed [77, 78] := by decide +kernel

/-- A stored word for each row of the table of R300. -/
theorem witness_WordsDecodeAsTheTableSays :
    let c := bchEncode 0x0123456789ABCDEF
    let cube (v : BitVec 80) := gf7mul (bchS1 v) (gf7mul (bchS1 v) (bchS1 v))
    (bchS1 c = 0 ∧ bchS3 c = 0 ∧ bchP c = 0) ∧
    (let v := flipBits c [78]
     bchS1 v = 0 ∧ bchS3 v = 0 ∧ bchP v = 1) ∧
    (∀ l ∈ [[3], [3, 78]], let v := flipBits c l
      bchS1 v ≠ 0 ∧ bchS3 v = cube v) ∧
    (let v := flipBits c [0, 5]
     bchS1 v ≠ 0 ∧ bchS3 v ≠ cube v ∧ bchP v = 0) ∧
    (let v := flipBits c [0, 1, 2]
     bchS1 v ≠ 0 ∧ bchS3 v ≠ cube v ∧ bchP v = 1) := by decide +kernel

theorem witness_BufferWordsAreKept :
    let bad : Dev := { live with mi := { live.mi with words := Table.empty.set 5 (flipBits (bchEncode 0) [3]) } }
    let logged : Dev := { bad with mi := { bad.mi with log := Table.empty.set 31 (some ⟨5, .read, 255, 3, 0x7F, 900⟩) } }
    let owned : Dev := { live with pools := { live.pools with bufs := Table.empty.set (bufKey 5 0) (some { buf1 with requester := 47 }) } }
    let merge : Dev := { live with mi := { live.mi with merges := [⟨5, 1, 0xFF⟩] } }
    live.working = true ∧ bad.mi.initBusy = false ∧ bad.mi.poison.contains 5 = false ∧ live.rf Reg.MI_CTL 30 30 = 1 ∧ bad.mi.mergeOf 5 = none ∧
    bchDecode (bad.mi.raw 5) = .fixed [3] ∧ (logged.mi.log.get 31).any (fun e => e.word == 5) = true ∧ logged.mi.log.get 0 = none ∧
    5 < deviceRegion ∧ live.mi.poisonCount (wordStack 5) < 256 ∧ owned.pools.bufAt 5 = some (bufKey 5 0) ∧
    owned.pools.bufs.get (bufKey 5 0) = some { buf1 with requester := 47 } ∧ owned.idx.galleyOf (bufKey 5 0) = none ∧
    ({ live with pools := { live.pools with carve := Table.empty } } : Dev).pools.bufAt 5 = none ∧
    merge.mi.merges.find? (fun e => decide (wordStack e.word = 0)) = some ⟨5, 1, 0xFF⟩ ∧ bchDecode (merge.mi.raw 5) = .clean ∧
    unitExists ⟨3, 7⟩ = true ∧ unitExists ⟨1, 0xFFFF⟩ = true ∧ live.er.pend = [] := by decide +kernel

/-- A device with more repairs not burned than row records. -/
def fullRows : Dev := { live with mi := { live.mi with rows := List.replicate 513 ⟨0, 0, 0, 0, false, false⟩ } }

theorem witness_MemoryIsRepaired :
    let e (w : Nat) : Option Corr := some ⟨w, .read, 4, 3, 0x7F, 900⟩
    let d (rows : List RowRep) : Dev := { live with mi := { live.mi with log := Table.empty.set 0 (e 5), rows := rows } }
    let full := (List.range 16).map (fun i => (⟨0, 0, 99, i, true, true⟩ : RowRep))
    let eight : Dev := { live with mi := { live.mi with log := (List.range 8).foldl (fun (t : Table (Option Corr) none) i => t.set i (e (i * 16384))) Table.empty } }
    (d []).working = true ∧ (d []).rowFails 5 = true ∧ (d []).mi.rowMoved 5 = false ∧ (d []).mi.freeSpare (wordStack 5) (wordChannel 5) = some 0 ∧
    (d full).rowFails 5 = true ∧ (d full).mi.rowMoved 5 = false ∧ (d full).mi.freeSpare (wordStack 5) (wordChannel 5) = none ∧
    eight.rf Reg.MI_CFG 15 8 ≠ 0 ∧ eight.rf Reg.MI_CFG 15 8 ≤ (eight.mi.naming 0 0 3).length ∧ eight.mi.lane 0 0 = none ∧
    live.mi.initBusy = false ∧ live.rf Reg.MI_CTL 30 30 = 1 ∧ live.rf Reg.MI_WINCFG 31 16 ≠ 0 ∧ live.writable (.port .a) = true ∧
    live.mi.softRows.length ≤ (freeRowSlots live.fu.shadow).length ∧ live.hk.vfuseFailed = false ∧ live.fu.burn = none ∧ live.mode ≠ .maint ∧ ({ live with mode := .maint } : Dev).mode = .maint ∧ live.mi.lapLate = false ∧
    live.mi.softLanes.length ≤ (freeLaneSlots live.fu.shadow).length ∧
    ({ live.fu with burn := some (.repair [] []) } : Fuses).burn.isSome = true ∧
    (freeRowSlots fullRows.fu.shadow).length < fullRows.mi.softRows.length ∧ fullRows.fu.burn = none ∧
    ({ live.mi with initBusy := true } : MemInt).initBusy = true ∧ live.fu.loadDone = true ∧
    ({ live with hk := { live.hk with refreshWait := some 5 } } : Dev).hk.refreshWait = some 5 := by decide +kernel

/-! ### Witnesses: housekeeping, the ring, fuses, patches, start-up -/

theorem witness_HousekeepingActs :
    let h (f : Hk → Hk) : Dev := { live with hk := f live.hk }
    live.alive = true ∧ (List.replicate 24 (0 : BitVec 12)).length = 24 ∧ (List.replicate 48 (0 : W16)).length = 48 ∧
    (h (fun x => { x with diodeFault := true })).hk.diodeFault = true ∧ live.er.failed = false ∧
    (h (fun x => { x with grace := true })).hk.grace = true ∧ live.writable (.port .a) = true ∧ live.locked Reg.HK_THRRATE = false ∧
    (h (fun x => { x with level1 := true })).hk.level1 = true ∧ fieldOf (5 : W32) 17 0 ≠ live.rf Reg.HK_THRRATE 17 0 ∧
    (∀ b ∈ [false, true], (h (fun x => { x with drain := true, drainDone := b })).hk.drain = true ∧
      ∀ st ∈ [TcState.safe, .run, .stopping],
        let d : Dev := { withVolume live with hk := { live.hk with drain := true, drainDone := b }, tc := { Tc.reset with st := st } }
        d.drained = b ∧ d.tc.st = st ∧ d.sh.resumeDue = false) ∧
    (h (fun x => { x with tripBlanked := false })).hk.tripBlanked = false ∧
    (h (fun x => { x with band := 4 })).hk.drain = false := by decide +kernel

/-- A member 1 of a ring of four in a state, with hops in use. -/
def ringOf (st : CasState) (m : Nat := 1) : Dev := { live with
  clk := { live.clk with member := BitVec.ofNat 3 m }
  cs := { Cascade.reset with st := st, size := 4, present := [0, 1, 2, 3]
                             c0 := ⟨.active, 8, some 2, 3, 0, [], Table.empty⟩, c1 := ⟨.active, 8, some 0, 3, 0, [], Table.empty⟩ } }

/-- A message of a payload from member 0 to a member, clockwise. -/
def headTo (m : Nat) (seq : Nat := 0) (src : Nat := 0) (payload : List Byte := []) : MsgHead :=
  ⟨src, m, seq, 5, 6, payload.length, toW32 (crc32c payload), seq, true⟩

theorem crcBit_lt {c : Nat} (h : c < 2 ^ 32) : crcBit c < 2 ^ 32 := by
  unfold crcBit
  split
  · exact Nat.xor_lt_two_pow (by omega) (by decide)
  · omega

theorem crcRun_lt (l : List Byte) (c : Nat) (h : c < 2 ^ 32) : l.foldl crcByte c < 2 ^ 32 := by
  induction l generalizing c with
  | nil => exact h
  | cons b t ih =>
    exact ih _ (crcBit_lt (crcBit_lt (crcBit_lt (crcBit_lt (crcBit_lt (crcBit_lt (crcBit_lt (crcBit_lt (Nat.xor_lt_two_pow h (by omega))))))))))

theorem crc32c_lt (bs : List Byte) : crc32c bs < 2 ^ 32 := Nat.xor_lt_two_pow (crcRun_lt bs _ (by decide)) (by decide)

/-- Every payload has a header under which its message is whole, in sequence and for member 1. -/
theorem witness_whole (p : List Byte) : headWhole (headTo 1 0 0 p) p = true := by
  have := crc32c_lt p
  simp [headWhole, headTo, toW32]
  omega

theorem witness_RingKeepsTogether :
    let disc : Dev := { ringOf .discovering with cs := { Cascade.reset with st := .discovering } }
    let b (v n : Nat) : BitVec 256 := ctlBlock (0x61 + v * 2 ^ 8 + n * 2 ^ 16)
    let gone : Dev := { ringOf .master 0 with cs := { (ringOf .master 0).cs with present := [0, 1] } }
    disc.working = true ∧ disc.cs.c0.partner = none ∧ disc.cs.c1.partner = none ∧ ctlOk (b 1 2) 0x61 = true ∧ fieldOf (b 1 2) 15 8 = 1 ∧ fieldOf (b 1 2) 18 16 = 2 ∧ disc.cs.st ≠ .standalone ∧
    partnerFits disc.clk.member.toNat .c0 2 = true ∧ partnerFits disc.clk.member.toNat .c1 0 = true ∧ ctlOk (b 2 2) 0x61 = true ∧ fieldOf (b 2 2) 15 8 ≠ 1 ∧ partnerFits disc.clk.member.toNat .c0 3 = false ∧ disc.er.pend = [] ∧
    (∀ n ∈ [3, 15], (({ (ringOf .joining).cs with c0 := ⟨.active, 8, some 2, n, 0, [], Table.empty⟩ } : Cascade).hop .c0).echoes < 16) ∧
    ((ringOf .joining).cs.hop .c0).partner.isSome = true ∧ (999 : W64).toNat ≤ (ringOf .joining).clk.now ∧
    (ringOf .joining).clk.member.toNat = 1 ∧ (ringOf .joining).idle = true ∧ (ringOf .joining).clk.adopted = false ∧
    gone.cs.st = .master ∧ 3 ≠ gone.clk.member.toNat ∧ gone.cs.present.contains 3 = false ∧
    live.writable (.port .a) = true ∧ fieldOf (live.reg Reg.CS_CTL) 30 29 = 0 ∧ live.cs.st = .standalone ∧ live.fu.loadDone = true ∧
    (∀ st ∈ [CasState.master, .member], (ringOf st).cs.inRing = true ∧ (ringOf st).cs.st = st ∧ (ringOf st).working = true ∧
      (ringOf st).cs.present.contains 0 = true ∧ 0 ≠ (ringOf st).clk.member.toNat ∧ ((ringOf st).cs.hop .c1).st = .active) ∧
    headWhole { headTo 1 with crc := 1 } [] = false ∧ (headTo 1).seq = (ringOf .member).cs.rxSeq.get 0 ∧ (headTo 1 5).seq ≠ (ringOf .member).cs.rxSeq.get 0 ∧
    (headTo 1).dst = (ringOf .member).clk.member.toNat ∧ (headTo 2).dst ≠ (ringOf .member).clk.member.toNat ∧
    (let want (c : Nat) := c + (ringOf .member).cs.c1.delay
     ∀ c ∈ [992, 1000, 1008], want c ≤ (ringOf .member).clk.now + 8 ∧ (ringOf .member).clk.now ≤ want c + 8) ∧
    (∀ x ∈ [CasState.joining], let r : Dev := { ringOf x with clk := { (ringOf x).clk with adopted := true } }
      r.cs.st = .joining ∧ r.clk.adopted = true ∧ r.er.epoch ≤ 5) ∧
    gone.cs.busy.contains 3 = false ∧ ({ gone.cs with busy := [3], former := [3] } : Cascade).former.contains 3 = true := by decide +kernel

theorem witness_RingCarriesWork :
    let d := ringOf .member
    let fwd (a b : Option Nat) : Dev := { d with cmds := [{ cmd 1 0 none with fwdTo := a, fwdFrom := b }] }
    let cs (f : Cascade → Cascade) : Dev := { d with cs := f d.cs }
    let lent := cs (fun c => { c with lentBufs := [(0, 5)] })
    d.working = true ∧ d.cs.inRing = true ∧ (headTo 1).seq = d.cs.rxSeq.get (b2n (!(headTo 1).clockwise)) ∧ (headTo 1).dst = d.clk.member.toNat ∧
    (let bs := leBytes 32 (BitVec.ofNat 256 (1 * 65536 + 7)).toNat
     (fwd (some 0) none).cmds.find? (fun m => m.fwdTo == some (headTo 1).src && m.done.isNone && m.sqe.cid.toNat == leNat (sliceBytes bs 0 2) &&
       dqn m.port m.qid == leNat (sliceBytes bs 2 2)) = (fwd (some 0) none).cmds.head?) ∧
    (d.port (d.portFor 0)).busMaster = true ∧ (d.port (d.portFor 0)).linkUp = true ∧
    ({ d with pa := Port.reset }.port ({ d with pa := Port.reset }.portFor 0)).linkUp = false ∧
    (cs (fun c => { c with asks := [(0, 0, 64, 8)] })).cs.asks.find? (fun a => a.1 == (headTo 1).src) = some (0, 0, 64, 8) ∧
    (5 : Nat) ≠ noLoan ∧ d.cs.lendAsks.find? (fun a => a.2.1 == 2 && a.2.2 == (headTo 1).src) = none ∧
    (let a := cs (fun c => { c with present := [0, 1], lendAsks := [(9, 2, 0)] })
     a.cs.lendAsks.find? (fun a => a.2.1 == 2 && a.2.2 == (headTo 1).src) = some (9, 2, 0) ∧ (a.lenders.dropWhile (fun m => m != (headTo 1).src)).drop 1 = []) ∧
    lent.cs.lentBufs.contains ((headTo 1).src, 5) = true ∧ inBuf 5 0 8 = true ∧ d.cs.lentBufs.contains ((headTo 1).src, 5) = false ∧
    (fwd none (some 0)).cmds.find? (fun m => m.fwdFrom == some (headTo 1).src && m.sqe.cid == 7 && dqn m.port m.qid == 1 && m.done.isNone)
      = (fwd none (some 0)).cmds.head? ∧ (fwd none (some 0)).cmds.head?.isSome = true := by decide

/-- A data member of a widened set of four with an open volume. -/
def widened : Dev := { withVolume live with
  clk := { live.clk with member := 1 }
  cs := { (ringOf .member).cs with modeInForce := 2, kInForce := 2, mInForce := 2
                                   partials := [⟨1, 0, [], true, none⟩] } }

theorem witness_stripes :
    widened.working = true ∧ widened.er.halted = false ∧ widened.dataMember = true ∧ widened.vol.st = .opened ∧
    widened.cs.partialOf 1 0 = some ⟨1, 0, [], true, none⟩ ∧ widened.cs.stripeFolios.length ≤ 0 ∧ widened.fm.openPayload = [] := by decide

/-- With a buffer for the forme, an empty forme of the next stripe is assembled. -/
theorem witness_emptyStripe (d : Dev) (hv : d.vol.loaded = some vol) (hg : d.fm.group = none) (hp : d.pools = Pools.reset) (hr : d.regs = Table.empty) :
    ∃ x, d.emptyStripe = some x := by
  have o : (d.openGroup 4).fm.group = some ⟨4, [], d.groupSize, 2 ^ 64, 2 ^ 64, d.l3Encoder, []⟩ := by simp [Dev.openGroup, hg, Dev.onFm]
  have w : (d.openGroup 4).vol.loaded = some vol := by simp [Dev.openGroup, hg, Dev.onFm, hv]
  have p : (d.openGroup 4).pools = Pools.reset := by simp [Dev.openGroup, hg, Dev.onFm, hp]
  have r : (d.openGroup 4).regs = live.regs := by simp [Dev.openGroup, hg, Dev.onFm, hr]; rfl
  obtain ⟨d1, h, -⟩ := Dev.grab_grants (d := d.openGroup 4) (u := .forme) (tag := [0]) (size := 192000) (p := 2) (k := bufKey 2 0)
    (share := [.unit .forme, .unit .encoder, .unit .rewrite]) (by rw [p]; rfl) (by rw [p]; rfl)
    (by rw [Dev.decideGrant_congr (e := live) p r]; rfl) (by rw [p]; rfl)
  have n : vol.nextFolio = 4 := rfl
  have c : ¬ d.groupSize ≤ 1 := by unfold Dev.groupSize; omega
  simp [Dev.emptyStripe, hv, Dev.addMember, n, o, Dev.assemble, w, h, c]

theorem witness_StripeLag : ∃ x, (widened.advanceBy (max 1 (widened.rf Reg.CS_CFG 15 8) * msTicks)).emptyStripe = some x :=
  witness_emptyStripe _ rfl rfl rfl rfl

theorem witness_FusesAndDebug :
    let f (g : Fuses → Fuses) : Dev := { live with fu := g live.fu }
    let m (g : Fuses → Fuses) : Dev := { live with fu := g live.fu, mode := .maint }
    live.alive = true ∧ live.writable (.port .a) = true ∧ live.fu.busy = false ∧ live.settingCheck = .error 1 ∧
    (m id).mode = .maint ∧ (m id).hk.vfuseFailed = false ∧ live.mode ≠ .maint ∧
    (f (fun x => { x with burn := some (.control 1) })).fu.busy = true ∧ (f (fun x => { x with burn := some (.control 1) })).fu.burn = some (.control 1) ∧
    (∀ level ∈ [1, 2], (m id).debugRefused level = false ∧ (m (fun x => { x with failures := 3 })).debugRefused level = true) ∧
    live.fu.challenge = none ∧
    ({ live with regs := Table.empty.set (regKey Reg.FU_TAMPER 0) (some 0x80000000) } : Dev).rf Reg.FU_TAMPER 31 31 = 1 ∧
    (f (fun x => { x with challenge := some (zeros 8) })).responseOk (zeros 8) = false ∧
    (let e := (f (fun x => { x with burn := some (.repair [] []), waiting := [(.port .a, 0)] })).endBurn (.repair [] []) true
     e.mi.softRows.length ≤ (freeRowSlots e.fu.shadow).length ∧ e.mi.softLanes.length ≤ (freeLaneSlots e.fu.shadow).length) := by decide +kernel

theorem readBytes_zero (m : Table Byte 0) (n a : Nat) (h : ∀ i, i < a + n → m.get i = 0) : readBytes m a n = zeros n := by
  induction n generalizing a with
  | zero => rfl
  | succ n ih => simp [readBytes, zeros, List.replicate_succ, h a (by omega), ih (a + 1) (fun i hi => h i (by omega))]

/-- A key whose two multiples sign one hash: u1 and u2 are 1, so r and s are both the hash. -/
def signed (e x y : Nat) : List Byte := 4 :: (beBytes 48 x ++ beBytes 48 y ++ zeros 3 ++ beBytes 48 e ++ beBytes 48 e)

/-- A challenge of eight zeros, and a response to it. -/
def response : List Byte :=
  signed 0x7c2db09d310ece0b36d50c86e4c3e6641684948cd6fc03262b0d0ed91a6cfbc3cd5affd396c1f85fd0a109b103364b19
    0xa4d5f3c27e7c1fdcdcf0dd6fd6538f9cdec54e1f7d5ece352a1ab4905fe575e8e030202ab422768498be4e8193acba0
    0x1a37a2a8e2676a203c6484e677e2e21377c5ba6c056586adc6bb2f3ce0652628eec1c0d385330ad3071ede6cadc83a92

/-- A device that holds that challenge, with the response staged and its key's hash burned. -/
def answered : Dev := { live with
  fu := { live.fu with challenge := some (zeros 8), shadow := writeBytes Table.empty 180 (sha384 (response.take 97)) }
  regs := (List.range 49).foldl (fun (t : Table (Option W32) none) i => t.set (regKey (Reg.FU_RESP + 4 * i) 0) (some (toW32 (leNat (sliceBytes response (4 * i) 4))))) Table.empty }

theorem witness_response : answered.fu.challenge = some (zeros 8) ∧ answered.responseOk (zeros 8) = true ∧ (logFree answered.fu.shadow).isSome = true := by
  decide +kernel

/-- A patch image of version 1 for cluster 0 of stepping 1, with no match entries and no words. -/
def image : List Byte := leBytes 4 0x48435450 ++ [1, 0, 1, 1] ++ leBytes 4 1 ++ zeros 4 ++ leBytes 4 228 ++ zeros 12 ++
  signed 0x81d1169cf7c2e26fdef65dd529b620e9b2002dba5541fa204da87173b55f78796d0d51f016e3ef9d68a026285f1c7b07
    0xdec4787ede740cdb59898f519167f0f8096f3d2ebbc588db8f317b2a9b7dce2d4300cfabc44ed62d231c0962218acc4a
    0xa8e102becc5a347fa5c350ec9c026565fdf360fae19bf9aedf46aea942b766d35feb766c6b6c2909898ccc7780d7ce21

theorem witness_image :
    let d : Dev := { live with
      fu := { live.fu with shadow := writeBytes (Table.empty.set 5 1) 132 (sha384 (sliceBytes image 32 97)) }
      hostA := writeBytes Table.empty 0 image }
    d.imageBytes .a 0 = image ∧ d.imageCheck image = 0 := by decide +kernel

/-- Fuses whose identity record and keys are good: the import private key is 1. -/
def goodFuses : Table Byte 0 :=
  writeBytes (writeBytes (writeBytes (Table.empty.set 0x24F 1) 0x250 (beBytes 48 g384.1 ++ beBytes 48 g384.2))
    0x2B0 (beBytes 32 0x147d8b7889e2967a31e1c584b2ab62ad86c7f1fc960ce6f93f4f14bafc34120b)) 508 (leBytes 4 0xec57a9c3)

theorem witness_fuses : keyRegionOk goodFuses = true := by decide +kernel
theorem crc_zeros : crc32c (zeros 508) = 0xec57a9c3 := by
  have z : zeros 508 = zeros 127 ++ (zeros 127 ++ (zeros 127 ++ zeros 127)) := by simp [zeros]
  have a : (zeros 127).foldl crcByte 0xFFFFFFFF = 0xa1458a34 := by decide +kernel
  have b : (zeros 127).foldl crcByte 0xa1458a34 = 0x20c2bd99 := by decide +kernel
  have c : (zeros 127).foldl crcByte 0x20c2bd99 = 0xf16ef5ff := by decide +kernel
  have e : (zeros 127).foldl crcByte 0xf16ef5ff = 0x13a8563c := by decide +kernel
  rw [crc32c, z, List.foldl_append, List.foldl_append, List.foldl_append, a, b, c, e]
  decide

theorem witness_identity : identityOk goodFuses = true := by
  have z : readBytes goodFuses 0 508 = zeros 508 := readBytes_zero _ 508 0 (by decide +kernel)
  rw [identityOk, z, crc_zeros]
  decide +kernel

/-- A device in MAINT whose staging holds an empty setting block of generation 0. -/
def staged (crc : W32) : Dev := { live with
  mode := .maint, regs := (Table.empty.set (regKey Reg.FU_STAGE 0) (some 0x53455442)).set (regKey (Reg.FU_STAGE + 1020) 0) (some crc) }

theorem slice_front (a b : List Byte) (o n : Nat) (h : o + n ≤ a.length) : sliceBytes (a ++ b) o n = sliceBytes a o n := by
  simp only [sliceBytes]
  rw [List.drop_append_of_le_length (by omega), List.take_append_of_le_length (by simp; omega)]

/-- The block up to its CRC. -/
def setb : List Byte := [0x42, 0x54, 0x45, 0x53] ++ zeros 1016

theorem staged_bytes (c : W32) : (staged c).staging = setb ++ leBytes 4 c.toNat := by
  have z : ∀ i ∈ (List.range 254).map (fun i => i + 1), leBytes 4 ((staged c).reg (Reg.FU_STAGE + 4 * i)).toNat = zeros 4 := by
    intro i hi
    have q : ∀ i ∈ (List.range 254).map (fun i => i + 1), resetReg (Reg.FU_STAGE + 4 * i) = 0 := by decide +kernel
    have r := q i hi
    simp only [List.mem_map, List.mem_range] at hi
    have m : (staged c).regs.get (regKey (Reg.FU_STAGE + 4 * i) 0) = none := by
      simp only [staged]
      rw [Table.get_set_ne _ _ (by simp [regKey]; omega), Table.get_set_ne _ _ (by simp [regKey]; omega)]
      rfl
    simp [Dev.reg, Dev.regB, m, r]; rfl
  have s : List.range 256 = [0] ++ (List.range 254).map (fun i => i + 1) ++ [255] := by decide +kernel
  have f : ((List.range 254).map (fun i => i + 1)).flatMap (fun i => leBytes 4 ((staged c).reg (Reg.FU_STAGE + 4 * i)).toNat) = zeros 1016 := by
    rw [List.flatMap_congr z]; decide +kernel
  have h0 : leBytes 4 ((staged c).reg (Reg.FU_STAGE + 4 * 0)).toNat = [0x42, 0x54, 0x45, 0x53] := by
    have m : (staged c).regs.get (regKey (Reg.FU_STAGE + 4 * 0) 0) = some 0x53455442 := by
      simp only [staged]
      rw [Table.get_set_ne _ _ (by decide)]
      exact Table.get_set_self _ _ _
    simp only [Dev.reg, Dev.regB, m]; rfl
  have h9 : (staged c).reg (Reg.FU_STAGE + 4 * 255) = c := by
    have m : (staged c).regs.get (regKey (Reg.FU_STAGE + 4 * 255) 0) = some c := Table.get_set_self _ _ _
    simp only [Dev.reg, Dev.regB, m]
  rw [Dev.staging, s, List.flatMap_append, List.flatMap_append, f]
  simp only [List.flatMap_cons, List.flatMap_nil, List.append_nil, h0, h9]
  rfl

theorem staged_valid (c : Nat) (h : crc32c setb = c) (b : c < 2 ^ 32) : settingValid (setb ++ leBytes 4 c) 0 = true := by
  have len : setb.length = 1020 := by decide +kernel
  have fld (o n : Nat) (h : o + n ≤ 1020) : imgField (setb ++ leBytes 4 c) o n = leNat (sliceBytes setb o n) := by
    rw [imgField, slice_front _ _ _ _ (by omega)]
  have crc : imgField (setb ++ leBytes 4 c) 1020 4 = c := by
    have l := leBytes_length 4 c
    rw [imgField, sliceBytes, ← len, List.drop_left, List.take_of_length_le (by omega), l]
    simp [zeros, leNat_leBytes]; omega
  have tk : (setb ++ leBytes 4 c).take 1020 = setb := by rw [← len, List.take_left]
  simp only [settingValid, settingCount, tk, crc, fld 0 4 (by omega), fld 4 1 (by omega), fld 5 1 (by omega), fld 6 2 (by omega), fld 8 8 (by omega), h]
  simp only [beq_self_eq_true, Bool.and_true]
  decide +kernel

theorem none_used : nextSetting Table.empty = some 0 := by
  have e : settingBytes Table.empty 0 = zeros 1024 := readBytes_zero _ _ _ (fun i _ => rfl)
  have r : List.range 4 = [0, 1, 2, 3] := rfl
  have q (n : Nat) : (zeros n).any (fun b => b != 0) = false := by induction n with
    | zero => rfl
    | succ n ih => rw [zeros, List.replicate_succ]; exact ih
  rw [nextSetting, r, List.find?_cons, settingUsed, e, q]
  rfl

theorem witness_of (c : Nat) (b : c < 2 ^ 32) (v : settingValid (setb ++ leBytes 4 c) 0 = true) : (staged (toW32 c)).settingCheck = .ok 0 := by
  have u : nextSetting (staged (toW32 c)).fu.shadow = some 0 := none_used
  have t : (toW32 c).toNat = c := by simp [toW32]; omega
  have m : (staged (toW32 c)).mode = .maint := rfl
  have f : (staged (toW32 c)).hk.vfuseFailed = false := rfl
  have g : (staged (toW32 c)).fu.control 2 = false := by show live.fu.control 2 = false; decide
  simp [Dev.settingCheck, m, f, g, u, staged_bytes, t, v]

/-- A setting block that is accepted. -/
theorem witness_settingCheck : ∃ crc, (staged crc).settingCheck = .ok 0 :=
  ⟨_, witness_of (crc32c setb) (crc32c_lt setb) (staged_valid (crc32c setb) rfl (crc32c_lt setb))⟩

theorem witness_logFull :
    logFree ((List.range 64).foldl (fun (t : Table Byte 0) i => t.set (0x1D80 + 8 * i) 1) Table.empty) = none := by decide +kernel

/-- A context at a patch word whose sequencing code Table 18.1 reserves. The class of a JTAG code is a free value, so no code is shown that reads IDCODE. -/
def strayed : Dev :=
  let d := runs 1 0
  { d with
    ctxs := d.ctxs.set 0 { d.ctxs.get 0 with micro := ⟨0x4000, []⟩ }
    en := { d.en with clusters := Table.empty.set 0 { Cluster.reset with patch := Table.empty.set 0 (BitVec.ofNat 160 (7 * 2 ^ 156)), words := 1 } } }

theorem witness_microFault : strayed.working = true ∧ strayed.occupied 0 = true ∧ strayed.microFault ⟨0, []⟩ = some 0x4000 ∧
    strayed.isFenced (clusterUid 0) = false ∧ strayed.er.pend = [] ∧ strayed.hasMate (clusterUid 0) = true := by decide +kernel

theorem witness_PatchesSnapshotsAndJtag :
    let en (f : Patches → Patches) : Dev := { live with en := f live.en }
    let sn (f : Snap → Snap) : Dev := { live with sn := f live.sn, regs := Table.empty.set (regKey Reg.SN_CTL 0) (some 0x20000000) }
    let q := en (fun e => { e with busy := true, todo := [2], clusters := Table.empty.set 2 { Cluster.reset with quiescing := true } })
    let lvl (n : Nat) : Dev := { live with fu := { live.fu with level := n } }
    let asleep : Dev := { stored 1 0 with engines := (List.range 32).foldl (fun (t : Table Engine Engine.reset) i => if i = 0 then t.set 0 { Engine.reset with asleep := some 4 } else t) Table.empty }
    live.writable (.port .a) = true ∧ fieldOf (live.reg Reg.EN_PCTL) 31 30 = 0 ∧ live.en.busy = false ∧ live.addrB Reg.EN_PADDR_LO 0 % 8 = 0 ∧
    (∀ p ∈ [PortId.a, .b], (live.port p).busMaster = true ∧ (live.port p).linkUp = true) ∧ live.imageCheck [] ≠ 0 ∧
    q.en.busy = true ∧ q.en.todo = [2] ∧ q.en.jtagWaiting = [] ∧ (q.en.clusters.get 2).quiescing = true ∧ q.clusterIdle 2 = true ∧
    live.isFenced (clusterUid 3) = false ∧ live.er.pend = [] ∧ live.hasMate (clusterUid 3) = true ∧
    live.rf Reg.EN_SLEEP 31 31 = 1 ∧ (live.engines.get 31).asleep = none ∧ live.engineIdle 31 = true ∧
    (asleep.engines.get 0).asleep = some 4 ∧ (List.range 8).any (fun i => (asleep.nextFor (8 * 0 + i)).any (fun m => asleep.chooseEngine m == some 0)) = true ∧
    (∀ b ∈ [false, true], (sn (fun x => { x with held := b })).rf Reg.SN_CTL 29 29 = 1 ∧ (sn (fun x => { x with held := b })).sn.held = b ∧
      (sn (fun x => { x with armed := true, releaseAsked := b })).sn.releaseAsked = b) ∧ live.sn.latches.get 79 = none ∧
    (∀ n ∈ [0, 1, 2], (lvl n).debugLevel = n ∧ (lvl n).working = true) ∧ bitOf (0x4000000000000000 : W64) 63 = false ∧ (0x7E : BitVec 7) ≠ 0x7F := by
  decide +kernel

theorem witness_StartUpRuns :
    let boot (f : Boot → Boot) : Dev := { live with boot := f live.boot }
    let b0 := boot (fun b => { b with bootDone := false, ready := false })
    live.boot.pwrLow = false ∧ live.boot.warmLow = false ∧ ({ live with sn := { live.sn with held := true } } : Dev).sn.armed = false ∧
    Dev.reset.boot.pwrLow = true ∧ (boot (fun b => { b with warmLow := true })).boot.warmLow = true ∧
    ({ live with fu := { live.fu with loadDone := false } } : Dev).working = true ∧
    ({ live with mi := { live.mi with initBusy := true } } : Dev).alive = true ∧ ({ live with mi := { live.mi with bistDone := false } } : Dev).working = true ∧
    b0.working = true ∧ b0.mi.bistDone = true ∧ b0.boot.bootDone = false ∧ b0.boot.heldWrites = [] ∧
    ({ (boot (fun b => { b with ready := false })) with hk := { live.hk with calibrated := true } } : Dev).mayReady = true ∧ live.boot.heldOps = [] ∧
    ({ live with clk := { live.clk with stalls := [(9, 1200)] } } : Dev).clk.stalls.find? (fun x => decide (x.1 = 9)) = some (9, 1200) ∧
    live.readOpen (.port .a) = true ∧ (∀ a ∈ latchedLo, (live.pairValue a).isSome = true) ∧ live.readOpen (.i2c .a) = true ∧
    perPort (0x80080000 % 2 ^ 31) = false ∧ 0x80080000 % 2 ^ 31 / 65536 ≠ 0x10 ∧ live.writable (.port .a) = true ∧ findReg 0x003FFFF0 = none ∧
    live.locked Reg.ER_CFG = false ∧
    ({ live with regs := Table.empty.set (regKey (Reg.ER_CFG / 65536 * 65536) 0) (some 0x80000000) } : Dev).locked Reg.ER_CFG = true ∧
    fieldOf (5 : W32) 3 0 ≠ live.rf Reg.ER_CFG 3 0 ∧
    b0.pathOpen (.port .a) = true ∧ b0.boot.failed = false ∧ b0.boot.heldCount < 256 ∧
    256 ≤ (boot (fun b => { b with heldWrites := List.replicate 256 ⟨.port .a, .bar0, 0, 0, 0⟩ })).boot.heldCount := by
  decide +kernel

/-- A record at each end of what a record may hold. -/
theorem witness_SealedRecordOpens :
    let r (n k : Nat) : Rec := { sealedRec 0 with plain := zeros n, blocks := List.replicate k (0, 0, 0) }
    ∀ n ∈ [56, 16777136], ∀ k ∈ [1, 65535], 1 ≤ (r n k).blocks.length ∧ (r n k).blocks.length < 65536 ∧ (r n k).plain.length % 8 = 0 ∧
      56 ≤ (r n k).plain.length ∧ (r n k).plain.length ≤ 16777136 := by
  intro r n hn k hk
  have b : (r n k).blocks.length = k := List.length_replicate
  have p : (r n k).plain.length = n := List.length_replicate
  rw [b, p]
  simp at hn hk
  omega

/-- A unit whose last stamp was far ahead of the count. -/
theorem witness_StampsRise :
    let d : Dev := { live with clk := { live.clk with last := Table.empty.set 9 5000 } }
    d.clk.now + 64 < (d.stamp 9 0).1.t := by
  have h : 5000 ≤ (({ live with clk := { live.clk with last := Table.empty.set 9 5000 } } : Dev).stamp 9 0).1.t := by
    simp only [Dev.stamp, Dev.nextT]
    exact Nat.le_trans (Nat.le_max_right _ _) (Nat.le_max_left _ _)
  exact Nat.lt_of_lt_of_le (by decide) h
/-! ### Well-formed and ill-formed commands at the limit of each check -/

theorem test_wf_numbers :
    ((Instr.add 255).wf = true ∧ (Instr.add 256).wf = false) ∧
    ((Instr.engineSleep 31).wf = true ∧ (Instr.engineSleep 32).wf = false) ∧
    ((Instr.completionPost .b 511).wf = true ∧ (Instr.completionPost .b 512).wf = false) ∧
    ((Instr.vectorUnmask .a 1023).wf = true ∧ (Instr.vectorUnmask .a 1024).wf = false) ∧
    ((Instr.fifoDrainStart .a 31).wf = true ∧ (Instr.fifoDrainStart .a 32).wf = false) ∧
    ((Instr.compressBlockStart 31).wf = true ∧ (Instr.compressBlockStart 32).wf = false) ∧
    ((Instr.recordIdleClose 1023).wf = true ∧ (Instr.recordIdleClose 1024).wf = false) ∧
    ((Instr.recordTagDone 15).wf = true ∧ (Instr.recordTagDone 16).wf = false) ∧
    ((Instr.proofRowResult 0 175 none).wf = true ∧ (Instr.proofRowResult 0 176 none).wf = false) ∧
    ((Instr.linkSignalDetect 15).wf = true ∧ (Instr.linkSignalDetect 16).wf = false) ∧
    ((Instr.saturationFault 7).wf = true ∧ (Instr.saturationFault 8).wf = false) ∧
    ((Instr.pesFault 1).wf = true ∧ (Instr.pesFault 2).wf = false) ∧
    ((Instr.sensorRailFault 1 3).wf = true ∧ (Instr.sensorRailFault 2 3).wf = false ∧ (Instr.sensorRailFault 1 4).wf = false) ∧
    ((Instr.chatterFault 3).wf = true ∧ (Instr.chatterFault 4).wf = false) ∧
    ((Instr.rowRepairDone (2 ^ 35 - 1)).wf = true ∧ (Instr.rowRepairDone (2 ^ 35)).wf = false) ∧
    ((Instr.laneRepair 3 15 78).wf = true ∧ (Instr.laneRepair 4 15 78).wf = false ∧ (Instr.laneRepair 3 16 78).wf = false ∧
      (Instr.laneRepair 3 15 79).wf = false) ∧
    ((Instr.memberLoss 7).wf = true ∧ (Instr.memberLoss 8).wf = false) ∧
    ((Instr.clusterQuiesced 3).wf = true ∧ (Instr.clusterQuiesced 4).wf = false) ∧
    ((Instr.domainLatchSupply 79).wf = true ∧ (Instr.domainLatchSupply 80).wf = false) ∧
    ((Instr.dbgSnap 79).wf = true ∧ (Instr.dbgSnap 127).wf = true ∧ (Instr.dbgSnap 80).wf = false) ∧
    ((Instr.hopLoss .c0 7).wf = true ∧ (Instr.hopLoss .c0 8).wf = false) ∧
    ((Instr.onchipMemoryError 12 ⟨9, 0⟩ 0).wf = true ∧ (Instr.onchipMemoryError 13 ⟨9, 0⟩ 0).wf = false) ∧
    ((Instr.tamper 3).wf = true ∧ (Instr.tamper 2).wf = false) ∧
    ((Instr.debugRequest (.port .a) 2).wf = true ∧ (Instr.debugRequest (.port .a) 3).wf = false) := by decide

theorem test_wf_lists :
    ((Instr.sampleTimerEdge (List.replicate 8 0)).wf = true ∧ (Instr.sampleTimerEdge [0]).wf = false) ∧
    ((Instr.hkRoundEnd (List.replicate 24 0) (List.replicate 48 0) none).wf = true ∧ (Instr.hkRoundEnd [] (List.replicate 48 0) none).wf = false ∧
      (Instr.hkRoundEnd (List.replicate 24 0) [] none).wf = false) ∧
    ((Instr.stripe .c1 1 0 []).wf = false ∧ (Instr.stripe .c1 3 0 []).wf = false) := by decide

theorem test_wf_stripe : (Instr.stripe .c1 2 0 (List.replicate 153191 0)).wf = true := by
  simp only [Instr.wf, List.length_replicate]; decide

theorem test_wf_messages :
    ((Instr.epoch (headTo 7 (2 ^ 32 - 1) 7) 0).wf = true ∧ (Instr.epoch (headTo 7 0 8) 0).wf = false ∧
      (Instr.epoch (headTo 8 0 7) 0).wf = false ∧ (Instr.epoch (headTo 7 (2 ^ 32) 7) 0).wf = false ∧
      (Instr.epoch { headTo 7 0 7 with stampT := 2 ^ 64 } 0).wf = false ∧
      (Instr.epoch { headTo 7 0 7 with len := 2 ^ 32 } 0).wf = false ∧ (Instr.epoch { headTo 7 0 7 with endSeq := 2 ^ 32 } 0).wf = false) ∧
    ((Instr.lendReq (headTo 1) 5).wf = true ∧ (Instr.lendReq (headTo 1) 6).wf = false) ∧
    ((Instr.loss (headTo 1) 7).wf = true ∧ (Instr.loss (headTo 1) 8).wf = false) := by decide

/-! ### The spec's worked examples -/

/-- R345: k = 2 and m = 2; the coefficients of data members 0 and 1, and the parity values, which are also those of the row identifier of R174. -/
theorem test_parity_coefficients :
    stripeCoeffs 2 2 0 = [0x01C, 0x030] ∧ stripeCoeffs 2 2 1 = [0x006, 0x008] ∧ gf10mul 0x01C 0x005 = 0x06C ∧ gf10mul 0x006 0x123 = 0x2C3 ∧
    gf10mul 0x030 0x005 = 0x0F0 ∧ gf10mul 0x008 0x123 = 0x10A ∧ rsChecks 2 [0x005, 0x123] = [0x2AF, 0x1FA] := by decide +kernel

/-- R174: the identifier of row 5 of the first copy of folio 0x123, as written and with I1 read as 0x122. -/
theorem test_row_identifier :
    rowIdOk [0x005, 0x123, 0x2AF, 0x1FA] 5 0 0x123 = true ∧
    rowIdOk [0x005, 0x122, 0x2AF, 0x1FA] 5 0 0x123 = false := by decide +kernel

/-- R300: data bit 0, position 14, is read back flipped. -/
theorem test_single_error :
    bchS1 (flipBits 0 [0]) = 0x41 ∧ bchS3 (flipBits 0 [0]) = 0x2B ∧ bchP (flipBits 0 [0]) = 1 := by decide +kernel

/-- The lag of a gap of 2,500 µm is 38 positions (09_sheaf_proof). -/
theorem test_proof_lag : ({ live with regs := Table.empty.set (regKey Reg.SH_PROOFCFG 0) (some 2500) } : Dev).lagSet = 38 := by decide

/-- R82: stamps sort by T, then by O. -/
theorem test_stamp_order :
    let s : Stamp := ⟨0x0000_0012_3456_789A, 0x21⟩
    s.t = 78187493530 ∧ (Stamp.mk s.t 0x20).lt s = true ∧ (Stamp.mk (s.t - 1) 0xFF).lt s = true ∧ s.lt s = false := by decide

/-- R259: lutscale 630, e = −0.0253, G[15] = 1.25 and G[16] = 1.1875 give 1.1913. -/
theorem test_gain_table :
    let z := Fx.lit 0
    let k : SlotCfg := ⟨z, z, z, z, 0, 0, 0x276000, List.replicate 15 0 ++ [5 * 2 ^ 22, 19 * 2 ^ 20], [], []⟩
    let g := (k.gain (-253 * 2 ^ 24 / 10000)).v
    11912 * 2 ^ 24 < 10000 * g ∧ 10000 * g < 11914 * 2 ^ 24 := by decide +kernel

/-- R42: with weights 4, 2 and 1 and a burst of 2, the first four decisions serve HIGH twice, then MEDIUM, then LOW. -/
theorem test_arbiter :
    let d : Dev := { live with
      pairs := ((Table.empty.set 3 { active with sqTail := 5 }).set 7 { active with sqTail := 5 }).set 514 { active with sqTail := 5 }
      arb := { live.arb with credHigh := 4, credMed := 2, credLow := 1 }
      regs := ((Table.empty.set (regKey Reg.QM_QCFG 3) (some 0x14)).set (regKey Reg.QM_QCFG 7) (some 0x24)).set (regKey Reg.QM_QCFG 514) (some 0x34) }
    let c (h m l : Nat) : Dev := { d with arb := { d.arb with credHigh := h, credMed := m, credLow := l } }
    d.pickClass = some 1 ∧ d.nextOf 1 = some 3 ∧ (c 0 2 1).pickClass = some 2 ∧ (c 0 2 1).nextOf 2 = some 7 ∧ (c 0 0 1).pickClass = some 3 ∧
    (c 0 0 1).nextOf 3 = some 514 ∧ (c 0 0 0).pickClass = none := by decide +kernel

/-- The examples of R400, and Table 20.4. -/
theorem test_balls :
    ballAt 21 4 = .signal (.lane .hlRx 7 false) ∧ ballAt 29 45 = .signal (.lane .c1Tx 3 true) ∧ ballAt 42 37 = .signal (.lane .pbRx 15 true) ∧
    ballAt 9 40 = .supply .vpps ∧ ballAt 20 23 = .supply .vsram ∧ ballAt 15 30 = .supply .vcore ∧ ballAt 22 30 = .supply .vss := by decide

theorem test_ball_counts :
    let all := (List.range 46).flatMap (fun r => (List.range 46).map (fun c => ballAt (r + 1) (c + 1)))
    let n (s : Supply) := all.count (.supply s)
    [n .vss, n .vcore, n .vsd, n .vsdh, n .vdds, n .vsram, n .vpps, n .vio, n .vfuse] = [1119, 408, 70, 70, 48, 30, 24, 17, 2] := by decide +kernel

/-- FIPS 180-4: SHA-384 of nothing; FIPS 197: AES-256 of zeros under a key of zeros. -/
theorem test_standards :
    (sha384 []).take 4 = [0x38, 0xB0, 0x60, 0xA7] ∧ (aesBlock (aesKeys (zeros 32)) (zeros 16)).take 4 = [0xDC, 0x95, 0xC0, 0x78] := by decide +kernel

end Sys2Proof.Tests
end

section
/-! The stamp service (R8, R81, R82): what an issue leaves in the clock, and the order of the stamps of a unit. -/

namespace Sys2Proof.Machine

/-- The lead a unit records is apart from the count, the last stamps and the stalls. -/
theorem Dev.noteLead_clk (d : Dev) (u l : Nat) : ∃ v, (d.noteLead u l).clk = { d.clk with leadUnit := v } := by
  unfold Dev.noteLead
  split
  · exact ⟨u, rfl⟩
  · exact ⟨d.clk.leadUnit, rfl⟩

theorem Dev.noteStall_of_near {d : Dev} {t : Nat} (u : Nat) (h : t ≤ d.clk.now + 64) : d.noteStall u t = d :=
  if_neg (Nat.not_lt.mpr h)

theorem Dev.noteStall_stalls_of_far {d : Dev} {t : Nat} (u : Nat) (h : d.clk.now + 64 < t) :
    (d.noteStall u t).clk.stalls = d.clk.stalls ++ [(u, t - 64)] := by
  unfold Dev.noteStall Dev.advanceTo
  rw [if_pos h]
  split <;> simp

theorem Dev.noteStall_now_of_far {d : Dev} {t : Nat} (u : Nat) (h : d.clk.now + 64 < t) (hr : d.clk.running = true) :
    (d.noteStall u t).clk.now = t - 64 := by
  simp only [Dev.noteStall, Dev.advanceTo, if_pos h, Dev.setW1_clk, hr, if_true, Dev.onClk_clk]
  omega

theorem Dev.noteStall_last (d : Dev) (u t : Nat) : (d.noteStall u t).clk.last = d.clk.last := by
  unfold Dev.noteStall Dev.advanceTo
  split
  · split <;> simp
  · rfl

theorem Dev.stamp_t (d : Dev) (u a : Nat) : (d.stamp u a).1.t = max (max d.seen (d.clk.last.get u)) a := rfl

theorem Dev.stamp_o (d : Dev) (u a : Nat) : (d.stamp u a).1.o = d.origin u := rfl

/-- The device in which the lead of a stamp is checked against the 64 ticks of R82: its clock is that of before but for the unit's last stamp. -/
def Dev.stamping (d : Dev) (u a : Nat) : Dev :=
  ({ d.onClk (fun c => { c with last := c.last.set u (d.nextT u a + 1) }) with draws := d.draws + 1 } : Dev).noteLead u (d.nextT u a - d.clk.now)

theorem Dev.stamp_snd (d : Dev) (u a : Nat) : (d.stamp u a).2 = (d.stamping u a).noteStall u (d.stamp u a).1.t := rfl

theorem Dev.stamping_clk (d : Dev) (u a : Nat) :
    ∃ v, (d.stamping u a).clk = { d.clk with last := d.clk.last.set u ((d.stamp u a).1.t + 1), leadUnit := v } :=
  Dev.noteLead_clk _ u _

/-- An issue sets the last stamp of its unit and of no other. -/
theorem Dev.stamp_last (d : Dev) (u a : Nat) : (d.stamp u a).2.clk.last = d.clk.last.set u ((d.stamp u a).1.t + 1) := by
  obtain ⟨v, hv⟩ := d.stamping_clk u a
  rw [Dev.stamp_snd, Dev.noteStall_last, hv]

/-- A stamp no more than 64 ticks ahead leaves the count and the stalls. -/
theorem Dev.stamp_clk_of_near {d : Dev} {u a : Nat} (h : (d.stamp u a).1.t ≤ d.clk.now + 64) :
    (d.stamp u a).2.clk.now = d.clk.now ∧ (d.stamp u a).2.clk.stalls = d.clk.stalls := by
  obtain ⟨v, hv⟩ := d.stamping_clk u a
  rw [Dev.stamp_snd, Dev.noteStall_of_near u (by rw [hv]; exact h), hv]
  exact ⟨rfl, rfl⟩

/-- A unit more than 64 ticks ahead is entered among the stalls, and the count comes to 64 ticks behind its stamp where it runs (log entry 129). -/
theorem Dev.stamp_clk_of_far {d : Dev} {u a : Nat} (h : d.clk.now + 64 < (d.stamp u a).1.t) :
    (d.stamp u a).2.clk.stalls = d.clk.stalls ++ [(u, (d.stamp u a).1.t - 64)] ∧
      (d.clk.running = true → (d.stamp u a).2.clk.now = (d.stamp u a).1.t - 64) := by
  obtain ⟨v, hv⟩ := d.stamping_clk u a
  have far : (d.stamping u a).clk.now + 64 < (d.stamp u a).1.t := by rw [hv]; exact h
  rw [Dev.stamp_snd]
  constructor
  · rw [Dev.noteStall_stalls_of_far u far, hv]
  · intro hr
    exact Dev.noteStall_now_of_far u far (by rw [hv]; exact hr)

/-- The count a unit sees is at most 4 ticks behind the count (R81). -/
theorem Dev.seen_bounds (d : Dev) : d.seen ≤ d.clk.now ∧ d.clk.now ≤ d.seen + 4 := by
  unfold Dev.seen
  omega

theorem Stamp.lt_of_t_lt {a b : Stamp} (h : a.t < b.t) : a.lt b = true := by
  simp [Stamp.lt, h]

/-- A stamp is after the last one of its unit. -/
theorem Dev.last_le_stamp (d : Dev) (u a : Nat) : d.clk.last.get u ≤ (d.stamp u a).1.t :=
  (Nat.le_max_right _ _).trans (Nat.le_max_left _ _)

/-- A stamp is no earlier than its work asks. -/
theorem Dev.after_le_stamp (d : Dev) (u a : Nat) : a ≤ (d.stamp u a).1.t := Nat.le_max_right _ _

/-- Two stamps issued one after the other by a unit rise. -/
theorem Dev.stamp_t_rises (d : Dev) (u a b : Nat) : (d.stamp u a).1.t < ((d.stamp u a).2.stamp u b).1.t := by
  have h := (d.stamp u a).2.last_le_stamp u b
  rw [Dev.stamp_last, Table.get_set_self] at h
  exact h

end Sys2Proof.Machine

open Sys2Proof Sys2Proof.Machine

/-- Settles O60: an issue leaves its T plus 1 as the least the unit's next stamp may be. -/
theorem stampsRise : Obligations.StampsRise := by
  intro d u u2 after carried x y
  have carriedBefore : carried.t < x.1.t := d.after_le_stamp u carried.after
  have lastSet : x.2.clk.last = d.clk.last.set u (x.1.t + 1) := d.stamp_last u carried.after
  refine ⟨d.stamp_t u _, ?_, d.stamp_o u _, d.seen_bounds.1, d.seen_bounds.2, Stamp.lt_of_t_lt carriedBefore, ?_, ?_,
    Dev.stamp_clk_of_near, Dev.stamp_clk_of_far⟩
  · rw [lastSet, Table.get_set_self]
  · rintro rfl
    have rises := d.stamp_t_rises u2 carried.after after
    exact ⟨rises, Stamp.lt_of_t_lt rises⟩
  · intro w hw
    rw [lastSet, Table.get_set_ne _ _ hw]
end

section
/-! What step 1 of start-up establishes (Table 19.1), and that no operation of the device on the way of a register write takes it back: a setting
block of the fuses is applied as register writes (R359), so FUSE_LOAD_DONE rests on this for every register a block may name. -/

namespace Sys2Proof.Machine

/-- What step 1 of start-up leaves: the fuses read, the stage of start-up, the fill of the buffer and the rows under repair. -/
def Dev.stepOne (d : Dev) : Bool × Nat × Bool × List RowRep := (d.fu.loadDone, d.boot.stage, d.mi.initBusy, d.mi.rows)

/-! ### Operations of `Machine/Ops` -/

/-- A change made for each element of a list keeps what each of its steps keeps. -/
theorem Dev.each_keeps {α β : Type} (v : Dev → β) (d : Dev) (l : List α) (f : Dev → α → Dev) (h : ∀ e x, v (f e x) = v e) :
    v (d.each l f) = v d := by
  unfold Dev.each
  induction l generalizing d with
  | nil => rfl
  | cons x t ih => rw [List.foldl_cons, ih, h]

@[simp] theorem Dev.each_stepOne {α : Type} (d : Dev) (l : List α) (f : Dev → α → Dev) (h : ∀ e x, (f e x).stepOne = e.stepOne) :
    (d.each l f).stepOne = d.stepOne := Dev.each_keeps Dev.stepOne d l f h

@[simp] theorem Dev.onArb_stepOne (d : Dev) (f : Arb → Arb) : (d.onArb f).stepOne = d.stepOne := by simp [Dev.onArb, Dev.stepOne]
@[simp] theorem Dev.onPools_stepOne (d : Dev) (f : Pools → Pools) : (d.onPools f).stepOne = d.stepOne := by simp [Dev.onPools, Dev.stepOne]
@[simp] theorem Dev.onIdx_stepOne (d : Dev) (f : Index → Index) : (d.onIdx f).stepOne = d.stepOne := by simp [Dev.onIdx, Dev.stepOne]
@[simp] theorem Dev.onCm_stepOne (d : Dev) (f : Compression → Compression) : (d.onCm f).stepOne = d.stepOne := by simp [Dev.onCm, Dev.stepOne]
@[simp] theorem Dev.onCx_stepOne (d : Dev) (f : Cipher → Cipher) : (d.onCx f).stepOne = d.stepOne := by simp [Dev.onCx, Dev.stepOne]
@[simp] theorem Dev.onFm_stepOne (d : Dev) (f : Formes → Formes) : (d.onFm f).stepOne = d.stepOne := by simp [Dev.onFm, Dev.stepOne]
@[simp] theorem Dev.onSh_stepOne (d : Dev) (f : Sheaf → Sheaf) : (d.onSh f).stepOne = d.stepOne := by simp [Dev.onSh, Dev.stepOne]
@[simp] theorem Dev.onVol_stepOne (d : Dev) (f : Vol → Vol) : (d.onVol f).stepOne = d.stepOne := by simp [Dev.onVol, Dev.stepOne]
@[simp] theorem Dev.onTc_stepOne (d : Dev) (f : Tc → Tc) : (d.onTc f).stepOne = d.stepOne := by simp [Dev.onTc, Dev.stepOne]
@[simp] theorem Dev.onEr_stepOne (d : Dev) (f : Errors → Errors) : (d.onEr f).stepOne = d.stepOne := by simp [Dev.onEr, Dev.stepOne]

@[simp] theorem Dev.onMi_stepOne (d : Dev) (f : MemInt → MemInt) (h : (f d.mi).initBusy = d.mi.initBusy) (hr : (f d.mi).rows = d.mi.rows) :
    (d.onMi f).stepOne = d.stepOne := by
  simp [Dev.stepOne, h, hr]

@[simp] theorem Dev.onHk_stepOne (d : Dev) (f : Hk → Hk) : (d.onHk f).stepOne = d.stepOne := by simp [Dev.onHk, Dev.stepOne]
@[simp] theorem Dev.onCs_stepOne (d : Dev) (f : Cascade → Cascade) : (d.onCs f).stepOne = d.stepOne := by simp [Dev.onCs, Dev.stepOne]

@[simp] theorem Dev.onFu_stepOne (d : Dev) (f : Fuses → Fuses) (h : (f d.fu).loadDone = d.fu.loadDone) : (d.onFu f).stepOne = d.stepOne := by
  simp [Dev.stepOne, h]

@[simp] theorem Dev.onEn_stepOne (d : Dev) (f : Patches → Patches) : (d.onEn f).stepOne = d.stepOne := by simp [Dev.onEn, Dev.stepOne]
@[simp] theorem Dev.onSn_stepOne (d : Dev) (f : Snap → Snap) : (d.onSn f).stepOne = d.stepOne := by simp [Dev.onSn, Dev.stepOne]

@[simp] theorem Dev.onBoot_stepOne (d : Dev) (f : Boot → Boot) (h : (f d.boot).stage = d.boot.stage) : (d.onBoot f).stepOne = d.stepOne := by
  simp [Dev.stepOne, h]

@[simp] theorem Dev.onPins_stepOne (d : Dev) (f : Pins → Pins) : (d.onPins f).stepOne = d.stepOne := by simp [Dev.onPins, Dev.stepOne]
@[simp] theorem Dev.onCtx_stepOne (d : Dev) (c : Nat) (f : Ctx → Ctx) : (d.onCtx c f).stepOne = d.stepOne := by simp [Dev.onCtx, Dev.stepOne]
@[simp] theorem Dev.onLink_stepOne (d : Dev) (t : Nat) (f : Link → Link) : (d.onLink t f).stepOne = d.stepOne := by simp [Dev.onLink, Dev.stepOne]
@[simp] theorem Dev.onPair_stepOne (d : Dev) (q : Nat) (f : Pair → Pair) : (d.onPair q f).stepOne = d.stepOne := by simp [Dev.onPair, Dev.stepOne]
@[simp] theorem Dev.onPort_stepOne (d : Dev) (p : PortId) (f : Port → Port) : (d.onPort p f).stepOne = d.stepOne := by
  unfold Dev.onPort
  split <;> simp [Dev.stepOne]
@[simp] theorem Dev.onHost_stepOne (d : Dev) (p : PortId) (f : Table Byte 0 → Table Byte 0) : (d.onHost p f).stepOne = d.stepOne := by
  unfold Dev.onHost
  split <;> simp [Dev.stepOne]
@[simp] theorem Dev.place_stepOne (d : Dev) (p : PortId) (w : HostWrites) : (d.place p w).stepOne = d.stepOne := by simp [Dev.place]
@[simp] theorem Dev.hostWrite_stepOne (d : Dev) (p : PortId) (a : Nat) (bs : List Byte) : (d.hostWrite p a bs).stepOne = d.stepOne := by simp [Dev.hostWrite]

@[simp] theorem Dev.when_stepOne (d : Dev) (b : Bool) (f : Dev → Dev) (h : ∀ e, (f e).stepOne = e.stepOne) : (d.when b f).stepOne = d.stepOne := by
  unfold Dev.when
  split <;> simp [h]

@[simp] theorem Dev.setRegB_stepOne (d : Dev) (a bank : Nat) (v : W32) : (d.setRegB a bank v).stepOne = d.stepOne := by simp [Dev.setRegB, Dev.stepOne]
@[simp] theorem Dev.setReg_stepOne (d : Dev) (a : Nat) (v : W32) : (d.setReg a v).stepOne = d.stepOne := by simp [Dev.setReg]
@[simp] theorem Dev.setRf_stepOne (d : Dev) (a hi lo x : Nat) : (d.setRf a hi lo x).stepOne = d.stepOne := by simp [Dev.setRf]
@[simp] theorem Dev.setW1f_stepOne (d : Dev) (a bank hi lo x : Nat) : (d.setW1f a bank hi lo x).stepOne = d.stepOne := by simp [Dev.setW1f, Dev.stepOne]
@[simp] theorem Dev.setW1_stepOne (d : Dev) (a bank bit : Nat) : (d.setW1 a bank bit).stepOne = d.stepOne := by simp [Dev.setW1]
@[simp] theorem Dev.bumpW1_stepOne (d : Dev) (a bank hi lo : Nat) : (d.bumpW1 a bank hi lo).stepOne = d.stepOne := by simp [Dev.bumpW1]
@[simp] theorem Dev.count_stepOne (d : Dev) (blk sub i n : Nat) : (d.count blk sub i n).stepOne = d.stepOne := by simp [Dev.count, Dev.stepOne]
@[simp] theorem Dev.stamp_stepOne (d : Dev) (u : Nat) (after : Nat) : (d.stamp u after).2.stepOne = d.stepOne := by simp [Dev.stamp, Dev.stepOne]

@[simp] theorem Dev.randoms_stepOne (d : Dev) (n : Nat) : (d.randoms n).2.stepOne = d.stepOne := by
  induction n generalizing d with
  | zero => rfl
  | succ n ih => exact ih { d with draws := d.draws + 1 }

@[simp] theorem Dev.notice_stepOne (d : Dev) (k : NoticeKind) (result : W64) (s : Stamp) : (d.notice k result s).stepOne = d.stepOne := by
  simp [Dev.notice, Dev.stepOne]
@[simp] theorem Dev.fence_stepOne (d : Dev) (u : UnitId) : (d.fence u).stepOne = d.stepOne := by simp [Dev.fence, apply_ite Dev.stepOne]

/-! ### Operations of `Machine/Lists` -/

@[simp] theorem Dev.onMemAt_stepOne (d : Dev) (n : Nat) (f : Table Byte 0 → Table Byte 0) : (d.onMemAt n f).stepOne = d.stepOne := by
  unfold Dev.onMemAt
  split
  · exact d.onHost_stepOne _ f
  · rfl

@[simp] theorem Dev.undefine_stepOne (d : Dev) (m : Cmd) : (d.undefine m).stepOne = d.stepOne := by
  unfold Dev.undefine
  split
  · exact d.onMemAt_stepOne m.memNo _
  · rfl

/-! ### Operations of `Machine/Events` -/

@[simp] theorem Dev.logRoom_stepOne (d : Dev) : d.logRoom.stepOne = d.stepOne := by simp [Dev.logRoom, apply_ite Dev.stepOne]
@[simp] theorem Dev.log_stepOne (d : Dev) (r : Report) (snap : Bool) : (d.log r snap).2.2.stepOne = d.stepOne := by simp [Dev.log, apply_ite Dev.stepOne]
@[simp] theorem Dev.note_stepOne (d : Dev) (r : Report) : (d.note r).stepOne = d.stepOne := by simp [Dev.note]
@[simp] theorem Dev.c0_stepOne (d : Dev) (u : UnitId) (cat : Nat) (d0 : W64) (d1 : W64) : (d.c0 u cat d0 d1).stepOne = d.stepOne := by simp [Dev.c0]

@[simp] theorem Dev.regEvent_stepOne (d : Dev) (path : Path) (a : Nat) (v : W32) : (d.regEvent path a v).stepOne = d.stepOne := d.note_stepOne _

@[simp] theorem Dev.armSnap_stepOne (d0 : Dev) (source t : Nat) : (d0.armSnap source t).stepOne = d0.stepOne := by simp [Dev.armSnap, Dev.stepOne]

@[simp] theorem Fuses.burnBytes_loadDone (f : Fuses) (a : Nat) (bs : List Byte) : (f.burnBytes a bs).loadDone = f.loadDone := rfl

@[simp] theorem Dev.burnEvent_stepOne (d : Dev) (cause detail : Nat) : (d.burnEvent cause detail).stepOne = d.stepOne := by
  unfold Dev.burnEvent
  split <;> simp

@[simp] theorem Dev.loss_stepOne (d : Dev) (cause member seq : Nat) (ws : List Write) : (d.loss cause member seq ws).stepOne = d.stepOne := by
  unfold Dev.loss
  (repeat' split) <;> simp
@[simp] theorem Dev.latch_stepOne (d : Dev) (id : Nat) (k : Completion) : (d.latch id k).stepOne = d.stepOne := by simp [Dev.latch, Dev.stepOne]
@[simp] theorem Dev.failAll_stepOne (d : Dev) : d.failAll.stepOne = d.stepOne := by simp [Dev.failAll]
@[simp] theorem Dev.stopContexts_stepOne (d : Dev) : d.stopContexts.stepOne = d.stepOne := by simp [Dev.stopContexts, apply_ite Dev.stepOne]
@[simp] theorem Dev.stopLinks_stepOne (d : Dev) : d.stopLinks.stepOne = d.stepOne := by simp [Dev.stopLinks]

@[simp] theorem Dev.failDevice_stepOne (d : Dev) (seq : Nat) : (d.failDevice seq).stepOne = d.stepOne := by
  have stopped : ({ d with tc := d.tc.toSafe } : Dev).stepOne = d.stepOne := rfl
  unfold Dev.failDevice
  dsimp only
  split <;> simp [stopped]

@[simp] theorem Dev.raiseC5_stepOne (d : Dev) (r : Report) (cause detail : Nat) (mute : Bool) : (d.raiseC5 r cause detail mute).stepOne = d.stepOne := by
  simp [Dev.raiseC5, apply_ite Dev.stepOne]
@[simp] theorem Dev.enterPend_stepOne (d : Dev) (r : Report) (rclass : EClass) : (d.enterPend r rclass).2.stepOne = d.stepOne := by
  simp [Dev.enterPend, apply_ite Dev.stepOne]
@[simp] theorem Dev.raiseHigh_stepOne (d : Dev) (r : Report) : (d.raiseHigh r).stepOne = d.stepOne := by
  simp only [Dev.raiseHigh]
  (repeat' split) <;> simp
@[simp] theorem Dev.raise_stepOne (d : Dev) (r : Report) : (d.raise r).stepOne = d.stepOne := by
  unfold Dev.raise
  split <;> simp

/-! ### Operations of `Machine/Messages` -/

@[simp] theorem Dev.sendWay_stepOne (d : Dev) (k : MsgKind) (src dst : Nat) (s : Stamp) (way : Bool) (payload : List Byte) :
    (d.sendWay k src dst s way payload).stepOne = d.stepOne := by
  simp [Dev.sendWay]
@[simp] theorem Dev.send_stepOne (d : Dev) (k : MsgKind) (dst : Nat) (s : Stamp) (payload : List Byte) : (d.send k dst s payload).stepOne = d.stepOne := by
  simp [Dev.send, apply_ite Dev.stepOne]
@[simp] theorem Dev.broadcast_stepOne (d : Dev) (k : MsgKind) (s : Stamp) (payload : List Byte) : (d.broadcast k s payload).stepOne = d.stepOne := by
  simp [Dev.broadcast]
@[simp] theorem Dev.epochTo_stepOne (d : Dev) (v after : Nat) : (d.epochTo v after).2.stepOne = d.stepOne := by simp [Dev.epochTo]
@[simp] theorem Dev.epochAdvance_stepOne (d : Dev) (after : Nat) : (d.epochAdvance after).stepOne = d.stepOne := by
  simp [Dev.epochAdvance, apply_ite Dev.stepOne]

/-! ### Operations of `Machine/Pools` -/

/-- A freed buffer goes to a waiter by a stamp and changes of the pools: what these keep, it keeps. -/
theorem Dev.serveWaiter_keeps {β : Type} (v : Dev → β) (hs : ∀ e u a, v (Dev.stamp e u a).2 = v e) (hp : ∀ e f, v (Dev.onPools e f) = v e)
    (d : Dev) (p : Nat) : v (d.serveWaiter p) = v d := by
  have taken : ∀ e r sh, v (Dev.take e r p sh).2 = v e := fun e r sh => by
    unfold Dev.take
    split
    · rfl
    · rw [hp]
  unfold Dev.serveWaiter
  split
  · rfl
  next w _ =>
    have mine := taken ((d.stamp 7).2.onPools (fun b => { b with waiters := b.waiters.filter (fun x => decide (x.stamp ≠ w.stamp)) })) w.requester w.share
    rw [hp, hs] at mine
    split
    · dsimp only
      split
      next eq =>
        rw [eq] at mine
        split
        · exact mine
        · exact (hp _ _).trans mine
      next eq => rw [eq] at mine; exact mine
    · rfl

@[simp] theorem Dev.serveWaiter_stepOne (d : Dev) (p : Nat) : (d.serveWaiter p).stepOne = d.stepOne :=
  d.serveWaiter_keeps Dev.stepOne Dev.stamp_stepOne Dev.onPools_stepOne p

@[simp] theorem Dev.freeLent_stepOne (d : Dev) (k group : Nat) : (d.freeLent k group).stepOne = d.stepOne := by simp [Dev.freeLent]

@[simp] theorem MemInt.clean_initBusy (m : MemInt) (first n : Nat) : (m.clean first n).initBusy = m.initBusy := rfl

@[simp] theorem MemInt.clean_rows (m : MemInt) (first n : Nat) : (m.clean first n).rows = m.rows := rfl

@[simp] theorem Dev.freeBuf_stepOne (d : Dev) (k : Nat) (b : Buf) : (d.freeBuf k b).stepOne = d.stepOne := by
  unfold Dev.freeBuf
  dsimp only
  split <;> simp

@[simp] theorem Dev.giveBack_stepOne (d : Dev) (k : Nat) : (d.giveBack k).stepOne = d.stepOne := by
  unfold Dev.giveBack
  split <;> simp

@[simp] theorem Dev.dropWaits_stepOne (d : Dev) (p : BufUnit → List Nat → Bool) : (d.dropWaits p).stepOne = d.stepOne := by
  refine (Dev.each_stepOne _ _ _ fun e r => ?_).trans (d.onPools_stepOne _)
  exact e.giveBack_stepOne _

@[simp] theorem Dev.release_stepOne (d : Dev) (k : Nat) (h : Holder) (req : Nat) : (d.release k h req).2.stepOne = d.stepOne := by
  simp only [Dev.release]
  (repeat' split) <;> simp
@[simp] theorem Dev.letGo_stepOne (d : Dev) (k : Nat) (h : Holder) : (d.letGo k h).stepOne = d.stepOne := by simp [Dev.letGo, apply_ite Dev.stepOne]
@[simp] theorem Dev.restoreCarve_stepOne (d : Dev) : d.restoreCarve.stepOne = d.stepOne := by simp [Dev.restoreCarve]
@[simp] theorem Dev.installCarve_stepOne (d : Dev) : d.installCarve.stepOne = d.stepOne := by simp [Dev.installCarve]

/-! ### Operations of `Machine/Operands` -/

@[simp] theorem Dev.onEngine_stepOne (d : Dev) (e : Nat) (f : Engine → Engine) : (d.onEngine e f).stepOne = d.stepOne := by simp [Dev.onEngine, Dev.stepOne]
@[simp] theorem Dev.freeCtx_stepOne (d : Dev) (c : Nat) : (d.freeCtx c).stepOne = d.stepOne := by simp [Dev.freeCtx]
@[simp] theorem Dev.present_stepOne (d : Dev) (c : Nat) (w : W64) : (d.present c w).stepOne = d.stepOne := by simp [Dev.present]

/-! ### Operations of `Machine/Slots` -/

@[simp] theorem Dev.onSlot_stepOne (d : Dev) (s : Nat) (f : Slot → Slot) : (d.onSlot s f).stepOne = d.stepOne := by simp [Dev.onSlot]
@[simp] theorem Dev.erasesDone_stepOne (d : Dev) (s : Nat) : (d.erasesDone s).stepOne = d.stepOne := by simp [Dev.erasesDone, Dev.stepOne]
@[simp] theorem Dev.emptySlot_stepOne (d : Dev) (s : Nat) : (d.emptySlot s).stepOne = d.stepOne := by simp [Dev.emptySlot]
@[simp] theorem Dev.unpin_stepOne (d : Dev) (s : Nat) : (d.unpin s).stepOne = d.stepOne := by simp [Dev.unpin, apply_ite Dev.stepOne]
@[simp] theorem Dev.onWrite_stepOne (d : Dev) (id : Nat) (f : Write → Write) : (d.onWrite id f).stepOne = d.stepOne := by simp [Dev.onWrite]
@[simp] theorem Dev.reviewHolds_stepOne (d : Dev) : d.reviewHolds.stepOne = d.stepOne := by simp [Dev.reviewHolds, apply_ite Dev.stepOne]
@[simp] theorem Dev.reap_stepOne (d : Dev) : d.reap.stepOne = d.stepOne := by simp [Dev.reap, apply_ite Dev.stepOne]
@[simp] theorem Dev.freeBlock_stepOne (d : Dev) (b : Block) (u : BufUnit) : (d.freeBlock b u).stepOne = d.stepOne := by simp [Dev.freeBlock]
@[simp] theorem Dev.freeFrame_stepOne (d : Dev) (b : Block) : (d.freeFrame b).stepOne = d.stepOne := by simp [Dev.freeFrame]
@[simp] theorem Dev.dropBlocks_stepOne (d : Dev) (p : Block → Bool) : (d.dropBlocks p).stepOne = d.stepOne := by simp [Dev.dropBlocks]
@[simp] theorem Dev.cancelWrite_stepOne (d : Dev) (w : Write) : (d.cancelWrite w).stepOne = d.stepOne := by
  unfold Dev.cancelWrite
  (repeat' split) <;> simp
@[simp] theorem Dev.cancelIntents_stepOne (d : Dev) (c : Nat) : (d.cancelIntents c).stepOne = d.stepOne := by simp [Dev.cancelIntents]

@[simp] theorem Dev.dropFifos_stepOne (d : Dev) (c : Nat) : (d.dropFifos c).stepOne = d.stepOne := by
  unfold Dev.dropFifos
  rw [Dev.onCm_stepOne]
  refine Dev.each_stepOne _ _ _ fun e kf => ?_
  (repeat' split) <;> simp

@[simp] theorem Dev.dropDecoded_stepOne (d : Dev) : d.dropDecoded.stepOne = d.stepOne := by
  unfold Dev.dropDecoded
  split
  · rfl
  · rw [Dev.onVol_stepOne]
    refine Dev.each_stepOne _ _ _ fun e f => ?_
    split <;> simp

@[simp] theorem Dev.endReads_stepOne (d : Dev) (c : Nat) : (d.endReads c).stepOne = d.stepOne := by
  simp only [Dev.endReads, Dev.reap_stepOne, Dev.reviewHolds_stepOne, Dev.dropDecoded_stepOne]
  rw [Dev.each_stepOne, Dev.onIdx_stepOne, Dev.onSh_stepOne]
  intro e k
  split <;> simp

/-! ### Operations of `Machine/Contexts` -/

@[simp] theorem Dev.failRecord_stepOne (d : Dev) (c : Nat) (s : W16) (held : Bool) (d0 d1 : W64) (cat : Option Nat) (d2 : W32) :
    (d.failRecord c s held d0 d1 cat d2).stepOne = d.stepOne := by
  unfold Dev.failRecord
  (repeat' split) <;> simp
@[simp] theorem Dev.releaseHandle_stepOne (d : Dev) (c h : Nat) : (d.releaseHandle c h).stepOne = d.stepOne := by
  simp only [Dev.releaseHandle]
  (repeat' split) <;> simp
@[simp] theorem Dev.releaseHandles_stepOne (d : Dev) (c : Nat) : (d.releaseHandles c).stepOne = d.stepOne := by simp [Dev.releaseHandles]

@[simp] theorem Dev.unmount_stepOne (d : Dev) : d.unmount.stepOne = d.stepOne := by
  simp only [Dev.unmount, Dev.onVol_stepOne, Dev.onSh_stepOne, Dev.onCx_stepOne, Dev.onFm_stepOne]
  refine (Dev.each_stepOne _ _ _ fun e b => ?_).trans (Dev.each_stepOne _ _ _ fun e b => ?_)
  all_goals cases b <;> simp

@[simp] theorem Dev.dropFlight_stepOne (d : Dev) (c : Nat) : (d.dropFlight c).stepOne = d.stepOne := by
  unfold Dev.dropFlight
  (repeat' split) <;> simp
@[simp] theorem Dev.complete_stepOne (d : Dev) (c : Nat) (s : W16) (result : W64) (st : Stamp) : (d.complete c s result st).stepOne = d.stepOne := by
  simp only [Dev.complete]
  (repeat' split) <;> simp
@[simp] theorem Dev.endCmd_stepOne (d : Dev) (c : Nat) (s : W16) (result : W64) : (d.endCmd c s result).stepOne = d.stepOne := by simp [Dev.endCmd]
@[simp] theorem Dev.fault_stepOne (d : Dev) (c : Nat) (s : W16) (result : W64) : (d.fault c s result).stepOne = d.stepOne := by simp [Dev.fault]
@[simp] theorem Dev.ask_stepOne (d : Dev) (c a n : Nat) : (d.ask c a n).stepOne = d.stepOne := by
  unfold Dev.ask
  split <;> simp
@[simp] theorem Dev.memWriteAt_stepOne (d : Dev) (no : Nat) (remote : Option Nat) (rs : List (Nat × Nat)) (bs : List Byte) :
    (d.memWriteAt no remote rs bs).stepOne = d.stepOne := by
  unfold Dev.memWriteAt
  split <;> simp
@[simp] theorem Dev.readLine_stepOne (d : Dev) (c l : Nat) (ahead : Bool) : (d.readLine c l ahead).stepOne = d.stepOne := by simp [Dev.readLine]
@[simp] theorem Dev.prefetch_stepOne (d : Dev) (c l : Nat) : (d.prefetch c l).stepOne = d.stepOne := by simp [Dev.prefetch, apply_ite Dev.stepOne]
@[simp] theorem Dev.setWord_stepOne (d : Dev) (c : Nat) (w : W64) : (d.setWord c w).stepOne = d.stepOne := by simp [Dev.setWord, apply_ite Dev.stepOne]
@[simp] theorem Dev.fetch_stepOne (d : Dev) (c : Nat) : (d.fetch c).stepOne = d.stepOne := by
  simp only [Dev.fetch]
  (repeat' split) <;> simp
@[simp] theorem Dev.goTo_stepOne (d : Dev) (c : Nat) (target : W64) : (d.goTo c target).stepOne = d.stepOne := by simp [Dev.goTo, apply_ite Dev.stepOne]
@[simp] theorem Dev.next_stepOne (d : Dev) (c : Nat) : (d.next c).stepOne = d.stepOne := by simp [Dev.next]
@[simp] theorem Dev.finish_stepOne (d : Dev) (c : Nat) (s : W16) (out : Option W64) (d0 d1 : W64) (cs : Option Stamp) (cat : Option Nat) (d2 : W32) :
    (d.finish c s out d0 d1 cs cat d2).stepOne = d.stepOne := by
  simp only [Dev.finish]
  (repeat' split) <;> simp
@[simp] theorem Dev.failWith_stepOne (d : Dev) (c : Nat) (s : W16) (d0 d1 : W64) : (d.failWith c s d0 d1).stepOne = d.stepOne := by simp [Dev.failWith]

/-! ### Operations of `Machine/Output` -/

@[simp] theorem Dev.zeroAt_stepOne (d : Dev) (no : Nat) (remote : Option Nat) (rs : List (Nat × Nat)) :
    (d.zeroAt no remote rs).stepOne = d.stepOne := by
  unfold Dev.zeroAt
  split
  · rfl
  · split
    · rfl
    · exact d.memWriteAt_stepOne no remote rs _

@[simp] theorem Dev.zeroRanges_stepOne (d : Dev) (c : Nat) (rs : List (Nat × Nat)) : (d.zeroRanges c rs).stepOne = d.stepOne := by simp [Dev.zeroRanges]
@[simp] theorem Dev.zeroStored_stepOne (d : Dev) (m : Cmd) : (d.zeroStored m).stepOne = d.stepOne := by simp [Dev.zeroStored, apply_ite Dev.stepOne]
@[simp] theorem Dev.zeroData_stepOne (d : Dev) (c start len : Nat) : (d.zeroData c start len).stepOne = d.stepOne := by simp [Dev.zeroData]

/-! ### Operations of `Machine/Motion` -/

@[simp] theorem Dev.supersede_stepOne (d : Dev) : d.supersede.stepOne = d.stepOne := by
  unfold Dev.supersede
  split <;> simp
@[simp] theorem Dev.startProfile_stepOne (d : Dev) (kind step : Nat) (reverse toZero : Bool) (target : Int) (asker : Asker) :
    (d.startProfile kind step reverse toZero target asker).stepOne = d.stepOne := by
  simp [Dev.startProfile, apply_ite Dev.stepOne]
@[simp] theorem Dev.stopProfile_stepOne (d : Dev) (asker : Asker) : (d.stopProfile asker).stepOne = d.stepOne := by simp [Dev.stopProfile]
@[simp] theorem Dev.restTape_stepOne (d : Dev) : d.restTape.stepOne = d.stepOne := by simp [Dev.restTape, apply_ite Dev.stepOne]
@[simp] theorem Dev.dropMotion_stepOne (d : Dev) (c : Nat) : (d.dropMotion c).stepOne = d.stepOne := by simp [Dev.dropMotion, apply_ite Dev.stepOne]
@[simp] theorem Dev.zeroRead_stepOne (d : Dev) (c : Nat) : (d.zeroRead c).stepOne = d.stepOne := by
  unfold Dev.zeroRead
  (repeat' split) <;> simp
@[simp] theorem Dev.zeroOutput_stepOne (d : Dev) (c : Nat) : (d.zeroOutput c).stepOne = d.stepOne := by simp [Dev.zeroOutput]
@[simp] theorem Dev.failZero_stepOne (d : Dev) (c : Nat) (s : W16) (d0 d1 : W64) : (d.failZero c s d0 d1).stepOne = d.stepOne := by simp [Dev.failZero]
@[simp] theorem Dev.failOutput_stepOne (d : Dev) (c : Nat) (s : W16) (d0 d1 : W64) : (d.failOutput c s d0 d1).stepOne = d.stepOne := by simp [Dev.failOutput]
@[simp] theorem Dev.refuseRead_stepOne (d : Dev) (c : Nat) (s : W16) (d0 d1 : W64) (cat : Option Nat) (d2 : W32) :
    (d.refuseRead c s d0 d1 cat d2).stepOne = d.stepOne := by
  unfold Dev.refuseRead
  split <;> simp
@[simp] theorem Dev.failRead_stepOne (d : Dev) (c : Nat) (s : W16) (d0 d1 : W64) (cat : Option Nat) (d2 : W32) :
    (d.failRead c s d0 d1 cat d2).stepOne = d.stepOne := by
  simp [Dev.failRead]
@[simp] theorem Dev.cutCommand_stepOne (d : Dev) (m : Cmd) (status : W16) (s : Stamp) : (d.cutCommand m status s).stepOne = d.stepOne := by
  unfold Dev.cutCommand
  split <;> simp

/-! ### Operations of `Machine/IvLog` -/

@[simp] theorem Dev.onRec_stepOne (d : Dev) (id : Nat) (f : Rec → Rec) : (d.onRec id f).stepOne = d.stepOne := by simp [Dev.onRec]
@[simp] theorem Dev.ivlLose_stepOne (d : Dev) (r : Rec) : (d.ivlLose r).stepOne = d.stepOne := by simp [Dev.ivlLose]
@[simp] theorem Dev.ivlWrite_stepOne (d : Dev) (r : Rec) : (d.ivlWrite r).stepOne = d.stepOne := by simp [Dev.ivlWrite, apply_ite Dev.stepOne]
@[simp] theorem Dev.logged_stepOne (d : Dev) (r : Rec) : (d.logged r).stepOne = d.stepOne := by simp [Dev.logged]

@[simp] theorem Dev.logIvs_stepOne (d : Dev) (n : Nat) : (d.logIvs n).stepOne = d.stepOne := by
  induction n generalizing d with
  | zero => rfl
  | succ n ih => unfold Dev.logIvs; (repeat' split) <;> simp [ih]

@[simp] theorem Dev.logDue_stepOne (d : Dev) : d.logDue.stepOne = d.stepOne := by simp [Dev.logDue]

/-! ### Operations of `Machine/Queues` -/

@[simp] theorem Dev.settle_stepOne (d : Dev) (q : Nat) : (d.settle q).stepOne = d.stepOne := by simp [Dev.settle, apply_ite Dev.stepOne]
@[simp] theorem Dev.onVec_stepOne (d : Dev) (p : PortId) (v : Nat) (f : Vec → Vec) : (d.onVec p v f).stepOne = d.stepOne := by simp [Dev.onVec]
@[simp] theorem Dev.fire_stepOne (d : Dev) (p : PortId) (v : Nat) : (d.fire p v).stepOne = d.stepOne := by simp [Dev.fire]
@[simp] theorem Dev.signal_stepOne (d : Dev) (p : PortId) (q : Nat) (noIntr urgent : Bool) : (d.signal p q noIntr urgent).stepOne = d.stepOne := by
  simp [Dev.signal, apply_ite Dev.stepOne]
@[simp] theorem Dev.writeCqe_stepOne (d : Dev) (p : PortId) (qid : Nat) (cid : W16) (sqid : Nat) (status : W16) (info : Byte) (result : W64) (s : Stamp) :
    (d.writeCqe p qid cid sqid status info result s).stepOne = d.stepOne := by
  simp [Dev.writeCqe]
@[simp] theorem Dev.writeNotice_stepOne (d : Dev) (p : PortId) (n : Notice) : (d.writeNotice p n).stepOne = d.stepOne := by simp [Dev.writeNotice]
@[simp] theorem Dev.postHeld_stepOne (d : Dev) (p : PortId) : (d.postHeld p).stepOne = d.stepOne := by simp [Dev.postHeld, apply_ite Dev.stepOne]
@[simp] theorem Dev.forget_stepOne (d : Dev) (id : Nat) : (d.forget id).stepOne = d.stepOne := by simp [Dev.forget, Dev.stepOne]
@[simp] theorem Dev.refuseDoorbell_stepOne (d : Dev) (p : PortId) (cq : Bool) (qid idx : Nat) : (d.refuseDoorbell p cq qid idx).stepOne = d.stepOne := by
  simp [Dev.refuseDoorbell, apply_ite Dev.stepOne]
@[simp] theorem Dev.doorbell_stepOne (d : Dev) (p : PortId) (cq : Bool) (qid : Nat) (v : W32) : (d.doorbell p cq qid v).stepOne = d.stepOne := by
  simp [Dev.doorbell, apply_ite Dev.stepOne]
@[simp] theorem Dev.queueOp_stepOne (d : Dev) (p : PortId) (qid op : Nat) : (d.queueOp p qid op).stepOne = d.stepOne := by
  simp [Dev.queueOp, apply_ite Dev.stepOne]

/-! ### Operations of `Machine/Cipher` -/

@[simp] theorem Dev.feedPipes_stepOne (d : Dev) (n : Nat) : (d.feedPipes n).stepOne = d.stepOne := by
  induction n generalizing d with
  | zero => rfl
  | succ n ih => unfold Dev.feedPipes; split <;> simp [ih]

@[simp] theorem Dev.writeIvlCtl_stepOne (d : Dev) (path : Path) (v : W32) : (d.writeIvlCtl path v).stepOne = d.stepOne := by
  simp [Dev.writeIvlCtl, apply_ite Dev.stepOne]

/-! ### Operations of `Machine/Burns` -/

@[simp] theorem Dev.burnResult_stepOne (d : Dev) (r : Nat) : (d.burnResult r).stepOne = d.stepOne := by simp [Dev.burnResult]
@[simp] theorem Dev.repairResult_stepOne (d : Dev) (r : Nat) : (d.repairResult r).stepOne = d.stepOne := by simp [Dev.repairResult]

/-! ### Operations of `Machine/Keys` -/

@[simp] theorem Dev.revokeCmd_stepOne (d : Dev) (c n : Nat) : (d.revokeCmd c n).stepOne = d.stepOne := by
  unfold Dev.revokeCmd
  split <;> simp
@[simp] theorem Dev.withdraw_stepOne (d : Dev) (w : Write) : (d.withdraw w).stepOne = d.stepOne := by simp [Dev.withdraw]
@[simp] theorem Dev.discardUnsealed_stepOne (d : Dev) (n : Nat) : (d.discardUnsealed n).stepOne = d.stepOne := by simp [Dev.discardUnsealed]
@[simp] theorem Dev.revoke_stepOne (d : Dev) (n : Nat) : (d.revoke n).2.stepOne = d.stepOne := by simp [Dev.revoke]

/-! ### Operations of `Machine/Housekeeping` -/

@[simp] theorem Dev.hkNotice_stepOne (d : Dev) (k : NoticeKind) (v : Nat) : (d.hkNotice k v).stepOne = d.stepOne := by simp [Dev.hkNotice]
@[simp] theorem Dev.hkPacing_stepOne (d : Dev) : d.hkPacing.stepOne = d.stepOne := by simp [Dev.hkPacing, apply_ite Dev.stepOne]

/-! ### Operations of `Machine/LinkOps` -/

@[simp] theorem Dev.orderAll_stepOne (d : Dev) (c : LinkCmd) : (d.orderAll c).stepOne = d.stepOne := by simp [Dev.orderAll]
@[simp] theorem Dev.onLinks_stepOne (d : Dev) (f : Nat → Link → Link) : (d.onLinks f).stepOne = d.stepOne := by simp [Dev.onLinks, apply_ite Dev.stepOne]

@[simp] theorem Dev.endTx_stepOne (d : Dev) : d.endTx.stepOne = d.stepOne :=
  ({ d with draws := d.draws + 4200 * 128 } : Dev).onLinks_stepOne _

/-! ### Operations of `Machine/Sheaf` -/

@[simp] theorem Dev.dropColophon_stepOne (d : Dev) (folio : Nat) : (d.dropColophon folio).stepOne = d.stepOne := by
  simp only [Dev.dropColophon, Dev.onSh_stepOne, Dev.onFm_stepOne]
  refine Dev.each_stepOne _ _ _ fun e f => ?_
  split <;> simp

@[simp] theorem Dev.forgetColophon_stepOne (d : Dev) : d.forgetColophon.stepOne = d.stepOne := by
  unfold Dev.forgetColophon
  split <;> simp
@[simp] theorem Dev.stopTape_stepOne (d : Dev) (r : RunSt) : (d.stopTape r).stepOne = d.stepOne := by simp [Dev.stopTape]
@[simp] theorem Dev.volStamp_stepOne (d : Dev) (c : Option Nat) : (d.volStamp c).2.stepOne = d.stepOne := by simp [Dev.volStamp]
@[simp] theorem Dev.onCart_stepOne (d : Dev) (f : Cart → Cart) : (d.onCart f).stepOne = d.stepOne := by simp [Dev.onCart]
@[simp] theorem Dev.openFailed_stepOne (d : Dev) (c : Nat) (s : W16) (d0 : W64) (d1 : W64) (cat : Option Nat) :
    (d.openFailed c s d0 d1 cat).stepOne = d.stepOne := by
  simp [Dev.openFailed, apply_ite Dev.stepOne]
@[simp] theorem Dev.drainLost_stepOne (d : Dev) : d.drainLost.stepOne = d.stepOne := by simp [Dev.drainLost]
@[simp] theorem Dev.failTape_stepOne (d : Dev) (s : W16) (d0 d1 : W64) : (d.failTape s d0 d1).stepOne = d.stepOne := by
  simp [Dev.failTape, apply_ite Dev.stepOne]
@[simp] theorem Dev.onForme_stepOne (d : Dev) (folio : Nat) (f : Forme → Forme) : (d.onForme folio f).stepOne = d.stepOne := by simp [Dev.onForme]
@[simp] theorem Dev.rejectOpen_stepOne (d : Dev) : d.rejectOpen.stepOne = d.stepOne := by simp [Dev.rejectOpen]
@[simp] theorem Dev.cutRing_stepOne (d : Dev) : d.cutRing.stepOne = d.stepOne := by simp [Dev.cutRing]
@[simp] theorem Dev.interruptRun_stepOne (d : Dev) (next : RunSt) : (d.interruptRun next).stepOne = d.stepOne := by
  simp [Dev.interruptRun, apply_ite Dev.stepOne]
@[simp] theorem Dev.faultRun_stepOne (d : Dev) : d.faultRun.stepOne = d.stepOne := by simp [Dev.faultRun, apply_ite Dev.stepOne]
@[simp] theorem Dev.haltWriting_stepOne (d : Dev) (folio : Option Nat) : (d.haltWriting folio).stepOne = d.stepOne := by simp [Dev.haltWriting]
@[simp] theorem Dev.beginStop_stepOne (d : Dev) : d.beginStop.stepOne = d.stepOne := by simp [Dev.beginStop, apply_ite Dev.stepOne]
@[simp] theorem Dev.turnTracks_stepOne (d : Dev) : d.turnTracks.stepOne = d.stepOne := by simp [Dev.turnTracks, apply_ite Dev.stepOne]
@[simp] theorem Dev.nextSheaf_stepOne (d : Dev) : d.nextSheaf.stepOne = d.stepOne := by simp [Dev.nextSheaf]
@[simp] theorem Dev.turnSheaf_stepOne (d : Dev) : d.turnSheaf.stepOne = d.stepOne := by simp [Dev.turnSheaf, apply_ite Dev.stepOne]
@[simp] theorem Dev.resumeTurn_stepOne (d : Dev) : d.resumeTurn.stepOne = d.stepOne := by simp [Dev.resumeTurn, apply_ite Dev.stepOne]
@[simp] theorem Dev.resumeWriting_stepOne (d : Dev) : d.resumeWriting.stepOne = d.stepOne := by simp [Dev.resumeWriting, apply_ite Dev.stepOne]

/-! ### Operations of `Machine/Sweeps` -/

@[simp] theorem Dev.failReads_stepOne (d : Dev) (cs : List Nat) : (d.failReads cs).stepOne = d.stepOne := by simp [Dev.failReads]
@[simp] theorem Dev.endTurn_stepOne (d : Dev) : d.endTurn.stepOne = d.stepOne := by simp [Dev.endTurn, apply_ite Dev.stepOne]

/-! ### Operations of `Machine/Links` -/

@[simp] theorem Dev.linkTo_stepOne (d : Dev) (t : Nat) (f : Link → Link) : (d.linkTo t f).stepOne = d.stepOne := by simp [Dev.linkTo]
@[simp] theorem Dev.linkShort_stepOne (d : Dev) : d.linkShort.stepOne = d.stepOne := by simp [Dev.linkShort, apply_ite Dev.stepOne]
@[simp] theorem Dev.linkGone_stepOne (d : Dev) : d.linkGone.stepOne = d.stepOne := by simp [Dev.linkGone]
@[simp] theorem Dev.applyEnables_stepOne (d : Dev) (en : Nat) : (d.applyEnables en).stepOne = d.stepOne := by simp [Dev.applyEnables, apply_ite Dev.stepOne]
@[simp] theorem Dev.retryLink_stepOne (d : Dev) (t : Nat) : (d.retryLink t).stepOne = d.stepOne := by simp [Dev.retryLink, apply_ite Dev.stepOne]
@[simp] theorem Dev.sendChset_stepOne (d : Dev) (t : Nat) (old new : W32) : (d.sendChset t old new).stepOne = d.stepOne := by simp [Dev.sendChset]

/-! ### Operations of `Machine/Servo` -/

@[simp] theorem Dev.onServo_stepOne (d : Dev) (s : Nat) (f : Servo → Servo) : (d.onServo s f).stepOne = d.stepOne := by simp [Dev.onServo]

/-! ### Operations of `Machine/Objects` -/

@[simp] theorem Dev.startRebuild_stepOne (d : Dev) (cause : Nat) : (d.startRebuild cause).stepOne = d.stepOne := by simp [Dev.startRebuild]

/-! ### Operations of `Machine/Volumes` -/

@[simp] theorem Dev.flightFailed_stepOne (d : Dev) (c : Nat) (f : Flight) (s : W16) : (d.flightFailed c f s).stepOne = d.stepOne := by
  unfold Dev.flightFailed
  split <;> simp

/-! ### Operations of `Machine/Transport` -/

@[simp] theorem Dev.motionEnds_stepOne (d : Dev) : d.motionEnds.stepOne = d.stepOne := by
  unfold Dev.motionEnds
  rw [apply_ite Dev.stepOne]
  simp only [Dev.endTurn_stepOne, Dev.onSh_stepOne, Dev.failReads_stepOne, Dev.faultRun_stepOne, ite_self]
  refine Dev.each_stepOne _ _ _ fun e c => ?_
  split <;> simp

@[simp] theorem Dev.beginStopping_stepOne (d : Dev) (quick : Bool) : (d.beginStopping quick).stepOne = d.stepOne := by simp [Dev.beginStopping]
@[simp] theorem Dev.goSafe_stepOne (d : Dev) : d.goSafe.stepOne = d.stepOne := by simp [Dev.goSafe]
@[simp] theorem Dev.react_stepOne (d : Dev) (r : React) (slots : List Nat) : (d.react r slots).stepOne = d.stepOne := by
  unfold Dev.react
  (repeat' split) <;> simp
@[simp] theorem Dev.arm_stepOne (d : Dev) (path : Path) (value : W32) : (d.arm path value).stepOne = d.stepOne := by simp [Dev.arm, apply_ite Dev.stepOne]
@[simp] theorem Dev.clearFaults_stepOne (d : Dev) (value : W32) : (d.clearFaults value).stepOne = d.stepOne := by simp [Dev.clearFaults, Dev.stepOne]
@[simp] theorem Dev.commitSlot_stepOne (d : Dev) (s : Nat) : (d.commitSlot s).stepOne = d.stepOne := by simp [Dev.commitSlot]

/-! ### Operations of `Machine/Patches` -/

@[simp] theorem Dev.patchEvent_stepOne (d : Dev) (result : Nat) : (d.patchEvent result).stepOne = d.stepOne := by simp [Dev.patchEvent]
@[simp] theorem Dev.setPatchResult_stepOne (d : Dev) (r : Nat) : (d.setPatchResult r).stepOne = d.stepOne := by simp [Dev.setPatchResult]
@[simp] theorem Dev.quiesceFor_stepOne (d : Dev) : d.quiesceFor.stepOne = d.stepOne := by simp [Dev.quiesceFor]
@[simp] theorem Dev.endLoad_stepOne (d : Dev) (r : Nat) : (d.endLoad r).stepOne = d.stepOne := by simp [Dev.endLoad]
@[simp] theorem Dev.loadImage_stepOne (d : Dev) (bs : List Byte) : (d.loadImage bs).stepOne = d.stepOne := by simp [Dev.loadImage, apply_ite Dev.stepOne]
@[simp] theorem Dev.patchStart_stepOne (d : Dev) (path : Path) (v : W32) (mem : HostWrites) (ok : Bool) :
    (d.patchStart path v mem ok).stepOne = d.stepOne := by
  simp [Dev.patchStart, apply_ite Dev.stepOne]
@[simp] theorem Dev.patchCancel_stepOne (d : Dev) : d.patchCancel.stepOne = d.stepOne := by simp [Dev.patchCancel, apply_ite Dev.stepOne]

/-! ### Operations of `Machine/Recovery` -/

@[simp] theorem Dev.restartWrite_stepOne (d : Dev) (c id : Nat) : (d.restartWrite c id).stepOne = d.stepOne := by
  unfold Dev.restartWrite
  split <;> simp
@[simp] theorem Dev.releaseRecord_stepOne (d : Dev) (path : Path) (seq : W32) : (d.releaseRecord path seq).stepOne = d.stepOne := by
  simp [Dev.releaseRecord, apply_ite Dev.stepOne]
@[simp] theorem Dev.releaseLoss_stepOne (d : Dev) (path : Path) (v : W32) : (d.releaseLoss path v).stepOne = d.stepOne := by
  simp [Dev.releaseLoss, apply_ite Dev.stepOne]

/-! ### Operations of `Machine/Cascade` -/

@[simp] theorem Dev.discovered_stepOne (d : Dev) (st : CasState) : (d.discovered st).stepOne = d.stepOne := by simp [Dev.discovered]
@[simp] theorem Dev.standAlone_stepOne (d : Dev) : d.standAlone.stepOne = d.stepOne := by simp [Dev.standAlone]
@[simp] theorem Dev.startDiscovery_stepOne (d : Dev) : d.startDiscovery.stepOne = d.stepOne := by simp [Dev.startDiscovery]
@[simp] theorem Dev.loseForwarded_stepOne (d : Dev) (c : Cmd) (m : Nat) : (d.loseForwarded c m).stepOne = d.stepOne := by
  simp [Dev.loseForwarded, apply_ite Dev.stepOne]
@[simp] theorem Dev.loseForeign_stepOne (d : Dev) (c : Cmd) : (d.loseForeign c).stepOne = d.stepOne := by simp [Dev.loseForeign, apply_ite Dev.stepOne]
@[simp] theorem Dev.loseWrite_stepOne (d : Dev) (w : Write) : (d.loseWrite w).stepOne = d.stepOne := by simp [Dev.loseWrite, apply_ite Dev.stepOne]

@[simp] theorem Dev.loseLent_stepOne (d : Dev) (m seq : Nat) : (d.loseLent m seq).stepOne = d.stepOne := by
  simp only [Dev.loseLent, Dev.reap_stepOne, Dev.reviewHolds_stepOne]
  rw [Dev.each_stepOne]
  · simp
  · intro e w
    split <;> simp

@[simp] theorem Dev.haltSet_stepOne (d : Dev) (m : Nat) : (d.haltSet m).stepOne = d.stepOne := by simp [Dev.haltSet, apply_ite Dev.stepOne]
@[simp] theorem Dev.memberGone_stepOne (d : Dev) (m : Nat) : (d.memberGone m).stepOne = d.stepOne := by simp [Dev.memberGone]
@[simp] theorem Dev.dissolve_stepOne (d : Dev) : d.dissolve.stepOne = d.stepOne := by simp [Dev.dissolve]
@[simp] theorem Dev.joinAgain_stepOne (d : Dev) : d.joinAgain.stepOne = d.stepOne := by simp [Dev.joinAgain, apply_ite Dev.stepOne]
@[simp] theorem Dev.leaveRing_stepOne (d : Dev) : d.leaveRing.stepOne = d.stepOne := by simp [Dev.leaveRing, apply_ite Dev.stepOne]

/-! ### Operations of `Machine/Fuses` -/

@[simp] theorem Dev.settingBurn_stepOne (d : Dev) (path : Path) (v : W32) : (d.settingBurn path v).stepOne = d.stepOne := by
  unfold Dev.settingBurn
  (repeat' split) <;> simp
@[simp] theorem Dev.controlBurn_stepOne (d : Dev) (path : Path) (v : W32) : (d.controlBurn path v).stepOne = d.stepOne := by
  simp [Dev.controlBurn, apply_ite Dev.stepOne]
@[simp] theorem Dev.repairBurn_stepOne (d : Dev) (path : Path) (v : W32) : (d.repairBurn path v).stepOne = d.stepOne := by
  simp [Dev.repairBurn, apply_ite Dev.stepOne]
@[simp] theorem Dev.debugAsk_stepOne (d : Dev) (level : Nat) : (d.debugAsk level).stepOne = d.stepOne := by simp [Dev.debugAsk, apply_ite Dev.stepOne]
@[simp] theorem Dev.closeKeys_stepOne (d : Dev) : d.closeKeys.stepOne = d.stepOne := by simp [Dev.closeKeys]
@[simp] theorem Dev.debugCheck_stepOne (d : Dev) : d.debugCheck.stepOne = d.stepOne := by simp [Dev.debugCheck, apply_ite Dev.stepOne]
@[simp] theorem Dev.debugClear_stepOne (d : Dev) : d.debugClear.stepOne = d.stepOne := by simp [Dev.debugClear]

/-! ### Operations of `Machine/Snapshots` -/

@[simp] theorem Dev.freeSnap_stepOne (d : Dev) : d.freeSnap.stepOne = d.stepOne := by simp [Dev.freeSnap, Dev.stepOne]
@[simp] theorem Dev.releaseSnap_stepOne (d : Dev) : d.releaseSnap.stepOne = d.stepOne := by simp [Dev.releaseSnap, apply_ite Dev.stepOne]

/-! ### Operations of `Machine/Registers` -/

@[simp] theorem Dev.clearBits_stepOne (d : Dev) (a bank : Nat) (m : W32) : (d.clearBits a bank m).stepOne = d.stepOne := by
  unfold Dev.clearBits
  split
  · rfl
  split
  · exact d.clearFaults_stepOne m
  split
  · exact d.onLink_stepOne bank _
  · dsimp only
    split <;> rfl

@[simp] theorem Dev.applyCarve_stepOne (d : Dev) (path : Path) (v : W32) : (d.applyCarve path v).stepOne = d.stepOne := by
  simp [Dev.applyCarve, apply_ite Dev.stepOne]
@[simp] theorem Dev.rebuildIndex_stepOne (d : Dev) (path : Path) (v : W32) : (d.rebuildIndex path v).stepOne = d.stepOne := by
  simp [Dev.rebuildIndex, apply_ite Dev.stepOne]
@[simp] theorem Dev.retryLinks_stepOne (d : Dev) (v : W32) : (d.retryLinks v).stepOne = d.stepOne := by simp [Dev.retryLinks, apply_ite Dev.stepOne]
@[simp] theorem Dev.clearLog_stepOne (d : Dev) (v : W32) : (d.clearLog v).stepOne = d.stepOne := by simp [Dev.clearLog]
@[simp] theorem Dev.burnTarget_stepOne (d : Dev) (path : Path) (v : W32) : (d.burnTarget path v).stepOne = d.stepOne := by
  simp [Dev.burnTarget, apply_ite Dev.stepOne]
@[simp] theorem Dev.debugWrite_stepOne (d : Dev) (v : W32) : (d.debugWrite v).stepOne = d.stepOne := by simp [Dev.debugWrite, apply_ite Dev.stepOne]
@[simp] theorem Dev.modeAsk_stepOne (d : Dev) : d.modeAsk.stepOne = d.stepOne := by simp [Dev.modeAsk]
@[simp] theorem Dev.shadowWritten_stepOne (d : Dev) (r a : Nat) : (d.shadowWritten r a).stepOne = d.stepOne := by
  simp [Dev.shadowWritten, apply_ite Dev.stepOne]
@[simp] theorem Dev.lateOp_stepOne (d : Dev) (h : HeldWrite) : (d.lateOp h).stepOne = d.stepOne := by simp [Dev.lateOp, apply_ite Dev.stepOne]
@[simp] theorem Dev.startOp_stepOne (d : Dev) (path : Path) (a : Nat) (v : W32) : (d.startOp path a v).stepOne = d.stepOne := by
  simp [Dev.startOp, apply_ite Dev.stepOne]
@[simp] theorem Dev.regHook_stepOne (d : Dev) (path : Path) (r a bank : Nat) (old new v : W32) :
    (d.regHook path r a bank old new v).stepOne = d.stepOne := by
  simp [Dev.regHook, apply_ite Dev.stepOne]
@[simp] theorem Dev.writeKnown_stepOne (d : Dev) (path : Path) (r : RegDesc) (a : Nat) (v : W32) : (d.writeKnown path r a v).stepOne = d.stepOne := by
  simp [Dev.writeKnown, apply_ite Dev.stepOne]
@[simp] theorem Dev.writeReg_stepOne (d : Dev) (path : Path) (a : Nat) (v : W32) : (d.writeReg path a v).stepOne = d.stepOne := by
  unfold Dev.writeReg
  (repeat' split) <;> simp

/-! ### Operations of `Machine/Startup` -/

@[simp] theorem Dev.applyEntries_stepOne (d : Dev) (path : Path) (es : List (Nat × W32)) : (d.applyEntries path es).stepOne = d.stepOne := by
  simp [Dev.applyEntries, apply_ite Dev.stepOne]

end Sys2Proof.Machine
end

section
/-! Resets, the steps of start-up, and how registers are read and written (R5, R9, R99, R387 to R395). -/

namespace Sys2Proof.Machine

/-- A command that acts while its guard holds answers what its effect makes of the device. -/
theorem Does.of_whenDev {i : Instr} {s : State} {g : Dev → Bool} {f : Dev → Dev} {P : Dev → Prop} (he : exec i s = s.whenDev g f)
    (hg : g s.dev = true) (h : P (f s.dev)) : Does i s P :=
  ⟨f s.dev, he.trans (State.whenDev_of f hg), h⟩

/-! ### Records of class C0 -/

/-- The last record of the error log is a C0 event that meets a condition. -/
def Dev.lastC0 (d : Dev) (q : ErrRec → Prop) : Prop := ∃ r, d.er.log.getLast? = some r ∧ r.cls = .c0 ∧ q r

theorem Dev.note_lastC0 (d : Dev) (r : Report) (q : ErrRec → Prop) (hr : r.cls = .c0) (h : ∀ e : Dev, ∀ s, q (e.recordOf r s false false)) :
    (d.note r).lastC0 q := by
  have low : decide (3 ≤ classNo r.cls) = false := by rw [hr]; rfl
  refine ⟨Dev.recordOf (d.stamp r.unit.origin r.after).2.logRoom r (d.stamp r.unit.origin r.after).1 false false, ?_, hr, h _ _⟩
  simp [Dev.note, Dev.log, low]

theorem Dev.c0_lastC0 (d : Dev) (u : UnitId) (cat : Nat) (x y : W64) : (d.c0 u cat x y).lastC0 (fun r => r.origin = u.origin) :=
  d.note_lastC0 _ _ rfl fun _ _ => rfl

theorem Dev.regEvent_lastC0 (d : Dev) (p : Path) (a : Nat) (v : W32) : (d.regEvent p a v).lastC0 (fun r => r.category = 2) :=
  d.note_lastC0 _ _ rfl fun _ _ => rfl

/-! ### The burned cells -/

/-- Every cell burned in one table of fuse bytes is burned in another. -/
def Burned (m n : Table Byte 0) : Prop := ∀ a, n.get a &&& m.get a = m.get a

theorem Burned.refl (m : Table Byte 0) : Burned m m := fun a => by simp

theorem Burned.trans {l m n : Table Byte 0} (h1 : Burned l m) (h2 : Burned m n) : Burned l n := fun a => by
  rw [← h1 a, ← BitVec.and_assoc, h2 a]

theorem readBytes_getElem (m : Table Byte 0) (a n i : Nat) (h : i < (readBytes m a n).length) : (readBytes m a n)[i] = m.get (a + i) := by
  induction n generalizing a i with
  | zero => simp [readBytes] at h
  | succ n ih =>
    cases i with
    | zero => simp [readBytes]
    | succ i =>
      have := ih (a + 1) i (by simpa [readBytes] using h)
      simpa [readBytes, Nat.add_assoc, Nat.add_comm 1 i] using this

/-- Bytes written over with more of their bits set leave every burned cell burned. -/
theorem burned_writeBytes_or (m : Table Byte 0) (a : Nat) (bs : List Byte) :
    Burned m (writeBytes m a ((readBytes m a bs.length).zipWith (fun x y => x ||| y) bs)) := by
  intro k
  let l := (readBytes m a bs.length).zipWith (fun x y => x ||| y) bs
  by_cases hk : k < a ∨ a + l.length ≤ k
  · rw [writeBytes_get_out _ _ _ _ hk, BitVec.and_self]
  · obtain ⟨i, rfl⟩ : ∃ i, k = a + i := ⟨k - a, by omega⟩
    have hi : i < l.length := by omega
    rw [writeBytes_get_in _ _ _ _ hi, List.getElem_zipWith, readBytes_getElem]
    exact BitVec.eq_of_getLsbD_eq fun j _ => by
      rw [BitVec.getLsbD_and, BitVec.getLsbD_or, Bool.and_comm]
      exact inf_sup_self

theorem Fuses.burnBytes_burned (f : Fuses) (a : Nat) (bs : List Byte) : Burned f.cells (f.burnBytes a bs).cells := burned_writeBytes_or f.cells a bs

theorem Fuses.foldl_burnBytes_burned (f : Fuses) (g : Nat × List Byte → List Byte) (l : List (Nat × List Byte)) :
    Burned f.cells (l.foldl (fun (f : Fuses) x => f.burnBytes x.1 (g x)) f).cells := by
  induction l generalizing f with
  | nil => exact Burned.refl _
  | cons x t ih => exact (f.burnBytes_burned x.1 (g x)).trans (ih _)

theorem Fuses.foldl_burnBytes_failures (f : Fuses) (g : Nat × List Byte → List Byte) (l : List (Nat × List Byte)) :
    (l.foldl (fun (f : Fuses) x => f.burnBytes x.1 (g x)) f).failures = f.failures := by
  induction l generalizing f with
  | nil => rfl
  | cons x t ih => exact ih _

theorem Dev.burnPart_burned (d : Dev) (b : Burn) : Burned d.fu.cells (d.burnPart b).fu.cells := by
  simp only [Dev.burnPart, Dev.onFu_fu]
  cases b with
  | setting g bs => exact d.fu.burnBytes_burned _ _
  | control b => exact d.fu.burnBytes_burned _ _
  | repair rows lanes => exact d.fu.foldl_burnBytes_burned (fun x => clearValid (d.partBytes x.2)) _

/-- A burn that is abandoned takes no burned cell back. -/
theorem Dev.abandonBurn_burned (d : Dev) : Burned d.fu.cells d.abandonBurn.fu.cells := by
  unfold Dev.abandonBurn
  split
  · exact Burned.refl _
  · dsimp only
    split <;> simp only [Dev.repairResult, Dev.burnResult, Dev.setW1f_fu, Dev.onFu_fu, Dev.burnPart_burned]

theorem Dev.burnPart_failures (d : Dev) (b : Burn) : (d.burnPart b).fu.failures = d.fu.failures := by
  simp only [Dev.burnPart, Dev.onFu_fu]
  cases b with
  | setting g bs => rfl
  | control b => rfl
  | repair rows lanes => exact Fuses.foldl_burnBytes_failures d.fu (fun x => clearValid (d.partBytes x.2)) _

theorem Dev.abandonBurn_failures (d : Dev) : d.abandonBurn.fu.failures = d.fu.failures := by
  unfold Dev.abandonBurn
  split
  · rfl
  · dsimp only
    split <;> simp only [Dev.repairResult, Dev.burnResult, Dev.setW1f_fu, Dev.onFu_fu, Dev.burnPart_failures]

theorem Dev.abandonBurn_sn (d : Dev) : d.abandonBurn.sn = d.sn := by
  unfold Dev.abandonBurn
  split
  · rfl
  · dsimp only
    split <;> simp only [Dev.repairResult, Dev.burnResult, Dev.setW1f_sn, Dev.onFu_sn, Dev.burnPart]

/-! ### Resets (R387, R406) -/

theorem Dev.closeSnap_fu (d : Dev) : d.closeSnap.fu = d.fu := by
  simp [Dev.closeSnap, Dev.freeSnap, apply_ite Dev.fu]

theorem Dev.snapOverReset_fu (d : Dev) : d.snapOverReset.fu = d.fu := by
  have latched := d.each_keeps Dev.fu d.sn.unlatched (fun e n => e.latchDomain n (e.sn.target + 16) true) fun _ _ => rfl
  simp [Dev.snapOverReset, apply_ite Dev.fu, Dev.closeSnap_fu, latched]

theorem Dev.snapOverReset_sn {d : Dev} (held : d.sn.held = true) (whole : d.sn.armed = false) : d.snapOverReset.sn = { d.sn with prior := true } := by
  simp [Dev.snapOverReset, held, whole]

/-- WARM_RESET_N drops the commands and the epoch, and keeps the snapshot, the debug failures and the burned cells. -/
theorem warmResetAssert_drops {s : State} (hp : s.dev.boot.pwrLow = false) (hw : s.dev.boot.warmLow = false) :
    Does .warmResetAssert s (fun d => d.boot.warmLow = true ∧ d.cmds = [] ∧ d.er.epoch = 0 ∧ d.boot.ready = false ∧
      d.fu.failures = s.dev.fu.failures ∧ Burned s.dev.fu.cells d.fu.cells ∧
      (s.dev.sn.held = true → s.dev.sn.armed = false → d.sn = { s.dev.sn with prior := true })) := by
  refine Does.of_whenDev (g := fun d => !d.boot.warmLow) rfl (by simp [hw]) ?_
  rw [if_neg (by simp [hp])]
  refine ⟨rfl, rfl, rfl, rfl, ?_, ?_, fun held whole => ?_⟩
  · exact (congrArg Fuses.failures (Dev.snapOverReset_fu _)).trans s.dev.abandonBurn_failures
  · exact (congrArg (fun f : Fuses => Burned s.dev.fu.cells f.cells) (Dev.snapOverReset_fu _)).mpr s.dev.abandonBurn_burned
  · have kept := s.dev.abandonBurn_sn
    rw [← kept] at held whole ⊢
    exact Dev.snapOverReset_sn held whole

/-- A device epoch starts at the count 0 once neither reset is asserted. -/
theorem Dev.startEpoch_clk {d : Dev} (hp : d.boot.pwrLow = false) (hw : d.boot.warmLow = false) :
    d.startEpoch.clk.now = 0 ∧ d.startEpoch.clk.running = true := by
  simp [Dev.startEpoch, hp, hw]

theorem Dev.startEpoch_boot (d : Dev) : d.startEpoch.boot = d.boot := by
  simp [Dev.startEpoch, apply_ite Dev.boot]

theorem Dev.startEpoch_pins (d : Dev) : d.startEpoch.pins = d.pins := by
  simp [Dev.startEpoch, apply_ite Dev.pins]

theorem Dev.startEpoch_member (d : Dev) : d.startEpoch.clk.member = d.clk.member := by
  unfold Dev.startEpoch
  split <;> rfl

theorem pwrResetRelease_starts {s : State} (n : BitVec 3) (i2c : Bool) (hp : s.dev.boot.pwrLow = true) :
    Does (.pwrResetRelease n i2c) s (fun d => d.boot.pwrLow = false ∧ d.clk.member = n ∧ d.pins.i2cAddr = i2c ∧
      (s.dev.boot.warmLow = false → d.clk.now = 0 ∧ d.clk.running = true)) := by
  refine Does.of_whenDev (g := fun d => d.boot.pwrLow) rfl hp ⟨?_, ?_, ?_, fun hw => Dev.startEpoch_clk (by simp) (by simp [hw])⟩
  · rw [Dev.startEpoch_boot]; rfl
  · rw [Dev.startEpoch_member]; rfl
  · rw [Dev.startEpoch_pins]; rfl

theorem warmResetRelease_starts {s : State} (hw : s.dev.boot.warmLow = true) :
    Does .warmResetRelease s (fun d => d.boot.warmLow = false ∧ (s.dev.boot.pwrLow = false → d.clk.now = 0 ∧ d.clk.running = true)) := by
  refine Does.of_whenDev (g := fun d => d.boot.warmLow) rfl hw ⟨?_, fun hp => Dev.startEpoch_clk (by simp [hp]) (by simp)⟩
  rw [Dev.startEpoch_boot]; rfl

/-! ### The steps of start-up (Table 19.1) -/

theorem initFillDone_marks {s : State} (ha : s.dev.alive = true) (hl : s.dev.fu.loadDone = true) (hb : s.dev.mi.initBusy = true) :
    Does .initFillDone s (fun d => d.mi.initBusy = false ∧ d.boot.fillDone = true) :=
  Does.of_whenDev (g := fun d => d.alive && d.fu.loadDone && d.mi.initBusy) rfl (by simp [ha, hl, hb]) ⟨rfl, rfl⟩

theorem bistDone_marks {s : State} (hw : s.dev.working = true) (hl : s.dev.fu.loadDone = true) (hb : s.dev.mi.bistDone = false) :
    Does (.bistDone 0 []) s (fun d => d.mi.bistDone = true ∧ d.boot.stage = 3 ∧ d.er = s.dev.er) :=
  Does.of_whenDev (g := fun d => d.working && d.fu.loadDone && !d.mi.bistDone) rfl (by simp [hw, hl, hb]) ⟨rfl, rfl, rfl⟩

theorem Dev.applyHeld_of_none {d : Dev} (h : d.boot.heldWrites = []) :
    d.applyHeld = d.onBoot (fun b => { b with heldWrites := [], bootDone := true }) := by
  simp [Dev.applyHeld, h, Dev.each]

theorem Dev.flashEvent_boot (d : Dev) (n : Nat) : (d.flashEvent n).boot = d.boot := Dev.note_boot d _

theorem Dev.flashEvent_lastC0 (d : Dev) : d.flashEvent.lastC0 (fun r => r.origin = 3) := d.c0_lastC0 ⟨3, 0xFFFF⟩ 0x0E 0 (toW64 0)

/-- Without a flash step 4 leaves its C0 event and the held writes applied. -/
theorem bootFlashDone_absent {s : State} (hw : s.dev.working = true) (hm : s.dev.mi.bistDone = true) (hb : s.dev.boot.bootDone = false)
    (hh : s.dev.boot.heldWrites = []) :
    Does (.bootFlashDone none) s (fun d => d.boot.bootDone = true ∧ d.boot.stage = 4 ∧ d.boot.flashPresent = s.dev.boot.flashPresent ∧
      ∃ r, d.er.log.getLast? = some r ∧ r.cls = .c0) := by
  refine Does.of_whenDev (g := fun d => d.working && d.mi.bistDone && !d.boot.bootDone) rfl (by simp [hw, hm, hb]) ?_
  have held : s.dev.flashEvent.boot.heldWrites = [] := by rw [Dev.flashEvent_boot, hh]
  obtain ⟨r, last, cls, -⟩ := s.dev.flashEvent_lastC0
  simp only [Dev.flashHeader, Dev.applyHeld_of_none held, Dev.onBoot_boot, Dev.onBoot_er, Dev.flashEvent_boot, true_and]
  exact ⟨r, last, cls⟩

theorem ready_marks {s : State} (hr : s.dev.mayReady = true) (ho : s.dev.boot.heldOps = []) :
    Does .ready s (fun d => d.boot.ready = true ∧ d.boot.stage = 6 ∧ ∃ r, d.er.log.getLast? = some r ∧ r.cls = .c0 ∧ r.origin = 0x12) := by
  have unheld : (s.dev.c0 ⟨0x12, 0xFFFF⟩ 0x0F).boot.heldOps = [] := by rw [Dev.c0_boot, ho]
  refine Does.of_whenDev rfl hr ?_
  simp only [unheld, Dev.each, List.foldl_nil]
  exact ⟨rfl, rfl, s.dev.c0_lastC0 ⟨0x12, 0xFFFF⟩ 0x0F 0 0⟩

theorem supplyRamp_rests {s : State} {vio core : Bool} (h : vio = false ∨ core = false) :
    Does (.supplyRamp vio core) s (fun d => d.tc.driveEn = false ∧ d.tc.brakeN = false ∧ d.tc.st = .safe ∧ d.alive = false ∧
      (core = false → d.cx.slots = Table.empty)) := by
  have fallen : (vio && core) = false := by
    rcases h with rfl | rfl <;> simp
  refine ⟨_, rfl, ?_⟩
  simp only [fallen, Bool.false_eq_true, if_false]
  cases core
  · exact ⟨rfl, rfl, rfl, by simp [Dev.alive, Dev.zeroKeys], fun _ => rfl⟩
  · exact ⟨rfl, rfl, rfl, by simp_all [Dev.alive], nofun⟩

theorem stampStallEnd_advances {s : State} {u : Nat} {x : Nat × Nat} (ha : s.dev.alive = true) (hr : s.dev.clk.running = true)
    (hx : s.dev.clk.stalls.find? (fun x => decide (x.1 = u)) = some x) :
    Does (.stampStallEnd u) s (fun d => d.clk.now = max s.dev.clk.now x.2 ∧ d.clk.stalls = s.dev.clk.stalls.erase x) := by
  refine Does.of_whenDev rfl ha ?_
  simp only [hx, Dev.advanceTo, hr, if_true]
  exact ⟨rfl, rfl⟩

/-! ### Reads of latched pairs (R99), and of I2C (R414) -/

/-- The HI register of a latched pair is not the LO register of one. -/
theorem Dev.pairValue_hi (d : Dev) {a : Nat} (h : latchedLo.contains a = true) : d.pairValue (a + 4) = none := by
  simp only [latchedLo, List.contains_eq_mem, List.mem_cons, List.not_mem_nil, or_false, decide_eq_true_eq] at h
  rcases h with rfl | rfl | rfl | rfl | rfl | rfl | rfl | rfl | rfl | rfl | rfl <;> rfl

/-- A read of the HI register of a latched pair gives the path's shadow. -/
theorem Dev.readReg_hi (d : Dev) (path : Path) {a : Nat} (h : latchedLo.contains a = true) :
    (d.readReg path (a + 4)).1 = d.shadow.get (shadowKey path (a + 4)) := by
  simp only [Dev.readReg, d.pairValue_hi h, Nat.add_sub_cancel, h, and_true, Nat.le_add_left, if_true]

theorem latchedLoRead_latches {s : State} {path : Path} {a : W32} {v : Nat} (ho : s.dev.readOpen path = true) (hl : latchedLo.contains a.toNat = true)
    (hv : s.dev.pairValue a.toNat = some v) :
    Does (.latchedLoRead path a) s (fun d => d.pins.loOut = toW32 v ∧ (d.readReg path (a.toNat + 4)).1 = toW32 (v / 2 ^ 32)) := by
  refine Does.of_whenDev (g := fun d => d.readOpen path && latchedLo.contains a.toNat) rfl (by rw [ho, hl]; rfl) ?_
  have low : s.dev.readReg path a.toNat = (toW32 v,
      { s.dev with shadow := s.dev.shadow.set (shadowKey path (a.toNat + 4)) (toW32 (v / 2 ^ 32)), draws := s.dev.draws + 1 }) := by
    simp only [Dev.readReg, hv]
  simp only [low, Dev.readReg_hi _ path hl, Dev.onPins_pins, Dev.onPins_shadow, Table.get_set_self, and_self]

theorem i2cRead_other_copy {s : State} {o : W32} (ho : s.dev.readOpen (.i2c .a) = true) (hb : 2 ^ 31 ≤ o.toNat) (hp : perPort (o.toNat % 2 ^ 31) = false)
    (hd : o.toNat % 2 ^ 31 / 65536 ≠ 0x10) : Does (.i2cRead o) s (fun d => d = { s.dev with pins := { s.dev.pins with i2cOut := 0 } }) := by
  have port : portOf (o.toNat / 2 ^ 31) = .b := by
    have : o.toNat / 2 ^ 31 = 1 := by omega
    rw [this]; rfl
  refine Does.of_whenDev (g := fun d => d.readOpen (.i2c .a)) rfl ho ?_
  dsimp only
  rw [if_pos ⟨port, by rw [hp, decide_eq_false hd]; rfl⟩]
  rfl

/-! ### Register writes (R5, R9, R394) -/

theorem Dev.arrive_of_bootDone {d : Dev} (path : Path) (a : Nat) (v : W32) (h : d.boot.bootDone = true) :
    d.arrive path .bar0 a v = d.writeReg path a v := if_pos (.inl h)

theorem Dev.writeReg_undecoded {d : Dev} (path : Path) {a : Nat} (v : W32) (h : findReg a = none) : d.writeReg path a v = d.regEvent path a v := by
  simp only [Dev.writeReg, h]

/-- A path that is writable brings its write to the register. -/
theorem registerWrite_writable {s : State} {path : Path} {P : Dev → Prop} (a v : W32) (hw : s.dev.writable path = true)
    (h : P (s.dev.writeReg path a.toNat v)) : Does (.registerWrite path .bar0 a v) s P := by
  simp only [Dev.writable, Bool.and_eq_true] at hw
  obtain ⟨⟨⟨⟨reach, booted⟩, -⟩, -⟩, -⟩ := hw
  refine Does.of_whenDev (g := fun d => d.pathOpen path) rfl reach ?_
  rwa [Dev.arrive_of_bootDone path a.toNat v booted]

theorem registerWrite_undecoded {s : State} {path : Path} {a v : W32} (hw : s.dev.writable path = true) (ha : findReg a.toNat = none) :
    Does (.registerWrite path .bar0 a v) s (fun d => d.regs = s.dev.regs ∧ d.lastC0 (fun r => r.category = 2)) := by
  refine registerWrite_writable a v hw ?_
  rw [Dev.writeReg_undecoded path v ha]
  exact ⟨s.dev.regEvent_regs path a.toNat v, s.dev.regEvent_lastC0 path a.toNat v⟩

/-- Before the flash is applied a write other than a doorbell is held, up to 256. -/
theorem registerWrite_held {s : State} {path : Path} (a v : W32) (hp : s.dev.pathOpen path = true) (hb : s.dev.boot.bootDone = false)
    (hf : s.dev.boot.failed = false) (hd : ¬ (0x00100000 ≤ a.toNat ∧ a.toNat < 0x00110000)) :
    (s.dev.boot.heldCount < 256 → Does (.registerWrite path .bar0 a v) s (fun d => d = { s.dev with boot := { s.dev.boot with
      heldWrites := s.dev.boot.heldWrites ++ [⟨path, .bar0, a.toNat, v, 0⟩] } })) ∧
    (256 ≤ s.dev.boot.heldCount → Does (.registerWrite path .bar0 a v) s (fun d => d.lastC0 (fun r => r.category = 2) ∧ d.boot = s.dev.boot)) := by
  have waits : ¬ (s.dev.boot.bootDone = true ∨ s.dev.boot.failed = true ∨ (0x00100000 ≤ a.toNat ∧ a.toNat < 0x00110000 ∧ Bar.bar0 = .bar0)) := by
    simp only [hb, hf, Bool.false_eq_true, false_or, and_true]
    exact hd
  have arrives : s.dev.arrive path .bar0 a.toNat v = if 256 ≤ s.dev.boot.heldCount then s.dev.regEvent path a.toNat v
      else s.dev.onBoot (fun b => { b with heldWrites := b.heldWrites ++ [⟨path, .bar0, a.toNat, v, 0⟩] }) := if_neg waits
  constructor
  · intro room
    refine Does.of_whenDev (g := fun d => d.pathOpen path) rfl hp ?_
    rw [arrives, if_neg (Nat.not_le.mpr room)]
    rfl
  · intro full
    refine Does.of_whenDev (g := fun d => d.pathOpen path) rfl hp ?_
    rw [arrives, if_pos full]
    exact ⟨s.dev.regEvent_lastC0 path a.toNat v, s.dev.regEvent_boot path a.toNat v⟩

/-! ### ER_CFG -/

/-- The row of ER_CFG in the register map. -/
def erCfg : RegDesc := mkReg Reg.ER_CFG 1 0 1 0 [fd 31 16 .rwl 0x1388, fd 3 0 .rwl 3]

theorem findReg_erCfg : findReg Reg.ER_CFG = some erCfg := by decide

theorem Dev.fieldRule_erCfg (d : Dev) (p : PortId) (f : FieldDesc) (old new : Nat) : d.fieldRule p Reg.ER_CFG f old new = .value new := by
  have elsewhere : ¬ (Reg.QM_SQBASE_LO ≤ Reg.ER_CFG ∧ Reg.ER_CFG ≤ Reg.QM_CQBASE_HI) := by decide
  simp [Dev.fieldRule, safeOnly, elsewhere]

theorem Dev.takeFields_erCfg_open {d : Dev} (p : PortId) (old v : W32) (h : d.locked Reg.ER_CFG = false) :
    d.takeFields p erCfg Reg.ER_CFG old v = (putField (putField old 31 16 (fieldOf v 31 16)) 3 0 (fieldOf v 3 0), false) := by
  simp [Dev.takeFields, Dev.takeField, erCfg, mkReg, fd, h, Dev.fieldRule_erCfg]

theorem Dev.takeFields_erCfg_locked {d : Dev} (p : PortId) {old v : W32} (h : d.locked Reg.ER_CFG = true) (hv : fieldOf v 3 0 ≠ fieldOf old 3 0) :
    d.takeFields p erCfg Reg.ER_CFG old v = (old, true) := by
  simp only [Dev.takeFields, Dev.takeField, erCfg, mkReg, fd, h, guarded, List.foldl_cons, List.foldl_nil, if_true, if_neg (Ne.symm hv)]
  by_cases same : fieldOf old 31 16 = fieldOf v 31 16 <;> simp [same]

/-- A write of ER_CFG does nothing besides taking its fields. -/
theorem Dev.regHook_erCfg (d : Dev) (path : Path) (bank : Nat) (old new v : W32) : d.regHook path Reg.ER_CFG Reg.ER_CFG bank old new v = d := by
  have response : ¬ (Reg.FU_RESP ≤ Reg.ER_CFG ∧ Reg.ER_CFG < Reg.FU_RESP + 256) := by decide
  have unshadowed : ¬ Reg.ER_CFG % 0x400 ∈ shadowRegs := by decide
  simp [Dev.regHook, Dev.shadowWritten, response, unshadowed]

theorem Dev.writeReg_erCfg (d : Dev) (path : Path) (v : W32) :
    d.writeReg path Reg.ER_CFG v =
      let t := d.takeFields (pathPort path) erCfg Reg.ER_CFG (d.reg Reg.ER_CFG) v
      (if t.2 then d.regEvent path Reg.ER_CFG v else d).setReg Reg.ER_CFG t.1 := by
  have mask : w1cMask erCfg v = 0 := rfl
  have whole : breaksWhole Reg.ER_CFG v = false := rfl
  have bank : d.bankOf (pathPort path) Reg.ER_CFG = 0 := rfl
  have base : erCfg.base = Reg.ER_CFG := rfl
  simp only [Dev.writeReg, findReg_erCfg, base, Dev.writeKnown, mask, whole, bank, Dev.clearBits, Dev.regHook_erCfg]
  rfl

theorem Dev.reg_setReg_same (d : Dev) (a : Nat) (v : W32) : (d.setReg a v).reg a = v := by
  simp only [Dev.reg, Dev.setReg, Dev.setRegB, Dev.regB, Table.get_set_self]
  split <;> simp_all

/-- Both fields of ER_CFG hold what was put there. -/
theorem fieldOf_putField_erCfg (w : W32) {x y : Nat} (hx : x < 2 ^ 16) (hy : y < 2 ^ 4) :
    fieldOf (putField (putField w 31 16 x) 3 0 y) 31 16 = x ∧ fieldOf (putField (putField w 31 16 x) 3 0 y) 3 0 = y := by
  have := w.isLt
  simp only [putField, toW32, BitVec.toNat_ofNat, fieldOf, Nat.shiftRight_eq_div_pow]
  omega

theorem fieldOf_lt (v : W32) (hi lo : Nat) : fieldOf v hi lo < 2 ^ (hi + 1 - lo) := Nat.mod_lt _ (Nat.two_pow_pos _)

theorem registerWrite_erCfg_open {s : State} {path : Path} {a v : W32} (hw : s.dev.writable path = true) (ha : a.toNat = Reg.ER_CFG)
    (hl : s.dev.locked Reg.ER_CFG = false) : Does (.registerWrite path .bar0 a v) s (fun d => d.er = s.dev.er ∧
      d.rf Reg.ER_CFG 31 16 = fieldOf v 31 16 ∧ d.rf Reg.ER_CFG 3 0 = fieldOf v 3 0) := by
  refine registerWrite_writable a v hw ?_
  simp only [ha, Dev.writeReg_erCfg, Dev.takeFields_erCfg_open _ _ _ hl, Bool.false_eq_true, if_false, Dev.rf, Dev.reg_setReg_same, Dev.setReg_er, true_and]
  exact fieldOf_putField_erCfg _ (fieldOf_lt v 31 16) (fieldOf_lt v 3 0)

theorem registerWrite_erCfg_locked {s : State} {path : Path} {a v : W32} (hw : s.dev.writable path = true) (ha : a.toNat = Reg.ER_CFG)
    (hl : s.dev.locked Reg.ER_CFG = true) (hv : fieldOf v 3 0 ≠ s.dev.rf Reg.ER_CFG 3 0) :
    Does (.registerWrite path .bar0 a v) s (fun d => d.lastC0 (fun r => r.category = 2) ∧
      d.rf Reg.ER_CFG 31 16 = s.dev.rf Reg.ER_CFG 31 16 ∧ d.rf Reg.ER_CFG 3 0 = s.dev.rf Reg.ER_CFG 3 0) := by
  refine registerWrite_writable a v hw ?_
  simp only [ha, Dev.writeReg_erCfg, Dev.takeFields_erCfg_locked _ hl hv, if_true, Dev.rf, Dev.reg_setReg_same, and_self, and_true]
  have event := s.dev.regEvent_lastC0 path Reg.ER_CFG v
  rwa [Dev.lastC0, Dev.setReg_er]

/-! ### A C5 of start-up (R289, R395) -/

theorem Dev.logRoom_failed (d : Dev) : d.logRoom.er.failed = d.er.failed := by
  simp [Dev.logRoom, apply_ite Dev.er, apply_ite Errors.failed]

@[simp] theorem Dev.log_failed (d : Dev) (r : Report) (b : Bool) : (d.log r b).2.2.er.failed = d.er.failed := by
  simp [Dev.log, apply_ite Dev.er, Dev.logRoom_failed]

@[simp] theorem Dev.note_failed (d : Dev) (r : Report) : (d.note r).er.failed = d.er.failed := d.log_failed r false

@[simp] theorem Dev.loss_failed (d : Dev) (cause member seq : Nat) (ws : List Write) : (d.loss cause member seq ws).er.failed = d.er.failed := by
  unfold Dev.loss
  (repeat' split) <;> simp

@[simp] theorem Dev.undefine_er (d : Dev) (m : Cmd) : (d.undefine m).er = d.er := by
  unfold Dev.undefine Dev.onMemAt Dev.onHost
  (repeat' split) <;> rfl

@[simp] theorem Dev.failAll_er (d : Dev) : d.failAll.er = d.er := Dev.each_keeps Dev.er d _ _ fun e c => by simp

@[simp] theorem Dev.stopContexts_er (d : Dev) : d.stopContexts.er = d.er := Dev.each_keeps Dev.er d _ _ fun e c => by
  split <;> simp

theorem Dev.failDevice_failed (d : Dev) (seq : Nat) : (d.failDevice seq).er.failed = true := by
  unfold Dev.failDevice
  dsimp only
  split <;> simp

theorem Dev.burnEvent_failed (d : Dev) (cause detail : Nat) : (d.burnEvent cause detail).er.failed = d.er.failed := by
  unfold Dev.burnEvent
  split
  · exact d.note_failed _
  · simp

/-- A C5 fails the device. -/
theorem Dev.raiseC5_failed (d : Dev) (r : Report) (cause detail : Nat) (mute : Bool) : (d.raiseC5 r cause detail mute).er.failed = true := by
  simp only [Dev.raiseC5, Dev.burnEvent_failed]
  by_cases h : d.er.failed = true
  · simp [h, apply_ite Dev.er, apply_ite Errors.failed, Dev.armSnap]
  · simp [h, apply_ite Dev.er, Dev.failDevice_failed]

theorem Dev.raise_failed (d : Dev) {r : Report} (h : r.cls = .c5) : (d.raise r).er.failed = true := by
  simp only [Dev.raise, h, Dev.raiseC5_failed]

theorem fuseLoadDone_fails {s : State} {cells : HostWrites} (hw : s.dev.working = true) (hl : s.dev.fu.loadDone = false)
    (bad : identityOk (s.dev.fu.read cells).shadow = false ∨ keyRegionOk (s.dev.fu.read cells).shadow = false) :
    Does (.fuseLoadDone cells) s (fun d => d.er.failed = true) := by
  refine Does.of_whenDev (g := fun d => d.working && !d.fu.loadDone) rfl (by simp [hw, hl]) ?_
  simp only [Dev.onFu_fu]
  split
  · exact Dev.raise_failed _ rfl
  next identity =>
    have keys : (s.dev.fu.read cells).keyOk = false := bad.resolve_left (by simpa using identity)
    rw [if_pos (by rw [keys]; rfl)]
    exact Dev.raise_failed _ rfl

/-! ### What step 1 of start-up leads to (R306, R332, R388) -/

theorem Dev.applyEntries_loadDone (d : Dev) (path : Path) (es : List (Nat × W32)) : (d.applyEntries path es).fu.loadDone = d.fu.loadDone :=
  congrArg Prod.fst (d.applyEntries_stepOne path es)

/-- The fuses are read: their repairs are in force, start-up is in stage 2, the buffer fills and discovery runs. -/
theorem Dev.afterFuses_starts {d : Dev} (h : d.fu.loadDone = true) :
    d.afterFuses.stepOne = (true, 2, true, fuseRows d.fu.shadow) ∧ d.afterFuses.cs.st = .discovering := by
  refine ⟨?_, rfl⟩
  simp only [Dev.afterFuses, Dev.startDiscovery_stepOne, Dev.applyEnables_stepOne]
  split
  · simp [Dev.stepOne, Dev.startFill, Dev.applyEntries_loadDone, h]
  · simp [Dev.stepOne, Dev.startFill, h]

theorem fuseLoadDone_passes {s : State} {cells : HostWrites} (hw : s.dev.working = true) (hl : s.dev.fu.loadDone = false)
    (hi : identityOk (s.dev.fu.read cells).shadow = true) (hk : keyRegionOk (s.dev.fu.read cells).shadow = true) :
    Does (.fuseLoadDone cells) s (fun d => d.fu.loadDone = true ∧ d.boot.stage = 2 ∧ d.mi.initBusy = true ∧ d.cs.st = .discovering ∧
      d.mi.rows = fuseRows (s.dev.fu.read cells).shadow) := by
  refine Does.of_whenDev (g := fun d => d.working && !d.fu.loadDone) rfl (by simp [hw, hl]) ?_
  have keys : (s.dev.fu.read cells).keyOk = true := hk
  simp only [Dev.onFu_fu, hi, keys, Bool.not_true, Bool.false_eq_true, if_false]
  obtain ⟨one, discovering⟩ := Dev.afterFuses_starts (d := s.dev.onFu (fun f => f.read cells)) rfl
  simp only [Dev.stepOne, Dev.onFu_fu, Prod.mk.injEq] at one
  obtain ⟨loaded, stage, filling, rows⟩ := one
  exact ⟨loaded, stage, filling, discovering, rows⟩

end Sys2Proof.Machine
open Sys2Proof Sys2Proof.Machine

/-- Settles O59: each command in a lemma of its own; what a setting block may write keeps what step 1 has done. -/
theorem startUpRuns : Obligations.StartUpRuns := by
  intro s b f
  refine ⟨warmResetAssert_drops, pwrResetRelease_starts, warmResetRelease_starts,
    fun cells hw hl => ⟨fuseLoadDone_fails hw hl, fuseLoadDone_passes hw hl⟩, initFillDone_marks, bistDone_marks, bootFlashDone_absent, ready_marks,
    fun _ _ => supplyRamp_rests, fun _ _ => stampStallEnd_advances, fun _ _ _ => latchedLoRead_latches, fun _ => i2cRead_other_copy,
    fun path a v => ⟨fun hw => ⟨fun undecoded => ?_, registerWrite_erCfg_open hw, registerWrite_erCfg_locked hw⟩, registerWrite_held a v⟩⟩
  exact registerWrite_undecoded hw undecoded
end

section
/-! What the end of an instruction leaves alone: the volume and its cartridge, and the housekeeping state; so too for the buffers, blocks and pins
that an unmounted volume gives back, and for an advance of the order epoch. -/

namespace Sys2Proof.Machine

/-! ### The volume -/

@[simp] theorem Dev.each_vol {α : Type} (d : Dev) (l : List α) (f : Dev → α → Dev) (h : ∀ e x, (f e x).vol = e.vol) :
    (d.each l f).vol = d.vol := Dev.each_keeps Dev.vol d l f h

/-- An advance of the order epoch stamps it, raises its notice and sends it on the ring: what these keep, it keeps. -/
theorem Dev.epochAdvance_keeps {β : Type} (v : Dev → β) (hs : ∀ e u a, v (Dev.stamp e u a).2 = v e) (hn : ∀ e k r t, v (Dev.notice e k r t) = v e)
    (he : ∀ e f, v (Dev.onEr e f) = v e) (hm : ∀ e k m t b, v (Dev.send e k m t b) = v e) (d : Dev) (a : Nat) : v (d.epochAdvance a) = v d := by
  have advanced : v (d.epochTo (d.er.epoch + 1) a).2 = v d := (hn _ _ _ _).trans ((he _ _).trans (hs _ _ _))
  unfold Dev.epochAdvance
  split
  · exact (hm _ _ _ _ _).trans (hs _ _ _)
  · dsimp only
    split
    · exact (Dev.each_keeps v _ _ _ fun e m => hm e _ m _ _).trans advanced
    · exact advanced

@[simp] theorem Dev.epochAdvance_vol (d : Dev) (a : Nat) : (d.epochAdvance a).vol = d.vol :=
  d.epochAdvance_keeps Dev.vol Dev.stamp_vol Dev.notice_vol Dev.onEr_vol Dev.send_vol a

theorem Dev.epochAdvance_fm (d : Dev) (a : Nat) : (d.epochAdvance a).fm = d.fm :=
  d.epochAdvance_keeps Dev.fm Dev.stamp_fm Dev.notice_fm Dev.onEr_fm Dev.send_fm a

theorem Dev.epochAdvance_tc (d : Dev) (a : Nat) : (d.epochAdvance a).tc = d.tc :=
  d.epochAdvance_keeps Dev.tc Dev.stamp_tc Dev.notice_tc Dev.onEr_tc Dev.send_tc a

theorem Dev.epochAdvance_ctxs (d : Dev) (a : Nat) : (d.epochAdvance a).ctxs = d.ctxs :=
  d.epochAdvance_keeps Dev.ctxs Dev.stamp_ctxs Dev.notice_ctxs Dev.onEr_ctxs Dev.send_ctxs a

@[simp] theorem Dev.serveWaiter_vol (d : Dev) (p : Nat) : (d.serveWaiter p).vol = d.vol :=
  d.serveWaiter_keeps Dev.vol Dev.stamp_vol Dev.onPools_vol p

@[simp] theorem Dev.freeLent_vol (d : Dev) (k group : Nat) : (d.freeLent k group).vol = d.vol := by simp [Dev.freeLent]

@[simp] theorem Dev.freeBuf_vol (d : Dev) (k : Nat) (b : Buf) : (d.freeBuf k b).vol = d.vol := by
  unfold Dev.freeBuf
  dsimp only
  split <;> simp

@[simp] theorem Dev.giveBack_vol (d : Dev) (k : Nat) : (d.giveBack k).vol = d.vol := by
  unfold Dev.giveBack
  split <;> simp

@[simp] theorem Dev.dropWaits_vol (d : Dev) (p : BufUnit → List Nat → Bool) : (d.dropWaits p).vol = d.vol := by
  refine (Dev.each_vol _ _ _ fun e r => ?_).trans (d.onPools_vol _)
  exact e.giveBack_vol _

@[simp] theorem Dev.release_vol (d : Dev) (k : Nat) (h : Holder) (req : Nat) : (d.release k h req).2.vol = d.vol := by
  simp only [Dev.release]
  (repeat' split) <;> simp
@[simp] theorem Dev.letGo_vol (d : Dev) (k : Nat) (h : Holder) : (d.letGo k h).vol = d.vol := by simp [Dev.letGo, apply_ite Dev.vol]
@[simp] theorem Dev.onEngine_vol (d : Dev) (e : Nat) (f : Engine → Engine) : (d.onEngine e f).vol = d.vol := by simp [Dev.onEngine]
@[simp] theorem Dev.freeCtx_vol (d : Dev) (c : Nat) : (d.freeCtx c).vol = d.vol := by simp [Dev.freeCtx]
@[simp] theorem Dev.present_vol (d : Dev) (c : Nat) (w : W64) : (d.present c w).vol = d.vol := by simp [Dev.present]
@[simp] theorem Dev.onSlot_vol (d : Dev) (s : Nat) (f : Slot → Slot) : (d.onSlot s f).vol = d.vol := by simp [Dev.onSlot]
@[simp] theorem Dev.erasesDone_vol (d : Dev) (s : Nat) : (d.erasesDone s).vol = d.vol := by simp [Dev.erasesDone]
@[simp] theorem Dev.emptySlot_vol (d : Dev) (s : Nat) : (d.emptySlot s).vol = d.vol := by simp [Dev.emptySlot]
@[simp] theorem Dev.unpin_vol (d : Dev) (s : Nat) : (d.unpin s).vol = d.vol := by simp [Dev.unpin, apply_ite Dev.vol]
@[simp] theorem Dev.onWrite_vol (d : Dev) (id : Nat) (f : Write → Write) : (d.onWrite id f).vol = d.vol := by simp [Dev.onWrite]
@[simp] theorem Dev.reviewHolds_vol (d : Dev) : d.reviewHolds.vol = d.vol := by simp [Dev.reviewHolds, apply_ite Dev.vol]
@[simp] theorem Dev.reap_vol (d : Dev) : d.reap.vol = d.vol := by simp [Dev.reap, apply_ite Dev.vol]
@[simp] theorem Dev.freeBlock_vol (d : Dev) (b : Block) (u : BufUnit) : (d.freeBlock b u).vol = d.vol := by simp [Dev.freeBlock]
@[simp] theorem Dev.freeFrame_vol (d : Dev) (b : Block) : (d.freeFrame b).vol = d.vol := by simp [Dev.freeFrame]
@[simp] theorem Dev.dropBlocks_vol (d : Dev) (p : Block → Bool) : (d.dropBlocks p).vol = d.vol := by simp [Dev.dropBlocks]
@[simp] theorem Dev.cancelWrite_vol (d : Dev) (w : Write) : (d.cancelWrite w).vol = d.vol := by
  unfold Dev.cancelWrite
  (repeat' split) <;> simp
@[simp] theorem Dev.releaseHandle_vol (d : Dev) (c h : Nat) : (d.releaseHandle c h).vol = d.vol := by
  simp only [Dev.releaseHandle]
  (repeat' split) <;> simp
@[simp] theorem Dev.releaseHandles_vol (d : Dev) (c : Nat) : (d.releaseHandles c).vol = d.vol := by simp [Dev.releaseHandles]
@[simp] theorem Dev.complete_vol (d : Dev) (c : Nat) (s : W16) (result : W64) (st : Stamp) : (d.complete c s result st).vol = d.vol := by
  simp only [Dev.complete]
  (repeat' split) <;> simp
@[simp] theorem Dev.endCmd_vol (d : Dev) (c : Nat) (s : W16) (result : W64) : (d.endCmd c s result).vol = d.vol := by simp [Dev.endCmd]
@[simp] theorem Dev.fault_vol (d : Dev) (c : Nat) (s : W16) (result : W64) : (d.fault c s result).vol = d.vol := by simp [Dev.fault]
@[simp] theorem Dev.readLine_vol (d : Dev) (c l : Nat) (ahead : Bool) : (d.readLine c l ahead).vol = d.vol := by simp [Dev.readLine]
@[simp] theorem Dev.prefetch_vol (d : Dev) (c l : Nat) : (d.prefetch c l).vol = d.vol := by simp [Dev.prefetch, apply_ite Dev.vol]
@[simp] theorem Dev.setWord_vol (d : Dev) (c : Nat) (w : W64) : (d.setWord c w).vol = d.vol := by simp [Dev.setWord, apply_ite Dev.vol]
@[simp] theorem Dev.fetch_vol (d : Dev) (c : Nat) : (d.fetch c).vol = d.vol := by
  simp only [Dev.fetch]
  (repeat' split) <;> simp
@[simp] theorem Dev.goTo_vol (d : Dev) (c : Nat) (target : W64) : (d.goTo c target).vol = d.vol := by simp [Dev.goTo, apply_ite Dev.vol]
@[simp] theorem Dev.next_vol (d : Dev) (c : Nat) : (d.next c).vol = d.vol := by simp [Dev.next]
@[simp] theorem Dev.finish_vol (d : Dev) (c : Nat) (s : W16) (out : Option W64) (d0 d1 : W64) (cs : Option Stamp) (cat : Option Nat) (d2 : W32) :
    (d.finish c s out d0 d1 cs cat d2).vol = d.vol := by
  simp only [Dev.finish]
  (repeat' split) <;> simp
@[simp] theorem Dev.failWith_vol (d : Dev) (c : Nat) (s : W16) (d0 d1 : W64) : (d.failWith c s d0 d1).vol = d.vol := by simp [Dev.failWith]
@[simp] theorem Dev.supersede_vol (d : Dev) : d.supersede.vol = d.vol := by
  unfold Dev.supersede
  split <;> simp
@[simp] theorem Dev.startProfile_vol (d : Dev) (kind step : Nat) (reverse toZero : Bool) (target : Int) (asker : Asker) :
    (d.startProfile kind step reverse toZero target asker).vol = d.vol := by
  simp [Dev.startProfile, apply_ite Dev.vol]
@[simp] theorem Dev.stopProfile_vol (d : Dev) (asker : Asker) : (d.stopProfile asker).vol = d.vol := by simp [Dev.stopProfile]
@[simp] theorem Dev.restTape_vol (d : Dev) : d.restTape.vol = d.vol := by simp [Dev.restTape, apply_ite Dev.vol]
@[simp] theorem Dev.dropPartial_vol (d : Dev) (p : Partial) : (d.dropPartial p).vol = d.vol := by
  unfold Dev.dropPartial
  split <;> simp
@[simp] theorem Dev.resetStripes_vol (d : Dev) (folios : List Nat) : (d.resetStripes folios).vol = d.vol := by simp [Dev.resetStripes]
@[simp] theorem Dev.orderAll_vol (d : Dev) (c : LinkCmd) : (d.orderAll c).vol = d.vol := by simp [Dev.orderAll]
@[simp] theorem Dev.stopTape_vol (d : Dev) (r : RunSt) : (d.stopTape r).vol = d.vol := by simp [Dev.stopTape]
@[simp] theorem Dev.forgetWrites_vol (d : Dev) (vh : W32) : (d.forgetWrites vh).vol = d.vol := by simp [Dev.forgetWrites]

/-! ### Housekeeping -/

@[simp] theorem Dev.serveWaiter_hk (d : Dev) (p : Nat) : (d.serveWaiter p).hk = d.hk :=
  d.serveWaiter_keeps Dev.hk Dev.stamp_hk Dev.onPools_hk p

@[simp] theorem Dev.freeLent_hk (d : Dev) (k group : Nat) : (d.freeLent k group).hk = d.hk := by simp [Dev.freeLent]

@[simp] theorem Dev.freeBuf_hk (d : Dev) (k : Nat) (b : Buf) : (d.freeBuf k b).hk = d.hk := by
  unfold Dev.freeBuf
  dsimp only
  split <;> simp

@[simp] theorem Dev.release_hk (d : Dev) (k : Nat) (h : Holder) (req : Nat) : (d.release k h req).2.hk = d.hk := by
  simp only [Dev.release]
  (repeat' split) <;> simp
@[simp] theorem Dev.onEngine_hk (d : Dev) (e : Nat) (f : Engine → Engine) : (d.onEngine e f).hk = d.hk := by simp [Dev.onEngine]
@[simp] theorem Dev.freeCtx_hk (d : Dev) (c : Nat) : (d.freeCtx c).hk = d.hk := by simp [Dev.freeCtx]
@[simp] theorem Dev.present_hk (d : Dev) (c : Nat) (w : W64) : (d.present c w).hk = d.hk := by simp [Dev.present]
@[simp] theorem Dev.releaseHandle_hk (d : Dev) (c h : Nat) : (d.releaseHandle c h).hk = d.hk := by
  simp only [Dev.releaseHandle]
  (repeat' split) <;> simp
@[simp] theorem Dev.releaseHandles_hk (d : Dev) (c : Nat) : (d.releaseHandles c).hk = d.hk := by simp [Dev.releaseHandles]
@[simp] theorem Dev.complete_hk (d : Dev) (c : Nat) (s : W16) (result : W64) (st : Stamp) : (d.complete c s result st).hk = d.hk := by
  simp only [Dev.complete]
  (repeat' split) <;> simp
@[simp] theorem Dev.endCmd_hk (d : Dev) (c : Nat) (s : W16) (result : W64) : (d.endCmd c s result).hk = d.hk := by simp [Dev.endCmd]
@[simp] theorem Dev.fault_hk (d : Dev) (c : Nat) (s : W16) (result : W64) : (d.fault c s result).hk = d.hk := by simp [Dev.fault]
@[simp] theorem Dev.readLine_hk (d : Dev) (c l : Nat) (ahead : Bool) : (d.readLine c l ahead).hk = d.hk := by simp [Dev.readLine]
@[simp] theorem Dev.prefetch_hk (d : Dev) (c l : Nat) : (d.prefetch c l).hk = d.hk := by simp [Dev.prefetch, apply_ite Dev.hk]
@[simp] theorem Dev.setWord_hk (d : Dev) (c : Nat) (w : W64) : (d.setWord c w).hk = d.hk := by simp [Dev.setWord, apply_ite Dev.hk]
@[simp] theorem Dev.fetch_hk (d : Dev) (c : Nat) : (d.fetch c).hk = d.hk := by
  simp only [Dev.fetch]
  (repeat' split) <;> simp
@[simp] theorem Dev.goTo_hk (d : Dev) (c : Nat) (target : W64) : (d.goTo c target).hk = d.hk := by simp [Dev.goTo, apply_ite Dev.hk]
@[simp] theorem Dev.next_hk (d : Dev) (c : Nat) : (d.next c).hk = d.hk := by simp [Dev.next]
@[simp] theorem Dev.finish_hk (d : Dev) (c : Nat) (s : W16) (out : Option W64) (d0 d1 : W64) (cs : Option Stamp) (cat : Option Nat) (d2 : W32) :
    (d.finish c s out d0 d1 cs cat d2).hk = d.hk := by
  simp only [Dev.finish]
  (repeat' split) <;> simp

end Sys2Proof.Machine
end

section
/-! How FORMAT, LOAD, UNLOAD, SEAL, FLUSH and MIGRATE go through their stages and finish (R209 to R234). -/

namespace Sys2Proof.Machine

/-! ### INSTRUCTION_FINISH of a context under way (R95) -/

/-- An instruction ends with a status and the value it writes to gd, the device meeting `P` just before; the end may turn a read turn elsewhere. -/
def EndsWith (i : Instr) (s : State) (c : Nat) (st : W16) (out : Option W64) (P : Dev → Prop) : Prop :=
  Does i s (fun d => ∃ (d1 : Dev) (a b : W64) (cat : Option Nat),
    (d = d1.finish c st out a b none cat ∨ d = (d1.finish c st out a b none cat).retarget) ∧ P d1)

theorem Dev.flightOf_of_run {d : Dev} {c : Nat} {f : Flight} (h : (d.ctxs.get c).run = .flight f) : d.flightOf c = some f := by
  simp only [Dev.flightOf, h]

section Finishing

variable {s : State} {c : Nat} {f : Flight} (hw : s.dev.working = true) (hh : s.dev.er.halted = false) (hf : (s.dev.ctxs.get c).run = .flight f)
include hw hh hf

theorem instructionFinish_done {P : Dev → Prop} (h : P (s.dev.flightDone c f).retarget) : Does (.instructionFinish c .done) s P := by
  refine ⟨_, State.work_of _ hw, ?_⟩
  simpa [Dev.flightOf_of_run hf, hh] using h

theorem instructionFinish_failed {st : W16} {P : Dev → Prop} (hm : f.mayFail st = true) (h : P (s.dev.flightFailed c f st)) :
    Does (.instructionFinish c (.failed st)) s P := by
  refine ⟨_, State.work_of _ hw, ?_⟩
  simpa [Dev.flightOf_of_run hf, hh, hm] using h

/-- A stage done takes the command on to its next one. -/
theorem instructionFinish_flies {d1 : Dev} {g : Flight} {P : Dev → Prop} (hd : s.dev.flightDone c f = d1.fly c g) (hp : P d1) :
    Does (.instructionFinish c .done) s (fun d => ∃ d1 : Dev, d = (d1.fly c g).retarget ∧ P d1) :=
  instructionFinish_done hw hh hf ⟨d1, by rw [hd], hp⟩

/-- The last stage done ends the command. -/
theorem instructionFinish_ends {d1 : Dev} {st : W16} {out : Option W64} {a b : W64} {cat : Option Nat} {P : Dev → Prop}
    (hd : s.dev.flightDone c f = d1.finish c st out a b none cat) (hp : P d1) : EndsWith (.instructionFinish c .done) s c st out P :=
  instructionFinish_done hw hh hf ⟨d1, a, b, cat, .inr (by rw [hd]), hp⟩

end Finishing

theorem instructionFinish_checked {s : State} {c : Nat} {id : W64} {good : List Nat} {P : Dev → Prop} (hw : s.dev.working = true)
    (hh : s.dev.er.halted = false) (hf : (s.dev.ctxs.get c).run = .flight (.format (some id) 2)) (h : P (s.dev.formatChecked c id good)) :
    Does (.instructionFinish c (.checked good)) s P := by
  refine ⟨_, State.work_of _ hw, ?_⟩
  simpa [Dev.flightOf_of_run hf, hh] using h

/-! ### A volume that goes -/

theorem Dev.unmount_vol (d : Dev) :
    d.unmount.vol = { d.vol with loaded := none, decoded := [], scan := [], rereads := Table.empty, reload := [] } := by
  refine congrArg (fun v : Vol => { v with loaded := none, decoded := [], scan := [], rereads := Table.empty, reload := [] }) ?_
  refine (Dev.each_vol _ _ _ fun e b => ?_).trans (Dev.each_vol _ _ _ fun e b => ?_)
  all_goals cases b <;> simp

theorem Dev.unmount_fm (d : Dev) : d.unmount.fm = Formes.reset := rfl

/-- No volume is loaded and no forme is held. -/
def Dev.volumeGone (d : Dev) : Prop := d.vol.loaded = none ∧ d.fm = Formes.reset

/-- Where a LOAD or FORMAT fails, its volume is gone before it finishes, and a LOAD's cartridge stays threaded (R1, R212). -/
theorem Dev.openFailed_ends (d : Dev) (c : Nat) (st : W16) : ∃ (d1 : Dev) (a b : W64) (cat : Option Nat),
    d.openFailed c st = d1.finish c st none a b none cat ∧ d1.volumeGone ∧ d1.vol.formatting = false ∧
      (∀ n aim, (d.ctxs.get c).run = .flight (.load n aim) → d.vol.cart ≠ none → d1.threaded = true) := by
  refine ⟨_, _, _, _, rfl, ⟨?_, ?_⟩, ?_, fun n aim loads cart => ?_⟩
  · split <;> simp [Dev.onCart, Dev.volStamp, Dev.unmount_vol]
  · split <;> simp [Dev.onCart, Dev.volStamp, Dev.unmount_fm]
  · split <;> simp [Dev.onCart, Dev.volStamp, Dev.unmount_vol]
  · obtain ⟨k, hk⟩ := Option.ne_none_iff_exists'.mp cart
    simp [Dev.flightOf_of_run loads, Dev.threaded, Dev.onCart, Dev.unmount_vol, apply_ite Dev.vol, hk]

/-! ### Motion -/

/-- A profile that the scheduler starts, with no move instruction under way. -/
theorem Dev.startProfile_runs {d : Dev} {kind step : Nat} {reverse toZero : Bool} {target : Int} (hr : d.tc.st = .run) (hm : d.tc.movingFor = none) :
    let p := (d.startProfile kind step reverse toZero target .scheduler).tc.profile
    p.kind = kind ∧ p.step = step ∧ p.target = target ∧ p.toZero = toZero ∧ p.reverse = reverse := by
  simp [Dev.startProfile, Dev.supersede, hr, hm]

theorem Tc.movingFor_of_rest {t : Tc} (h : t.profile.kind = 0) : t.movingFor = none := if_pos h

/-- The tape runs at step 15 to its beginning or end. -/
def Dev.runsAtFull (d : Dev) (kind : Nat) : Prop :=
  d.tc.profile.kind = kind ∧ d.tc.profile.step = 15 ∧ d.tc.profile.target = 0 ∧ d.tc.profile.toZero = false

theorem Dev.rewind_runs {d : Dev} (hr : d.tc.st = .run) (hk : d.tc.profile.kind = 0) : d.rewind.runsAtFull 2 ∧ d.rewind.vol = d.vol := by
  obtain ⟨kind, step, target, toZero, -⟩ := Dev.startProfile_runs (kind := 2) (step := 15) (reverse := false) (toZero := false) (target := 0) hr
    (Tc.movingFor_of_rest hk)
  exact ⟨⟨kind, step, target, toZero⟩, d.startProfile_vol 2 15 false false 0 .scheduler⟩

/-! ### FORMAT -/

theorem Dev.formatThreaded_measures {d : Dev} {c : Nat} {id : Option W64} (ht : d.notThreaded c = false) (hr : d.tc.st = .run)
    (hm : d.tc.movingFor = none) : ∃ d1 : Dev, d.formatThreaded c id = d1.fly c (.format id 1) ∧ d1.runsAtFull 1 ∧ d1.tc.profile.reverse = false ∧
      d1.vol = d.vol := by
  obtain ⟨kind, step, target, toZero, forward⟩ := Dev.startProfile_runs (kind := 1) (step := 15) (reverse := false) (toZero := false) (target := 0) hr hm
  exact ⟨_, by simp only [Dev.formatThreaded, ht, Bool.false_eq_true, if_false], ⟨kind, step, target, toZero⟩, forward,
    d.startProfile_vol 1 15 false false 0 .scheduler⟩

theorem Dev.formatMeasured_short {d : Dev} {c : Nat} {id : Option W64} {k : Cart} (hk : d.vol.cart = some k) (hl : k.len < 100000) :
    d.formatMeasured c id = d.openFailed c St.noCartridge := by
  simp only [Dev.formatMeasured, hk, hl, if_true]

theorem Dev.formatChecked_bad {d : Dev} {c : Nat} {id : W64} {good : List Nat} (h : primerGood good = false) :
    d.formatChecked c id good = d.openFailed c St.mediumUnrecovered := if_pos (by rw [h]; rfl)

theorem Dev.formatWritten_rewinds {d : Dev} {c : Nat} {id : Option W64} (hc : d.sh.colophon = none) (hr : d.sh.running = false)
    (hk : d.tc.profile.kind = 0) : d.formatWritten c id = d.rewind.fly c (.format id 5) := by
  simp [Dev.formatWritten, hc, hr, hk]

theorem Dev.formatDone_ends {d : Dev} {c : Nat} (hk : d.tc.profile.kind = 0) (hs : d.setDone 0x50 = true) :
    ∃ d1 : Dev, d.formatDone c = d1.finish c St.ok none 0 0 none none ∧ d1.volumeGone ∧ d1.vol.formatting = false ∧ d1.vol.st = .present ∧
      d1.vol.cart = d.vol.cart := by
  refine ⟨((d.volStamp (some c)).2.unmount).onVol (fun v => { v with formatting := false, st := .present }), by simp [Dev.formatDone, hk, hs], ?_⟩
  simp [Dev.volumeGone, Dev.unmount_vol, Dev.unmount_fm, Dev.volStamp]

/-! ### LOAD -/

theorem Cart.volumeId_of_bad {k : Cart} (h : k.primer.all (fun b => !primerOk b) = true) : k.volumeId = none := by
  have unfound : k.primer.find? primerOk = none := List.find?_eq_none.mpr (by simpa using h)
  rw [Cart.volumeId, unfound]; rfl

theorem Dev.loadThreaded_bad {d : Dev} {c : Nat} {k : Cart} (ht : d.notThreaded c = false) (hk : d.vol.cart = some k)
    (hp : k.primer.all (fun b => !primerOk b) = true) : d.loadThreaded c = d.openFailed c St.noCartridge := by
  simp only [Dev.loadThreaded, ht, hk, Option.bind_some, Cart.volumeId_of_bad hp, Bool.false_eq_true, if_false]

/-- A volume that opens has its state and handle, and its cartridge is threaded. -/
theorem Dev.openVolume_opens (d : Dev) (c : Nat) (v : Volume) :
    let e := d.openVolume c v
    e.vol.st = (if v.sealed then .sealed else .opened) ∧ e.vol.loads = d.vol.loads + 1 ∧ (d.vol.cart ≠ none → e.threaded = true) ∧
      (e.ctxs.get c).vh = v.handle := by
  refine ⟨?_, ?_, fun cart => ?_, ?_⟩
  · simp [Dev.openVolume, Dev.onCart, Dev.volStamp, apply_ite Dev.vol]
  · simp [Dev.openVolume, Dev.onCart, Dev.volStamp, apply_ite Dev.vol]
  · obtain ⟨k, hk⟩ := Option.ne_none_iff_exists'.mp cart
    simp [Dev.openVolume, Dev.threaded, Dev.onCart, Dev.volStamp, apply_ite Dev.vol, hk]
  · simp [Dev.openVolume, Dev.onCtx]

theorem Dev.recovered_vol (d : Dev) (c : Nat) (v : Volume) : (d.recovered c v).vol = d.vol := by simp [Dev.recovered]

theorem Dev.recovered_ctxs (d : Dev) (c : Nat) (v : Volume) : (d.recovered c v).ctxs = d.ctxs := (Dev.epochAdvance_ctxs _ 0).trans (d.note_ctxs _)

theorem Dev.loadEnd_ends {d : Dev} {c : Nat} {v : Volume} (u : Bool) (hv : d.vol.loaded = some v) (hs : d.setDone 0x51 = true) :
    ∃ d1 : Dev, d.loadEnd c u = d1.finish c St.ok (some (toW64 v.handle.toNat)) 0 0 none none ∧ d1.vol.st = (if v.sealed then .sealed else .opened) ∧
      d1.vol.loads = d.vol.loads + 1 ∧ (d.vol.cart ≠ none → d1.threaded = true) ∧ (d1.ctxs.get c).vh = v.handle := by
  obtain ⟨st, loads, threaded, vh⟩ := d.openVolume_opens c v
  refine ⟨(d.openVolume c v).when u (fun e => e.recovered c v), by simp [Dev.loadEnd, hv, hs], ?_⟩
  cases u
  · exact ⟨st, loads, threaded, vh⟩
  · simp only [Dev.when, if_true, Dev.threaded, Dev.recovered_vol, Dev.recovered_ctxs]
    exact ⟨st, loads, threaded, vh⟩

theorem Dev.loadStep_written {d : Dev} {c n : Nat} (hc : d.sh.colophon = none) (hr : d.sh.running = false) : d.loadStep c 3 n = d.loadEnd c true := by
  simp [Dev.loadStep, hc, hr]

/-! ### UNLOAD and SEAL -/

theorem Dev.closeVolume_vol (d : Dev) :
    d.closeVolume.vol = { d.vol with loaded := none, decoded := [], scan := [], rereads := Table.empty, reload := [] } := by
  unfold Dev.closeVolume
  split <;> simp [Dev.unmount_vol]

theorem Dev.closeVolume_fm (d : Dev) : d.closeVolume.fm = Formes.reset := Dev.unmount_fm _

theorem Dev.unloadWritten_rewinds {d : Dev} {c : Nat} {t : Stamp} (hc : d.sh.colophon = none) (hr : d.sh.running = false) (hrun : d.tc.st = .run)
    (hk : d.tc.profile.kind = 0) : d.unloadWritten c t = d.rewind.fly c (.unload 2 t) := by
  simp [Dev.unloadWritten, hc, hr, hrun, hk]

theorem Dev.unloadDone_ends {d : Dev} {c : Nat} (hrun : d.tc.st = .run) (hk : d.tc.profile.kind = 0) (hs : d.setDone 0x52 = true) :
    ∃ d1 : Dev, d.unloadDone c = d1.finish c St.ok none 0 0 none none ∧ d1.volumeGone ∧ d1.vol.st = .present ∧ d1.threaded = false ∧
      d1.tc.posValid = false := by
  refine ⟨_, if_neg (by simp [hrun, hk, hs]), ?_⟩
  simp only [Dev.volumeGone, Dev.threaded, Dev.epochAdvance_vol, Dev.epochAdvance_fm, Dev.epochAdvance_tc, Dev.onTc_vol, Dev.onTc_fm, Dev.onTc_tc,
    Dev.onVol_vol, Dev.onVol_fm, Dev.closeVolume_vol, Dev.closeVolume_fm, true_and]
  simp [Option.any_map]

theorem Dev.sealDone_ends {d : Dev} {c : Nat} (hc : d.sh.colophon = none) (hr : d.sh.running = false) (hs : d.setDone 0x54 = true) :
    ∃ d1 : Dev, d.sealDone c = d1.finish c St.ok none 0 0 none none ∧ d1.vol.st = .sealed ∧
      d1.vol.loaded = d.vol.loaded.map (fun v => { v with sealed := true }) ∧ d1.vol.cart = d.vol.cart :=
  ⟨(((d.volStamp (some c)).2).onVolume (fun v => { v with sealed := true })).onVol (fun v => { v with st := .sealed }),
    by simp [Dev.sealDone, hc, hr, hs], by simp [Dev.onVolume, Dev.volStamp]⟩

/-! ### FLUSH and MIGRATE -/

theorem Dev.settleFlushes_flush {d : Dev} {c : Nat} {t : Stamp} (hr : (d.ctxs.get c).run = .flight (.flush t)) (only : d.flightsThat Flight.waitsTape = [c])
    (hd : d.hk.drain = false) (hc : d.coveredDurable (d.ctxs.get c).vh t = true) (hp : d.stripesCovered = true) (hs : d.setDone 0x55 = true) :
    d.settleFlushes = d.finish c St.ok none 0 0 := by
  have drains : (d.finish c St.ok none 0 0).drainDivider = [] := by simp [Dev.drainDivider, hd]
  unfold Dev.settleFlushes
  simp only [only, Dev.each, List.foldl_cons, List.foldl_nil, hr, hc, hp, hs, Bool.and_self, if_true]
  exact if_neg (by rw [drains]; simp)

theorem Dev.migrateDone_ends {d : Dev} {c : Nat} {t : Stamp} (hc : d.coveredDurable (d.ctxs.get c).vh t = true) :
    d.migrateDone c t = d.finish c St.ok (some (toW64 ((d.visibleRecords t).foldl (fun a r => a + d.recordBytes r) 0))) 0 0 := by
  simp [Dev.migrateDone, hc]

end Sys2Proof.Machine

open Sys2Proof Sys2Proof.Machine

/-- Settles O29: each stage in a lemma of its own; a command ends with its volume as the stage before the end leaves it. -/
theorem volumeCommandsEnd : Obligations.VolumeCommandsEnd := by
  intro c s hw hh x done rest written ends goes moving gone
  refine ⟨?format0, ?format1, ?format2, ?format4, ?format5, ?load0, ?load3, ?unload1, ?unload2, ?seals, ?flush, ?migrate, ?fails⟩
  case format0 =>
    intro id hx ht hr hm
    obtain ⟨d1, flies, runs, forward, vol⟩ := Dev.formatThreaded_measures (id := id) ht hr hm
    exact instructionFinish_flies hw hh hx flies ⟨runs, forward, vol⟩
  case format1 =>
    intro id k hx hk hl
    obtain ⟨d1, a, b, cat, fails, volumeGone, formatting, -⟩ := s.dev.openFailed_ends c St.noCartridge
    exact instructionFinish_ends hw hh hx ((Dev.formatMeasured_short hk hl).trans fails) ⟨volumeGone, formatting⟩
  case format2 =>
    intro id good hx hg
    obtain ⟨d1, a, b, cat, fails, volumeGone, formatting, -⟩ := s.dev.openFailed_ends c St.mediumUnrecovered
    exact instructionFinish_checked hw hh hx ⟨d1, a, b, cat, .inl ((Dev.formatChecked_bad hg).trans fails), volumeGone, formatting⟩
  case format4 =>
    rintro id hx ⟨hc, hn⟩ hk hr
    exact instructionFinish_flies hw hh hx (Dev.formatWritten_rewinds hc hn hk) (Dev.rewind_runs hr hk)
  case format5 =>
    intro id hx hk hs
    obtain ⟨d1, done, P⟩ := Dev.formatDone_ends (c := c) hk hs
    obtain ⟨volumeGone, formatting, st, cart⟩ := P
    exact instructionFinish_ends hw hh hx done ⟨volumeGone, formatting, st, cart⟩
  case load0 =>
    intro k n hx ht hk hp
    obtain ⟨d1, a, b, cat, fails, volumeGone, -, threaded⟩ := s.dev.openFailed_ends c St.noCartridge
    exact instructionFinish_ends hw hh hx ((Dev.loadThreaded_bad ht hk hp).trans fails) ⟨volumeGone, threaded 0 n hx (by simp [hk])⟩
  case load3 =>
    rintro v n hx ⟨hc, hn⟩ hv hs
    obtain ⟨d1, opens, P⟩ := Dev.loadEnd_ends (c := c) true hv hs
    exact instructionFinish_ends hw hh hx ((Dev.loadStep_written (n := n) hc hn).trans opens) P
  case unload1 =>
    rintro t hx ⟨hc, hn⟩ hk hr
    exact instructionFinish_flies hw hh hx (Dev.unloadWritten_rewinds hc hn hr hk) (Dev.rewind_runs hr hk)
  case unload2 =>
    intro t hx hk hr hs
    obtain ⟨d1, done, P⟩ := Dev.unloadDone_ends (c := c) hr hk hs
    exact instructionFinish_ends hw hh hx done P
  case seals =>
    rintro t hx ⟨hc, hn⟩ hs
    obtain ⟨d1, done, P⟩ := Dev.sealDone_ends (c := c) hc hn hs
    exact instructionFinish_ends hw hh hx done P
  case flush =>
    intro t hx only hd hc hp hs
    exact instructionFinish_ends hw hh hx (Dev.settleFlushes_flush hx only hd hc hp hs) rfl
  case migrate =>
    intro h t hx hc
    exact instructionFinish_ends hw hh hx (Dev.migrateDone_ends hc) rfl
  case fails =>
    intro id n hx
    obtain ⟨d1, a, b, cat, fails, volumeGone, -⟩ := s.dev.openFailed_ends c St.transportFault
    rcases hx with hx | hx
    · exact instructionFinish_failed hw hh hx rfl ⟨d1, a, b, cat, .inl fails, volumeGone⟩
    · exact instructionFinish_failed hw hh hx rfl ⟨d1, a, b, cat, .inl fails, volumeGone⟩
end

section
/-! Frames for any part of the device: a part kept by the few changes that an operation is made of is kept by the operation. So each operation is gone
through once, and of a part only its elementary changes have to be shown. -/

namespace Sys2Proof.Machine

/-- A change of one host memory keeps what is apart from all of them. -/
theorem Dev.onMemAt_keeps {β : Type} (v : Dev → β) (d : Dev) (n : Nat) (f : Table Byte 0 → Table Byte 0)
    (h : ∀ a b r, v { d with hostA := a, hostB := b, hostR := r } = v d) : v (d.onMemAt n f) = v d := by
  unfold Dev.onMemAt Dev.onHost
  (repeat' split) <;> exact h ..

/-! ### Operations on buffers and blocks (R103 to R116) -/

/-- A part of the device that no operation on buffers and blocks changes: it is apart from stamps, counters, the records of the error log, messages,
the pools, the compression complex, memory and, but for the reads it has registered, the version index. -/
structure Dev.KeptByBuffers {β : Type} (v : Dev → β) : Prop where
  stamp : ∀ (d : Dev) (u a : Nat), v (d.stamp u a).2 = v d
  setW1f : ∀ (d : Dev) (a bank hi lo x : Nat), v (d.setW1f a bank hi lo x) = v d
  count : ∀ (d : Dev) (blk sub i n : Nat), v (d.count blk sub i n) = v d
  onEr : ∀ (d : Dev) (f : Errors → Errors), (∀ e, (f e).failed = e.failed ∧ (f e).pend = e.pend) → v (d.onEr f) = v d
  onPools : ∀ (d : Dev) (f : Pools → Pools), v (d.onPools f) = v d
  onIdx : ∀ (d : Dev) (f : Index → Index), (∀ x, (f x).reads = x.reads) → v (d.onIdx f) = v d
  onCm : ∀ (d : Dev) (f : Compression → Compression), v (d.onCm f) = v d
  onMi : ∀ (d : Dev) (f : MemInt → MemInt), v (d.onMi f) = v d
  onCs : ∀ (d : Dev) (f : Cascade → Cascade), v (d.onCs f) = v d

namespace Dev.KeptByBuffers

variable {β : Type} {v : Dev → β} (h : Dev.KeptByBuffers v)
include h

theorem setW1 (d : Dev) (a bank bit : Nat) : v (d.setW1 a bank bit) = v d := h.setW1f ..

theorem bumpW1 (d : Dev) (a bank hi lo : Nat) : v (d.bumpW1 a bank hi lo) = v d := h.setW1f ..

theorem logRoom (d : Dev) : v d.logRoom = v d := by
  unfold Dev.logRoom
  split
  · simp [h.bumpW1, h.onEr]
  · rfl

theorem note (d : Dev) (r : Report) : v (d.note r) = v d := by
  simp [Dev.note, Dev.log, apply_ite v, h.onEr, h.setW1, h.logRoom, h.stamp]

theorem send (d : Dev) (k : MsgKind) (m : Nat) (s : Stamp) (b : List Byte) : v (d.send k m s b) = v d := by
  simp [Dev.send, Dev.sendWay, apply_ite v, h.count, h.onCs]

theorem take (d : Dev) (req p : Nat) (share : List Holder) : v (d.take req p share).2 = v d := by
  unfold Dev.take
  split
  · rfl
  · rw [h.onPools]

theorem countRefusal (d : Dev) (s : W16) : v (d.countRefusal s) = v d := by
  simp [Dev.countRefusal, apply_ite v, h.bumpW1]

theorem request (d : Dev) (u : BufUnit) (tag : List Nat) (size : Nat) (spill : Bool) (share : List Holder) :
    v (d.request u tag size spill share).2 = v d := by
  unfold Dev.request
  dsimp only
  split <;> simp [h.take, h.onPools, h.countRefusal, h.stamp]

theorem grab (d : Dev) (u : BufUnit) (tag : List Nat) (size : Nat) (share : List Holder) : v (d.grab u tag size share).2 = v d := by
  unfold Dev.grab
  split
  · rw [h.onPools]
  · split
    · rfl
    · exact h.request ..

theorem serveWaiter (d : Dev) (p : Nat) : v (d.serveWaiter p) = v d := d.serveWaiter_keeps v h.stamp h.onPools p

theorem freeLent (d : Dev) (k group : Nat) : v (d.freeLent k group) = v d := by
  simp [Dev.freeLent, h.onPools, h.onCs, h.send, h.stamp]

theorem freeBuf (d : Dev) (k : Nat) (b : Buf) : v (d.freeBuf k b) = v d := by
  unfold Dev.freeBuf
  dsimp only
  split <;> simp [h.freeLent, h.serveWaiter, h.onPools, h.onMi, h.onIdx]

theorem giveBack (d : Dev) (k : Nat) : v (d.giveBack k) = v d := by
  unfold Dev.giveBack
  split
  · rw [h.freeBuf, h.stamp]
  · rfl

theorem release (d : Dev) (k : Nat) (x : Holder) (req : Nat) : v (d.release k x req).2 = v d := by
  simp only [Dev.release]
  (repeat' split) <;> simp [h.freeBuf, h.onPools, h.note, h.bumpW1, h.stamp]

theorem letGo (d : Dev) (k : Nat) (x : Holder) : v (d.letGo k x) = v d := by simp [Dev.letGo, apply_ite v, h.release]

theorem attach (d : Dev) (k : Nat) (x : Holder) : v (d.attach k x) = v d := by
  unfold Dev.attach
  split
  · rfl
  · simp [apply_ite v, h.onPools]

theorem dropWaits (d : Dev) (p : BufUnit → List Nat → Bool) : v (d.dropWaits p) = v d :=
  (Dev.each_keeps v _ _ _ fun e _ => h.giveBack e _).trans (h.onPools ..)

theorem onWrite (d : Dev) (id : Nat) (f : Write → Write) : v (d.onWrite id f) = v d := h.onIdx _ _ fun _ => rfl

theorem reviewHolds (d : Dev) : v d.reviewHolds = v d :=
  Dev.each_keeps v _ _ _ fun e w => by simp [apply_ite v, h.onWrite, h.stamp]

theorem reap (d : Dev) : v d.reap = v d := by
  unfold Dev.reap
  dsimp only
  rw [h.onIdx]
  · refine Dev.each_keeps v _ _ _ fun e w => Dev.each_keeps v _ _ _ fun e kb => ?_
    simp [apply_ite v, h.release]
  · exact fun _ => rfl

theorem holdBlock (d : Dev) (b : Block) (u : BufUnit) : v (d.holdBlock b u) = v d := Dev.each_keeps v _ _ _ fun e _ => h.attach e _ _

theorem freeBlock (d : Dev) (b : Block) (u : BufUnit) : v (d.freeBlock b u) = v d := Dev.each_keeps v _ _ _ fun e _ => h.letGo e _ _

theorem freeFrame (d : Dev) (b : Block) : v (d.freeFrame b) = v d := Dev.each_keeps v _ _ _ fun e _ => h.giveBack e _

theorem onBlock (d : Dev) (b : Block) (f : Block → Block) : v (d.onBlock b f) = v d := h.onCm ..

theorem dropBlocks (d : Dev) (p : Block → Bool) : v (d.dropBlocks p) = v d := by
  unfold Dev.dropBlocks
  dsimp only
  rw [h.onCm, h.dropWaits]
  refine Dev.each_keeps v _ _ _ fun e b => ?_
  rw [Dev.each_keeps v _ _ _ h.giveBack, h.freeFrame, h.freeBlock, h.freeBlock, h.freeBlock]

theorem countStart (d : Dev) (i : Nat) (verify : Bool) : v (d.countStart i verify) = v d := h.onCm ..

theorem noteOwnIsland (d : Dev) (k : Nat) (own : Bool) : v (d.noteOwnIsland k own) = v d := by
  simp [Dev.noteOwnIsland, apply_ite v, h.note, h.onCm]

theorem tryVerify (d : Dev) (b : Block) : v (d.tryVerify b) = v d := by
  unfold Dev.tryVerify
  (repeat' split) <;> simp [h.onBlock, h.holdBlock, h.countStart, h.noteOwnIsland]

theorem feedVerify (d : Dev) : v d.feedVerify = v d := Dev.each_keeps v _ _ _ h.tryVerify

theorem captureVfail (d : Dev) (restore : Bool) (comp dec off : Nat) : v (d.captureVfail restore comp dec off) = v d := by
  simp [Dev.captureVfail, apply_ite v, h.setW1f]

theorem restartLane (d : Dev) (dec : Bool) (lane : Nat) : v (d.restartLane dec lane) = v d := by
  refine (h.feedVerify _).trans (Dev.each_keeps v _ _ _ fun e b => ?_)
  unfold Dev.offLane
  split <;> simp [apply_ite v, h.onBlock, h.freeBlock]

end Dev.KeptByBuffers

/-! ### The end of an instruction (R53, R56, R59, R74, R95) -/

/-- A part of the device that no end of an instruction changes: it is apart, besides, from the contexts and engines, the commands, the notices, the reads
registered, the key slots, the volume, host memory and, but for a RESUME that waits, the scheduler. -/
structure Dev.KeptByEnds {β : Type} (v : Dev → β) : Prop extends Dev.KeptByBuffers v where
  onCtx : ∀ (d : Dev) (c : Nat) (f : Ctx → Ctx), v (d.onCtx c f) = v d
  erasesDone : ∀ (d : Dev) (s : Nat), v (d.erasesDone s) = v d
  onEngine : ∀ (d : Dev) (e : Nat) (f : Engine → Engine), v (d.onEngine e f) = v d
  latch : ∀ (d : Dev) (id : Nat) (k : Completion), v (d.latch id k) = v d
  notice : ∀ (d : Dev) (k : NoticeKind) (r : W64) (s : Stamp), v (d.notice k r s) = v d
  onReads : ∀ (d : Dev) (f : Index → Index), v (d.onIdx f) = v d
  onCx : ∀ (d : Dev) (f : Cipher → Cipher), v (d.onCx f) = v d
  onVol : ∀ (d : Dev) (f : Vol → Vol), v (d.onVol f) = v d
  onSh : ∀ (d : Dev) (f : Sheaf → Sheaf), (∀ x, (f x).resumeDue = x.resumeDue) → v (d.onSh f) = v d
  onMemAt : ∀ (d : Dev) (n : Nat) (f : Table Byte 0 → Table Byte 0), v (d.onMemAt n f) = v d
  heldZeros : ∀ (d : Dev) (z : List (Nat × List (Nat × Nat))), v { d with heldZeros := z } = v d

namespace Dev.KeptByEnds

variable {β : Type} {v : Dev → β} (h : Dev.KeptByEnds v)
include h

theorem epochAdvance (d : Dev) (after : Nat) : v (d.epochAdvance after) = v d := by
  have advanced : v (d.epochTo (d.er.epoch + 1) after).2 = v d := by simp [Dev.epochTo, h.notice, h.onEr, h.stamp]
  unfold Dev.epochAdvance
  split
  · simp [h.send, h.stamp]
  · dsimp only
    split
    · exact (Dev.each_keeps v _ _ _ fun e m => h.send e _ _ _ _).trans advanced
    · exact advanced

theorem emptySlot (d : Dev) (s : Nat) : v (d.emptySlot s) = v d := by
  simp [Dev.emptySlot, Dev.onSlot, h.epochAdvance, h.erasesDone, h.onCx, h.stamp]

theorem unpin (d : Dev) (s : Nat) : v (d.unpin s) = v d := by
  have unpinned : v ((d.stamp 0xB).2.onSlot s fun x => { x with pins := x.pins - 1 }) = v d := (h.onCx _ _).trans (h.stamp ..)
  unfold Dev.unpin
  dsimp only
  split
  · exact (h.emptySlot ..).trans unpinned
  · exact unpinned

theorem dropDecoded (d : Dev) : v d.dropDecoded = v d := by
  unfold Dev.dropDecoded
  split
  · rfl
  · rw [h.onVol]
    refine Dev.each_keeps v _ _ _ fun e f => ?_
    split
    · exact h.giveBack ..
    · rfl

theorem endReads (d : Dev) (c : Nat) : v (d.endReads c) = v d := by
  unfold Dev.endReads
  dsimp only
  rw [h.reap, h.reviewHolds, h.dropDecoded, Dev.each_keeps v, h.onReads, h.onSh]
  · exact fun _ => rfl
  · intro e k
    split
    · exact Dev.each_keeps v _ _ _ fun e x => h.release ..
    · rfl

theorem failRecord (d : Dev) (c : Nat) (s : W16) (held : Bool) (d0 d1 : W64) (cat : Option Nat) (d2 : W32) :
    v (d.failRecord c s held d0 d1 cat d2) = v d := by
  unfold Dev.failRecord
  (repeat' split) <;> simp [h.note]

theorem releaseHandle (d : Dev) (c x : Nat) : v (d.releaseHandle c x) = v d := by
  simp only [Dev.releaseHandle]
  (repeat' split) <;> simp [h.release, h.note, h.onPools, h.stamp, h.onCtx]

theorem freeCtx (d : Dev) (c : Nat) : v (d.freeCtx c) = v d := (h.onEngine ..).trans (h.onCtx ..)

theorem complete (d : Dev) (c : Nat) (s : W16) (result : W64) (st : Stamp) : v (d.complete c s result st) = v d := by
  simp only [Dev.complete, h.freeCtx, Dev.releaseHandles, h.releaseHandle]
  split <;> simp [h.latch]

theorem endCmd (d : Dev) (c : Nat) (s : W16) (result : W64) : v (d.endCmd c s result) = v d := (h.complete ..).trans (h.stamp ..)

theorem fault (d : Dev) (c : Nat) (s : W16) (result : W64) : v (d.fault c s result) = v d := (h.endCmd ..).trans (h.failRecord ..)

theorem readLine (d : Dev) (c l : Nat) (ahead : Bool) : v (d.readLine c l ahead) = v d := by
  unfold Dev.readLine Dev.ask
  split <;> simp [h.onCs, h.send, h.stamp, h.onEngine]

theorem setWord (d : Dev) (c : Nat) (w : W64) : v (d.setWord c w) = v d := by
  simp [Dev.setWord, Dev.present, apply_ite v, h.fault, h.onCtx]

theorem fetch (d : Dev) (c : Nat) : v (d.fetch c) = v d := by
  simp only [Dev.fetch]
  (repeat' split) <;> simp [Dev.prefetch, apply_ite v, h.setWord, h.readLine, h.onCtx, h.onEngine]

theorem next (d : Dev) (c : Nat) : v (d.next c) = v d := by
  simp [Dev.next, Dev.goTo, apply_ite v, h.fault, h.fetch, h.onCtx]

theorem finish (d : Dev) (c : Nat) (s : W16) (out : Option W64) (d0 d1 : W64) (cs : Option Stamp) (cat : Option Nat) (d2 : W32) :
    v (d.finish c s out d0 d1 cs cat d2) = v d := by
  simp only [Dev.finish]
  (repeat' split) <;> simp [h.next, h.endCmd, h.complete, h.onCtx, h.failRecord]

theorem memWriteAt (d : Dev) (no : Nat) (remote : Option Nat) (rs : List (Nat × Nat)) (bs : List Byte) : v (d.memWriteAt no remote rs bs) = v d := by
  unfold Dev.memWriteAt
  split
  · exact h.onMemAt ..
  · rw [Dev.each_keeps v _ _ _ fun e r => h.send e _ _ _ _, h.stamp, h.onMemAt]

theorem zeroAt (d : Dev) (no : Nat) (remote : Option Nat) (rs : List (Nat × Nat)) : v (d.zeroAt no remote rs) = v d := by
  unfold Dev.zeroAt
  (repeat' split)
  · rfl
  · exact h.heldZeros ..
  · exact h.memWriteAt ..

theorem blockDone (d : Dev) (c k : Nat) (r : ReadOp) (off len : Nat) (b : BlockAt) : v (d.blockDone c k r off len b) = v d := by
  simp [Dev.blockDone, Dev.onRead, Dev.deliver, Dev.writeData, Dev.memWrite, apply_ite v, h.onCtx, h.count, h.memWriteAt]

theorem zeroRead (d : Dev) (c : Nat) : v (d.zeroRead c) = v d := by
  unfold Dev.zeroRead Dev.zeroData Dev.zeroRanges
  (repeat' split) <;> simp [h.zeroAt]

theorem refuseRead (d : Dev) (c : Nat) (s : W16) (d0 d1 : W64) (cat : Option Nat) (d2 : W32) : v (d.refuseRead c s d0 d1 cat d2) = v d := by
  unfold Dev.refuseRead Dev.when
  split
  · simp [apply_ite v, h.finish, h.endReads, h.unpin]
  · rfl

theorem failRead (d : Dev) (c : Nat) (s : W16) (d0 d1 : W64) (cat : Option Nat) (d2 : W32) : v (d.failRead c s d0 d1 cat d2) = v d :=
  (h.refuseRead ..).trans (h.zeroRead ..)

end Dev.KeptByEnds

end Sys2Proof.Machine
end

section
/-! The checks and blocks of a GET (R134, R135, R160, R161, R232): what reaches the destination, and where the read stands then. -/

namespace Sys2Proof.Machine

/-! ### What a command sees of host memory (R340) -/

theorem Dev.cmdOf_congr {d e : Dev} {c : Nat} (hx : (e.ctxs.get c).cmd = (d.ctxs.get c).cmd) (hc : e.cmds = d.cmds) : e.cmdOf c = d.cmdOf c := by
  have cmd : e.cmd = d.cmd := funext fun id => by simp only [Dev.cmd, hc]
  simp only [Dev.cmdOf, hx, cmd]

theorem Dev.memNo_congr {d e : Dev} {c : Nat} (h : e.cmdOf c = d.cmdOf c) : e.memNo c = d.memNo c := by
  simp only [Dev.memNo, Dev.remoteOf, Dev.portOfCtx, h]

/-- The host memories. -/
def Dev.hosts (d : Dev) : Table Byte 0 × Table Byte 0 × Table (Table Byte 0) Table.empty := (d.hostA, d.hostB, d.hostR)

theorem Dev.memAt_congr {d e : Dev} (h : e.hosts = d.hosts) (n : Nat) : e.memAt n = d.memAt n := by
  simp only [Dev.hosts, Prod.mk.injEq] at h
  obtain ⟨a, b, r⟩ := h
  have host : e.host = d.host := funext fun p => by cases p <;> assumption
  simp only [Dev.memAt, host, r]

theorem Dev.mem_congr {d e : Dev} {c : Nat} (hc : e.cmdOf c = d.cmdOf c) (h : e.hosts = d.hosts) : e.mem c = d.mem c := by
  simp only [Dev.mem, Dev.memNo_congr hc, Dev.memAt_congr h]

/-- A context that keeps its command sees the same host memory. -/
theorem Dev.mem_onCtx (d : Dev) (c : Nat) (f : Ctx → Ctx) (hf : ∀ x, (f x).cmd = x.cmd) : (d.onCtx c f).mem c = d.mem c :=
  Dev.mem_congr (Dev.cmdOf_congr (by simp [Dev.onCtx, hf]) rfl) rfl

/-- The contexts, the commands and the host memories: what the data of a context's command rests on. -/
def Dev.hostSide (d : Dev) : Table Ctx Ctx.reset × List Cmd × Table Byte 0 × Table Byte 0 × Table (Table Byte 0) Table.empty :=
  (d.ctxs, d.cmds, d.hosts)

theorem Dev.hostSide_kept : Dev.KeptByBuffers Dev.hostSide where
  stamp d u a := by simp [Dev.hostSide, Dev.hosts]
  setW1f _ _ _ _ _ _ := rfl
  count _ _ _ _ _ := rfl
  onEr _ _ _ := rfl
  onPools _ _ := rfl
  onIdx _ _ _ := rfl
  onCm _ _ := rfl
  onMi _ _ := rfl
  onCs _ _ := rfl

theorem Dev.hostSide_eq {d e : Dev} (h : e.hostSide = d.hostSide) : e.ctxs = d.ctxs ∧ e.cmds = d.cmds ∧ e.hosts = d.hosts := by
  simpa only [Dev.hostSide, Prod.mk.injEq] using h

/-- Devices that agree on these agree on what a command sees. -/
theorem Dev.sees_of_hostSide {d e : Dev} (h : e.hostSide = d.hostSide) (c : Nat) :
    e.mem c = d.mem c ∧ e.dataWalk c = d.dataWalk c ∧ e.flightOf c = d.flightOf c := by
  obtain ⟨ctxs, cmds, hosts⟩ := Dev.hostSide_eq h
  have cmdOf : e.cmdOf c = d.cmdOf c := Dev.cmdOf_congr (by rw [ctxs]) cmds
  exact ⟨Dev.mem_congr cmdOf hosts, by simp only [Dev.dataWalk, ctxs, cmdOf], by simp only [Dev.flightOf, ctxs]⟩

/-! ### Delivery (R232) -/

theorem Dev.memAt_onMemAt (d : Dev) (n : Nat) (f : Table Byte 0 → Table Byte 0) : (d.onMemAt n f).memAt n = f (d.memAt n) := by
  by_cases h : n < 2
  · simp only [Dev.memAt, Dev.onMemAt, if_pos h]
    cases portOf n <;> rfl
  · simp only [Dev.memAt, Dev.onMemAt, if_neg h, Table.get_modify_self]

theorem Dev.onMemAt_ctxs (d : Dev) (n : Nat) (f : Table Byte 0 → Table Byte 0) : (d.onMemAt n f).ctxs = d.ctxs :=
  d.onMemAt_keeps Dev.ctxs n f fun _ _ _ => rfl

theorem Dev.onMemAt_cmds (d : Dev) (n : Nat) (f : Table Byte 0 → Table Byte 0) : (d.onMemAt n f).cmds = d.cmds :=
  d.onMemAt_keeps Dev.cmds n f fun _ _ _ => rfl

/-- Of a write to host memory only the bytes written stay: the messages of a forwarded command change nothing there. -/
theorem Dev.memWriteAt_hostSide (d : Dev) (no : Nat) (remote : Option Nat) (rs : List (Nat × Nat)) (bs : List Byte) :
    (d.memWriteAt no remote rs bs).hostSide = (d.onMemAt no fun m => writeRanges m rs bs).hostSide := by
  unfold Dev.memWriteAt
  split
  · rfl
  · exact (Dev.each_keeps Dev.hostSide _ _ _ fun e r => Dev.hostSide_kept.send ..).trans (Dev.hostSide_kept.stamp ..)

theorem Dev.memWrite_mem (d : Dev) (c : Nat) (rs : List (Nat × Nat)) (bs : List Byte) : (d.memWrite c rs bs).mem c = writeRanges (d.mem c) rs bs := by
  have cmdOf : (d.onMemAt (d.memNo c) fun m => writeRanges m rs bs).cmdOf c = d.cmdOf c :=
    Dev.cmdOf_congr (by rw [Dev.onMemAt_ctxs]) (Dev.onMemAt_cmds ..)
  rw [Dev.memWrite, (Dev.sees_of_hostSide (d.memWriteAt_hostSide _ _ rs bs) c).1, Dev.mem, Dev.memNo_congr cmdOf, Dev.memAt_onMemAt]
  rfl

theorem Dev.memWrite_ctxs (d : Dev) (c : Nat) (rs : List (Nat × Nat)) (bs : List Byte) : (d.memWrite c rs bs).ctxs = d.ctxs :=
  (Dev.hostSide_eq (d.memWriteAt_hostSide _ _ rs bs)).1.trans (Dev.onMemAt_ctxs ..)

theorem Dev.deliver_ctxs (d : Dev) (c : Nat) (r : ReadOp) (off len : Nat) (b : BlockAt) : (d.deliver c r off len b).ctxs = d.ctxs := by
  unfold Dev.deliver
  dsimp only
  split
  · rfl
  · exact d.memWrite_ctxs ..

/-- What a delivery writes rests on the command's host memory and its list alone. -/
theorem Dev.deliver_mem_congr {d e : Dev} (h : e.hostSide = d.hostSide) (c : Nat) (r : ReadOp) (off len : Nat) (b : BlockAt) :
    (e.deliver c r off len b).mem c = (d.deliver c r off len b).mem c := by
  obtain ⟨mem, walk, -⟩ := Dev.sees_of_hostSide h c
  unfold Dev.deliver
  dsimp only
  split
  · exact mem
  · simp only [Dev.writeData, Dev.memWrite_mem, mem, walk]

/-! ### Where a read stands -/

/-- The context's read under way. -/
def Dev.reads (d : Dev) (c : Nat) (r : ReadOp) : Prop := (d.ctxs.get c).run = .flight (.read r)

theorem Dev.reads_of_hostSide {d e : Dev} {c : Nat} {r : ReadOp} (h : e.hostSide = d.hostSide) (hr : d.reads c r) : e.reads c r := by
  rwa [Dev.reads, (Dev.hostSide_eq h).1]

theorem Dev.onRead_reads {d : Dev} {c : Nat} {r : ReadOp} (f : ReadOp → ReadOp) (h : d.reads c r) : (d.onRead c f).reads c (f r) := by
  simp only [Dev.reads, Dev.onRead, Dev.onCtx, Table.get_modify_self, show (d.ctxs.get c).run = _ from h]

theorem Dev.onRead_mem (d : Dev) (c : Nat) (f : ReadOp → ReadOp) : (d.onRead c f).mem c = d.mem c :=
  d.mem_onCtx c _ fun x => by split <;> rfl

/-- A read with a block done: the block is no longer to be decoded or retried (R232), and a raw body is noted (R139). -/
def ReadOp.passed (r : ReadOp) (k : Nat) (b : BlockAt) : ReadOp :=
  { r with rawSeen := r.rawSeen || b.raw, todo := r.todo.filter (fun x => decide (x ≠ k)), retry := r.retry.filter (fun x => decide (x.1 ≠ k)) }

/-- What the context's command sees of host memory, and its read under way. -/
def Dev.readStands (d : Dev) (c : Nat) (m : Table Byte 0) (r : ReadOp) : Prop := d.mem c = m ∧ d.reads c r

theorem Dev.readStands_of_hostSide {d e : Dev} {c : Nat} {m : Table Byte 0} {r : ReadOp} (h : e.hostSide = d.hostSide)
    (hs : d.readStands c m r) : e.readStands c m r :=
  ⟨((Dev.sees_of_hostSide h c).1).trans hs.1, Dev.reads_of_hostSide h hs.2⟩

theorem Dev.onRead_readStands {d : Dev} {c : Nat} {m : Table Byte 0} {r : ReadOp} (f : ReadOp → ReadOp) (h : d.readStands c m r) :
    (d.onRead c f).readStands c m (f r) :=
  ⟨(d.onRead_mem c f).trans h.1, Dev.onRead_reads f h.2⟩

/-- A block done is delivered as from any device of the same host memory. -/
theorem Dev.blockDone_readStands {d e : Dev} {c : Nat} {r : ReadOp} (h : d.reads c r) (he : e.hostSide = d.hostSide) (k off len : Nat) (b : BlockAt) :
    (e.blockDone c k r off len b).readStands c ((d.deliver c r off len b).mem c) (r.passed k b) := by
  have still : (((e.deliver c r off len b).count 0x30 0 6 1).onCtx c (fun x => { x with info := x.info || b.raw })).reads c r := by
    simp only [Dev.reads, Dev.onCtx, Table.get_modify_self, Dev.count_ctxs, Dev.deliver_ctxs]
    exact Dev.reads_of_hostSide he h
  unfold Dev.blockDone
  refine ⟨?_, Dev.onRead_reads _ still⟩
  rw [Dev.onRead_mem, Dev.mem_onCtx _ c _ (by exact fun _ => rfl), ← Dev.deliver_mem_congr he]
  exact (Dev.sees_of_hostSide (Dev.hostSide_kept.count ..) c).1

/-- Work on a block ends: its buffer goes, and frames that wait take the lane. -/
def Dev.laneFree (d : Dev) (key : Nat) : Dev := (d.giveBack key).feedVerify

theorem Dev.laneFree_hostSide (d : Dev) (key : Nat) : (d.laneFree key).hostSide = d.hostSide :=
  (Dev.hostSide_kept.feedVerify _).trans (Dev.hostSide_kept.giveBack ..)

/-! ### A GET that fails (R74, R161) -/

theorem Dev.zeroRead_ctxs (d : Dev) (c : Nat) : (d.zeroRead c).ctxs = d.ctxs := by
  have zeroed : ∀ no remote rs, (d.zeroAt no remote rs).ctxs = d.ctxs := fun no remote rs => by
    unfold Dev.zeroAt
    (repeat' split)
    · rfl
    · rfl
    · exact (Dev.hostSide_eq (d.memWriteAt_hostSide _ _ _ _)).1.trans (Dev.onMemAt_ctxs ..)
  unfold Dev.zeroRead Dev.zeroData Dev.zeroRanges
  (repeat' split) <;> simp only [zeroed]

/-- The reads that are registered. -/
theorem Dev.idxReads_kept : Dev.KeptByBuffers (fun d => d.idx.reads) where
  stamp d u a := by simp
  setW1f _ _ _ _ _ _ := rfl
  count _ _ _ _ _ := rfl
  onEr _ _ _ := rfl
  onPools _ _ := rfl
  onIdx _ _ h := h _
  onCm _ _ := rfl
  onMi _ _ := rfl
  onCs _ _ := rfl

theorem Dev.dropDecoded_reads (d : Dev) : d.dropDecoded.idx.reads = d.idx.reads := by
  unfold Dev.dropDecoded
  split
  · rfl
  · rw [Dev.onVol_idx]
    refine Dev.each_keeps (fun d => d.idx.reads) _ _ _ fun e f => ?_
    split
    · exact Dev.idxReads_kept.giveBack ..
    · rfl

/-- No read of the context stays registered. -/
theorem Dev.endReads_reads (d : Dev) (c : Nat) : ∀ y ∈ (d.endReads c).idx.reads, y.ctx ≠ c := by
  have ended : (d.endReads c).idx.reads = d.idx.reads.filter (fun r => decide (r.ctx ≠ c)) := by
    unfold Dev.endReads
    dsimp only
    rw [Dev.idxReads_kept.reap, Dev.idxReads_kept.reviewHolds, Dev.dropDecoded_reads, Dev.each_keeps (fun d => d.idx.reads)]
    · rfl
    · intro e k
      split
      · exact Dev.each_keeps (fun d => d.idx.reads) _ _ _ fun e x => Dev.idxReads_kept.release ..
      · rfl
  intro y hy
  rw [ended, List.mem_filter] at hy
  simpa using hy.2

/-- A GET that fails under way finishes with 0 in gd, its reads no longer registered. -/
theorem Dev.failRead_finishes {d : Dev} {c : Nat} {r : ReadOp} (h : d.reads c r) (hop : r.opcode = 0x42) (st : W16) (x y : W64) :
    ∃ d1 : Dev, d.failRead c st x y = d1.finish c st (some 0) x y ∧ ∀ z ∈ d1.idx.reads, z.ctx ≠ c := by
  have still : ((d.zeroRead c).ctxs.get c).run = .flight (.read r) := by rw [Dev.zeroRead_ctxs]; exact h
  exact ⟨((d.zeroRead c).unpin r.slot).endReads c, by simp [Dev.failRead, Dev.refuseRead, still, hop, Dev.when], Dev.endReads_reads _ _⟩

/-! ### RESTORE_RECORD_CHECK (R160, R161) -/

/-- A failed check, counted in a field of CX_AUTHFAIL, ends the GET. -/
theorem recordCheck_finishes {s : State} {c k : Nat} {r : ReadOp} {ok : Bool} {st : W16} {hi lo : Nat} (h : List Byte) (hr : s.dev.reads c r)
    (hop : r.opcode = 0x42)
    (he : exec (.restoreRecordCheck c k ok) s = .next ⟨((s.dev.stamp 0xB).2.bumpW1 Reg.CX_AUTHFAIL 0 hi lo).failRead c st (toW64 r.slot)
      (toW64 (beNat (sliceBytes h 16 8))), s.pending⟩) :
    Finishes (.restoreRecordCheck c k ok) s c st (some 0) (fun d => ∀ y ∈ d.idx.reads, y.ctx ≠ c) := by
  have still : ((s.dev.stamp 0xB).2.bumpW1 Reg.CX_AUTHFAIL 0 hi lo).reads c r := by simpa [Dev.reads] using hr
  obtain ⟨d1, fails, ended⟩ := Dev.failRead_finishes still hop st (toW64 r.slot) (toW64 (beNat (sliceBytes h 16 8)))
  exact ⟨_, he, d1, _, _, none, none, 0, fails, ended⟩

/-- A record of a GET that has not been checked. -/
theorem unchecked {r : ReadOp} {k : Nat} (hop : r.opcode = 0x42) (hn : r.recsOk.contains k = false) :
    ¬(r.opcode ≠ 0x42 ∨ r.recsOk.contains k = true) := by simp only [hop, hn, ne_eq, not_true, Bool.false_eq_true, or_self, not_false_eq_true]

section RecordCheck
variable {s : State} {c k : Nat} {r : ReadOp} {e : DirEntry} {off len : Nat} {h : List Byte} (hw : s.dev.working = true) (hh : s.dev.er.halted = false)
  (hr : s.dev.reads c r) (hop : r.opcode = 0x42) (hx : r.extent k = some (e, off, len)) (hn : r.recsOk.contains k = false)
  (hres : s.dev.restored e.recOff 64 = some h)
include hw hh hr hop hx hn hres

theorem recordCheck_badHeader (bad : headerOk h = false) (ok : Bool) :
    Finishes (.restoreRecordCheck c k ok) s c St.authFailed (some 0) (fun d => ∀ y ∈ d.idx.reads, y.ctx ≠ c) := by
  refine recordCheck_finishes (hi := 15) (lo := 0) h hr hop ((State.flow_of _ hw hh).trans ?_)
  simp only [State.onDev, Dev.flightOf_of_run hr, hx, if_neg (unchecked hop hn), hres, bad, Bool.not_false, if_true]

theorem recordCheck_otherKey (good : headerOk h = true) (other : toW64 (beNat (sliceBytes h 16 8)) ≠ (s.dev.slot r.slot).keyId) (ok : Bool) :
    Finishes (.restoreRecordCheck c k ok) s c St.keyMismatch (some 0) (fun d => ∀ y ∈ d.idx.reads, y.ctx ≠ c) := by
  refine recordCheck_finishes (hi := 31) (lo := 16) h hr hop ((State.flow_of _ hw hh).trans ?_)
  simp only [State.onDev, Dev.flightOf_of_run hr, hx, if_neg (unchecked hop hn), hres, good, if_pos other, Bool.not_true, Bool.false_eq_true, if_false]

variable {body : List Byte} (good : headerOk h = true) (key : toW64 (beNat (sliceBytes h 16 8)) = (s.dev.slot r.slot).keyId)
  (hbody : s.dev.recordAt e.recOff = some body)
include good key hbody

theorem recordCheck_badTag : Finishes (.restoreRecordCheck c k false) s c St.authFailed (some 0) (fun d => ∀ y ∈ d.idx.reads, y.ctx ≠ c) := by
  refine recordCheck_finishes (hi := 15) (lo := 0) h hr hop ((State.flow_of _ hw hh).trans ?_)
  simp only [State.onDev, Dev.flightOf_of_run hr, hx, if_neg (unchecked hop hn), hres, good, key, hbody, ne_eq, not_true, if_false, Bool.not_true,
    Bool.false_and, Bool.false_eq_true]

theorem recordCheck_passes (opens : (openBytes (s.dev.slot r.slot).key body).isSome = true) :
    Does (.restoreRecordCheck c k true) s (fun d => d.vol = s.dev.vol ∧ d.idx = s.dev.idx ∧
      d.reads c { r with recsOk := r.recsOk ++ [k], todo := r.todo ++ (s.dev.blocksWanted r k).filter (fun j => !r.ahead.contains j) }) := by
  refine Does.of_whenDev (g := fun d => d.working && !d.er.halted) rfl (by simp [hw, hh]) ?_
  have still : (s.dev.stamp 0xB).2.reads c r := by simpa [Dev.reads] using hr
  simp only [Dev.flightOf_of_run hr, hx, if_neg (unchecked hop hn), hres, good, key, hbody, opens, ne_eq, not_true, if_false, Bool.not_true,
    Bool.false_eq_true, Bool.and_self, if_true]
  exact ⟨by simp [Dev.onRead], by simp [Dev.onRead], Dev.onRead_reads _ still⟩

end RecordCheck

/-! ### A mismatch that is recorded (R131, R290) -/

/-- Whether the device has failed, and the recoveries pending. -/
def Dev.recoveries (d : Dev) : Bool × List Pend := (d.er.failed, d.er.pend)

theorem Dev.recoveries_kept : Dev.KeptByEnds Dev.recoveries where
  stamp d u a := by simp [Dev.recoveries]
  setW1f _ _ _ _ _ _ := rfl
  count _ _ _ _ _ := rfl
  onEr d f hf := by simp [Dev.recoveries, hf]
  onPools _ _ := rfl
  onIdx _ _ _ := rfl
  onCm _ _ := rfl
  onMi _ _ := rfl
  onCs _ _ := rfl
  onCtx _ _ _ := rfl
  erasesDone _ _ := rfl
  onEngine _ _ _ := rfl
  latch _ _ _ := rfl
  notice _ _ _ _ := rfl
  onReads _ _ := rfl
  onCx _ _ := rfl
  onVol _ _ := rfl
  onSh _ _ _ := rfl
  onMemAt d n f := d.onMemAt_keeps _ n f fun _ _ _ => rfl
  heldZeros _ _ := rfl

theorem Dev.log_hostSide (d : Dev) (r : Report) (b : Bool) : (d.log r b).2.2.hostSide = d.hostSide := by
  have := Dev.hostSide_kept
  simp [Dev.log, apply_ite Dev.hostSide, this.setW1, this.logRoom, this.stamp, show ∀ e f, Dev.hostSide (Dev.onEr e f) = e.hostSide from fun _ _ => rfl]

theorem Dev.armSnap_hostSide (d : Dev) (source t : Nat) : (d.armSnap source t).hostSide = d.hostSide := by
  simp [Dev.armSnap, Dev.hostSide, Dev.hosts]

theorem Dev.fence_hostSide (d : Dev) (u : UnitId) : (d.fence u).hostSide = d.hostSide := by
  unfold Dev.fence
  split <;> rfl

theorem Dev.enterPend_hostSide (d : Dev) (r : Report) (rclass : EClass) : (d.enterPend r rclass).2.hostSide = d.hostSide := by
  have onEr : ∀ (e : Dev) f, (e.onEr f).hostSide = e.hostSide := fun _ _ => rfl
  have notice : ∀ (e : Dev) k x t, (e.notice k x t).hostSide = e.hostSide := fun _ _ _ _ => rfl
  simp [Dev.enterPend, apply_ite Dev.hostSide, Dev.log_hostSide, Dev.armSnap_hostSide, Dev.fence_hostSide, onEr, notice]

/-- With nothing pending an error only enters the list. -/
theorem Dev.raiseHigh_hostSide {d : Dev} (h : d.er.pend = []) (r : Report) : (d.raiseHigh r).hostSide = d.hostSide := by
  unfold Dev.raiseHigh
  simp only [h, List.find?_nil, List.length_nil, if_neg (show ¬ 16 ≤ 0 by decide)]
  split
  · exact Dev.hostSide_kept.note ..
  · exact Dev.enterPend_hostSide ..

theorem Dev.mismatch_hostSide {d : Dev} (h : d.er.pend = []) (key comp dec off : Nat) : (d.mismatch key comp dec off).hostSide = d.hostSide := by
  unfold Dev.mismatch
  dsimp only
  generalize (if key < 32 then (⟨9, key⟩ : UnitId) else ⟨0xA, key - 32⟩) = u
  split
  · exact (Dev.hostSide_kept.restartLane ..).trans (Dev.raiseHigh_hostSide (by exact h) _)
  · rfl

/-! ### RESTORE_BLOCK_DECODE and RESTORE_BLOCK_RETRY (R134, R135) -/

/-- Work on a block in its lane, the buffer `key` granted. -/
def Dev.laneStart (d : Dev) (lane : Nat) : Dev := (d.stamp 0xA).2.countStart (lane / 8) false

section Blocks
variable {s : State} {c k lane key : Nat} {d1 : Dev} {r : ReadOp} {off len : Nat} {b : BlockAt} (hw : s.dev.working = true)
  (hh : s.dev.er.halted = false) (hr : s.dev.reads c r) (hop : r.opcode = 0x42) (hm : s.dev.mayRequest c = true)
  (hp : s.dev.placeWalked c r off len b = true) (hb : s.dev.laneBuf c k b = (some key, d1))

/-- A part of the device that buffers keep is, once the lane has its buffer, as it was. -/
theorem laneStart_keeps {β : Type} {v : Dev → β} (h : Dev.KeptByBuffers v) (hb : s.dev.laneBuf c k b = (some key, d1)) :
    v (d1.laneStart lane) = v s.dev := by
  have granted : d1 = (s.dev.laneBuf c k b).2 := by rw [hb]
  rw [Dev.laneStart, h.countStart, h.stamp, granted]
  exact h.grab ..

section Decode
variable (hl : s.dev.restoreLane = some lane)
include hw hh hr hop hm hp hb hl

theorem blockDecode_delivers {e : DirEntry} (htodo : r.todo.contains k = true) (hrb : s.dev.readBlock r k = some (e, off, len, b))
    (good : b.ok e.obj = true) :
    Does (.restoreBlockDecode c k lane true) s (fun d => d.readStands c ((s.dev.deliver c r off len b).mem c) (r.passed k b)) := by
  refine Does.of_whenDev (g := fun d => d.working && !d.er.halted) rfl (by simp [hw, hh]) ?_
  have is42 : (r.opcode != 0x42) = false := by simp [hop]
  simp only [Dev.flightOf_of_run hr, hl, hm, is42, htodo, hrb, hp, hb, good, bne_self_eq_false, Bool.not_true, Bool.or_self, Bool.false_eq_true, if_false,
    Bool.and_self, if_true]
  exact Dev.readStands_of_hostSide (Dev.laneFree_hostSide ..) (Dev.blockDone_readStands hr (laneStart_keeps Dev.hostSide_kept hb) ..)

theorem blockDecode_fails {e : DirEntry} (htodo : r.todo.contains k = true) (hrb : s.dev.readBlock r k = some (e, off, len, b)) :
    Does (.restoreBlockDecode c k lane false) s (fun d => d.readStands c (s.dev.mem c)
      { r with retry := r.retry ++ [(k, lane)], todo := r.todo.filter (fun y => decide (y ≠ k)) }) := by
  refine Does.of_whenDev (g := fun d => d.working && !d.er.halted) rfl (by simp [hw, hh]) ?_
  have is42 : (r.opcode != 0x42) = false := by simp [hop]
  simp only [Dev.flightOf_of_run hr, hl, hm, is42, htodo, hrb, hp, hb, bne_self_eq_false, Bool.not_true, Bool.or_self, Bool.false_eq_true, if_false,
    Bool.false_and]
  have captured := (Dev.hostSide_kept.captureVfail (d1.laneStart lane) true 0 lane 0x7FFFFF).trans (laneStart_keeps Dev.hostSide_kept hb)
  exact Dev.readStands_of_hostSide (Dev.laneFree_hostSide ..) (Dev.onRead_readStands _ (Dev.readStands_of_hostSide captured ⟨rfl, hr⟩))

theorem blockDecode_ahead (htodo : r.todo.contains k = false) (hba : s.dev.blockAhead r k = some (off, len, b)) :
    Does (.restoreBlockDecode c k lane true) s (fun d => d.readStands c ((s.dev.deliver c r off len b).mem c)
      { r.passed k b with ahead := r.ahead ++ [k] }) := by
  refine Does.of_whenDev (g := fun d => d.working && !d.er.halted) rfl (by simp [hw, hh]) ?_
  have is42 : (r.opcode != 0x42) = false := by simp [hop]
  simp only [Dev.flightOf_of_run hr, hl, hm, is42, htodo, hba, Dev.decodeAhead, hp, hb, bne_self_eq_false, Bool.not_true, Bool.or_self, Bool.false_eq_true,
    if_false, Bool.not_false, if_true]
  exact Dev.readStands_of_hostSide (Dev.laneFree_hostSide ..)
    (Dev.onRead_readStands _ (Dev.blockDone_readStands hr (laneStart_keeps Dev.hostSide_kept hb) ..))

end Decode

section Retry
variable {first : Nat} {e : DirEntry} (hf : r.retry.find? (fun y => y.1 == k) = some (k, first)) (hl : s.dev.retryLane first = some lane)
  (hrb : s.dev.readBlock r k = some (e, off, len, b))
include hw hh hr hm hp hb hf hl hrb

theorem blockRetry_delivers (good : b.ok e.obj = true) (hpend : s.dev.er.pend = []) :
    Does (.restoreBlockRetry c k lane true) s (fun d => d.readStands c ((s.dev.deliver c r off len b).mem c) (r.passed k b)) := by
  refine Does.of_whenDev (g := fun d => d.working && !d.er.halted) rfl (by simp [hw, hh]) ?_
  simp only [Dev.flightOf_of_run hr, hl, hm, hf, hrb, hp, hb, good, bne_self_eq_false, Bool.not_true, Bool.or_self, Bool.false_eq_true, if_false,
    Bool.and_self, if_true]
  have started := (Dev.hostSide_kept.count (d1.laneStart lane) 0x30 0 7 1).trans (laneStart_keeps Dev.hostSide_kept hb)
  have none_pending : ∀ q, (((((d1.laneStart lane).count 0x30 0 7 1).blockDone c k r off len b).note q)).er.pend = [] := fun q => by
    have kept := Dev.recoveries_kept
    have same := (kept.note _ q).trans ((kept.blockDone _ c k r off len b).trans ((kept.count (d1.laneStart lane) 0x30 0 7 1).trans
      (laneStart_keeps kept.toKeptByBuffers hb)))
    exact (congrArg Prod.snd same).trans hpend
  exact Dev.readStands_of_hostSide ((Dev.laneFree_hostSide ..).trans ((Dev.mismatch_hostSide (none_pending _) ..).trans (Dev.hostSide_kept.note ..)))
    (Dev.blockDone_readStands hr started ..)

include hop in
theorem blockRetry_fails :
    Does (.restoreBlockRetry c k lane false) s (fun d => ∃ (d2 : Dev) (x y : W64),
      d = ((d2.finish c St.frameInvalid (some 0) x y).giveBack key).feedVerify ∧ ∀ z ∈ d2.idx.reads, z.ctx ≠ c) := by
  refine Does.of_whenDev (g := fun d => d.working && !d.er.halted) rfl (by simp [hw, hh]) ?_
  simp only [Dev.flightOf_of_run hr, hl, hm, hf, hrb, hp, hb, bne_self_eq_false, Bool.not_true, Bool.or_self, Bool.false_eq_true, if_false,
    Bool.false_and]
  have still : ((d1.laneStart lane).count 0x30 0 7 1).reads c r :=
    Dev.reads_of_hostSide ((Dev.hostSide_kept.count ..).trans (laneStart_keeps Dev.hostSide_kept hb)) hr
  obtain ⟨d2, fails, ended⟩ := Dev.failRead_finishes still hop St.frameInvalid (laneD0 0 lane) 0x7FFFFF
  exact ⟨d2, _, _, congrArg (fun d => (Dev.giveBack d key).feedVerify) fails, ended⟩

end Retry

end Blocks

end Sys2Proof.Machine

open Sys2Proof Sys2Proof.Machine

/-- Settles O38: each check, decode and retry goes one way, and buffers, lanes, counters and events leave the host side as it is. -/
theorem getChecksAndDecodes : Obligations.GetChecksAndDecodes := by
  intro c k s r hw hh hr hop
  dsimp only
  refine ⟨fun e off len h hx hn hres => ⟨fun body good key hbody => ⟨?_, ?_⟩, ?_, ?_⟩, fun lane key d1 hm => ⟨?_, ?_, ?_⟩⟩
  · exact recordCheck_passes hw hh hr hop hx hn hres good key hbody
  · exact recordCheck_badTag hw hh hr hop hx hn hres good key hbody
  · exact recordCheck_badHeader hw hh hr hop hx hn hres
  · exact recordCheck_otherKey hw hh hr hop hx hn hres
  · exact fun e off len b htodo hl hrb hp hb =>
      ⟨blockDecode_delivers hw hh hr hop hm hp hb hl htodo hrb, blockDecode_fails hw hh hr hop hm hp hb hl htodo hrb⟩
  · exact fun off len b htodo hl hba hp hb => blockDecode_ahead hw hh hr hop hm hp hb hl htodo hba
  · exact fun first e off len b hf hl hrb hp hb =>
      ⟨blockRetry_delivers hw hh hr hm hp hb hf hl hrb, blockRetry_fails hw hh hr hop hm hp hb hf hl hrb⟩

end

section
/-! What an error leaves unchanged (R281, R287 to R291), and the halts of the housekeeping sequencer (R13, R326, R327). -/

namespace Sys2Proof.Machine

/-- A part of the device that no record of an error and no halt changes, the transport engine's state aside: it is apart from stamps, the W1C fields,
the error log, the notices, the commands and contexts, the links, host memory, start-up, the fuses, the snapshot and its pins. -/
structure Dev.KeptByRecords {β : Type} (v : Dev → β) : Prop where
  stamp : ∀ (d : Dev) (u a : Nat), v (d.stamp u a).2 = v d
  draws : ∀ (d : Dev) (n : Nat), v { d with draws := n } = v d
  setW1f : ∀ (d : Dev) (a bank hi lo x : Nat), v (d.setW1f a bank hi lo x) = v d
  onEr : ∀ (d : Dev) (f : Errors → Errors), v (d.onEr f) = v d
  notice : ∀ (d : Dev) (k : NoticeKind) (r : W64) (s : Stamp), v (d.notice k r s) = v d
  latch : ∀ (d : Dev) (id : Nat) (k : Completion), v (d.latch id k) = v d
  onCtx : ∀ (d : Dev) (c : Nat) (f : Ctx → Ctx), v (d.onCtx c f) = v d
  onLink : ∀ (d : Dev) (t : Nat) (f : Link → Link), v (d.onLink t f) = v d
  onMemAt : ∀ (d : Dev) (n : Nat) (f : Table Byte 0 → Table Byte 0), v (d.onMemAt n f) = v d
  onBoot : ∀ (d : Dev) (f : Boot → Boot), v (d.onBoot f) = v d
  onFu : ∀ (d : Dev) (f : Fuses → Fuses), v (d.onFu f) = v d
  onSn : ∀ (d : Dev) (f : Snap → Snap), v (d.onSn f) = v d
  pins : ∀ (d : Dev) (p : Pins), v { d with pins := p } = v d

namespace Dev.KeptByRecords

variable {β : Type} {v : Dev → β} (h : Dev.KeptByRecords v)
include h

theorem bumpW1 (d : Dev) (a bank hi lo : Nat) : v (d.bumpW1 a bank hi lo) = v d := h.setW1f ..

theorem setW1 (d : Dev) (a bank bit : Nat) : v (d.setW1 a bank bit) = v d := h.setW1f ..

theorem logRoom (d : Dev) : v d.logRoom = v d := by
  unfold Dev.logRoom
  split
  · simp [h.bumpW1, h.onEr]
  · rfl

theorem log (d : Dev) (r : Report) (b : Bool) : v (d.log r b).2.2 = v d := by
  simp [Dev.log, apply_ite v, h.onEr, h.setW1, h.logRoom, h.stamp]

theorem note (d : Dev) (r : Report) : v (d.note r) = v d := h.log ..

theorem fence (d : Dev) (u : UnitId) : v (d.fence u) = v d := by
  unfold Dev.fence
  split
  · rfl
  · exact h.onEr ..

theorem armSnap (d : Dev) (source t : Nat) : v (d.armSnap source t) = v d := (h.pins _ _).trans ((h.onSn _ _).trans (h.stamp ..))

theorem burnEvent (d : Dev) (cause detail : Nat) : v (d.burnEvent cause detail) = v d := by
  unfold Dev.burnEvent
  split
  · exact h.note ..
  · exact (h.onFu _ _).trans (h.stamp ..)

theorem loss (d : Dev) (cause member seq : Nat) (ws : List Write) : v (d.loss cause member seq ws) = v d := by
  unfold Dev.loss
  (repeat' split) <;> simp [h.notice, h.onEr, h.stamp]

theorem undefine (d : Dev) (m : Cmd) : v (d.undefine m) = v d := by
  unfold Dev.undefine
  dsimp only
  split
  · exact (h.draws _ _).trans (h.onMemAt ..)
  · rfl

theorem failAll (d : Dev) : v d.failAll = v d := Dev.each_keeps v _ _ _ fun _ _ => by rw [h.undefine, h.latch, h.stamp]

theorem stopContexts (d : Dev) : v d.stopContexts = v d := Dev.each_keeps v _ _ _ fun _ _ => by
  split
  · rfl
  · exact h.onCtx ..

theorem stopLinks (d : Dev) : v d.stopLinks = v d := Dev.each_keeps v _ _ _ fun _ _ => h.onLink ..

/-- What the device does on a C5 but for the transport. -/
theorem failDevice (d : Dev) (seq : Nat) : v (d.failDevice seq) = v { d with tc := d.tc.toSafe } := by
  unfold Dev.failDevice
  dsimp only
  split
  · rw [h.stopContexts, h.failAll, h.loss, h.onEr, h.stopLinks]
  · rw [h.onBoot, h.onEr, h.stopLinks]

theorem enterPend (d : Dev) (r : Report) (rclass : EClass) : v (d.enterPend r rclass).2 = v d := by
  simp [Dev.enterPend, apply_ite v, h.log, h.armSnap, h.fence, h.onEr, h.notice]

section Safe
variable (hs : ∀ d : Dev, v { d with tc := d.tc.toSafe } = v d)
include hs

theorem raiseC5 (d : Dev) (r : Report) (cause detail : Nat) (mute : Bool) : v (d.raiseC5 r cause detail mute) = v d := by
  simp [Dev.raiseC5, apply_ite v, h.burnEvent, h.notice, h.onEr, h.failDevice, hs, h.armSnap, h.log]

theorem raiseHigh (d : Dev) (r : Report) : v (d.raiseHigh r) = v d := by
  have full : v ((if r.cls = .c3 then (d.log r).2.2.fence r.unit else (d.log r).2.2).notice .errorRecord (toW64 (d.log r).1) (d.log r).2.1) = v d := by
    rw [h.notice, apply_ite v, h.fence, h.log, ite_self]
  unfold Dev.raiseHigh
  dsimp only
  split
  · exact h.note ..
  · split
    · split
      · exact h.raiseC5 hs ..
      · exact (h.enterPend ..).trans (h.onEr ..)
    · split
      · split
        · exact (h.raiseC5 hs ..).trans full
        · exact (h.enterPend ..).trans full
      · exact h.enterPend ..

theorem raise (d : Dev) (r : Report) : v (d.raise r) = v d := by
  unfold Dev.raise
  split <;> simp [h.note, h.raiseHigh hs, h.raiseC5 hs]

end Safe

end Dev.KeptByRecords

/-! ### What records and halts keep -/

/-- The sequencer, the mode, the registers and the cipher complex. -/
def Dev.seat (d : Dev) : Hk × Mode × Table (Option W32) none × Cipher := (d.hk, d.mode, d.regs, d.cx)

theorem Dev.seat_kept : Dev.KeptByRecords Dev.seat where
  stamp d u a := by simp [Dev.seat]
  draws _ _ := rfl
  setW1f _ _ _ _ _ _ := rfl
  onEr _ _ := rfl
  notice _ _ _ _ := rfl
  latch _ _ _ := rfl
  onCtx _ _ _ := rfl
  onLink _ _ _ := rfl
  onMemAt d n f := d.onMemAt_keeps _ n f fun _ _ _ => rfl
  onBoot _ _ := rfl
  onFu _ _ := rfl
  onSn _ _ := rfl
  pins _ _ := rfl

theorem Dev.tc_kept : Dev.KeptByRecords Dev.tc where
  stamp d u a := by simp
  draws _ _ := rfl
  setW1f _ _ _ _ _ _ := rfl
  onEr _ _ := rfl
  notice _ _ _ _ := rfl
  latch _ _ _ := rfl
  onCtx _ _ _ := rfl
  onLink _ _ _ := rfl
  onMemAt d n f := d.onMemAt_keeps _ n f fun _ _ _ => rfl
  onBoot _ _ := rfl
  onFu _ _ := rfl
  onSn _ _ := rfl
  pins _ _ := rfl

theorem Dev.seat_eq {d e : Dev} (h : e.seat = d.seat) : e.hk = d.hk ∧ e.mode = d.mode ∧ e.regs = d.regs ∧ e.cx = d.cx := by
  simpa only [Dev.seat, Prod.mk.injEq] using h

theorem Dev.raise_seat (d : Dev) (r : Report) : (d.raise r).seat = d.seat := Dev.seat_kept.raise (fun _ => rfl) ..

theorem Dev.raiseC5_seat (d : Dev) (r : Report) (cause detail : Nat) (mute : Bool) : (d.raiseC5 r cause detail mute).seat = d.seat :=
  Dev.seat_kept.raiseC5 (fun _ => rfl) ..

theorem Dev.note_seat (d : Dev) (r : Report) : (d.note r).seat = d.seat := Dev.seat_kept.note ..

/-- A C5 of a device that has not failed takes the transport to SAFE (R289). -/
theorem Dev.raiseC5_tc {d : Dev} (hf : d.er.failed = false) (r : Report) (cause detail : Nat) (mute : Bool) :
    (d.raiseC5 r cause detail mute).tc = d.tc.toSafe := by
  have kept := Dev.tc_kept
  simp [Dev.raiseC5, hf, apply_ite Dev.tc, kept.burnEvent, kept.failDevice, kept.armSnap]

/-- A C5 that stops the stamp reference leaves a device that posts nothing (R13). -/
theorem Dev.raiseC5_mute (d : Dev) (r : Report) (cause detail : Nat) : (d.raiseC5 r cause detail true).er.mute = true := by
  have burned : ∀ (e : Dev) x y, (e.burnEvent x y).er.mute = e.er.mute := fun e x y => by
    unfold Dev.burnEvent
    split
    · simp [Dev.c0, Dev.note, Dev.log, apply_ite Dev.er, Dev.logRoom, apply_ite Errors.mute]
    · simp
  simp [Dev.raiseC5, burned, apply_ite Dev.er]

/-- A device that has failed stays failed when an error is raised. -/
theorem Dev.raise_stays {d : Dev} (h : d.er.failed = true) (r : Report) : (d.raise r).er.failed = true := by
  unfold Dev.raise Dev.raiseHigh
  split <;> simp [h, Dev.raiseC5_failed]

/-! ### Burns and links at a halt -/

theorem Dev.abandonBurn_burn (d : Dev) : d.abandonBurn.fu.burn = none := by
  unfold Dev.abandonBurn
  split
  · assumption
  · dsimp only
    split <;> rfl

theorem Dev.abandonBurn_er (d : Dev) : d.abandonBurn.er = d.er := by
  unfold Dev.abandonBurn
  split
  · rfl
  · dsimp only
    split <;> simp only [Dev.repairResult, Dev.burnResult, Dev.setW1f_er, Dev.onFu_er, Dev.burnPart]

theorem Dev.abandonBurn_tc (d : Dev) : d.abandonBurn.tc = d.tc := by
  unfold Dev.abandonBurn
  split
  · rfl
  · dsimp only
    split <;> simp only [Dev.repairResult, Dev.burnResult, Dev.setW1f_tc, Dev.onFu_tc, Dev.burnPart]

theorem Dev.stopLinks_er (d : Dev) : d.stopLinks.er = d.er := Dev.each_keeps Dev.er _ _ _ fun e t => e.onLink_er t _

theorem Dev.stopLinks_fu (d : Dev) : d.stopLinks.fu = d.fu := Dev.each_keeps Dev.fu _ _ _ fun e t => e.onLink_fu t _

theorem Dev.stopLinks_cx (d : Dev) : d.stopLinks.cx = d.cx := Dev.each_keeps Dev.cx _ _ _ fun e t => e.onLink_cx t _

/-- Where all links of a list are turned off, each of them is. -/
theorem Dev.offLinks_disabled (l : List Nat) (d : Dev) (t : Nat) (h : t ∈ l ∨ (d.links.get t).st = .disabled) :
    ((d.each l fun d t => d.onLink t fun x => x.off .disabled).links.get t).st = .disabled := by
  induction l generalizing d with
  | nil => simpa [Dev.each] using h
  | cons a l ih =>
    refine ih _ ?_
    by_cases ha : t = a
    · exact .inr (by simp [Dev.onLink, ha, Table.get_modify_self, Link.off])
    · simpa [Dev.onLink, Table.get_modify, ha] using h

theorem Dev.stopLinks_disabled (d : Dev) {t : Nat} (h : t < 16) : (d.stopLinks.links.get t).st = .disabled :=
  Dev.offLinks_disabled _ _ _ (.inl (List.mem_range.mpr h))

/-! ### The halts (R13, R326, R327) -/

theorem drainStop_halts {d : Dev} (hf : d.er.failed = false) :
    d.drainStop.er.failed = true ∧ d.drainStop.tc.st = .safe ∧ d.drainStop.fu.burn = none := by
  unfold Dev.drainStop
  refine ⟨?_, ?_, Dev.abandonBurn_burn _⟩
  · rw [Dev.abandonBurn_er, Dev.raiseC5_failed]
  · rw [Dev.abandonBurn_tc, Dev.raiseC5_tc hf]
    rfl

theorem Dev.tamper_cx (d : Dev) (source : Nat) (mute : Bool) : (d.tamper source mute).cx = d.zeroKeys.cx := by
  obtain ⟨-, -, -, cx⟩ := Dev.seat_eq (Dev.raiseC5_seat d.zeroKeys.startFill
    { cls := .c5, unit := hkUnit, cat := 0x0C, d0 := d.hk.detail, d1 := toW64 source } 5 source mute)
  rw [Dev.tamper, cx, Dev.startFill, Dev.onBoot_cx, Dev.onMi_cx]

theorem hardTrip_halts {s : State} (ha : s.dev.alive = true) (hb : s.dev.hk.tripBlanked = false) :
    Does .hardTrip s (fun d => d.er.failed = true ∧ d.hk.tripped = true ∧ d.tc.driveEn = false ∧ d.tc.brakeN = false ∧ d.alive = false ∧
      d.fu.burn = none) := by
  refine Does.of_whenDev (g := fun d => d.alive && !d.hk.tripBlanked) rfl (by simp [ha, hb]) ⟨?_, rfl, rfl, rfl, by simp [Dev.alive], ?_⟩
  · simp only [Dev.idleAll, Dev.onHk_er, Dev.onTc_er, Dev.onCs_er, Dev.stopLinks_er, Dev.abandonBurn_er, Dev.raiseC5_failed]
  · simp only [Dev.idleAll, Dev.onHk_fu, Dev.onTc_fu, Dev.onCs_fu, Dev.stopLinks_fu, Dev.abandonBurn_burn]

theorem refclkLoss_halts {s : State} (ha : s.dev.alive = true) :
    Does .refclkLoss s (fun d => d.er.failed = true ∧ d.clk.running = false ∧ d.cx.slots = Table.empty ∧ d.tc.driveEn = false ∧
      d.tc.brakeN = false ∧ d.er.mute = true ∧ ∀ t, t < 16 → (d.links.get t).st = .disabled) := by
  refine Does.of_whenDev (g := Dev.alive) rfl ha ?_
  generalize ht : s.dev.tamper 2 true = x
  have failed : x.er.failed = true := by rw [← ht, Dev.tamper, Dev.raiseC5_failed]
  have muted : x.er.mute = true := by rw [← ht, Dev.tamper, Dev.raiseC5_mute]
  have keys : x.cx.slots = Table.empty := by
    rw [← ht, Dev.tamper_cx]
    rfl
  simp only [Dev.onClk_er, Dev.onTc_er, Dev.stopLinks_er, Dev.onClk_clk, Dev.onClk_cx, Dev.onTc_cx, Dev.stopLinks_cx, Dev.onClk_tc, Dev.onTc_tc,
    Dev.onClk_links, Dev.onTc_links]
  exact ⟨failed, trivial, keys, rfl, rfl, muted, fun t h => x.stopLinks_disabled h⟩

/-- What drain-shutdown ends in. -/
def Dev.haltedSafe (d : Dev) : Prop := d.er.failed = true ∧ d.tc.st = .safe ∧ d.fu.burn = none

theorem drainHalt_safe {s : State} (hw : s.dev.working = true) (hd : s.dev.drained = true) (hs : s.dev.tc.st = .safe) :
    Does .drainHalt s Dev.haltedSafe := by
  have up : s.dev.er.failed = false := by simp_all [Dev.working]
  refine Does.of_whenDev (g := fun d => d.working && d.drained) rfl (by simp [hw, hd]) ?_
  simp only [hs, if_true]
  exact drainStop_halts up

theorem drainHalt_stopping {s : State} (hs : s.dev.tc.st = .stopping) : exec .drainHalt s = .next s := by
  have waits : s.dev.react .stop [] = s.dev := by simp [Dev.react, hs]
  show execDrainHalt s = .next s
  simp [execDrainHalt, State.whenDev, State.onDev, hs, waits]

theorem drainLimitExpire_halts {s : State} (hw : s.dev.working = true) (hn : s.dev.hk.drain = true) (hd : s.dev.drained = false) :
    Does .drainLimitExpire s Dev.haltedSafe := by
  have up : s.dev.er.failed = false := by simp_all [Dev.working]
  refine Does.of_whenDev (g := fun d => d.working && d.hk.drain && !d.drained) rfl (by simp [hw, hn, hd]) ?_
  refine drainStop_halts ?_
  split
  · exact up
  · rw [Dev.advanceTo_er, up]

end Sys2Proof.Machine
end

section
/-! The rounds of the housekeeping sequencer (R316, R322 to R325): bands, levels, pacing and the refresh factor. -/

namespace Sys2Proof.Machine

/-- What a round has measured. -/
def Hk.measured (h : Hk) : Nat × Table W16 0 × Int × Bool := (h.rounds, h.speeds, h.reading, h.diodeFault)

/-- The band, drain-shutdown and the levels of throttling. -/
def Hk.levels (h : Hk) : Nat × Bool × Bool × Bool := (h.band, h.drain, h.level1, h.level2)

/-- A step of a round that leaves its measurements, the levels, the mode and the registers, and that mends no failure. -/
structure Dev.Steady (d e : Dev) : Prop where
  measured : e.hk.measured = d.hk.measured
  levels : e.hk.levels = d.hk.levels
  mode : e.mode = d.mode
  regs : e.regs = d.regs
  failed : d.er.failed = true → e.er.failed = true

namespace Dev.Steady

theorem refl (d : Dev) : Steady d d := ⟨rfl, rfl, rfl, rfl, id⟩

theorem trans {d e f : Dev} (h : Steady d e) (g : Steady e f) : Steady d f where
  measured := g.measured.trans h.measured
  levels := g.levels.trans h.levels
  mode := g.mode.trans h.mode
  regs := g.regs.trans h.regs
  failed := g.failed ∘ h.failed

theorem onHk (d : Dev) (f : Hk → Hk) (hm : (f d.hk).measured = d.hk.measured) (hl : (f d.hk).levels = d.hk.levels) : Steady d (d.onHk f) :=
  ⟨hm, hl, rfl, rfl, id⟩

theorem onArb (d : Dev) (f : Arb → Arb) : Steady d (d.onArb f) := ⟨rfl, rfl, rfl, rfl, id⟩

theorem onMi (d : Dev) (f : MemInt → MemInt) : Steady d (d.onMi f) := ⟨rfl, rfl, rfl, rfl, id⟩

theorem onBoot (d : Dev) (f : Boot → Boot) : Steady d (d.onBoot f) := ⟨rfl, rfl, rfl, rfl, id⟩

theorem setW1 (d : Dev) (a bank bit : Nat) : Steady d (d.setW1 a bank bit) := ⟨rfl, rfl, rfl, rfl, id⟩

theorem draws (d : Dev) (n : Nat) : Steady d { d with draws := n } := ⟨rfl, rfl, rfl, rfl, id⟩

theorem of_seat {d e : Dev} (h : e.seat = d.seat) (hf : d.er.failed = true → e.er.failed = true) : Steady d e := by
  obtain ⟨hk, mode, regs, -⟩ := Dev.seat_eq h
  exact ⟨by rw [hk], by rw [hk], mode, regs, hf⟩

theorem raise (d : Dev) (r : Report) : Steady d (d.raise r) := of_seat (d.raise_seat r) fun h => Dev.raise_stays h r

theorem note (d : Dev) (r : Report) : Steady d (d.note r) := of_seat (d.note_seat r) (d.note_failed r).trans

theorem hkEvent (d : Dev) (x : W64) : Steady d (d.hkEvent x) := note ..

theorem each {α : Type} (d : Dev) (l : List α) (f : Dev → α → Dev) (h : ∀ e x, Steady e (f e x)) : Steady d (d.each l f) := by
  unfold Dev.each
  induction l generalizing d with
  | nil => exact refl d
  | cons x t ih => exact (h d x).trans (ih _)

theorem hkSupply (d : Dev) (c : Nat) (code : BitVec 12) : Steady d (d.hkSupply c code) := by
  unfold Dev.hkSupply
  extract_lets v n warn fail d1 d2
  have read : Steady d d1 := onHk d _ rfl rfl
  have warned : Steady d d2 := read.trans (by
    simp only [d2]
    split
    · exact (setW1 ..).trans (hkEvent ..)
    · exact refl d1)
  (repeat' split)
  · exact warned.trans (hkEvent ..)
  · exact warned.trans (raise ..)
  · exact warned

theorem hkAin (d : Dev) (c : Nat) (code : BitVec 12) : Steady d (d.hkAin c code) := by
  unfold Dev.hkAin
  extract_lets a lo hi out was d1
  have read : Steady d d1 := (draws d _).trans (onHk _ _ rfl rfl)
  split
  · exact read
  · exact read.trans (hkEvent ..)

theorem hkMonitors (d : Dev) : Steady d d.hkMonitors := onHk d _ rfl rfl

theorem hkInputs (d : Dev) (codes : List (BitVec 12)) : Steady d (d.hkInputs codes) := each _ _ _ fun e c => by
  split
  · exact hkSupply ..
  · exact hkAin ..

theorem hkPacing (d : Dev) : Steady d d.hkPacing := by
  unfold Dev.hkPacing
  dsimp only
  split
  · exact refl d
  · exact onArb ..

theorem fence (d : Dev) (u : UnitId) : Steady d (d.fence u) := by
  unfold Dev.fence
  split
  · exact refl d
  · exact ⟨rfl, rfl, rfl, rfl, id⟩

theorem testFailed (d : Dev) (us : List UnitId) (cat : Nat) (d0 d1 : W64) : Steady d (d.testFailed us cat d0 d1) := by
  unfold Dev.testFailed
  split
  · exact refl d
  · extract_lets f f1
    have noted : Steady d f1 := (each d _ _ fence).trans (note ..)
    split
    · exact noted.trans (raise ..)
    · exact noted

theorem hkCalibrate (d : Dev) (before : Table W16 0) : Steady d (d.hkCalibrate before) := by
  unfold Dev.hkCalibrate
  split
  · exact refl d
  · extract_lets n d1 dead d2 d3
    have counted : Steady d d1 := onHk d _ rfl rfl
    split
    · exact counted
    · exact (counted.trans ((onHk d1 _ rfl rfl).trans (onBoot d2 _))).trans (each d3 _ _ fun e i => testFailed ..)

theorem hkAvs (d : Dev) (avs : Option (Nat × Nat)) : Steady d (d.hkAvs avs) := by
  unfold Dev.hkAvs
  split
  · exact refl d
  · split
    · exact onHk _ _ rfl rfl
    · split
      · exact refl d
      · exact (onHk _ _ rfl rfl).trans (raise ..)

theorem hkRefresh (d : Dev) : Steady d d.hkRefresh := by
  unfold Dev.hkRefresh
  extract_lets want
  (repeat' split)
  · exact (onMi ..).trans (onHk _ _ rfl rfl)
  · exact refl d
  · exact onHk _ _ rfl rfl

end Dev.Steady

/-! ### The stages that change measurements and levels -/

theorem Hk.measured_eq {h g : Hk} (e : h.measured = g.measured) :
    h.rounds = g.rounds ∧ h.speeds = g.speeds ∧ h.reading = g.reading ∧ h.diodeFault = g.diodeFault := by
  simpa only [Hk.measured, Prod.mk.injEq] using e

theorem Hk.levels_eq {h g : Hk} (e : h.levels = g.levels) : h.band = g.band ∧ h.drain = g.drain ∧ h.level1 = g.level1 ∧ h.level2 = g.level2 := by
  simpa only [Hk.levels, Prod.mk.injEq] using e

theorem Dev.hkEvent_regs (d : Dev) (x : W64) : (d.hkEvent x).regs = d.regs := d.note_regs _

theorem Dev.hkEvent_hk (d : Dev) (x : W64) : (d.hkEvent x).hk = d.hk := d.note_hk _

/-- The diode changes the reading alone; its fault latches. -/
theorem Dev.hkDiode_keeps (d : Dev) (code : BitVec 12) :
    (d.hkDiode code).hk.levels = d.hk.levels ∧ (d.hkDiode code).hk.rounds = d.hk.rounds ∧ (d.hkDiode code).regs = d.regs ∧
      (d.hk.diodeFault = true → (d.hkDiode code).hk.diodeFault = true) := by
  unfold Dev.hkDiode
  extract_lets bad fault t below d1
  have latched : d.hk.diodeFault = true → d1.hk.diodeFault = true := fun h => by simp [d1, fault, h]
  split
  · rw [Dev.hkEvent_hk, Dev.hkEvent_regs]
    exact ⟨rfl, rfl, rfl, latched⟩
  · exact ⟨rfl, rfl, rfl, latched⟩

/-- The speeds that a round takes over. -/
def speedTable (speeds : List W16) (t : Table W16 0) : Table W16 0 := (List.range 48).foldl (fun t i => t.set i (speeds.getD i 0)) t

theorem setRange_get (f : Nat → W16) (t : Table W16 0) (n : Nat) {i : Nat} (h : i < n) :
    ((List.range n).foldl (fun t i => t.set i (f i)) t).get i = f i := by
  induction n with
  | zero => omega
  | succ n ih =>
    rw [List.range_succ, List.foldl_append, List.foldl_cons, List.foldl_nil, Table.get_set]
    split
    · rename_i same
      rw [same]
    · exact ih (by omega)

theorem Dev.hkSpeeds_seat (d : Dev) (speeds : List W16) :
    (d.hkSpeeds speeds).seat = (d.onHk fun h => { h with rounds := h.rounds + 1, speeds := speedTable speeds h.speeds }).seat := by
  unfold Dev.hkSpeeds
  dsimp only
  split
  · rfl
  · exact Dev.note_seat ..

theorem Dev.bandThr_congr {d e : Dev} (h : e.regs = d.regs) (b : Nat) : e.bandThr b = d.bandThr b := by
  simp only [Dev.bandThr, Dev.rf, Dev.reg, Dev.regB, h]

theorem Dev.hkBand_hk (d : Dev) : d.hkBand.hk.band = d.bandNext ∧ d.hkBand.hk.measured = d.hk.measured ∧ d.hkBand.hk.drain = d.hk.drain := by
  unfold Dev.hkBand
  dsimp only
  split
  · rename_i same
    exact ⟨same.symm, rfl, rfl⟩
  · rw [Dev.hkEvent_hk]
    exact ⟨rfl, rfl, rfl⟩

/-- What the end of a read leaves of the sequencer's state. -/
def Dev.posture (d : Dev) : Hk × Mode × Bool := (d.hk, d.mode, d.er.failed)

theorem Dev.posture_kept : Dev.KeptByEnds Dev.posture where
  stamp d u a := by simp [Dev.posture]
  setW1f _ _ _ _ _ _ := rfl
  count _ _ _ _ _ := rfl
  onEr d f hf := by simp [Dev.posture, hf]
  onPools _ _ := rfl
  onIdx _ _ _ := rfl
  onCm _ _ := rfl
  onMi _ _ := rfl
  onCs _ _ := rfl
  onCtx _ _ _ := rfl
  erasesDone _ _ := rfl
  onEngine _ _ _ := rfl
  latch _ _ _ := rfl
  notice _ _ _ _ := rfl
  onReads _ _ := rfl
  onCx _ _ := rfl
  onVol _ _ := rfl
  onSh _ _ _ := rfl
  onMemAt d n f := d.onMemAt_keeps _ n f fun _ _ _ => rfl
  heldZeros _ _ := rfl

theorem Dev.posture_eq {d e : Dev} (h : e.posture = d.posture) : e.hk = d.hk ∧ e.mode = d.mode ∧ e.er.failed = d.er.failed := by
  simpa only [Dev.posture, Prod.mk.injEq] using h

theorem Dev.refuseTapeReads_posture (d : Dev) : d.refuseTapeReads.posture = d.posture := Dev.each_keeps Dev.posture _ _ _ fun e c => by
  split
  · split
    · exact Dev.posture_kept.failRead ..
    · rfl
  · rfl

theorem Dev.hkNotice_posture (d : Dev) (k : NoticeKind) (x : Nat) : (d.hkNotice k x).posture = d.posture :=
  (Dev.posture_kept.notice ..).trans (Dev.posture_kept.stamp ..)

/-- Drain-shutdown holds DRAIN mode and level 2 (R325). -/
def Dev.draining (d : Dev) : Prop := d.hk.drain = true ∧ d.mode = .drain ∧ d.hk.level2 = true

/-- The device at the entry to drain-shutdown, before anything is told. -/
def Dev.drainEntry (d : Dev) : Dev :=
  { (d.onHk (fun h => { h with drain := true, level2 := true, duty := d.stallMax })).setRf Reg.MI_FLIPCTL 31 31 0 with mode := .drain }

theorem Dev.drainEntry_posture (d : Dev) :
    d.drainEntry.posture = ({ d.hk with drain := true, level2 := true, duty := d.stallMax }, .drain, d.er.failed) := by
  simp only [Dev.drainEntry, Dev.posture, Dev.setRf_hk, Dev.setRf_er, Dev.onHk_hk, Dev.onHk_er]

/-- What is told at the entry, and the reads refused, leave the sequencer as entered. -/
theorem Dev.drainTold_posture (d : Dev) (x t : Nat) :
    (((d.hkNotice .drainShutdown x).hkEvent 0).onSh fun y => { y with draining := t }).refuseTapeReads.posture = d.posture := by
  rw [Dev.refuseTapeReads_posture, ← Dev.hkNotice_posture d .drainShutdown x]
  generalize d.hkNotice .drainShutdown x = e
  rw [← Dev.posture_kept.note e { cls := .c0, unit := hkUnit, cat := 0x0C, d0 := e.hk.detail }]
  exact Dev.posture_kept.onSh (e.hkEvent 0) _ fun _ => rfl

theorem Dev.hkDrain_enters {d : Dev} (h : d.hk.band = 4 ∧ (!d.hk.drain) = true ∧ (!d.er.failed) = true) :
    d.hkDrain.posture = ({ d.hk with drain := true, level2 := true, duty := d.stallMax }, .drain, d.er.failed) := by
  unfold Dev.hkDrain
  rw [if_pos h, ← Dev.drainEntry_posture]
  exact Dev.drainTold_posture d.drainEntry ..

theorem Dev.hkDrain_keeps (d : Dev) : d.hkDrain.hk.measured = d.hk.measured ∧ d.hkDrain.hk.band = d.hk.band ∧ d.hkDrain.er.failed = d.er.failed ∧
    (d.hk.band = 4 → d.hk.drain = false → d.er.failed = false → d.hkDrain.draining) := by
  by_cases h : d.hk.band = 4 ∧ (!d.hk.drain) = true ∧ (!d.er.failed) = true
  · obtain ⟨hk, mode, failed⟩ : d.hkDrain.hk = _ ∧ d.hkDrain.mode = _ ∧ d.hkDrain.er.failed = _ := by
      simpa only [Dev.posture, Prod.mk.injEq] using Dev.hkDrain_enters h
    simp only [Dev.draining, hk, mode, failed]
    exact ⟨rfl, trivial, trivial, fun _ _ _ => ⟨trivial, trivial, trivial⟩⟩
  · have same : d.hkDrain = d := by
      unfold Dev.hkDrain
      exact if_neg h
    rw [same]
    exact ⟨rfl, rfl, rfl, fun a b c => absurd ⟨a, by simp [b], by simp [c]⟩ h⟩

theorem Dev.hkLevel2_keeps (d : Dev) : d.hkLevel2.hk.measured = d.hk.measured ∧ d.hkLevel2.hk.band = d.hk.band ∧ d.hkLevel2.er = d.er ∧
    (d.draining → d.hkLevel2.draining) := by
  unfold Dev.hkLevel2
  extract_lets above d1 h
  have drains : d1.hk.drain = true → d.draining → (d1.onHk fun h => { h with level2 := true, duty := d.stallMax }).draining :=
    fun drain ⟨_, mode, _⟩ => ⟨drain, mode, rfl⟩
  split
  · exact ⟨rfl, rfl, rfl, drains ‹_›⟩
  · have never : ¬d.draining := fun ⟨drain, _⟩ => absurd drain ‹_›
    (repeat' split) <;> exact ⟨rfl, rfl, rfl, fun b => absurd b never⟩

theorem Dev.hkLevel1_keeps (d : Dev) : d.hkLevel1.hk.measured = d.hk.measured ∧ d.hkLevel1.hk.band = d.hk.band ∧ d.hkLevel1.er = d.er ∧
    d.hkLevel1.hk.level1 = (decide (3 ≤ d.hkLevel1.hk.band) || d.hkLevel1.hk.level2) ∧ (d.draining → d.hkLevel1.draining) := by
  have told : ∀ (e : Dev) k x, (e.hkNotice k x).hk = e.hk ∧ (e.hkNotice k x).er = e.er ∧ (e.hkNotice k x).mode = e.mode := fun e k x => by
    simp [Dev.hkNotice]
  unfold Dev.hkLevel1
  extract_lets want
  split
  · rename_i h
    obtain ⟨wanted, -⟩ := Bool.and_eq_true_iff.mp h
    simp only [Dev.draining, told]
    exact ⟨rfl, rfl, rfl, wanted.symm, id⟩
  · split
    · rename_i h
      obtain ⟨unwanted, -⟩ := Bool.and_eq_true_iff.mp h
      simp only [Dev.draining, told]
      exact ⟨rfl, rfl, rfl, (Bool.not_eq_true' _).mp unwanted |>.symm, id⟩
    · rename_i h g
      have follows : d.hk.level1 = want := by cases hl : d.hk.level1 <;> cases hw : want <;> simp_all
      exact ⟨rfl, rfl, rfl, follows, id⟩

theorem Dev.hkRefresh_factor (d : Dev) : bandRefresh d.hkRefresh.hk.band ≤ d.hkRefresh.mi.refresh := by
  unfold Dev.hkRefresh
  extract_lets want
  (repeat' split)
  · exact le_rfl
  · exact (Nat.le_of_lt (Nat.lt_of_not_le ‹_›))
  · exact (Nat.le_of_lt (Nat.lt_of_not_le ‹_›))

/-! ### HK_ROUND_END (R316, R322 to R325) -/

/-- The device with a round's measurements taken, before the band follows. -/
def Dev.roundMeasured (d : Dev) (codes : List (BitVec 12)) (speeds : List W16) : Dev :=
  (((((d.advanceTo ((d.hk.rounds + 1) * roundTicks)).stamp 0x14).2.hkDiode (codes.getD 0 0)).hkSpeeds speeds).hkMonitors).hkInputs codes

theorem Dev.roundMeasured_keeps (d : Dev) (codes : List (BitVec 12)) (speeds : List W16) :
    (d.roundMeasured codes speeds).hk.levels = d.hk.levels ∧ (d.roundMeasured codes speeds).regs = d.regs ∧
      (d.roundMeasured codes speeds).hk.rounds = d.hk.rounds + 1 ∧
      (∀ i, i < 48 → (d.roundMeasured codes speeds).hk.speeds.get i = speeds.getD i 0) ∧
      (d.hk.diodeFault = true → (d.roundMeasured codes speeds).hk.diodeFault = true) := by
  unfold Dev.roundMeasured
  generalize hb : ((d.advanceTo ((d.hk.rounds + 1) * roundTicks)).stamp 0x14).2 = b
  have began : b.hk = d.hk ∧ b.regs = d.regs := by rw [← hb]; simp
  obtain ⟨levels, rounds, regs, fault⟩ := b.hkDiode_keeps (codes.getD 0 0)
  rw [began.1] at levels rounds fault
  rw [began.2] at regs
  generalize b.hkDiode (codes.getD 0 0) = c at *
  obtain ⟨hk, -, spedRegs, -⟩ := Dev.seat_eq (c.hkSpeeds_seat speeds)
  have read := (Dev.Steady.hkMonitors (c.hkSpeeds speeds)).trans (Dev.Steady.hkInputs _ codes)
  obtain ⟨readRounds, readSpeeds, -, readFault⟩ := Hk.measured_eq read.measured
  refine ⟨read.levels.trans (by rw [hk]; exact levels), read.regs.trans (spedRegs.trans regs), ?_, fun i hi => ?_, fun h => ?_⟩
  · rw [readRounds, hk, ← rounds]
    rfl
  · rw [readSpeeds, hk]
    exact setRange_get _ _ _ hi
  · rw [readFault, hk]
    exact fault h

theorem Dev.bandNext_congr {d e : Dev} (hr : e.regs = d.regs) (hb : e.hk.band = d.hk.band) :
    e.bandNext = (if e.hk.diodeFault then 4 else
      let t := e.hk.reading
      let up := if d.bandThr 4 ≤ t then 4 else if d.bandThr 3 ≤ t then 3 else if d.bandThr 2 ≤ t then 2 else if d.bandThr 1 ≤ t then 1 else 0
      if d.hk.band < up then up else if 0 < d.hk.band ∧ t < d.bandThr d.hk.band - 32 then d.hk.band - 1 else d.hk.band) := by
  simp only [Dev.bandNext, Dev.bandThr_congr hr, hb]

/-- The stages after the measurements, as one round has them. -/
def Dev.roundActed (d : Dev) (before : Table W16 0) (avs : Option (Nat × Nat)) : Dev :=
  ((((((d.hkBand).hkDrain).hkLevel2).hkLevel1).hkPacing.hkCalibrate before).hkAvs avs).hkRefresh

theorem Dev.roundActed_keeps (d : Dev) (before : Table W16 0) (avs : Option (Nat × Nat)) (e : Dev) (he : e = d.roundActed before avs) :
    e.hk.measured = d.hk.measured ∧ e.hk.band = d.bandNext ∧ e.hk.level1 = (decide (3 ≤ e.hk.band) || e.hk.level2) ∧
      bandRefresh e.hk.band ≤ e.mi.refresh ∧ (e.hk.band = 4 → d.hk.drain = false → e.er.failed = false → e.draining) := by
  have factor : bandRefresh e.hk.band ≤ e.mi.refresh := by rw [he]; exact Dev.hkRefresh_factor _
  obtain ⟨band, bandMeasured, bandDrain⟩ := d.hkBand_hk
  obtain ⟨drainMeasured, drainBand, drainFailed, enters⟩ := d.hkBand.hkDrain_keeps
  obtain ⟨twoMeasured, twoBand, twoEr, twoDrains⟩ := d.hkBand.hkDrain.hkLevel2_keeps
  obtain ⟨oneMeasured, oneBand, oneEr, follows, oneDrains⟩ := d.hkBand.hkDrain.hkLevel2.hkLevel1_keeps
  have late : Dev.Steady d.hkBand.hkDrain.hkLevel2.hkLevel1 e := by
    rw [he]
    exact (Dev.Steady.hkPacing _).trans ((Dev.Steady.hkCalibrate _ before).trans ((Dev.Steady.hkAvs _ avs).trans (Dev.Steady.hkRefresh _)))
  obtain ⟨lateBand, lateDrain, lateOne, lateTwo⟩ := Hk.levels_eq late.levels
  refine ⟨?_, ?_, ?_, factor, fun h4 hd hf => ?_⟩
  · rw [late.measured, oneMeasured, twoMeasured, drainMeasured, bandMeasured]
  · rw [lateBand, oneBand, twoBand, drainBand, band]
  · rw [lateBand, lateOne, lateTwo, follows]
  · have up : d.hkBand.er.failed = false := by
      rw [← drainFailed, ← twoEr, ← oneEr]
      exact Bool.eq_false_iff.mpr fun hx => by rw [late.failed hx] at hf; exact absurd hf (by decide)
    have four : d.hkBand.hk.band = 4 := by rw [← drainBand, ← twoBand, ← oneBand, ← lateBand, h4]
    obtain ⟨drain, mode, level2⟩ := oneDrains (twoDrains (enters four (by rw [bandDrain, hd]) up))
    exact ⟨lateDrain.trans drain, late.mode.trans mode, lateTwo.trans level2⟩

theorem hkRoundEnd_acts {s : State} (ha : s.dev.alive = true) {codes : List (BitVec 12)} {speeds : List W16} (avs : Option (Nat × Nat))
    (hc : codes.length = 24) (hs : speeds.length = 48) :
    ∃ m : Dev, m = s.dev.roundMeasured codes speeds ∧
      exec (.hkRoundEnd codes speeds avs) s = .next ⟨m.roundActed s.dev.hk.speeds avs, s.pending⟩ :=
  ⟨_, rfl, State.whenDev_of (g := fun d => d.alive && decide (codes.length = 24) && decide (speeds.length = 48)) _ (by simp [ha, hc, hs])⟩

/-! ### THROTTLE_GRACE_END (R323) -/

theorem Dev.hkPacing_arb (d : Dev) : d.hkPacing.arb.pacing = (d.hk.level1 && !d.hk.grace && d.rf Reg.HK_CTL 29 29 == 1) := by
  unfold Dev.hkPacing
  dsimp only
  split
  · exact Eq.symm ‹_›
  · rfl

theorem Dev.hkPacing_hk (d : Dev) : d.hkPacing.hk = d.hk := by
  unfold Dev.hkPacing
  dsimp only
  split <;> rfl

theorem throttleGraceEnd_paces {s : State} (hw : s.dev.working = true) (hg : s.dev.hk.grace = true) :
    Does .throttleGraceEnd s (fun d => d.hk = { s.dev.hk with grace := false } ∧
      d.arb.pacing = (s.dev.hk.level1 && s.dev.rf Reg.HK_CTL 29 29 == 1)) := by
  refine Does.of_whenDev (g := fun d => d.working && d.hk.grace) rfl (by simp [hw, hg]) ?_
  rw [Dev.hkPacing_hk, Dev.hkPacing_arb]
  simp [Dev.rf, Dev.reg, Dev.regB]

/-! ### HK_THRRATE (R323) -/

/-- The row of HK_THRRATE in the register map. -/
def thrRate : RegDesc := mkReg Reg.HK_THRRATE 1 0x0 1 0 [fd 17 0 .rwl 0x1C138]

theorem findReg_thrRate : findReg Reg.HK_THRRATE = some thrRate := by decide

theorem Dev.takeFields_thrRate {d : Dev} (p : PortId) (old v : W32) (h : d.locked Reg.HK_THRRATE = false) :
    d.takeFields p thrRate Reg.HK_THRRATE old v = (putField old 17 0 (fieldOf v 17 0), false) := by
  have elsewhere : ¬ (Reg.QM_SQBASE_LO ≤ Reg.HK_THRRATE ∧ Reg.HK_THRRATE ≤ Reg.QM_CQBASE_HI) := by decide
  simp [Dev.takeFields, Dev.takeField, thrRate, mkReg, fd, h, Dev.fieldRule, safeOnly, elsewhere]

/-- A new rate while level 1 holds is told to the host. -/
theorem Dev.regHook_thrRate (d : Dev) (path : Path) (bank : Nat) (old new v : W32) :
    d.regHook path Reg.HK_THRRATE Reg.HK_THRRATE bank old new v = if old ≠ new ∧ d.hk.level1 then d.hkNotice .throttleRequest d.paceRate else d := by
  simp [Dev.regHook]

theorem Dev.writeReg_thrRate {d : Dev} (path : Path) (v : W32) (h : d.locked Reg.HK_THRRATE = false) :
    d.writeReg path Reg.HK_THRRATE v =
      let new := putField (d.reg Reg.HK_THRRATE) 17 0 (fieldOf v 17 0)
      let e := d.setReg Reg.HK_THRRATE new
      if d.reg Reg.HK_THRRATE ≠ new ∧ e.hk.level1 then e.hkNotice .throttleRequest e.paceRate else e := by
  have mask : w1cMask thrRate v = 0 := rfl
  have whole : breaksWhole Reg.HK_THRRATE v = false := rfl
  have bank : d.bankOf (pathPort path) Reg.HK_THRRATE = 0 := rfl
  have base : thrRate.base = Reg.HK_THRRATE := rfl
  simp only [Dev.writeReg, findReg_thrRate, base, Dev.writeKnown, mask, whole, bank, Dev.clearBits, Dev.regHook_thrRate, Dev.takeFields_thrRate _ _ _ h]
  rfl

theorem fieldOf_putField_thrRate (w : W32) {x : Nat} (hx : x < 2 ^ 18) : fieldOf (putField w 17 0 x) 17 0 = x := by
  have := w.isLt
  simp only [putField, toW32, BitVec.toNat_ofNat, fieldOf, Nat.shiftRight_eq_div_pow]
  omega

theorem Dev.hkNotice_posts (d : Dev) (x : Nat) :
    ∃ st, (d.hkNotice .throttleRequest x).notices = d.notices ++ [⟨.throttleRequest, toW64 x, st⟩] :=
  ⟨_, by rw [Dev.hkNotice, Dev.notice, if_neg (by decide), Dev.stamp_notices]⟩

theorem Dev.hkNotice_regs (d : Dev) (k : NoticeKind) (x : Nat) : (d.hkNotice k x).regs = d.regs := by simp [Dev.hkNotice]

theorem throttleRateWrite_takes {s : State} {path : Path} {v : W32} (hw : s.dev.writable path = true) (hl : s.dev.locked Reg.HK_THRRATE = false) :
    Does (.throttleRateWrite path v) s (fun d => d.rf Reg.HK_THRRATE 17 0 = fieldOf v 17 0 ∧ d.hk = s.dev.hk ∧
      (s.dev.hk.level1 = true → fieldOf v 17 0 ≠ s.dev.rf Reg.HK_THRRATE 17 0 →
        ∃ st, d.notices = s.dev.notices ++ [⟨.throttleRequest, toW64 (if fieldOf v 17 0 = 0 then 1000 else fieldOf v 17 0), st⟩]) ∧
      (s.dev.hk.level1 = false → d.notices = s.dev.notices)) := by
  simp only [Dev.writable, Bool.and_eq_true] at hw
  obtain ⟨⟨⟨⟨reach, booted⟩, -⟩, -⟩, -⟩ := hw
  refine Does.of_whenDev (g := fun d => d.pathOpen path) rfl reach ?_
  rw [Dev.arrive_of_bootDone path Reg.HK_THRRATE v booted, Dev.writeReg_thrRate path v hl]
  extract_lets new e
  have taken : fieldOf new 17 0 = fieldOf v 17 0 := fieldOf_putField_thrRate _ (fieldOf_lt v 17 0)
  have rate : e.rf Reg.HK_THRRATE 17 0 = fieldOf v 17 0 := by rw [Dev.rf, Dev.reg_setReg_same, taken]
  have hk : e.hk = s.dev.hk := s.dev.setReg_hk ..
  have notices : e.notices = s.dev.notices := s.dev.setReg_notices ..
  split
  · rename_i told
    have kept : (e.hkNotice .throttleRequest e.paceRate).rf Reg.HK_THRRATE 17 0 = e.rf Reg.HK_THRRATE 17 0 := by
      simp only [Dev.rf, Dev.reg, Dev.regB, Dev.hkNotice_regs]
    obtain ⟨st, posted⟩ := e.hkNotice_posts e.paceRate
    have pace : e.paceRate = if fieldOf v 17 0 = 0 then 1000 else fieldOf v 17 0 := by rw [Dev.paceRate, rate]
    obtain ⟨told_hk, -, -⟩ := Dev.posture_eq (e.hkNotice_posture .throttleRequest e.paceRate)
    obtain ⟨-, level⟩ := told
    exact ⟨kept.trans rate, told_hk.trans hk, fun _ _ => ⟨st, by rw [posted, notices, pace]⟩, fun h => absurd (hk ▸ level) (by simp [h])⟩
  · rename_i untold
    refine ⟨rate, hk, fun h changed => absurd ⟨fun same => changed ?_, hk ▸ h⟩ untold, fun _ => notices⟩
    rw [← taken, ← same]
    rfl

end Sys2Proof.Machine
end

section
/-! The STOP reaction (R276, R277): what the end of motion, of a run and of a read turn leaves of it, and the halt of drain-shutdown (R325, R326). -/

namespace Sys2Proof.Machine

/-! ### Cancelled work -/

namespace Dev.KeptByEnds

variable {β : Type} {v : Dev → β} (h : Dev.KeptByEnds v)
include h

theorem failWith (d : Dev) (c : Nat) (s : W16) (d0 d1 : W64) : v (d.failWith c s d0 d1) = v d := h.finish ..

theorem zeroRanges (d : Dev) (c : Nat) (rs : List (Nat × Nat)) : v (d.zeroRanges c rs) = v d := h.zeroAt ..

theorem cancelWrite (d : Dev) (w : Write) : v (d.cancelWrite w) = v d := by
  unfold Dev.cancelWrite
  extract_lets d1 d2 d3
  have settled : v d2 = v d := (h.onReads ..).trans ((h.dropBlocks ..).trans (h.stamp ..))
  have freed : v d3 = v d := (Dev.each_keeps v _ _ _ fun e kb => by
    split
    · exact h.release ..
    · exact h.giveBack ..).trans settled
  rw [h.reap, h.reviewHolds]
  split
  · exact (h.unpin ..).trans freed
  · exact freed

theorem dropFifos (d : Dev) (c : Nat) : v (d.dropFifos c) = v d := by
  unfold Dev.dropFifos
  rw [h.onCm]
  refine Dev.each_keeps v _ _ _ fun e kf => ?_
  (repeat' split)
  · exact h.giveBack ..
  · rfl
  · rfl
  · rfl

/-- Work of an instruction in flight that is not its read or volume. -/
theorem dropWork (d : Dev) (c : Nat) (p : Block → Bool) (q : BufUnit → List Nat → Bool) (f : Cascade → Cascade) :
    v (((((d.cancelIntents c).dropFifos c).dropBlocks p).dropWaits q).onCs f) = v d := by
  rw [h.onCs, h.dropWaits, h.dropBlocks, h.dropFifos]
  exact Dev.each_keeps v _ _ _ h.cancelWrite

end Dev.KeptByEnds

/-! ### A STOP reaction that is under way -/

/-- The engine's state and reaction, and whether a RESUME waits. -/
def Dev.brake (d : Dev) : TcState × React × Bool := (d.tc.st, d.tc.reaction, d.sh.resumeDue)

theorem Dev.brake_kept : Dev.KeptByEnds Dev.brake where
  stamp d u a := by simp [Dev.brake]
  setW1f _ _ _ _ _ _ := rfl
  count _ _ _ _ _ := rfl
  onEr _ _ _ := rfl
  onPools _ _ := rfl
  onIdx _ _ _ := rfl
  onCm _ _ := rfl
  onMi _ _ := rfl
  onCs _ _ := rfl
  onCtx _ _ _ := rfl
  erasesDone _ _ := rfl
  onEngine _ _ _ := rfl
  latch _ _ _ := rfl
  notice _ _ _ _ := rfl
  onReads _ _ := rfl
  onCx _ _ := rfl
  onVol _ _ := rfl
  onSh d f hf := by simp [Dev.brake, hf]
  onMemAt d n f := d.onMemAt_keeps _ n f fun _ _ _ => rfl
  heldZeros _ _ := rfl

/-- The engine stops by the STOP reaction, and no RESUME waits. -/
def Dev.Stops (d : Dev) : Prop := d.brake = (.stopping, .stop, false)

namespace Dev.Stops

theorem of_brake {d e : Dev} (h : d.Stops) (he : e.brake = d.brake) : e.Stops := he.trans h

theorem onTc {d : Dev} (h : d.Stops) (f : Tc → Tc) (hf : ∀ t, (f t).st = t.st ∧ (f t).reaction = t.reaction) : (d.onTc f).Stops :=
  h.of_brake (by simp [Dev.brake, hf])

theorem onSh {d : Dev} (h : d.Stops) (f : Sheaf → Sheaf) (hf : ∀ x, (f x).resumeDue = x.resumeDue) : (d.onSh f).Stops :=
  h.of_brake (Dev.brake_kept.onSh d f hf)

theorem onVol {d : Dev} (h : d.Stops) (f : Vol → Vol) : (d.onVol f).Stops := h.of_brake (Dev.brake_kept.onVol d f)

theorem onCs {d : Dev} (h : d.Stops) (f : Cascade → Cascade) : (d.onCs f).Stops := h.of_brake (Dev.brake_kept.onCs d f)

theorem onFm {d : Dev} (h : d.Stops) (f : Formes → Formes) : (d.onFm f).Stops := h

theorem onLink {d : Dev} (h : d.Stops) (t : Nat) (f : Link → Link) : (d.onLink t f).Stops := h

theorem stamp {d : Dev} (h : d.Stops) (u a : Nat) : (d.stamp u a).2.Stops := h.of_brake (Dev.brake_kept.stamp d u a)

theorem finish {d : Dev} (h : d.Stops) (c : Nat) (s : W16) (out : Option W64) (d0 d1 : W64) (cs : Option Stamp) (cat : Option Nat) (d2 : W32) :
    (d.finish c s out d0 d1 cs cat d2).Stops := h.of_brake (Dev.brake_kept.finish ..)

theorem giveBack {d : Dev} (h : d.Stops) (k : Nat) : (d.giveBack k).Stops := h.of_brake (Dev.brake_kept.giveBack ..)

theorem each {α : Type} {d : Dev} (h : d.Stops) (l : List α) (f : Dev → α → Dev) (hf : ∀ e x, Stops e → (f e x).Stops) :
    (d.each l f).Stops := by
  unfold Dev.each
  induction l generalizing d with
  | nil => exact h
  | cons x t ih => exact ih (hf d x h)

theorem failWith {d : Dev} (h : d.Stops) (c : Nat) (s : W16) (d0 d1 : W64) : (d.failWith c s d0 d1).Stops := h.of_brake (Dev.brake_kept.failWith ..)

theorem supersede {d : Dev} (h : d.Stops) : d.supersede.Stops := by
  unfold Dev.supersede
  split
  · exact h
  · exact (h.onTc _ (by exact fun _ => ⟨rfl, rfl⟩)).failWith ..

theorem startProfile {d : Dev} (h : d.Stops) (kind step : Nat) (reverse toZero : Bool) (target : Int) (asker : Asker) :
    (d.startProfile kind step reverse toZero target asker).Stops := by
  unfold Dev.startProfile
  split
  · exact h
  · exact (h.supersede.of_brake (Dev.brake_kept.stamp ..)).onTc _ (by exact fun _ => ⟨rfl, rfl⟩)

theorem stopProfile {d : Dev} (h : d.Stops) (asker : Asker) : (d.stopProfile asker).Stops := h.startProfile ..

theorem restTape {d : Dev} (h : d.Stops) : d.restTape.Stops := by
  unfold Dev.restTape
  split
  · exact h
  · exact h.stopProfile _

theorem orderAll {d : Dev} (h : d.Stops) (c : LinkCmd) : (d.orderAll c).Stops := h.each _ _ fun _ t he => he.onLink t _

theorem stopTape {d : Dev} (h : d.Stops) (r : RunSt) : (d.stopTape r).Stops :=
  ((h.orderAll _).onSh _ (by exact fun _ => rfl)).stopProfile _

/-- With its volume the device forgets that a RESUME waits. -/
theorem unmount {d : Dev} (h : d.Stops) : d.unmount.Stops := by
  unfold Dev.unmount
  extract_lets free d1 d2 blank
  have freed : ∀ (l : List (Option Nat)) (e : Dev), e.Stops → (l.foldl free e).Stops := fun l e he => by
    induction l generalizing e with
    | nil => exact he
    | cons b l ih =>
      refine ih _ ?_
      cases b with
      | none => exact he
      | some k => exact he.giveBack k
  have emptied : d2.Stops := freed _ _ (freed _ _ h)
  simp only [Stops, Dev.brake, Prod.mk.injEq] at emptied
  obtain ⟨st, reaction, -⟩ := emptied
  simp [Stops, Dev.brake, st, reaction, blank, Sheaf.reset]

theorem dropFlight {d : Dev} (h : d.Stops) (c : Nat) : (d.dropFlight c).Stops := by
  unfold Dev.dropFlight
  extract_lets d1 d2
  have dropped : d2.Stops := h.of_brake (Dev.brake_kept.dropWork ..)
  (repeat' split)
  · exact dropped.of_brake ((Dev.brake_kept.endReads ..).trans (Dev.brake_kept.unpin ..))
  · exact dropped.of_brake (Dev.brake_kept.endReads ..)
  · exact dropped.of_brake (Dev.brake_kept.unpin ..)
  · exact dropped
  · exact dropped.unmount.onVol _
  · exact dropped.unmount
  · exact dropped.of_brake (Dev.brake_kept.endReads ..)

theorem zeroOutput {d : Dev} (h : d.Stops) (c : Nat) : (d.zeroOutput c).Stops := by
  unfold Dev.zeroOutput
  extract_lets w
  refine Stops.of_brake ?_ (Dev.brake_kept.onCtx _ c _)
  exact h.of_brake (Dev.brake_kept.zeroRanges d c _)

theorem failOutput {d : Dev} (h : d.Stops) (c : Nat) (s : W16) (d0 d1 : W64) : (d.failOutput c s d0 d1).Stops := by
  unfold Dev.failOutput Dev.failZero
  exact ((h.zeroOutput c).dropFlight c).finish ..

theorem openFailed {d : Dev} (h : d.Stops) (c : Nat) (s : W16) (d0 d1 : W64) (cat : Option Nat) : (d.openFailed c s d0 d1 cat).Stops := by
  unfold Dev.openFailed
  extract_lets load op a b
  have rested : a.Stops := by
    refine Stops.orderAll ?_ _
    split
    · exact h.stopTape _
    · exact h.restTape
  have gone : b.Stops := (rested.unmount.onVol _).onCs _
  refine Stops.finish ?_ ..
  split
  · exact gone.onVol _
  · exact gone.stamp ..

theorem dropColophon {d : Dev} (h : d.Stops) (folio : Nat) : (d.dropColophon folio).Stops := by
  unfold Dev.dropColophon
  extract_lets d1
  have freed : d1.Stops := h.each _ _ fun e f he => by
    split
    · exact he.giveBack _
    · exact he
  exact (freed.onFm _).onSh _ (by exact fun _ => rfl)

theorem forgetColophon {d : Dev} (h : d.Stops) : d.forgetColophon.Stops := by
  unfold Dev.forgetColophon
  split
  · exact h.dropColophon _
  · exact h

theorem dropMotion {d : Dev} (h : d.Stops) (c : Nat) : (d.dropMotion c).Stops := by
  unfold Dev.dropMotion
  extract_lets d1 d2
  have released : d1.Stops := by
    simp only [d1]
    split
    · exact (h.onTc _ (by exact fun _ => ⟨rfl, rfl⟩)).stopProfile _
    · exact h
  have given : d2.Stops := by
    simp only [d2]
    split
    · exact released.onTc _ (by exact fun _ => ⟨rfl, rfl⟩)
    · exact released
  split
  · exact given.restTape
  · exact given

theorem flightFailed {d : Dev} (h : d.Stops) (c : Nat) (f : Flight) (s : W16) : (d.flightFailed c f s).Stops := by
  unfold Dev.flightFailed
  split
  · exact h.of_brake (Dev.brake_kept.failRead ..)
  · exact h.failOutput ..
  · exact h.failOutput ..
  · exact h.openFailed ..
  · exact h.openFailed ..
  · exact h.forgetColophon.failWith ..
  · exact h.forgetColophon.failWith ..
  · exact (h.dropMotion c).failWith ..
  · exact (h.dropMotion c).failWith ..
  · exact h.failWith ..

theorem drainLost {d : Dev} (h : d.Stops) : d.drainLost.Stops := by
  unfold Dev.drainLost Dev.when
  split <;> exact h

theorem failTape {d : Dev} (h : d.Stops) (s : W16) (d0 d1 : W64) : (d.failTape s d0 d1).Stops := by
  unfold Dev.failTape
  refine drainLost (forgetColophon ?_)
  refine h.each _ _ fun e c he => ?_
  split
  · exact he.openFailed ..
  · exact he.failWith ..

theorem rejectOpen {d : Dev} (h : d.Stops) : d.rejectOpen.Stops := by
  unfold Dev.rejectOpen
  extract_lets mine opened d1
  have recounted : d1.Stops := h.each _ _ fun e k he => he.onFm _
  exact recounted.onSh _ (by exact fun _ => rfl)

theorem interruptRun {d : Dev} (h : d.Stops) (r : RunSt) : (d.interruptRun r).Stops := by
  unfold Dev.interruptRun
  split
  · exact h.onSh _ (by exact fun _ => rfl)
  · extract_lets d1
    have halted : d1.Stops := (h.rejectOpen.of_brake (Dev.brake_kept.count ..)).stopTape r
    split
    · exact halted.failTape ..
    · exact halted

theorem faultRun {d : Dev} (h : d.Stops) : d.faultRun.Stops := by
  unfold Dev.faultRun
  extract_lets starting d1
  split
  · exact (h.interruptRun _).failTape ..
  · exact h.interruptRun _

theorem endTurn {d : Dev} (h : d.Stops) : d.endTurn.Stops := by
  unfold Dev.endTurn
  extract_lets d1
  have ended : d1.Stops := ((h.onSh _ (by exact fun _ => rfl)).orderAll _).stopProfile _
  have idle : d1.sh.resumeDue = false := congrArg (fun x => x.2.2) ended
  rw [if_neg (by simp [idle])]
  exact ended

theorem motionEnds {d : Dev} (h : d.Stops) : d.motionEnds.Stops := by
  unfold Dev.motionEnds
  extract_lets d1 d2
  have failed : d1.Stops := h.each _ _ fun e c he => by
    split
    · exact he.flightFailed ..
    · exact he
  have faulted : d2.Stops := failed.faultRun
  split
  · have refused : (d2.failReads ((d2.sh.turnReads ++ d2.sh.waitTape).map (fun x => x.1))).Stops :=
      faulted.each _ _ fun e c he => he.of_brake (Dev.brake_kept.failRead ..)
    exact (refused.onSh _ (by exact fun _ => rfl)).endTurn
  · exact faulted

end Dev.Stops

theorem Dev.beginStopping_stops {d : Dev} (h : d.sh.resumeDue = false) : (d.beginStopping false).Stops := by
  unfold Dev.beginStopping
  extract_lets d1
  have begun : d1.Stops := Dev.Stops.motionEnds (by simp [Dev.Stops, Dev.brake, h])
  exact (begun.stopProfile .stopFor).onTc _ (by exact fun _ => ⟨rfl, rfl⟩)

theorem drainHalt_stops {s : State} (hw : s.dev.working = true) (hd : s.dev.drained = true) (hs : s.dev.tc.st = .run) (hr : s.dev.sh.resumeDue = false) :
    Does .drainHalt s (fun d => d.tc.st = .stopping ∧ d.tc.reaction = .stop) := by
  refine Does.of_whenDev (g := fun d => d.working && d.drained) rfl (by simp [hw, hd]) ?_
  have stops : (s.dev.beginStopping false).brake = (.stopping, .stop, false) := Dev.beginStopping_stops hr
  simp only [Dev.brake, Prod.mk.injEq] at stops
  obtain ⟨st, reaction, -⟩ := stops
  simp only [hs, Dev.react, reduceCtorEq, if_false, true_or, if_true]
  exact ⟨st, reaction⟩

end Sys2Proof.Machine

open Sys2Proof Sys2Proof.Machine

/-- Settles O54: a round's stages one after another, each with what it keeps, and each halt by what a C5 makes of the device. -/
theorem housekeepingActs : Obligations.HousekeepingActs := by
  intro s ha
  dsimp only
  have works : s.dev.er.failed = false → s.dev.working = true := fun hf => by simp [Dev.working, ha, hf]
  refine ⟨fun codes speeds avs hc hs => ?round, fun hf hg => throttleGraceEnd_paces (works hf) hg, fun path v hw hl => throttleRateWrite_takes hw hl,
    fun hf hd => ⟨fun done => ⟨?_, ?_, drainHalt_stopping⟩, ?_⟩, hardTrip_halts ha, refclkLoss_halts ha⟩
  case round =>
    obtain ⟨m, hm, acts⟩ := hkRoundEnd_acts ha avs hc hs
    obtain ⟨levels, regs, rounds, visible, fault⟩ := s.dev.roundMeasured_keeps codes speeds
    rw [← hm] at levels regs rounds visible fault
    obtain ⟨hadBand, hadDrain, -, -⟩ := Hk.levels_eq levels
    refine ⟨_, acts, ?_⟩
    generalize he : m.roundActed s.dev.hk.speeds avs = e
    obtain ⟨measured, band, level1, factor, enters⟩ := m.roundActed_keeps _ avs e he.symm
    obtain ⟨keptRounds, keptSpeeds, keptReading, keptFault⟩ := Hk.measured_eq measured
    refine ⟨keptRounds.trans rounds, fun i hi => ?_, fun h => keptFault.trans (fault h), ?_, level1, factor,
      fun h4 hd => enters h4 (hadDrain.trans hd)⟩
    · rw [keptSpeeds, visible i hi]
    · rw [band, Dev.bandNext_congr regs hadBand, keptReading, keptFault]
  · exact drainHalt_safe (works hf) done
  · exact drainHalt_stops (works hf) done
  · exact drainLimitExpire_halts (works hf) hd

end

section
/-! The fields of a word and of a W1C register: what one holds after a field was put there. -/

namespace Sys2Proof.Machine

theorem fieldOf_eq {w : Nat} (v : BitVec w) (hi lo : Nat) : fieldOf v hi lo = v.toNat / 2 ^ lo % 2 ^ (hi + 1 - lo) := by
  rw [fieldOf, Nat.shiftRight_eq_div_pow]

/-- A number below `k * (m * l)` whose middle digit, of weight `l` and below `m`, is replaced by `y`. -/
theorem replaced_digit {v k m l y : Nat} (hv : v < m * l * k) (hy : y < m) (hl : 0 < l) :
    (v - v / l % m * l + y * l) % (m * l * k) = (v / (m * l) * m + y) * l + v % l := by
  have split : v = (v / (m * l) * m + v / l % m) * l + v % l := by
    rw [mul_comm m l, ← Nat.div_div_eq_div_mul, mul_comm _ m, Nat.div_add_mod, Nat.div_add_mod']
  have above : v / (m * l) < k := Nat.div_lt_of_lt_mul hv
  have below : v % l < l := Nat.mod_lt _ hl
  generalize v / (m * l) = a, v / l % m = f, v % l = b at *
  have sum : v - f * l + y * l = (a * m + y) * l + b := by rw [split, add_mul, add_mul]; omega
  rw [sum, Nat.mod_eq_of_lt]
  calc (a * m + y) * l + b < (a * m + m) * l := by nlinarith
    _ = (a + 1) * (m * l) := by ring
    _ ≤ k * (m * l) := Nat.mul_le_mul_right _ above
    _ = m * l * k := mul_comm ..

/-- A word after a write of a field: what lies above the field, the field, and what lies below it. -/
theorem putField_toNat (v : W32) {hi lo : Nat} (x : Nat) (hl : lo ≤ hi) (hh : hi < 32) :
    (putField v hi lo x).toNat = (v.toNat / 2 ^ (hi + 1) * 2 ^ (hi + 1 - lo) + x % 2 ^ (hi + 1 - lo)) * 2 ^ lo + v.toNat % 2 ^ lo := by
  have whole : 2 ^ (hi + 1) = 2 ^ (hi + 1 - lo) * 2 ^ lo := by rw [← pow_add]; congr 1; omega
  have word : 2 ^ 32 = 2 ^ (hi + 1 - lo) * 2 ^ lo * 2 ^ (31 - hi) := by rw [← whole, ← pow_add]; congr 1; omega
  simp only [putField, toW32, BitVec.toNat_ofNat, fieldOf_eq]
  rw [whole, word]
  exact replaced_digit (word ▸ v.isLt) (Nat.mod_lt _ (Nat.two_pow_pos _)) (Nat.two_pow_pos _)

theorem fieldOf_putField_same (v : W32) {hi lo : Nat} (x : Nat) (hl : lo ≤ hi) (hh : hi < 32) :
    fieldOf (putField v hi lo x) hi lo = x % 2 ^ (hi + 1 - lo) := by
  rw [fieldOf_eq, putField_toNat v x hl hh, Nat.add_comm, Nat.add_mul_div_right _ _ (Nat.two_pow_pos _), Nat.div_eq_of_lt (Nat.mod_lt _ (Nat.two_pow_pos _)),
    Nat.zero_add, Nat.mul_add_mod', Nat.mod_mod]

theorem fieldOf_putField_above (v : W32) {hi lo : Nat} (x : Nat) {i j : Nat} (hl : lo ≤ hi) (hh : hi < 32) (hj : hi < j) :
    fieldOf (putField v hi lo x) i j = fieldOf v i j := by
  have whole : 2 ^ (hi + 1) = 2 ^ lo * 2 ^ (hi + 1 - lo) := by rw [← pow_add]; congr 1; omega
  have weight : 2 ^ j = 2 ^ (hi + 1) * 2 ^ (j - (hi + 1)) := by rw [← pow_add]; congr 1; omega
  have top : (putField v hi lo x).toNat / 2 ^ (hi + 1) = v.toNat / 2 ^ (hi + 1) := by
    rw [putField_toNat v x hl hh, whole, ← Nat.div_div_eq_div_mul, Nat.add_comm, Nat.add_mul_div_right _ _ (Nat.two_pow_pos _),
      Nat.div_eq_of_lt (Nat.mod_lt _ (Nat.two_pow_pos _)), Nat.zero_add, Nat.add_comm, Nat.add_mul_div_right _ _ (Nat.two_pow_pos _),
      Nat.div_eq_of_lt (Nat.mod_lt _ (Nat.two_pow_pos _)), Nat.zero_add]
  rw [fieldOf_eq, fieldOf_eq, weight, ← Nat.div_div_eq_div_mul, top, Nat.div_div_eq_div_mul]

theorem fieldOf_putField_below (v : W32) {hi lo : Nat} (x : Nat) {i j : Nat} (hl : lo ≤ hi) (hh : hi < 32) (hj : j ≤ i) (hi' : i < lo) :
    fieldOf (putField v hi lo x) i j = fieldOf v i j := by
  have weight : 2 ^ lo = 2 ^ (lo - (i + 1)) * 2 ^ (i + 1) := by rw [← pow_add]; congr 1; omega
  have field : ∀ n, n / 2 ^ j % 2 ^ (i + 1 - j) = n % 2 ^ (i + 1) / 2 ^ j := fun n => by
    rw [← Nat.mod_mul_right_div_self, ← pow_add]; congr 3; omega
  have low : (putField v hi lo x).toNat % 2 ^ (i + 1) = v.toNat % 2 ^ (i + 1) := by
    rw [putField_toNat v x hl hh, weight, ← Nat.mul_assoc, Nat.mul_add_mod', Nat.mod_mul_left_mod]
  rw [fieldOf_eq, fieldOf_eq, field, field, low]

theorem Dev.w1f_setW1f_same (d : Dev) (a bank : Nat) {hi lo : Nat} (x : Nat) (hl : lo ≤ hi) (hh : hi < 32) :
    (d.setW1f a bank hi lo x).w1f a bank hi lo = x % 2 ^ (hi + 1 - lo) := by
  simp [Dev.w1f, Dev.w1cB, Dev.setW1f, fieldOf_putField_same _ x hl hh]

theorem Dev.w1f_setW1f_above (d : Dev) (a bank : Nat) {hi lo : Nat} (x : Nat) {i j : Nat} (hl : lo ≤ hi) (hh : hi < 32) (hj : hi < j) :
    (d.setW1f a bank hi lo x).w1f a bank i j = d.w1f a bank i j := by
  simp [Dev.w1f, Dev.w1cB, Dev.setW1f, fieldOf_putField_above _ x hl hh hj]

theorem Dev.w1f_setW1f_below (d : Dev) (a bank : Nat) {hi lo : Nat} (x : Nat) {i j : Nat} (hl : lo ≤ hi) (hh : hi < 32) (hj : j ≤ i) (hi' : i < lo) :
    (d.setW1f a bank hi lo x).w1f a bank i j = d.w1f a bank i j := by
  simp [Dev.w1f, Dev.w1cB, Dev.setW1f, fieldOf_putField_below _ x hl hh hj hi']

/-- A field of one register's copy keeps its value when another copy is written. -/
theorem Dev.w1f_setW1f_ne (d : Dev) {a bank a' bank' : Nat} (hi lo x i j : Nat) (h : regKey a' bank' ≠ regKey a bank) :
    (d.setW1f a bank hi lo x).w1f a' bank' i j = d.w1f a' bank' i j := by
  simp [Dev.w1f, Dev.w1cB, Dev.setW1f, Table.get_set_ne _ _ h]

end Sys2Proof.Machine
end

section
/-! What the posting of entries changes (R35, R45 to R49): host memory, the vectors of a port, and of a pair its CQ tail and phase. -/

namespace Sys2Proof.Machine

/-! ### The two ports and their host memories -/

@[simp] theorem Dev.onPort_port (d : Dev) (p : PortId) (f : Port → Port) : (d.onPort p f).port p = f (d.port p) := by
  cases p <;> rfl

theorem Dev.onPort_port_ne (d : Dev) {p r : PortId} (f : Port → Port) (h : r ≠ p) : (d.onPort p f).port r = d.port r := by
  cases p <;> cases r <;> simp_all [Dev.onPort, Dev.port]

@[simp] theorem Dev.onHost_host (d : Dev) (p : PortId) (f : Table Byte 0 → Table Byte 0) : (d.onHost p f).host p = f (d.host p) := by
  cases p <;> rfl

theorem Dev.onHost_host_ne (d : Dev) {p r : PortId} (f : Table Byte 0 → Table Byte 0) (h : r ≠ p) : (d.onHost p f).host r = d.host r := by
  cases p <;> cases r <;> simp_all [Dev.onHost, Dev.host]

theorem portNo_le (p : PortId) : portNo p ≤ 1 := by cases p <;> decide

/-- A change of a port is a change of the two ports alone. -/
theorem Dev.onPort_eq (d : Dev) (p : PortId) (f : Port → Port) : d.onPort p f = { d with pa := (d.onPort p f).pa, pb := (d.onPort p f).pb } := by
  cases p <;> rfl

/-- A change of a port's host memory is a change of the two host memories alone. -/
theorem Dev.onHost_eq (d : Dev) (p : PortId) (f : Table Byte 0 → Table Byte 0) :
    d.onHost p f = { d with hostA := (d.onHost p f).hostA, hostB := (d.onHost p f).hostB } := by
  cases p <;> rfl

/-! ### A posting, for what it leaves as it is -/

/-- A pair without what a posting changes. -/
def Pair.unposted (x : Pair) : Pair := { x with cqTail := 0, phase := false }

/-- `e` is `d` after entries were posted on the CQ of pair `q` of port `p`. -/
structure Dev.Posted (p : PortId) (q : Nat) (d e : Dev) : Prop where
  rest : e = { d with pairs := e.pairs, pa := e.pa, pb := e.pb, hostA := e.hostA, hostB := e.hostB }
  pair : (e.pairs.get q).unposted = (d.pairs.get q).unposted
  others : ∀ j, j ≠ q → e.pairs.get j = d.pairs.get j
  port : ∀ r, r ≠ p → e.port r = d.port r
  host : ∀ r, r ≠ p → e.host r = d.host r

namespace Dev.Posted

variable {p : PortId} {q : Nat} {d e f : Dev}

theorem refl (p : PortId) (q : Nat) (d : Dev) : Posted p q d d := ⟨rfl, rfl, fun _ _ => rfl, fun _ _ => rfl, fun _ _ => rfl⟩

theorem trans (h : Posted p q d e) (g : Posted p q e f) : Posted p q d f where
  rest := by rw [g.rest, h.rest]
  pair := g.pair.trans h.pair
  others j hj := (g.others j hj).trans (h.others j hj)
  port r hr := (g.port r hr).trans (h.port r hr)
  host r hr := (g.host r hr).trans (h.host r hr)

theorem onPort (q : Nat) (d : Dev) (p : PortId) (f : Port → Port) : Posted p q d (d.onPort p f) := by
  cases p
  all_goals exact ⟨rfl, rfl, fun _ _ => rfl, fun r hr => Dev.onPort_port_ne d f hr, fun r _ => by cases r <;> rfl⟩

theorem hostWrite (q : Nat) (d : Dev) (p : PortId) (a : Nat) (bs : List Byte) : Posted p q d (d.hostWrite p a bs) := by
  cases p
  all_goals exact ⟨rfl, rfl, fun _ _ => rfl, fun r _ => by cases r <;> rfl, fun r hr => Dev.onHost_host_ne d _ hr⟩

theorem onPair (p : PortId) (q : Nat) (d : Dev) (f : Pair → Pair) (h : ∀ x, (f x).unposted = x.unposted) : Posted p q d (d.onPair q f) where
  rest := rfl
  pair := by rw [Dev.onPair_pairs, Table.get_modify_self]; exact h _
  others j hj := by rw [Dev.onPair_pairs, Table.get_modify_ne _ _ hj]
  port r _ := by cases r <;> rfl
  host r _ := by cases r <;> rfl

theorem writeCqe (d : Dev) (p : PortId) (qid : Nat) (cid : W16) (sqid : Nat) (status : W16) (info : Byte) (result : W64) (s : Stamp) :
    Posted p (dqn p qid) d (d.writeCqe p qid cid sqid status info result s) :=
  (hostWrite ..).trans (onPair _ _ _ _ fun x => by split <;> rfl)

theorem onVec (q : Nat) (d : Dev) (p : PortId) (v : Nat) (f : Vec → Vec) : Posted p q d (d.onVec p v f) := onPort ..

theorem fire (q : Nat) (d : Dev) (p : PortId) (v : Nat) : Posted p q d (d.fire p v) := onVec ..

theorem signal (q : Nat) (d : Dev) (p : PortId) (n : Nat) (noIntr urgent : Bool) : Posted p q d (d.signal p n noIntr urgent) := by
  unfold Dev.signal
  extract_lets v x d1 t k
  have counted : Posted p q d d1 := onVec ..
  split
  · exact refl ..
  split
  · exact fire ..
  split
  · exact refl ..
  split
  · exact counted.trans (fire ..)
  · exact counted

theorem writeNotice (d : Dev) (p : PortId) (n : Notice) : Posted p (dqn p 0) d (d.writeNotice p n) := (writeCqe ..).trans (signal ..)

theorem each {α : Type} (d : Dev) (l : List α) (f : Dev → α → Dev) (h : ∀ e x, Posted p q e (f e x)) : Posted p q d (d.each l f) := by
  unfold Dev.each
  induction l generalizing d with
  | nil => exact refl ..
  | cons x l ih => exact (h d x).trans (ih _)

theorem postHeld (d : Dev) (p : PortId) : Posted p (dqn p 0) d (d.postHeld p) := each _ _ _ fun e n => by
  split
  · exact (onPort ..).trans (writeNotice ..)
  · exact refl ..

/-- What a pair keeps, part by part. -/
theorem pair_eq (h : Posted p q d e) : (e.pairs.get q).st = (d.pairs.get q).st ∧ (e.pairs.get q).sqHead = (d.pairs.get q).sqHead ∧
    (e.pairs.get q).sqTail = (d.pairs.get q).sqTail ∧ (e.pairs.get q).cqHead = (d.pairs.get q).cqHead := by
  have same := h.pair
  simp only [Pair.unposted, Pair.mk.injEq] at same
  obtain ⟨st, -, -, sqHead, sqTail, cqHead, -, -⟩ := same
  exact ⟨st, sqHead, sqTail, cqHead⟩

end Dev.Posted

end Sys2Proof.Machine
end

section
/-! Doorbell writes (R39, R40). -/

namespace Sys2Proof.Machine

theorem Dev.alive_of_working {d : Dev} (h : d.working = true) : d.alive = true ∧ d.er.failed = false := by
  simpa [Dev.working] using h

section Doorbell

variable {d : Dev} {p : PortId} {qid : Nat} {v : W32} (hf : d.er.failed = false)
include hf

theorem Dev.doorbell_deleting (cq : Bool) (hs : (d.pairs.get (dqn p qid)).st = .deleting) : d.doorbell p cq qid v = d := by
  simp [Dev.doorbell, hf, hs]

theorem Dev.doorbell_refused (hn : (d.pairs.get (dqn p qid)).st ≠ .deleting)
    (h : (d.pairs.get (dqn p qid)).st ≠ .active ∨ fieldOf v 31 14 ≠ 0 ∨ d.depth (dqn p qid) ≤ fieldOf v 13 0 ∨
      d.depth (dqn p qid) - 1 - d.sqEntries (dqn p qid) <
        (fieldOf v 13 0 + d.depth (dqn p qid) - (d.pairs.get (dqn p qid)).sqTail) % d.depth (dqn p qid)) :
    d.doorbell p false qid v = d.refuseDoorbell p false qid (fieldOf v 13 0) := by
  simp only [Dev.doorbell, hf, hn, if_false, Bool.false_eq_true]
  split
  · rfl
  next ok => exact if_pos (by tauto)

variable (hs : (d.pairs.get (dqn p qid)).st = .active) (hz : fieldOf v 31 14 = 0) (hi : fieldOf v 13 0 < d.depth (dqn p qid))
include hs hz hi

theorem Dev.doorbell_sqTail (hr : (fieldOf v 13 0 + d.depth (dqn p qid) - (d.pairs.get (dqn p qid)).sqTail) % d.depth (dqn p qid) ≤
      d.depth (dqn p qid) - 1 - d.sqEntries (dqn p qid)) :
    d.doorbell p false qid v = d.onPair (dqn p qid) (fun x => { x with sqTail := fieldOf v 13 0 }) := by
  simp [Dev.doorbell, hf, hs, hz, not_le.mpr hi, not_lt.mpr hr]

theorem Dev.doorbell_cqHead (hr : (fieldOf v 13 0 + d.depth (dqn p qid) - (d.pairs.get (dqn p qid)).cqHead) % d.depth (dqn p qid) ≤
      d.cqEntries (dqn p qid)) :
    d.doorbell p true qid v = let d1 := d.onPair (dqn p qid) (fun x => { x with cqHead := fieldOf v 13 0 })
      if qid = 0 then d1.postHeld p else d1 := by
  simp [Dev.doorbell, hf, hs, hz, not_le.mpr hi, not_lt.mpr hr]

end Doorbell

/-- A doorbell write acts out of reset. -/
theorem sqTailDoorbell_acts {s : State} (hw : s.dev.working = true) (p : PortId) (qid : BitVec 9) (v : W32) :
    exec (.sqTailDoorbell p qid v) s = .next ⟨s.dev.doorbell p false qid.toNat v, s.pending⟩ := State.live_of _ (Dev.alive_of_working hw).1

theorem cqHeadDoorbell_acts {s : State} (hw : s.dev.working = true) (p : PortId) (qid : BitVec 9) (v : W32) :
    exec (.cqHeadDoorbell p qid v) s = .next ⟨s.dev.doorbell p true qid.toNat v, s.pending⟩ := State.live_of _ (Dev.alive_of_working hw).1

end Sys2Proof.Machine

open Sys2Proof Sys2Proof.Machine

/-- Settles O8: what an accepted write does, and that what pair 0 posts then leaves its indices as they are. -/
theorem doorbellMovesTheIndex : Obligations.DoorbellMovesTheIndex := by
  intro p qid v s hw
  obtain ⟨-, hf⟩ := Dev.alive_of_working hw
  dsimp only
  refine ⟨fun hs hz hi hr => ?_, fun hs hz hi hr hq => ?_, fun hs hz hi hr hq => ?_, fun hs => ?_⟩
  · rw [sqTailDoorbell_acts hw, Dev.doorbell_sqTail hf hs hz hi hr]
    rfl
  · have other : ¬qid.toNat = 0 := fun h => hq (BitVec.eq_of_toNat_eq h)
    rw [cqHeadDoorbell_acts hw, Dev.doorbell_cqHead hf hs hz hi hr]
    simp only [if_neg other]
    rfl
  · subst hq
    refine ⟨_, cqHeadDoorbell_acts hw .., ?_⟩
    rw [Dev.doorbell_cqHead hf hs hz hi hr]
    have posted := Dev.Posted.postHeld (s.dev.onPair (dqn p 0) fun x => { x with cqHead := fieldOf v 13 0 }) p
    obtain ⟨st, sqHead, sqTail, cqHead⟩ := posted.pair_eq
    simp only [Dev.onPair_pairs, Table.get_modify_self] at st sqHead sqTail cqHead
    refine ⟨cqHead, st.trans hs, sqTail, sqHead, fun j hj => (posted.others j hj).trans ?_, posted.rest⟩
    exact Table.get_modify_ne _ _ hj
  · rw [sqTailDoorbell_acts hw, cqHeadDoorbell_acts hw, Dev.doorbell_deleting hf _ hs, Dev.doorbell_deleting hf _ hs]
    exact ⟨rfl, rfl⟩

end

section
/-! Refused doorbell writes (R40), and what a record of the error log leaves as it is (R283, R284). -/

namespace Sys2Proof.Machine

/-- `e` is `d` but for the clock, the draws, the W1C fields and the errors. -/
def Dev.Logged (d e : Dev) : Prop := e = { d with clk := e.clk, draws := e.draws, w1c := e.w1c, er := e.er }

theorem Dev.Logged.trans {d e f : Dev} (h : d.Logged e) (g : e.Logged f) : d.Logged f := by
  unfold Dev.Logged at *
  rw [g, h]

theorem Dev.Logged.refl (d : Dev) : d.Logged d := rfl

theorem Dev.setW1f_logged (d : Dev) (a bank hi lo x : Nat) : d.Logged (d.setW1f a bank hi lo x) := rfl

theorem Dev.onClk_logged (d : Dev) (f : Clock → Clock) : d.Logged (d.onClk f) := rfl

theorem Dev.onEr_logged (d : Dev) (f : Errors → Errors) : d.Logged (d.onEr f) := rfl

theorem Dev.draws_logged (d : Dev) (n : Nat) : d.Logged { d with draws := n } := rfl

theorem Dev.advanceTo_logged (d : Dev) (t : Nat) : d.Logged (d.advanceTo t) := by
  unfold Dev.advanceTo
  split
  · exact Dev.onClk_logged ..
  · exact Dev.Logged.refl d

theorem Dev.noteLead_logged (d : Dev) (u l : Nat) : d.Logged (d.noteLead u l) := by
  unfold Dev.noteLead
  split
  · exact (Dev.setW1f_logged ..).trans (Dev.onClk_logged ..)
  · exact Dev.Logged.refl d

theorem Dev.noteStall_logged (d : Dev) (u t : Nat) : d.Logged (d.noteStall u t) := by
  unfold Dev.noteStall
  split
  · exact ((Dev.setW1f_logged ..).trans (Dev.advanceTo_logged ..)).trans (Dev.onClk_logged ..)
  · exact Dev.Logged.refl d

theorem Dev.stamp_logged (d : Dev) (u a : Nat) : d.Logged (d.stamp u a).2 :=
  (((d.onClk_logged _).trans (Dev.draws_logged ..)).trans (Dev.noteLead_logged ..)).trans (Dev.noteStall_logged ..)

theorem Dev.logRoom_logged (d : Dev) : d.Logged d.logRoom := by
  unfold Dev.logRoom
  split
  · exact (Dev.onEr_logged ..).trans (Dev.setW1f_logged ..)
  · exact Dev.Logged.refl d

/-- The device that a record enters: stamped, with room in the log, and marked where the log has no room for a pin. -/
def Dev.logOpen (d : Dev) (r : Report) : Dev :=
  let e := (d.stamp r.unit.origin r.after).2.logRoom
  if decide (3 ≤ classNo r.cls) && !decide (e.er.pinnedCount < 256) then e.setW1 Reg.ER_LOGSTAT 0 31 else e

theorem Dev.note_eq (d : Dev) (r : Report) : ∃ f : Errors → Errors, d.note r = (d.logOpen r).onEr f := by
  unfold Dev.note Dev.log Dev.logOpen
  extract_lets sd d1 high pin d2 e
  have same : d2 = if decide (3 ≤ classNo r.cls) && !decide (e.er.pinnedCount < 256) then e.setW1 Reg.ER_LOGSTAT 0 31 else e := by
    cases h : decide (3 ≤ classNo r.cls) <;> simp [d2, pin, high, e, d1, sd, h]
  exact ⟨_, by rw [← same]⟩

theorem Dev.logOpen_logged (d : Dev) (r : Report) : d.Logged (d.logOpen r) := by
  have roomed := (d.stamp_logged r.unit.origin r.after).trans (Dev.logRoom_logged _)
  unfold Dev.logOpen
  extract_lets e
  split
  · exact roomed.trans (Dev.setW1f_logged ..)
  · exact roomed

theorem Dev.note_logged (d : Dev) (r : Report) : d.Logged (d.note r) := by
  obtain ⟨f, he⟩ := d.note_eq r
  rw [he]
  exact (d.logOpen_logged r).trans (Dev.onEr_logged ..)

/-- The copies of W1C fields that a record may change: the lead of the stamps, and the state of the log. -/
def logKey (k : Nat) : Prop := k = regKey Reg.ST_LEAD 0 ∨ k = regKey Reg.ER_LOGSTAT 0

theorem Dev.w1c_setW1f_ne (d : Dev) {a bank k : Nat} (hi lo x : Nat) (h : k ≠ regKey a bank) : (d.setW1f a bank hi lo x).w1c.get k = d.w1c.get k :=
  Table.get_set_ne _ _ h

@[simp] theorem Dev.advanceTo_w1c (d : Dev) (t : Nat) : (d.advanceTo t).w1c = d.w1c := by
  unfold Dev.advanceTo
  split <;> simp

theorem Dev.stamp_w1c_get (d : Dev) (u a : Nat) {k : Nat} (h : ¬logKey k) : (d.stamp u a).2.w1c.get k = d.w1c.get k := by
  have lead : k ≠ regKey Reg.ST_LEAD 0 := fun e => h (.inl e)
  have noted : ∀ (e : Dev) (l : Nat), (e.noteLead u l).w1c.get k = e.w1c.get k := fun e l => by
    unfold Dev.noteLead
    split
    · rw [Dev.onClk_w1c, Dev.w1c_setW1f_ne _ _ _ _ lead]
    · rfl
  have stalled : ∀ (e : Dev) (t : Nat), (e.noteStall u t).w1c.get k = e.w1c.get k := fun e t => by
    unfold Dev.noteStall
    split
    · rw [Dev.onClk_w1c, Dev.advanceTo_w1c, Dev.setW1, Dev.w1c_setW1f_ne _ _ _ _ lead]
    · rfl
  rw [Dev.stamp_snd, stalled]
  exact noted ..

theorem Dev.note_w1c_get (d : Dev) (r : Report) {k : Nat} (h : ¬logKey k) : (d.note r).w1c.get k = d.w1c.get k := by
  have stat : k ≠ regKey Reg.ER_LOGSTAT 0 := fun e => h (.inr e)
  have roomed : (d.stamp r.unit.origin r.after).2.logRoom.w1c.get k = d.w1c.get k := by
    unfold Dev.logRoom
    split
    · rw [Dev.bumpW1, Dev.w1c_setW1f_ne _ _ _ _ stat, Dev.onEr_w1c, d.stamp_w1c_get _ _ h]
    · exact d.stamp_w1c_get _ _ h
  obtain ⟨f, he⟩ := d.note_eq r
  rw [he, Dev.onEr_w1c]
  unfold Dev.logOpen
  extract_lets e
  split
  · rw [Dev.setW1, Dev.w1c_setW1f_ne _ _ _ _ stat, roomed]
  · exact roomed

theorem Dev.note_w1f (d : Dev) (r : Report) {a bank : Nat} (i j : Nat) (h : ¬logKey (regKey a bank)) : (d.note r).w1f a bank i j = d.w1f a bank i j := by
  rw [Dev.w1f, Dev.w1cB, d.note_w1c_get r h]; rfl

/-! ### QM_DBERR -/

theorem dberr_not_logKey (p : PortId) : ¬logKey (regKey Reg.QM_DBERR (portNo p)) := by
  have := portNo_le p
  simp only [logKey, regKey, Reg.QM_DBERR, Reg.ST_LEAD, Reg.ER_LOGSTAT]
  omega

theorem Dev.refuseDoorbell_logged (d : Dev) (p : PortId) (cq : Bool) (qid idx : Nat) : d.Logged (d.refuseDoorbell p cq qid idx) := by
  refine Dev.Logged.trans ?_ (Dev.note_logged ..)
  split
  · exact Dev.Logged.refl d
  · exact (((Dev.setW1f_logged ..).trans (Dev.setW1f_logged ..)).trans (Dev.setW1f_logged ..)).trans (Dev.setW1f_logged ..)

theorem Dev.refuseDoorbell_lastC0 (d : Dev) (p : PortId) (cq : Bool) (qid idx : Nat) :
    (d.refuseDoorbell p cq qid idx).lastC0 (fun r => r.origin = qmUnit p) :=
  Dev.note_lastC0 _ _ _ rfl fun _ _ => rfl

/-- The first refused write is captured, field by field. -/
theorem Dev.refuseDoorbell_captures {d : Dev} {p : PortId} (cq : Bool) {qid idx : Nat} (h : d.w1f Reg.QM_DBERR (portNo p) 31 31 = 0) (hq : qid < 2 ^ 9)
    (hi : idx < 2 ^ 14) : let e := d.refuseDoorbell p cq qid idx
      e.w1f Reg.QM_DBERR (portNo p) 31 31 = 1 ∧ e.w1f Reg.QM_DBERR (portNo p) 30 30 = b2n cq ∧
      e.w1f Reg.QM_DBERR (portNo p) 24 16 = qid ∧ e.w1f Reg.QM_DBERR (portNo p) 13 0 = idx := by
  have bit : b2n cq % 2 ^ (30 + 1 - 30) = b2n cq := by cases cq <;> rfl
  have free : ¬(0 : Nat) = 1 := by decide
  dsimp only [Dev.refuseDoorbell]
  simp only [Dev.note_w1f _ _ _ _ (dberr_not_logKey p), h, if_neg free]
  refine ⟨?_, ?_, ?_, ?_⟩
  · rw [Dev.w1f_setW1f_above, Dev.w1f_setW1f_above, Dev.w1f_setW1f_above, Dev.w1f_setW1f_same]
    all_goals decide
  · rw [Dev.w1f_setW1f_above, Dev.w1f_setW1f_above, Dev.w1f_setW1f_same, bit]
    all_goals decide
  · rw [Dev.w1f_setW1f_above, Dev.w1f_setW1f_same]
    · exact Nat.mod_eq_of_lt hq
    all_goals decide
  · rw [Dev.w1f_setW1f_same]
    · exact Nat.mod_eq_of_lt hi
    all_goals decide

end Sys2Proof.Machine

open Sys2Proof Sys2Proof.Machine

/-- Settles O9: a write that R39 does not accept is refused, and a refusal is a capture and a record. -/
theorem refusedDoorbellIsCaptured : Obligations.RefusedDoorbellIsCaptured := by
  intro p qid v s hw
  obtain ⟨-, hf⟩ := Dev.alive_of_working hw
  dsimp only
  intro bad
  refine ⟨_, sqTailDoorbell_acts hw .., ?_⟩
  have refused : s.dev.doorbell p false qid.toNat v = s.dev.refuseDoorbell p false qid.toNat (fieldOf v 13 0) := by
    apply Dev.doorbell_refused hf
    · rcases bad with h | h | ⟨h, -⟩ <;> simp [h]
    · rcases bad with h | h | ⟨-, h⟩
      · exact .inl (by simp [h])
      · exact .inl (by simp [h])
      · exact .inr h
  rw [refused]
  have logged := s.dev.refuseDoorbell_logged p false qid.toNat (fieldOf v 13 0)
  refine ⟨?_, s.dev.refuseDoorbell_lastC0 .., fun h => ?_, logged⟩
  · rw [logged]
  · exact Dev.refuseDoorbell_captures false h qid.isLt (fieldOf_lt v 13 0)

end

section
/-! QUEUE_CREATE and QUEUE_DELETE (R26, R28): the write of QM_QCTL takes no field, and its operation acts on the selected pair. -/

namespace Sys2Proof.Machine

/-! ### The write of QM_QCTL -/

/-- A command that is a register write, on a path that is writable. -/
theorem write_writable {i : Instr} {s : State} {path : Path} {a : Nat} {v : Dev → W32} {P : Dev → Prop} (he : exec i s = s.write path a v)
    (hw : s.dev.writable path = true) (h : P (s.dev.writeReg path a (v s.dev))) : Does i s P := by
  simp only [Dev.writable, Bool.and_eq_true] at hw
  obtain ⟨⟨⟨⟨reach, booted⟩, -⟩, -⟩, -⟩ := hw
  refine Does.of_whenDev (g := fun d => d.pathOpen path) he reach ?_
  rwa [Dev.arrive_of_bootDone path a _ booted]

theorem regKey_ne {a b : Nat} (ha : a < 2 ^ 26) (hb : b < 2 ^ 26) (h : a ≠ b) (i j : Nat) : regKey a i ≠ regKey b j := by
  unfold regKey
  omega

theorem Dev.regB_setRegB_ne (d : Dev) {a b : Nat} (bank : Nat) (v : W32) (j : Nat) (ha : a < 2 ^ 26) (hb : b < 2 ^ 26) (h : b ≠ a) :
    (d.setRegB a bank v).regB b j = d.regB b j := by
  simp only [Dev.regB, Dev.setRegB, Table.get_set_ne _ _ (regKey_ne hb ha h j bank)]

/-- The row of QM_QCTL in the register map. -/
def qctl : RegDesc := mkReg Reg.QM_QCTL 1 0 1 0 [fd 1 0 .wo 0]

theorem findReg_qctl : findReg Reg.QM_QCTL = some qctl := by decide

theorem Dev.takeFields_qctl (d : Dev) (p : PortId) (old v : W32) : d.takeFields p qctl Reg.QM_QCTL old v = (old, false) := by
  simp [Dev.takeFields, Dev.takeField, qctl, mkReg, fd]

/-- The device once QM_QCTL has been written: its registers read as before. -/
def Dev.qctlWritten (d : Dev) (p : PortId) : Dev :=
  d.setRegB Reg.QM_QCTL (d.bankOf p Reg.QM_QCTL) (d.regB Reg.QM_QCTL (d.bankOf p Reg.QM_QCTL))

theorem Dev.qctlWritten_regB (d : Dev) (p : PortId) {a : Nat} (ha : a < 2 ^ 26) (h : a ≠ Reg.QM_QCTL) (bank : Nat) :
    (d.qctlWritten p).regB a bank = d.regB a bank := d.regB_setRegB_ne _ _ _ (by decide) ha h

theorem Dev.qctlWritten_rfB (d : Dev) (p : PortId) {a : Nat} (ha : a < 2 ^ 26) (h : a ≠ Reg.QM_QCTL) (bank hi lo : Nat) :
    (d.qctlWritten p).rfB a bank hi lo = d.rfB a bank hi lo := by rw [Dev.rfB, d.qctlWritten_regB p ha h, Dev.rfB]

theorem Dev.bankOf_qctl (d : Dev) (p : PortId) : d.bankOf p Reg.QM_QCTL = dqn p (d.rfB Reg.QM_QSEL (portNo p) 8 0) := rfl

theorem dqn_mod (p : PortId) {n : Nat} (h : n < 512) : dqn p n % 512 = n := by
  unfold dqn
  omega

/-- A write of QM_QCTL is its operation on the pair that the port has selected. -/
theorem Dev.writeReg_qctl {d : Dev} {path : Path} (v : W32) (hr : d.boot.ready = true) (hw : d.working = true) :
    d.writeReg path Reg.QM_QCTL v =
      (d.qctlWritten (pathPort path)).queueOp (pathPort path) (d.rfB Reg.QM_QSEL (portNo (pathPort path)) 8 0) (fieldOf v 1 0) := by
  have mask : w1cMask qctl v = 0 := rfl
  have whole : breaksWhole qctl.base v = false := rfl
  have base : qctl.base = Reg.QM_QCTL := rfl
  have held : (d.qctlWritten (pathPort path)).heldBack Reg.QM_QCTL v = false := by
    have ready : (d.qctlWritten (pathPort path)).boot.ready = true := hr
    simp [Dev.heldBack, ready]
  have works : (d.qctlWritten (pathPort path)).working = true := hw
  have bank : (d.qctlWritten (pathPort path)).bankOf (pathPort path) Reg.QM_QCTL % 512 = d.rfB Reg.QM_QSEL (portNo (pathPort path)) 8 0 := by
    rw [Dev.bankOf_qctl, d.qctlWritten_rfB _ (by decide) (by decide)]
    exact dqn_mod _ (fieldOf_lt _ 8 0)
  have taken : d.writeKnown path qctl Reg.QM_QCTL v = (d.qctlWritten (pathPort path)).startOp path Reg.QM_QCTL v := by
    simp only [Dev.writeKnown, Dev.takeFields_qctl, mask, whole, Bool.false_eq_true, false_and, if_false, Dev.clearBits, if_true, Dev.regHook]
    rfl
  simp only [Dev.writeReg, findReg_qctl, base, Reg.QM_QCTL, Reg.DB_SQT, Reg.DB_CQH, Reg.CX_IVLCTL]
  rw [if_neg (by decide), if_neg (by decide), if_neg (by decide)]
  refine taken.trans ?_
  simp only [Dev.startOp, held, Dev.lateOp, works, bank, Bool.false_eq_true, if_false, Bool.not_true, if_true]

/-! ### The operations -/

/-- A delete leaves a pair with commands under way deleting. -/
theorem Dev.settle_waits {d : Dev} {q : Nat} (h : (d.unposted q).isEmpty = false) : d.settle q = d := by
  simp [Dev.settle, h]

/-- A deleting pair of which no command is under way is disabled. -/
theorem Dev.settle_ends {d : Dev} {q : Nat} (hs : (d.pairs.get q).st = .deleting) (h : (d.unposted q).isEmpty = true) :
    d.settle q = d.onPair q (fun x => { x with st := .disabled }) := if_pos ⟨hs, h⟩

theorem Dev.queueOp_refused {d : Dev} {p : PortId} {qid : Nat} (h : d.createCheck (dqn p qid) ≠ 0) :
    d.queueOp p qid 1 = d.onPair (dqn p qid) (fun x => { x with createResult := d.createCheck (dqn p qid) }) := by
  simp [Dev.queueOp, h]

/-- A pair just created. -/
def Pair.fresh : Pair := { Pair.reset with st := .active, phase := true }

theorem Dev.queueOp_creates {d : Dev} {p : PortId} {qid : Nat} (h : d.createCheck (dqn p qid) = 0) :
    d.queueOp p qid 1 = let d1 := d.onPair (dqn p qid) (fun _ => Pair.fresh)
      if qid = 0 then d1.postHeld p else d1 := by
  simp [Dev.queueOp, h, Pair.fresh]

theorem Dev.queueOp_deletes {d : Dev} {p : PortId} {qid : Nat} (h : (d.pairs.get (dqn p qid)).st = .active ∨ (d.pairs.get (dqn p qid)).st = .error) :
    d.queueOp p qid 2 = (d.onPair (dqn p qid) (fun x => { x with st := .deleting })).settle (dqn p qid) := by
  simp [Dev.queueOp, h]

theorem Dev.queueOp_keeps {d : Dev} {p : PortId} {qid : Nat} (h : (d.pairs.get (dqn p qid)).st = .disabled ∨ (d.pairs.get (dqn p qid)).st = .deleting) :
    d.queueOp p qid 2 = d := by
  rcases h with h | h <;> simp [Dev.queueOp, h]

theorem Dev.qctlWritten_createCheck (d : Dev) (p : PortId) (q : Nat) : (d.qctlWritten p).createCheck q = d.createCheck q := by
  unfold Dev.createCheck
  rw [d.qctlWritten_rfB p (by decide) (by decide), d.qctlWritten_rfB p (by decide) (by decide), d.qctlWritten_rfB p (by decide) (by decide)]
  rfl

/-- What a create that passes its checks leaves of its pair. -/
theorem Dev.created_pairs (d : Dev) (p : PortId) (qid : Nat) :
    let d1 := d.onPair (dqn p qid) (fun _ => Pair.fresh)
    let e := if qid = 0 then d1.postHeld p else d1
    (e.pairs.get (dqn p qid)).st = .active ∧ (e.pairs.get (dqn p qid)).sqHead = 0 ∧ (e.pairs.get (dqn p qid)).sqTail = 0 ∧
      (qid ≠ 0 → (e.pairs.get (dqn p qid)).cqTail = 0 ∧ (e.pairs.get (dqn p qid)).phase = true ∧ e.pairs = d.pairs.set (dqn p qid) Pair.fresh) := by
  dsimp only
  by_cases hq : qid = 0
  · subst hq
    obtain ⟨st, sqHead, sqTail, -⟩ := (Dev.Posted.postHeld (d.onPair (dqn p 0) fun _ => Pair.fresh) p).pair_eq
    simp only [Dev.onPair_pairs, Table.get_modify_self] at st sqHead sqTail
    rw [if_pos rfl]
    exact ⟨st, sqHead, sqTail, fun h => absurd rfl h⟩
  · simp only [if_neg hq, Dev.onPair_pairs, Table.get_modify_self]
    exact ⟨rfl, rfl, rfl, fun _ => ⟨rfl, rfl, rfl⟩⟩

/-- What a delete leaves of an active pair or one in error: it waits for the commands under way, or is disabled. -/
theorem Dev.deleted_pairs (d : Dev) (q : Nat) : let e := (d.onPair q (fun x => { x with st := .deleting })).settle q
    ((d.unposted q).isEmpty = false → e.pairs = d.pairs.set q { d.pairs.get q with st := .deleting }) ∧
    ((d.unposted q).isEmpty = true → (e.pairs.get q).st = .disabled ∧ ∀ j, j ≠ q → e.pairs.get j = d.pairs.get j) := by
  have same : (d.onPair q (fun x => { x with st := .deleting })).unposted q = d.unposted q := rfl
  dsimp only
  refine ⟨fun h => ?_, fun h => ?_⟩
  · rw [Dev.settle_waits (same ▸ h)]
    rfl
  · rw [Dev.settle_ends (by simp) (same ▸ h)]
    exact ⟨by simp, fun j hj => by simp [Table.get_modify_ne _ _ hj]⟩

section Selected

variable {s : State} {path : Path} {P : Dev → Prop} (hw : s.dev.writable path = true)
include hw

theorem queueCreate_acts (h : P ((s.dev.qctlWritten (pathPort path)).queueOp (pathPort path) (s.dev.rfB Reg.QM_QSEL (portNo (pathPort path)) 8 0) 1)) :
    Does (.queueCreate path) s P := by
  have started := hw
  simp only [Dev.writable, Bool.and_eq_true] at started
  obtain ⟨⟨⟨-, ready⟩, -⟩, works⟩ := started
  exact write_writable rfl hw ((Dev.writeReg_qctl 1 ready works).symm ▸ h)

theorem queueDelete_acts (h : P ((s.dev.qctlWritten (pathPort path)).queueOp (pathPort path) (s.dev.rfB Reg.QM_QSEL (portNo (pathPort path)) 8 0) 2)) :
    Does (.queueDelete path) s P := by
  have started := hw
  simp only [Dev.writable, Bool.and_eq_true] at started
  obtain ⟨⟨⟨-, ready⟩, -⟩, works⟩ := started
  exact write_writable rfl hw ((Dev.writeReg_qctl 2 ready works).symm ▸ h)

end Selected

end Sys2Proof.Machine

open Sys2Proof Sys2Proof.Machine

/-- Settles O10: the create's checks, and what each operation makes of the selected pair. -/
theorem queueCreateAndDelete : Obligations.QueueCreateAndDelete := by
  intro path s hw
  have sel := Dev.bankOf_qctl s.dev (pathPort path)
  have small : s.dev.rfB Reg.QM_QSEL (portNo (pathPort path)) 8 0 < 512 := fieldOf_lt _ 8 0
  dsimp only
  rw [sel]
  have mod := dqn_mod (pathPort path) small
  have check := s.dev.qctlWritten_createCheck (pathPort path)
  have create := @queueCreate_acts s path
  have delete := @queueDelete_acts s path
  generalize s.dev.rfB Reg.QM_QSEL (portNo (pathPort path)) 8 0 = qid at *
  refine ⟨fun hs hl hh hsq hcq => create hw ?_, fun r hr hne => create hw ?_, fun hs hu => delete hw ?_, fun hs hu => delete hw ?_, fun hs => delete hw ?_⟩
  · have passes : s.dev.createCheck (dqn (pathPort path) qid) = 0 := by
      simp [Dev.createCheck, hs, hsq, hcq, not_lt.mpr hl, not_lt.mpr hh]
    rw [Dev.queueOp_creates ((check _).trans passes), mod]
    exact Dev.created_pairs ..
  · have fails : s.dev.createCheck (dqn (pathPort path) qid) = r := hr.symm
    rw [Dev.queueOp_refused (by rwa [check, fails]), check, fails]
    rfl
  · rw [Dev.queueOp_deletes (by exact hs)]
    exact (Dev.deleted_pairs ..).1 hu
  · rw [Dev.queueOp_deletes (by exact hs)]
    exact (Dev.deleted_pairs ..).2 hu
  · rw [Dev.queueOp_keeps (by exact hs)]
    rfl

end

section
/-! SQE_FETCH (R30, R37, R42 to R44): the arbiter's choice, and what each entry of a burst changes of the queue and the arbiter. -/

namespace Sys2Proof.Machine

/-! ### One entry -/

/-- An entry that enters the device takes one command number, and changes no pair, no register, and nothing else of the arbiter. -/
theorem Dev.accept_keeps (d : Dev) (p : PortId) (qid : Nat) (e : Sqe) :
    (d.accept p qid e).arb = { d.arb with nextCmd := d.arb.nextCmd + 1 } ∧ (d.accept p qid e).pairs = d.pairs ∧ (d.accept p qid e).regs = d.regs := by
  simp only [Dev.accept]
  split
  · simp [Dev.entryRecord]
  · split <;> simp

/-- What the fetch of `n` entries of pair `q` changes of the queues, the registers and the arbiter: the pair's SQ head, the command numbers, and
the tokens of pacing. -/
structure Dev.Fetched (q n : Nat) (d e : Dev) : Prop where
  regs : e.regs = d.regs
  still : n = 0 → (e.pairs.get q).sqHead = (d.pairs.get q).sqHead
  head : 0 < n → (e.pairs.get q).sqHead = ((d.pairs.get q).sqHead + n) % d.depth q
  tail : (e.pairs.get q).sqTail = (d.pairs.get q).sqTail
  others : ∀ j, j ≠ q → e.pairs.get j = d.pairs.get j
  arb : ∃ t, e.arb = { d.arb with nextCmd := d.arb.nextCmd + n, tokens := t }

theorem Dev.depth_congr {d e : Dev} (h : e.regs = d.regs) (q : Nat) : e.depth q = d.depth q := by
  simp only [Dev.depth, Dev.rfB, Dev.regB, h]

namespace Dev.Fetched

theorem refl (q : Nat) (d : Dev) : Fetched q 0 d d := ⟨rfl, fun _ => rfl, fun h => absurd h (by decide), rfl, fun _ _ => rfl, d.arb.tokens, rfl⟩

theorem cons {q n : Nat} {d e f : Dev} (h : Fetched q 1 d e) (g : Fetched q n e f) : Fetched q (n + 1) d f where
  regs := g.regs.trans h.regs
  still hn := absurd hn (Nat.succ_ne_zero n)
  head _ := by
    have first := h.head Nat.one_pos
    rcases Nat.eq_zero_or_pos n with hn | hn
    · rw [g.still hn, first, hn]
    · rw [g.head hn, first, Dev.depth_congr h.regs, Nat.mod_add_mod, Nat.add_assoc, Nat.add_comm 1 n]
  tail := g.tail.trans h.tail
  others j hj := (g.others j hj).trans (h.others j hj)
  arb := by
    obtain ⟨t, ht⟩ := h.arb
    obtain ⟨u, hu⟩ := g.arb
    exact ⟨u, by rw [hu, ht]; simp only [Nat.add_assoc, Nat.add_comm 1 n]⟩

/-- What pays for the entry changes the tokens alone. -/
theorem pay {q n : Nat} {d e : Dev} (h : Fetched q n d e) (f : Int → Int) : Fetched q n d (e.onArb fun a => { a with tokens := f a.tokens }) where
  regs := h.regs
  still := h.still
  head := h.head
  tail := h.tail
  others := h.others
  arb := by
    obtain ⟨t, ht⟩ := h.arb
    exact ⟨f t, by rw [Dev.onArb_arb, ht]⟩

/-- An entry that enters the device after the head has moved on. -/
theorem accept (d : Dev) (q : Nat) (p : PortId) (qid : Nat) (e : Sqe) :
    Fetched q 1 d ((d.onPair q fun x => { x with sqHead := (x.sqHead + 1) % d.depth q }).accept p qid e) := by
  obtain ⟨arb, pairs, regs⟩ := (d.onPair q fun x => { x with sqHead := (x.sqHead + 1) % d.depth q }).accept_keeps p qid e
  have self : ∀ x : Table Pair Pair.reset, x = d.pairs.modify q (fun x => { x with sqHead := (x.sqHead + 1) % d.depth q }) →
      (x.get q).sqHead = ((d.pairs.get q).sqHead + 1) % d.depth q ∧ (x.get q).sqTail = (d.pairs.get q).sqTail ∧
        ∀ j, j ≠ q → x.get j = d.pairs.get j := fun x hx => by
    rw [hx, Table.get_modify_self]
    exact ⟨rfl, rfl, fun j hj => Table.get_modify_ne _ _ hj⟩
  obtain ⟨head, tail, others⟩ := self _ pairs
  exact ⟨regs, fun h => absurd h one_ne_zero, fun _ => head, tail, others, d.arb.tokens, arb⟩

theorem fetchOne (d : Dev) (q : Nat) : Fetched q 1 d (d.fetchOne q) := by
  unfold Dev.fetchOne
  split
  · exact (accept ..).pay fun t => t - 1024 * (max _ 4096 : Nat)
  · exact accept ..

/-- A burst fetches as many entries as it counts. -/
theorem fetchN (q n : Nat) (d : Dev) : Fetched q (d.fetchN q n).1 d (d.fetchN q n).2 := by
  induction n generalizing d with
  | zero => exact refl q d
  | succ n ih =>
    unfold Dev.fetchN
    split
    · exact (fetchOne d q).cons (ih _)
    · exact refl q d

end Dev.Fetched

/-! ### The burst -/

theorem Dev.fetchN_le (q n : Nat) (d : Dev) : (d.fetchN q n).1 ≤ n := by
  induction n generalizing d with
  | zero => exact Nat.le_refl 0
  | succ n ih =>
    unfold Dev.fetchN
    split
    · exact Nat.succ_le_succ (ih _)
    · exact Nat.zero_le _

/-- An eligible queue gives at least one entry. -/
theorem Dev.fetchN_pos {q n : Nat} {d : Dev} (hn : 0 < n) (h : d.eligible q = true) : 0 < (d.fetchN q n).1 := by
  obtain ⟨m, rfl⟩ := Nat.exists_eq_succ_of_ne_zero (Nat.ne_of_gt hn)
  rw [Dev.fetchN, if_pos h]
  exact Nat.succ_pos _

theorem Dev.nextOf_eligible {d : Dev} {c q : Nat} (h : d.nextOf c = some q) : d.eligible q = true := by
  unfold Dev.nextOf at h
  extract_lets last ok at h
  have mem : q ∈ ok := by
    split at h
    next x hx => exact Option.some.inj h ▸ List.mem_of_find?_eq_some hx
    next => exact List.mem_of_head? h
  have both := (List.mem_filter.mp mem).2
  simp only [decide_eq_true_eq, Bool.and_eq_true] at both
  exact both.2

theorem Dev.eligible_entries {d : Dev} {q : Nat} (h : d.eligible q = true) : 0 < d.sqEntries q := by
  simp only [Dev.eligible, Bool.and_eq_true, decide_eq_true_eq] at h
  tauto

theorem Dev.pickClass_credit {d : Dev} {c : Nat} (h : d.pickClass = some c) : c = 0 ∨ c ≠ 0 ∧ 0 < d.arb.credit c := by
  unfold Dev.pickClass at h
  split at h
  · exact .inl (Option.some.inj h).symm
  · have mem := List.mem_of_find?_eq_some h
    have funded := List.find?_some h
    simp only [Bool.and_eq_true, decide_eq_true_eq] at funded
    refine .inr ⟨?_, funded.1⟩
    rintro rfl
    exact absurd mem (by decide)

theorem Arb.spend_eq (a : Arb) (c n : Nat) : (a.spend c n).nextCmd = a.nextCmd ∧ (c = 1 ∨ c = 2 ∨ c = 3 → (a.spend c n).credit c = a.credit c - n) := by
  refine ⟨?_, ?_⟩
  · unfold Arb.spend
    split_ifs <;> rfl
  · rintro (rfl | rfl | rfl) <;> rfl

/-- The device that the arbiter chooses in: its credits loaded again where no class has both credit and an eligible queue. -/
def Dev.funded (d : Dev) : Dev := if d.pickClass.isNone then d.reload else d

theorem Dev.funded_keeps (d : Dev) : ∃ f : Arb → Arb, d.funded = d.onArb f ∧ (f d.arb).nextCmd = d.arb.nextCmd := by
  unfold Dev.funded
  split
  · exact ⟨_, rfl, rfl⟩
  · exact ⟨id, rfl, rfl⟩

/-- The entries that a decision of the arbiter may take. -/
def Dev.burst (d : Dev) (c q : Nat) : Nat :=
  let want := min (d.rf Reg.QM_ARB 26 24 + 1) (d.sqEntries q)
  if c = 0 then want else min want (d.arb.credit c)

theorem Dev.burst_le (d : Dev) (c q : Nat) : d.burst c q ≤ d.rf Reg.QM_ARB 26 24 + 1 := by
  unfold Dev.burst
  extract_lets want
  split <;> omega

theorem Dev.burst_pos {d : Dev} {c q : Nat} (hc : d.pickClass = some c) (hq : d.nextOf c = some q) : 0 < d.burst c q := by
  have entries := Dev.eligible_entries (Dev.nextOf_eligible hq)
  unfold Dev.burst
  extract_lets want
  rcases Dev.pickClass_credit hc with h | ⟨h, funded⟩
  · rw [if_pos h]; omega
  · rw [if_neg h]; omega

theorem Dev.serve_serves {d : Dev} {c q : Nat} (mem : HostWrites) (hc : d.funded.pickClass = some c) (hq : d.funded.nextOf c = some q) :
    d.serve mem = let r := (d.funded.place (portOf (q / 512)) mem).fetchN q (d.funded.burst c q)
      r.2.onArb (fun a => { a.spend c r.1 with lastServed := a.lastServed.set c q }) := by
  unfold Dev.funded at *
  simp only [Dev.serve, hc, hq]
  rfl

theorem Dev.place_eligible (d : Dev) (p : PortId) (mem : HostWrites) (q : Nat) : (d.place p mem).eligible q = d.eligible q := by
  cases p <;> rfl

theorem Dev.place_keeps (d : Dev) (p : PortId) (mem : HostWrites) :
    (d.place p mem).pairs = d.pairs ∧ (d.place p mem).arb = d.arb ∧ (d.place p mem).regs = d.regs := by
  cases p <;> exact ⟨rfl, rfl, rfl⟩

end Sys2Proof.Machine

open Sys2Proof Sys2Proof.Machine

/-- Settles O11: the burst is not empty, since the queue is eligible and its class has credit, and each entry of it counts once. -/
theorem fetchTakesABurst : Obligations.FetchTakesABurst := by
  intro mem s c q hw
  dsimp only
  intro hc hq
  replace hc : s.dev.refill.funded.pickClass = some c := hc
  replace hq : s.dev.refill.funded.nextOf c = some q := hq
  refine Does.of_whenDev (g := Dev.working) (f := fun d => d.refill.serve mem) rfl hw ?_
  rw [Dev.serve_serves mem hc hq]
  obtain ⟨load, loaded, cmds⟩ := s.dev.refill.funded_keeps
  have limit := s.dev.refill.funded.burst_le c q
  have wanted := Dev.burst_pos hc hq
  have eligible := Dev.nextOf_eligible hq
  have credit : (if s.dev.refill.pickClass.isNone then s.dev.refill.reload else s.dev.refill).arb = s.dev.refill.funded.arb := rfl
  rw [credit]
  generalize s.dev.refill.funded = e at *
  obtain ⟨pairs, arb0, regs⟩ := e.place_keeps (portOf (q / 512)) mem
  have fetched := Dev.Fetched.fetchN q (e.burst c q) (e.place (portOf (q / 512)) mem)
  have le := Dev.fetchN_le q (e.burst c q) (e.place (portOf (q / 512)) mem)
  have pos := Dev.fetchN_pos wanted ((e.place_eligible (portOf (q / 512)) mem q).trans eligible)
  generalize (e.place (portOf (q / 512)) mem).fetchN q (e.burst c q) = r at *
  obtain ⟨-, -, head, tail, others, t, arb⟩ := fetched
  rw [Dev.depth_congr regs] at head
  rw [pairs] at head tail others
  rw [arb0] at arb
  obtain ⟨spentCmds, spentCredit⟩ := r.2.arb.spend_eq c r.1
  rw [arb] at spentCmds spentCredit
  subst loaded
  refine ⟨r.1, pos, le.trans limit, head pos, tail, others, ?_, Table.get_set_self .., ?_⟩
  · rw [Dev.onArb_arb, arb]
    exact spentCmds.trans (congrArg (· + r.1) cmds)
  · rw [Dev.onArb_arb, arb]
    exact spentCredit

end

section
/-! COALESCE_TIMEOUT and VECTOR_UNMASK (R45, R46, R23). -/

namespace Sys2Proof.Machine

/-- A command that acts out of reset answers what its effect makes of the device. -/
theorem acts_of_live {i : Instr} {s : State} {f : Dev → Dev} {d : Dev} (he : exec i s = s.live f) (ha : s.dev.alive = true) (hd : f s.dev = d) :
    exec i s = .next ⟨d, s.pending⟩ :=
  hd ▸ he.trans (State.live_of f ha)

theorem Dev.advanceTo_vecs (d : Dev) (p : PortId) (t : Nat) : ((d.advanceTo t).port p) = d.port p := by
  unfold Dev.advanceTo
  split
  · cases p <;> rfl
  · rfl

/-- A change of one vector leaves the port's other vectors as they are. -/
theorem Dev.onVec_vecs (d : Dev) (p : PortId) (v : Nat) (f : Vec → Vec) :
    ((d.onVec p v f).port p).vecs.get v = f ((d.port p).vecs.get v) ∧ ∀ j, j ≠ v → ((d.onVec p v f).port p).vecs.get j = (d.port p).vecs.get j := by
  rw [Dev.onVec, Dev.onPort_port]
  exact ⟨Table.get_modify_self .., fun j hj => Table.get_modify_ne _ _ hj⟩

/-- A vector whose oldest entry has waited its time fires, at the count of that time. -/
theorem coalesceTimeout_fires {s : State} {p : PortId} {v : Nat} (ha : s.dev.alive = true) (hv : v < 1024)
    (hu : 0 < ((s.dev.port p).vecs.get v).unsignalled) (hb : (s.dev.port p).busMaster = true) :
    ∃ t, exec (.coalesceTimeout p v) s = .next ⟨(s.dev.advanceTo t).fire p v, s.pending⟩ := by
  exact ⟨_, acts_of_live rfl ha (if_pos ⟨hu, hv, hb⟩)⟩

theorem vectorUnmask_acts {s : State} {p : PortId} {v : Nat} (ha : s.dev.alive = true) (hv : v < 1024) (hl : (s.dev.port p).linkUp = true) :
    exec (.vectorUnmask p v) s = .next ⟨s.dev.unmask p v, s.pending⟩ := by
  exact acts_of_live rfl ha (if_pos ⟨hl, hv⟩)

end Sys2Proof.Machine

open Sys2Proof Sys2Proof.Machine

/-- Settles O15: each command is a change of one vector, besides the count that time has come to. -/
theorem vectorsFire : Obligations.VectorsFire := by
  intro p v s ha hv
  dsimp only
  refine ⟨fun hu hb => ?_, fun hl => ?_⟩
  · obtain ⟨t, acts⟩ := coalesceTimeout_fires ha hv hu hb
    refine ⟨_, acts, ?_⟩
    have fired := (s.dev.advanceTo t).onVec_vecs p v (fun x =>
      if x.masked then { x with pending := true, unsignalled := 0, firstAt := 0 } else { x with sent := x.sent + 1, unsignalled := 0, firstAt := 0 })
    rw [Dev.advanceTo_vecs] at fired
    refine ⟨fired.1, fired.2, ?_⟩
    unfold Dev.advanceTo
    split <;> cases p <;> rfl
  · refine ⟨_, vectorUnmask_acts ha hv hl, ?_⟩
    have unmasked := s.dev.onVec_vecs p v (fun x => ({ x with masked := false } : Vec).release (s.dev.port p).busMaster)
    refine ⟨unmasked.1.trans ?_, unmasked.2, by cases p <;> rfl⟩
    simp [Vec.release]

end

section
/-! COMPLETION_POST (R24, R34 to R36): the entry at the CQ tail, or the count of those dropped. -/

namespace Sys2Proof.Machine

/-! ### What a posting writes -/

/-- A signal changes the vectors of its port alone. -/
theorem Dev.signal_eq (d : Dev) (p : PortId) (q : Nat) (noIntr urgent : Bool) :
    ∃ t, d.signal p q noIntr urgent = d.onPort p (fun x => { x with vecs := t }) := by
  have quiet : d = d.onPort p (fun x => { x with vecs := (d.port p).vecs }) := by cases p <;> rfl
  have one : ∀ v f, d.onVec p v f = d.onPort p (fun x => { x with vecs := (d.port p).vecs.modify v f }) := fun v f => by cases p <;> rfl
  have two : ∀ v f w g, (d.onVec p v f).onVec p w g = d.onPort p (fun x => { x with vecs := ((d.port p).vecs.modify v f).modify w g }) :=
    fun v f w g => by cases p <;> rfl
  unfold Dev.signal
  extract_lets v x d1 t k
  split
  · exact ⟨_, quiet⟩
  split
  · exact ⟨_, one ..⟩
  split
  · exact ⟨_, quiet⟩
  split
  · exact ⟨_, two ..⟩
  · exact ⟨_, one ..⟩

/-- What a signal leaves: all but the vectors of its port. -/
theorem Dev.signal_keeps (d : Dev) (p : PortId) (q : Nat) (noIntr urgent : Bool) :
    (d.signal p q noIntr urgent).pairs = d.pairs ∧ (d.signal p q noIntr urgent).cmds = d.cmds ∧ (∀ r, (d.signal p q noIntr urgent).host r = d.host r) ∧
      ((d.signal p q noIntr urgent).port p).held = (d.port p).held := by
  obtain ⟨t, h⟩ := d.signal_eq p q noIntr urgent
  rw [h]
  cases p
  all_goals exact ⟨rfl, rfl, fun r => by cases r <;> rfl, rfl⟩

/-- Where the next entry of a pair's CQ goes. -/
def Dev.cqAddr (d : Dev) (q : Nat) : Nat := (d.addrB Reg.QM_CQBASE_LO q + 32 * (d.pairs.get q).cqTail) % 2 ^ 64

/-- A pair after an entry of its CQ of depth `n`. -/
def Pair.posted (x : Pair) (n : Nat) : Pair :=
  if x.cqTail + 1 = n then { x with cqTail := 0, phase := !x.phase } else { x with cqTail := x.cqTail + 1 }

theorem Pair.posted_tail (x : Pair) (n : Nat) : (x.posted n).cqTail = (if x.cqTail + 1 = n then 0 else x.cqTail + 1) ∧
    (x.posted n).phase = (if x.cqTail + 1 = n then !x.phase else x.phase) := by
  unfold Pair.posted
  split <;> exact ⟨rfl, rfl⟩

/-- The entry is written at the tail, and the tail moves on. -/
theorem Dev.writeCqe_writes (d : Dev) (p : PortId) (qid : Nat) (cid : W16) (sqid : Nat) (status : W16) (info : Byte) (result : W64) (s : Stamp) :
    let e := d.writeCqe p qid cid sqid status info result s
    let x := d.pairs.get (dqn p qid)
    e.host p = writeBytes (d.host p) (d.cqAddr (dqn p qid)) (cqeBytes cid sqid status x.phase info result s x.sqHead) ∧
      e.pairs = d.pairs.set (dqn p qid) (x.posted (d.depth (dqn p qid))) ∧ e.cmds = d.cmds ∧ e.port p = d.port p := by
  have pairKeeps : ∀ (e : Dev) q f, (e.onPair q f).host p = e.host p ∧ (e.onPair q f).port p = e.port p := fun e q f => by cases p <;> exact ⟨rfl, rfl⟩
  have hostKeeps : ∀ f, (d.onHost p f).pairs = d.pairs ∧ (d.onHost p f).cmds = d.cmds ∧ (d.onHost p f).port p = d.port p := fun f => by
    cases p <;> exact ⟨rfl, rfl, rfl⟩
  unfold Dev.writeCqe Dev.hostWrite
  extract_lets q x d1 e
  obtain ⟨pairs, cmds, port⟩ := hostKeeps (fun m => writeBytes m ((d.addrB Reg.QM_CQBASE_LO q + 32 * x.cqTail) % 2 ^ 64)
    (cqeBytes cid sqid status x.phase info result s x.sqHead))
  obtain ⟨hostOn, portOn⟩ := pairKeeps d1 q (fun x => x.posted (d.depth q))
  refine ⟨hostOn.trans (Dev.onHost_host ..), ?_, cmds, portOn.trans port⟩
  exact congrArg (fun t => t.modify q fun x => x.posted (d.depth q)) pairs

/-! ### A pair that settles -/

theorem Dev.settle_keeps (d : Dev) (q : Nat) : (d.settle q).cmds = d.cmds ∧ (∀ r, (d.settle q).host r = d.host r) ∧ (d.settle q).w1c = d.w1c ∧
    (d.settle q).er = d.er ∧ ((d.settle q).pairs.get q).cqTail = (d.pairs.get q).cqTail ∧ ((d.settle q).pairs.get q).phase = (d.pairs.get q).phase := by
  unfold Dev.settle
  split
  · refine ⟨rfl, fun r => by cases r <;> rfl, rfl, rfl, ?_⟩
    rw [Dev.onPair_pairs, Table.get_modify_self]
    exact ⟨rfl, rfl⟩
  · exact ⟨rfl, fun _ => rfl, rfl, rfl, rfl, rfl⟩

/-! ### The completion of a local command -/

section Completion

variable {d : Dev} {m : Cmd} {k : Completion}

theorem Dev.postLocal_drops (h : m.orphan = true) : d.postLocal m k = d.drop m := if_pos (.inl h)

theorem Dev.postLocal_writes (h : ¬(m.orphan = true ∨ (d.pairs.get (dqn m.port m.qid)).st = .disabled ∨ 2 ≤ (d.pairs.get (dqn m.port m.qid)).errorCause))
    (hp : d.portOpen m.port = true) (ht : d.postable m.qid k.stamp = true) (hn : m.qid = 0 → d.behindNotice k.stamp = false) :
    d.postLocal m k = (((d.writeCqe m.port m.qid m.sqe.cid m.qid k.status k.info k.result k.stamp).forget m.id).signal m.port (dqn m.port m.qid)
      m.sqe.noIntr false).settle (dqn m.port m.qid) := by
  have last : ¬(m.qid = 0 ∧ d.behindNotice k.stamp = true) := fun ⟨hq, hb⟩ => by simp [hn hq] at hb
  simp only [Dev.postLocal, if_neg h, hp, ht, Bool.not_true, Bool.or_self, Bool.false_eq_true, if_false, if_neg last]

/-- What a completion that is written leaves. -/
theorem Dev.posted_writes (d : Dev) (m : Cmd) (k : Completion) :
    let q := dqn m.port m.qid
    let x := d.pairs.get q
    let e := (((d.writeCqe m.port m.qid m.sqe.cid m.qid k.status k.info k.result k.stamp).forget m.id).signal m.port q m.sqe.noIntr false).settle q
    e.cmds = d.cmds.filter (fun y => decide (y.id ≠ m.id)) ∧
      e.host m.port = writeBytes (d.host m.port) (d.cqAddr q) (cqeBytes m.sqe.cid m.qid k.status x.phase k.info k.result k.stamp x.sqHead) ∧
      (e.pairs.get q).cqTail = (x.posted (d.depth q)).cqTail ∧ (e.pairs.get q).phase = (x.posted (d.depth q)).phase := by
  extract_lets q x e
  obtain ⟨host, pairs, cmds, -⟩ := d.writeCqe_writes m.port m.qid m.sqe.cid m.qid k.status k.info k.result k.stamp
  have e_eq : e = (((d.writeCqe m.port m.qid m.sqe.cid m.qid k.status k.info k.result k.stamp).forget m.id).signal m.port q m.sqe.noIntr false).settle q := rfl
  clear_value e
  generalize d.writeCqe m.port m.qid m.sqe.cid m.qid k.status k.info k.result k.stamp = w at *
  obtain ⟨signalPairs, signalCmds, signalHost, -⟩ := (w.forget m.id).signal_keeps m.port q m.sqe.noIntr false
  obtain ⟨settleCmds, settleHost, -, -, settleTail, settlePhase⟩ := ((w.forget m.id).signal m.port q m.sqe.noIntr false).settle_keeps q
  have forgotHost : (w.forget m.id).host m.port = w.host m.port := by cases m.port <;> rfl
  have self : (w.pairs.get q) = x.posted (d.depth q) := by rw [pairs]; exact Table.get_set_self ..
  rw [e_eq]
  refine ⟨?_, ?_, ?_, ?_⟩
  · rw [settleCmds, signalCmds, Dev.forget, cmds]
  · rw [settleHost, signalHost, forgotHost, host]
  · rw [settleTail, signalPairs]
    exact congrArg Pair.cqTail self
  · rw [settlePhase, signalPairs]
    exact congrArg Pair.phase self

/-- A completion that is dropped is counted, up to 0xFFFF, and takes its command off the device. -/
theorem Dev.drop_counts (d : Dev) (m : Cmd) : (d.drop m).cmds = d.cmds.filter (fun y => decide (y.id ≠ m.id)) ∧ (∀ r, (d.drop m).host r = d.host r) ∧
    (d.drop m).er = d.er ∧
    (d.drop m).w1f Reg.QM_PORT (portNo m.port) 15 0 = min (d.w1f Reg.QM_PORT (portNo m.port) 15 0 + 1) 0xFFFF := by
  obtain ⟨cmds, host, w1c, er, -, -⟩ := ((d.bumpW1 Reg.QM_PORT (portNo m.port) 15 0).forget m.id).settle_keeps (dqn m.port m.qid)
  refine ⟨?_, fun r => (host r).trans (by cases r <;> rfl), ?_, ?_⟩
  · rw [Dev.drop, cmds, Dev.forget, Dev.bumpW1_cmds]
  · rw [Dev.drop, er, Dev.forget, Dev.bumpW1_er]
  · rw [Dev.drop, Dev.w1f, Dev.w1cB, w1c]
    refine (Dev.w1f_setW1f_same d Reg.QM_PORT (portNo m.port) (hi := 15) (lo := 0) _ (by decide) (by decide)).trans (Nat.mod_eq_of_lt ?_)
    omega

end Completion

theorem completionPost_posts {s : State} {p : PortId} {qid : Nat} {m : Cmd} {k : Completion} (ha : s.dev.alive = true) (hm : s.dev.er.mute = false)
    (hn : s.dev.nextDone p qid false = some m) (hk : m.done = some k) : exec (.completionPost p qid) s = .next ⟨s.dev.postLocal m k, s.pending⟩ :=
  acts_of_live rfl ha (by simp only [hm, hn, hk, Bool.false_eq_true, if_false])

end Sys2Proof.Machine

open Sys2Proof Sys2Proof.Machine

/-- Settles O14: the next completion is written, or counted where its port was lost. -/
theorem completionIsWritten : Obligations.CompletionIsWritten := by
  intro p qid s m k ha hm hn hk hp hq
  subst hp hq
  dsimp only
  refine ⟨fun ho hs hc hopen ht hb => ⟨_, completionPost_posts ha hm hn hk, ?_⟩, fun ho => ⟨_, completionPost_posts ha hm hn hk, ?_⟩⟩
  · rw [Dev.postLocal_writes (by simp [ho, hs, hc]) hopen ht hb]
    obtain ⟨cmds, host, tail, phase⟩ := s.dev.posted_writes m k
    obtain ⟨tailIs, phaseIs⟩ := (s.dev.pairs.get (dqn m.port m.qid)).posted_tail (s.dev.depth (dqn m.port m.qid))
    exact ⟨cmds, host, tail.trans tailIs, phase.trans phaseIs⟩
  · rw [Dev.postLocal_drops ho]
    obtain ⟨cmds, host, -, counted⟩ := s.dev.drop_counts m
    exact ⟨cmds, host .a, host .b, counted⟩

end

section
/-! NOTICE_POST (R48, R49): the first notice that waits comes to each port, by itself. -/

namespace Sys2Proof.Machine

/-- The bytes of a notice on a CQ (Table 2.5, Table 2.8). -/
def noticeBytes (n : Notice) (x : Pair) : List Byte := cqeBytes (BitVec.ofNat 16 n.kind.code) 0xFFFF St.ok x.phase 0 n.result n.stamp x.sqHead

theorem noticeBytes_eq (n : Notice) (x : Pair) : noticeBytes n x = leBytes 2 n.kind.code ++ leBytes 2 0xFFFF ++ leBytes 2 0 ++
    [BitVec.ofNat 8 (b2n x.phase), 0] ++ leBytes 8 n.result.toNat ++ leBytes 8 n.stamp.t ++ [n.stamp.o] ++ zeros 3 ++ leBytes 2 x.sqHead ++ zeros 2 := by
  have code : (BitVec.ofNat 16 n.kind.code).toNat = n.kind.code := by cases n.kind <;> rfl
  rw [noticeBytes, cqeBytes, code]
  rfl

theorem Dev.setW1_host (d : Dev) (a bank bit : Nat) (r : PortId) : (d.setW1 a bank bit).host r = d.host r ∧ (d.setW1 a bank bit).port r = d.port r := by
  cases r <;> exact ⟨rfl, rfl⟩

theorem Dev.writeNotice_writes (d : Dev) (p : PortId) (n : Notice) :
    (d.writeNotice p n).host p = writeBytes (d.host p) (d.cqAddr (dqn p 0)) (noticeBytes n (d.pairs.get (dqn p 0))) ∧
      ((d.writeNotice p n).port p).held = (d.port p).held := by
  obtain ⟨host, -, -, port⟩ := d.writeCqe_writes p 0 (BitVec.ofNat 16 n.kind.code) 0xFFFF St.ok 0 n.result n.stamp
  obtain ⟨-, -, signalHost, signalHeld⟩ := (d.writeCqe p 0 (BitVec.ofNat 16 n.kind.code) 0xFFFF St.ok 0 n.result n.stamp).signal_keeps p (dqn p 0) false true
  exact ⟨(signalHost p).trans host, signalHeld.trans (congrArg Port.held port)⟩

/-- What a notice makes of a port: it is posted, held last, or lost with QM_NOTICE.overflow set. -/
def Dev.Noticed (d e : Dev) (p : PortId) (n : Notice) : Prop :=
  (d.noticeRoom p = true → (d.port p).held = [] →
    e.host p = writeBytes (d.host p) (d.cqAddr (dqn p 0)) (noticeBytes n (d.pairs.get (dqn p 0))) ∧ (e.port p).held = []) ∧
  ((d.noticeRoom p = false ∨ (d.port p).held ≠ []) → (d.port p).held.length < 64 →
    (e.port p).held = (d.port p).held ++ [n] ∧ e.host p = d.host p) ∧
  ((d.noticeRoom p = false ∨ (d.port p).held ≠ []) → 64 ≤ (d.port p).held.length →
    (e.port p).held = (d.port p).held ∧ e.w1f Reg.QM_NOTICE (portNo p) 31 31 = 1)

theorem Dev.noticeTo_noticed (d : Dev) (p : PortId) {n : Notice} (hk : n.kind ≠ .epochChange) : d.Noticed (d.noticeTo p n) p n := by
  have waits : (d.noticeRoom p = false ∨ (d.port p).held ≠ []) → ¬(d.noticeRoom p = true ∧ (d.port p).held.isEmpty = true) := by
    simp only [List.isEmpty_iff]
    rintro (h | h) ⟨room, empty⟩
    · simp [h] at room
    · exact h empty
  refine ⟨fun room empty => ?_, fun h short => ?_, fun h full => ?_⟩
  · rw [Dev.noticeTo, if_pos ⟨room, by simp [empty]⟩]
    obtain ⟨host, held⟩ := d.writeNotice_writes p n
    exact ⟨host, held.trans empty⟩
  · simp only [Dev.noticeTo, if_neg (waits h), if_neg hk, if_pos short]
    exact ⟨by rw [Dev.onPort_port], by cases p <;> rfl⟩
  · simp only [Dev.noticeTo, if_neg (waits h), if_neg hk, if_neg (not_lt.mpr full)]
    exact ⟨by rw [(d.setW1_host ..).2], Dev.w1f_setW1f_same _ _ _ _ (by decide) (by decide)⟩

/-- What a notice that comes to one port leaves of the device as the other port sees it. -/
structure Dev.Apart (r : PortId) (d e : Dev) : Prop where
  host : e.host r = d.host r
  port : e.port r = d.port r
  pair : e.pairs.get (dqn r 0) = d.pairs.get (dqn r 0)
  regs : e.regs = d.regs
  cmds : e.cmds = d.cmds
  notices : e.notices = d.notices
  overflow : e.w1f Reg.QM_NOTICE (portNo r) 31 31 = d.w1f Reg.QM_NOTICE (portNo r) 31 31

theorem dqn_ne {p r : PortId} (h : r ≠ p) : dqn r 0 ≠ dqn p 0 := by
  cases p <;> cases r <;> simp_all [dqn, portNo]

theorem Dev.Posted.apart {p r : PortId} {d e : Dev} (h : Dev.Posted p (dqn p 0) d e) (hr : r ≠ p) : Dev.Apart r d e where
  host := h.host r hr
  port := h.port r hr
  pair := h.others _ (dqn_ne hr)
  regs := by rw [h.rest]
  cmds := by rw [h.rest]
  notices := by rw [h.rest]
  overflow := by rw [h.rest]; rfl

theorem Dev.noticeTo_apart (d : Dev) {p r : PortId} (n : Notice) (hr : r ≠ p) : Dev.Apart r d (d.noticeTo p n) := by
  unfold Dev.noticeTo
  split
  · exact (Dev.Posted.writeNotice d p n).apart hr
  extract_lets keep
  split
  · exact (Dev.Posted.onPort (dqn p 0) d p _).apart hr
  · have copy : regKey Reg.QM_NOTICE (portNo r) ≠ regKey Reg.QM_NOTICE (portNo p) := by
      cases p <;> cases r <;> simp_all [regKey, portNo]
    exact ⟨(d.setW1_host ..).1, (d.setW1_host ..).2, by rw [Dev.setW1_pairs], Dev.setW1_regs .., Dev.setW1_cmds .., Dev.setW1_notices ..,
      Dev.w1f_setW1f_ne d _ _ _ _ _ copy⟩

/-- Two devices alike for a port have the same room there and the same next place. -/
theorem Dev.Apart.same {r : PortId} {d e : Dev} (h : Dev.Apart r d e) :
    e.noticeRoom r = d.noticeRoom r ∧ e.cqAddr (dqn r 0) = d.cqAddr (dqn r 0) := by
  have word : ∀ a bank, e.regB a bank = d.regB a bank := fun a bank => by rw [Dev.regB, h.regs, Dev.regB]
  have unposted : e.unposted (dqn r 0) = d.unposted (dqn r 0) := by rw [Dev.unposted, h.cmds, Dev.unposted]
  have entries : e.cqEntries (dqn r 0) = d.cqEntries (dqn r 0) := by simp only [Dev.cqEntries, h.pair, Dev.depth_congr h.regs]
  refine ⟨?_, ?_⟩
  · simp only [Dev.noticeRoom, h.pair, h.port, unposted, entries, Dev.depth_congr h.regs]
  · simp only [Dev.cqAddr, Dev.addrB, word, h.pair]

/-- What a notice makes of a port does not rest on what comes to the other before or after it. -/
theorem Dev.Noticed.between {p : PortId} {n : Notice} {a d e f : Dev} (h : d.Noticed e p n) (before : Dev.Apart p a d) (after : Dev.Apart p e f) :
    a.Noticed f p n := by
  obtain ⟨room, addr⟩ := before.same
  unfold Dev.Noticed at *
  rw [after.host, after.port, after.overflow, ← room, ← addr, ← before.host, ← before.port, ← before.pair]
  exact h

theorem Dev.Apart.refl (r : PortId) (d : Dev) : Dev.Apart r d d := ⟨rfl, rfl, rfl, rfl, rfl, rfl, rfl⟩

end Sys2Proof.Machine

open Sys2Proof Sys2Proof.Machine

/-- Settles O16: what comes to port A first leaves port B as it was, and what comes to port B then leaves port A. -/
theorem noticeReachesBothPorts : Obligations.NoticeReachesBothPorts := by
  intro s n t ha hn hk hm ht hca hcb
  have acts : exec .noticePost s = .next ⟨(({ s.dev with notices := t } : Dev).noticeTo .a n).noticeTo .b n, s.pending⟩ :=
    acts_of_live rfl ha (by simp only [hn, hm, ht, hca, hcb, Bool.not_true, Bool.or_self, Bool.false_eq_true, if_false])
  refine ⟨_, acts, ?_⟩
  have apartB := Dev.noticeTo_apart { s.dev with notices := t } (p := .a) (r := .b) n (by decide)
  have apartA := Dev.noticeTo_apart (({ s.dev with notices := t } : Dev).noticeTo .a n) (p := .b) (r := .a) n (by decide)
  have noticed : ∀ p, Dev.Noticed { s.dev with notices := t } ((({ s.dev with notices := t } : Dev).noticeTo .a n).noticeTo .b n) p n
    | .a => (Dev.noticeTo_noticed { s.dev with notices := t } .a hk).between (.refl ..) apartA
    | .b => (Dev.noticeTo_noticed _ .b hk).between apartB (.refl ..)
  refine ⟨apartA.notices.trans apartB.notices, fun p => ?_⟩
  obtain ⟨posted, held, lost⟩ := noticed p
  exact ⟨fun room empty => noticeBytes_eq n _ ▸ posted room empty, held, lost⟩

end

section
/-! Ports that come and go, and errors of queue memory (R23, R24, R41, R393). -/

namespace Sys2Proof.Machine

/-! ### A record of a low class -/

/-- The last record of the log after a report of class C0 to C2 is the one of the report. -/
theorem Dev.note_last (d : Dev) {r : Report} (h : classNo r.cls < 3) : ∃ (e : Dev) (s : Stamp), (d.note r).er.log.getLast? = some (e.recordOf r s false false) := by
  have low : decide (3 ≤ classNo r.cls) = false := decide_eq_false (Nat.not_le.mpr h)
  refine ⟨(d.stamp r.unit.origin r.after).2.logRoom, (d.stamp r.unit.origin r.after).1, ?_⟩
  simp [Dev.note, Dev.log, low]

/-! ### BUS_MASTER_ENABLE (R23) -/

theorem Dev.releaseZeros_none {d : Dev} (p : PortId) (h : d.heldZeros = []) : d.releaseZeros p = d := by
  unfold Dev.releaseZeros
  split
  · rfl
  · simp only [h, List.filter_nil, List.foldl_nil]
    rw [← h]

theorem Dev.postHeld_none {d : Dev} {p : PortId} (h : (d.port p).held = []) : d.postHeld p = d := by
  simp [Dev.postHeld, Dev.each, h]

theorem Dev.logDue_none {d : Dev} (h : d.cx.toLog = []) : d.logDue = d := by
  simp [Dev.logDue, Dev.logIvs, h]

theorem Vec.release_off (x : Vec) : x.release false = x := by simp [Vec.release]

theorem Vec.release_pending {x : Vec} (h : (x.release true).pending = true) : (x.release true).masked = true := by
  unfold Vec.release at *
  split at h
  · simp at h
  next blocked =>
    rw [if_neg blocked]
    simpa [h] using blocked

/-- What setting or clearing Bus Master Enable makes of a port: its bit, D3hot, and the messages that were held back. -/
def Port.busSet (x : Port) (on : Bool) : Port :=
  { x with busMaster := on, cfg := { x.cfg with d3hot := x.cfg.d3hot && !on }
           vecs := ⟨x.vecs.cells.map (fun c => (c.1, c.2.release on))⟩ }

theorem busMasterEnable_acts {s : State} {p : PortId} (on : Bool) (ha : s.dev.alive = true) (hl : (s.dev.port p).linkUp = true)
    (hh : (s.dev.port p).held = []) (hz : s.dev.heldZeros = []) (hx : s.dev.cx.toLog = []) :
    exec (.busMasterEnable p on) s = .next ⟨s.dev.onPort p (fun x => x.busSet on), s.pending⟩ := by
  refine acts_of_live rfl ha ((if_pos hl).trans ?_)
  have released : (s.dev.onPort p fun x => { x with busMaster := on, cfg := { x.cfg with d3hot := x.cfg.d3hot && !on } }).releaseVecs p =
      s.dev.onPort p (fun x => x.busSet on) := by cases p <;> rfl
  rw [released, Dev.releaseZeros_none _ (by cases p <;> exact hz), Dev.postHeld_none (by rw [Dev.onPort_port]; exact hh),
    Dev.logDue_none (by cases p <;> exact hx)]

/-! ### PORT_LOSS (R24) -/

theorem Table.look_filter_out {α : Type} {x : α} (keep : Nat → Bool) (l : List (Nat × α)) {k : Nat} (h : keep k = false) :
    Table.look x (l.filter (fun c => keep c.1)) k = x := by
  induction l with
  | nil => rfl
  | cons c l ih =>
    rw [List.filter_cons]
    split
    next kept =>
      have other : c.1 ≠ k := fun e => by simp [e, h] at kept
      rw [Table.look, if_neg other, ih]
    next => exact ih

theorem Dev.resetPort_resets (d : Dev) (p : PortId) : (∀ q, q / 512 = portNo p → (d.resetPort p).pairs.get q = Pair.reset) ∧
    ((d.resetPort p).port p).vecs = Table.empty ∧ ((d.resetPort p).port p).busMaster = false ∧ (d.resetPort p).er = d.er ∧ (d.resetPort p).cmds = d.cmds := by
  have pairs : (d.resetPort p).pairs = ⟨d.pairs.cells.filter (fun c => decide (c.1 / 512 ≠ portNo p))⟩ := by cases p <;> rfl
  refine ⟨fun q hq => ?_, by rw [Dev.resetPort, Dev.onPort_port], by rw [Dev.resetPort, Dev.onPort_port], by cases p <;> rfl, by cases p <;> rfl⟩
  rw [pairs]
  exact Table.look_filter_out (fun k => decide (k / 512 ≠ portNo p)) _ (by simp [hq])

theorem Dev.zeroAt_cmds (d : Dev) (no : Nat) (remote : Option Nat) (rs : List (Nat × Nat)) : (d.zeroAt no remote rs).cmds = d.cmds := by
  unfold Dev.zeroAt
  split
  · rfl
  split
  · rfl
  · obtain ⟨-, cmds, -⟩ := Dev.hostSide_eq (d.memWriteAt_hostSide no remote rs (zeros (rs.map Prod.snd).sum))
    exact cmds.trans (Dev.onMemAt_cmds ..)

theorem Dev.zeroStored_cmds (d : Dev) (m : Cmd) : (d.zeroStored m).cmds = d.cmds := by
  unfold Dev.zeroStored
  split
  · rfl
  split
  · exact Dev.zeroAt_cmds ..
  split
  · exact Dev.zeroAt_cmds ..
  · rfl

/-- A stored command that is decided against takes its completion where it stands. -/
theorem Dev.decideCut_stored (d : Dev) {m : Cmd} (hs : m.stored = true) (status : W16) (cause : Nat) :
    ∃ st, (d.decideCut m status cause).cmds = (d.latch m.id ⟨status, 0, 0, st⟩).cmds := by
  simp only [Cmd.stored, Bool.and_eq_true, Option.isNone_iff_eq_none] at hs
  obtain ⟨⟨ctx, -⟩, here⟩ := hs
  refine ⟨(d.stamp (qmUnit m.port) (max m.arrival.after cause)).1, ?_⟩
  simp only [Dev.decideCut, here, Dev.cutCommand, ctx, Dev.latch, Dev.zeroStored_cmds, Dev.stamp_cmds]

/-- The one command of a lost port, still stored, has ended with S_ABORTED and is an orphan. -/
theorem Dev.losePort_stored {d : Dev} {p : PortId} {m : Cmd} (hc : d.cmds = [m]) (hp : m.port = p) (hs : m.stored = true) (hf : m.fwdFrom = none) :
    ∃ st, (d.losePort p).cmds = [{ m with orphan := true, done := some ⟨St.aborted, 0, 0, st⟩ }] := by
  have free : m.done = none := by
    simp only [Cmd.stored, Bool.and_eq_true, Option.isNone_iff_eq_none] at hs
    exact hs.1.2
  obtain ⟨st, cut⟩ := Dev.decideCut_stored { d with cmds := [{ m with orphan := true }] } (m := { m with orphan := true }) hs St.aborted 0
  have marked : (d.cmds.map fun x => if decide (x.port = p) && x.fwdFrom.isNone then { x with orphan := true } else x) = [{ m with orphan := true }] := by
    simp [hc, hp, hf]
  refine ⟨st, ?_⟩
  unfold Dev.losePort
  extract_lets mine d1 d2
  have cmds : d1.cmds = [{ m with orphan := true }] := marked
  have lost : d1.cmds.filter (fun m => mine m && m.done.isNone) = [{ m with orphan := true }] := by simp [cmds, mine, hp, hf, free]
  have one : d2 = d1.decideCut { m with orphan := true } St.aborted 0 := by simp only [d2, lost, Dev.each, List.foldl_cons, List.foldl_nil]
  have whole : d1 = { d with cmds := [{ m with orphan := true }] } := by simp only [d1, ← cmds]
  have ends := congrArg Dev.cmds one
  rw [whole, cut] at ends
  refine ends.trans ?_
  simp [Dev.latch, free]

theorem Dev.dropIvl_cmds (d : Dev) (p : PortId) : (d.dropIvl p).cmds = d.cmds := by
  unfold Dev.dropIvl
  split
  · rw [Dev.setRf_cmds]
    exact Dev.each_keeps Dev.cmds _ _ _ fun e r => by simp [Dev.logged, Dev.onRec, Dev.ivlLose]
  · rfl

/-- The device as a port's loss finds its queues: the link and the endpoint have gone. -/
def Dev.portDown (d : Dev) (p : PortId) (cause : LossCause) : Dev :=
  let d1 := d.onPort p (fun x => { x with busMaster := false, cfg := { PciCfg.reset with d3hot := decide (cause = .d3hot) } })
  if dropsLink cause then d1.onPort p (fun x => { x with linkUp := false, flit := false, speed := 0, width := 0 }) else d1

theorem Dev.portDown_cmds (d : Dev) (p : PortId) (cause : LossCause) : (d.portDown p cause).cmds = d.cmds := by
  unfold Dev.portDown
  extract_lets d1
  split <;> cases p <;> rfl

/-- The record of a port's loss. -/
def lossReport (p : PortId) : Report := { cls := .c0, unit := ⟨qmUnit p, 0xFFFF⟩, cat := 0x10, d0 := queueD0 p 0 }

theorem portLoss_acts {s : State} {p : PortId} (cause : LossCause) (ha : s.dev.alive = true) (hl : (s.dev.port p).linkUp = true) :
    exec (.portLoss p cause) s = .next ⟨((((((s.dev.portDown p cause).losePort p).dropZeros p).dropIvl p).note (lossReport p)).resetPort p), s.pending⟩ :=
  acts_of_live rfl ha (if_neg (by simp [hl]))

/-! ### QUEUE_MEMORY_ERROR (R41) -/

/-- The record of an error of queue memory. -/
def memoryReport (p : PortId) (qid : Nat) (cqWrite : Bool) : Report :=
  { cls := .c2, unit := ⟨qmUnit p, 0xFFFF⟩, cat := 0x10, d0 := queueD0 p qid, d1 := (if cqWrite then 2 else 1), dqn := dqn p qid }

theorem Dev.memoryReport_last (d : Dev) (p : PortId) (qid : Nat) (cqWrite : Bool) :
    ∃ r, (d.note (memoryReport p qid cqWrite)).er.log.getLast? = some r ∧ r.cls = .c2 ∧ r.dqn = dqn p qid := by
  obtain ⟨e, st, last⟩ := d.note_last (r := memoryReport p qid cqWrite) (Nat.lt_succ_self 2)
  exact ⟨_, last, rfl, rfl⟩

/-- A pair whose CQ takes no more entries is in error, with cause 2, or 3 where an SQ read failed before. -/
theorem Dev.cqFails_pair (d : Dev) (q : Nat) (rep : Report) : ((d.cqFails q rep).pairs.get q).st = .error ∧
    ((d.cqFails q rep).pairs.get q).errorCause = (if (d.pairs.get q).errorCause = 1 then 3 else 2) ∧ (d.cqFails q rep).cmds = d.cmds := by
  refine ⟨?_, ?_, (Dev.note_cmds ..).trans rfl⟩
  all_goals rw [Dev.cqFails, Dev.note_pairs, Dev.onPair_pairs, Table.get_modify_self]

/-- A completion dropped from a pair that is not deleting leaves every pair as it is. -/
theorem Dev.drop_pairs {d : Dev} {m : Cmd} (h : (d.pairs.get (dqn m.port m.qid)).st ≠ .deleting) : (d.drop m).pairs = d.pairs := by
  rw [Dev.drop, Dev.settle, if_neg fun both => h both.1]
  rfl

section QueueMemory

variable {s : State} {p : PortId} {qid : Nat} (ha : s.dev.alive = true) (hq : qid < 512)
include ha hq

theorem queueMemoryError_read (hs : (s.dev.pairs.get (dqn p qid)).st = .active) (hc : (s.dev.pairs.get (dqn p qid)).errorCause = 0)
    (he : 0 < s.dev.sqEntries (dqn p qid)) : exec (.queueMemoryError p qid false) s =
      .next ⟨(s.dev.onPair (dqn p qid) (fun x => { x with st := .error, errorCause := 1 })).note (memoryReport p qid false), s.pending⟩ := by
  refine acts_of_live rfl ha ((if_neg ?_).trans ((if_neg (by decide)).trans (if_pos ⟨hs, he⟩)))
  simp [hs, hc, hq]

variable (hs : (s.dev.pairs.get (dqn p qid)).st ≠ .disabled) (hc : (s.dev.pairs.get (dqn p qid)).errorCause < 2)
include hs hc

theorem queueMemoryError_completion {m : Cmd} (hm : s.dev.nextDone p qid false = some m) (ho : m.orphan = false) (hn : qid = 0 → s.dev.noticeNext p = false) :
    exec (.queueMemoryError p qid true) s = .next ⟨(s.dev.cqFails (dqn p qid) (memoryReport p qid true)).drop m, s.pending⟩ := by
  have last : ¬(qid = 0 ∧ s.dev.noticeNext p = true) := fun ⟨h0, h⟩ => by simp [hn h0] at h
  refine acts_of_live rfl ha ((if_neg ?_).trans ((if_pos rfl).trans ((if_neg last).trans ?_)))
  · simp [hs, hc, hq]
  · simp [hm, ho, memoryReport]

theorem queueMemoryError_notice (h0 : qid = 0) (hn : s.dev.noticeNext p = true) :
    exec (.queueMemoryError p qid true) s = .next ⟨s.dev.cqFails (dqn p qid) (memoryReport p qid true), s.pending⟩ := by
  refine acts_of_live rfl ha ((if_neg ?_).trans ((if_pos rfl).trans (if_pos ⟨h0, hn⟩)))
  simp [hs, hc, hq]

end QueueMemory

end Sys2Proof.Machine

open Sys2Proof Sys2Proof.Machine

/-- Settles O17: each command in a lemma of its own. -/
theorem portsComeAndGo : Obligations.PortsComeAndGo := by
  intro p s ha
  refine ⟨fun fl sp w hl => acts_of_live rfl ha (if_pos hl), fun on hl hh hz hx => ?bus, fun cause hl => ?loss, fun qid hq hs hc he => ?read,
    fun qid m hq hs hc hm ho hp hqid hn => ?completion, fun hs hc hn => ?notice⟩
  case bus =>
    refine ⟨_, busMasterEnable_acts on ha hl hh hz hx, ?_, fun off => ?_, fun set v hv => ?_, by cases p <;> rfl⟩
    · rw [Dev.onPort_port]
      rfl
    · subst off
      rw [Dev.onPort_port]
      simp [Port.busSet, Vec.release_off]
    · subst set
      rw [Dev.onPort_port] at hv
      obtain ⟨c, -, rfl⟩ := List.mem_map.mp hv
      exact Vec.release_pending
  case loss =>
    refine ⟨_, portLoss_acts cause ha hl, ?_⟩
    have cmds : (((((s.dev.portDown p cause).losePort p).dropZeros p).dropIvl p).note (lossReport p)).cmds = ((s.dev.portDown p cause).losePort p).cmds :=
      (Dev.note_cmds ..).trans (Dev.dropIvl_cmds ..)
    have last := Dev.note_last ((((s.dev.portDown p cause).losePort p).dropZeros p).dropIvl p) (r := lossReport p) (Nat.zero_lt_succ 2)
    generalize ((((s.dev.portDown p cause).losePort p).dropZeros p).dropIvl p).note (lossReport p) = d at *
    obtain ⟨pairs, vecs, bus, er, kept⟩ := d.resetPort_resets p
    obtain ⟨e, st, record⟩ := last
    refine ⟨pairs, vecs, bus, ⟨_, er ▸ record, rfl, rfl⟩, fun m hm hp hs hf => ?_⟩
    obtain ⟨t, one⟩ := Dev.losePort_stored ((s.dev.portDown_cmds p cause).trans hm) hp hs hf
    have all := (kept.trans cmds).trans one
    refine ⟨⟨⟨St.aborted, 0, 0, t⟩, ⟨{ m with orphan := true, done := some ⟨St.aborted, 0, 0, t⟩ }, ?_, rfl, rfl⟩, rfl⟩, fun y hy => ?_⟩
    · rw [all]
      exact List.mem_singleton_self _
    · rw [all, List.mem_singleton] at hy
      rw [hy]
  case read =>
    exact ⟨_, queueMemoryError_read ha hq hs hc he, (Dev.note_pairs ..).trans rfl, Dev.memoryReport_last ..⟩
  case completion =>
    subst hp hqid
    obtain ⟨st, cause, cmds⟩ := s.dev.cqFails_pair (dqn m.port m.qid) (memoryReport m.port m.qid true)
    obtain ⟨dropped, -, er, -⟩ := (s.dev.cqFails (dqn m.port m.qid) (memoryReport m.port m.qid true)).drop_counts m
    have pairs := Dev.drop_pairs (d := s.dev.cqFails (dqn m.port m.qid) (memoryReport m.port m.qid true)) (m := m) (by simp [st])
    refine ⟨_, queueMemoryError_completion ha hq hs hc hm ho hn, by rw [pairs, st], by rw [pairs, cause], by rw [dropped, cmds], ?_⟩
    rw [er]
    exact Dev.memoryReport_last ..
  case notice =>
    obtain ⟨st, cause, cmds⟩ := s.dev.cqFails_pair (dqn p 0) (memoryReport p 0 true)
    exact ⟨_, queueMemoryError_notice ha (by decide) hs hc rfl hn, st, cause, cmds, Dev.memoryReport_last ..⟩

end

section
/-! What the end of a command leaves of the other commands (R95, R97): the first decision of each stands. -/

namespace Sys2Proof.Machine

/-! ### What an instruction in flight gives back (R74, R97, R112, R155) -/

/-- A part of the device that dropping an instruction in flight does not change: it is apart, besides, from the notices, the reads registered, the key slots
and their erases, the volume, the formes and the scheduler. -/
structure Dev.KeptByDrops {β : Type} (v : Dev → β) : Prop extends Dev.KeptByBuffers v where
  epoch : ∀ (d : Dev) (f : Errors → Errors), v (d.onEr f) = v d
  notice : ∀ (d : Dev) (k : NoticeKind) (r : W64) (s : Stamp), v (d.notice k r s) = v d
  erasesDone : ∀ (d : Dev) (s : Nat), v (d.erasesDone s) = v d
  onReads : ∀ (d : Dev) (f : Index → Index), v (d.onIdx f) = v d
  onCx : ∀ (d : Dev) (f : Cipher → Cipher), v (d.onCx f) = v d
  onVol : ∀ (d : Dev) (f : Vol → Vol), v (d.onVol f) = v d
  onSh : ∀ (d : Dev) (f : Sheaf → Sheaf), v (d.onSh f) = v d
  onFm : ∀ (d : Dev) (f : Formes → Formes), v (d.onFm f) = v d

/-- An unpin changes what stamps, epochs, slots and erases do. -/
theorem Dev.unpin_keeps {β : Type} (v : Dev → β) (stamp : ∀ (d : Dev) (u a : Nat), v (d.stamp u a).2 = v d)
    (epoch : ∀ (d : Dev) (after : Nat), v (d.epochAdvance after) = v d) (onCx : ∀ (d : Dev) (f : Cipher → Cipher), v (d.onCx f) = v d)
    (erases : ∀ (d : Dev) (s : Nat), v (d.erasesDone s) = v d) (d : Dev) (s : Nat) : v (d.unpin s) = v d := by
  have unpinned : v ((d.stamp 0xB).2.onSlot s fun x => { x with pins := x.pins - 1 }) = v d := (onCx _ _).trans (stamp ..)
  unfold Dev.unpin
  dsimp only
  split
  · refine Eq.trans ?_ unpinned
    simp only [Dev.emptySlot, Dev.onSlot, epoch, erases, onCx, stamp]
  · exact unpinned

namespace Dev.KeptByDrops

variable {β : Type} {v : Dev → β} (h : Dev.KeptByDrops v)
include h

theorem unpin (d : Dev) (s : Nat) : v (d.unpin s) = v d :=
  Dev.unpin_keeps v h.stamp (fun e after => e.epochAdvance_keeps v h.stamp h.notice h.epoch h.send after) h.onCx h.erasesDone d s

theorem dropDecoded (d : Dev) : v d.dropDecoded = v d := by
  unfold Dev.dropDecoded
  split
  · rfl
  · rw [h.onVol]
    refine Dev.each_keeps v _ _ _ fun e f => ?_
    split
    · exact h.giveBack ..
    · rfl

theorem endReads (d : Dev) (c : Nat) : v (d.endReads c) = v d := by
  unfold Dev.endReads
  dsimp only
  rw [h.reap, h.reviewHolds, h.dropDecoded, Dev.each_keeps v, h.onReads, h.onSh]
  intro e k
  split
  · exact Dev.each_keeps v _ _ _ fun e x => h.release ..
  · rfl

theorem cancelWrite (d : Dev) (w : Write) : v (d.cancelWrite w) = v d := by
  unfold Dev.cancelWrite
  extract_lets d1 d2 d3
  have settled : v d2 = v d := (h.onReads ..).trans ((h.dropBlocks ..).trans (h.stamp ..))
  have freed : v d3 = v d := (Dev.each_keeps v _ _ _ fun e kb => by
    split
    · exact h.release ..
    · exact h.giveBack ..).trans settled
  rw [h.reap, h.reviewHolds]
  split
  · exact (h.unpin ..).trans freed
  · exact freed

theorem dropFifos (d : Dev) (c : Nat) : v (d.dropFifos c) = v d := by
  unfold Dev.dropFifos
  rw [h.onCm]
  refine Dev.each_keeps v _ _ _ fun e kf => ?_
  split
  · split
    · split
      · exact h.giveBack ..
      · rfl
    · rfl
  · rfl

theorem unmount (d : Dev) : v d.unmount = v d := by
  unfold Dev.unmount
  extract_lets free d1 d2 blank
  have freed : ∀ (l : List (Option Nat)) (e : Dev), v (l.foldl free e) = v e := fun l e => by
    induction l generalizing e with
    | nil => rfl
    | cons b l ih =>
      refine (ih _).trans ?_
      cases b with
      | none => rfl
      | some k => exact h.giveBack ..
  have emptied : v d2 = v d := (freed _ d1).trans (freed _ d)
  rw [h.onVol, h.onSh, h.onCx, h.onFm]
  exact emptied

theorem dropFlight (d : Dev) (c : Nat) : v (d.dropFlight c) = v d := by
  unfold Dev.dropFlight
  extract_lets d1 d2
  have dropped : v d2 = v d := by
    simp only [d2, d1]
    rw [h.onCs, h.dropWaits, h.dropBlocks, h.dropFifos]
    exact Dev.each_keeps v _ _ _ h.cancelWrite
  split
  · rw [h.endReads]
    split
    · exact (h.unpin ..).trans dropped
    · exact dropped
  · split
    · exact (h.unpin ..).trans dropped
    · exact dropped
  · exact (h.onVol ..).trans ((h.unmount ..).trans dropped)
  · exact (h.unmount ..).trans dropped
  · exact (h.endReads ..).trans dropped

end Dev.KeptByDrops

/-! ### The commands -/

theorem Dev.cmds_kept : Dev.KeptByDrops Dev.cmds where
  stamp := Dev.stamp_cmds
  setW1f _ _ _ _ _ _ := rfl
  count _ _ _ _ _ := rfl
  onEr _ _ _ := rfl
  onPools _ _ := rfl
  onIdx _ _ _ := rfl
  onCm _ _ := rfl
  onMi _ _ := rfl
  onCs _ _ := rfl
  epoch _ _ := rfl
  notice _ _ _ _ := rfl
  erasesDone _ _ := rfl
  onReads _ _ := rfl
  onCx _ _ := rfl
  onVol _ _ := rfl
  onSh _ _ := rfl
  onFm _ _ := rfl

theorem Dev.zeroRead_cmds (d : Dev) (c : Nat) : (d.zeroRead c).cmds = d.cmds := by
  unfold Dev.zeroRead
  split
  · split
    · exact Dev.zeroAt_cmds ..
    · split
      · exact Dev.zeroAt_cmds ..
      · rfl
  · rfl

theorem Dev.zeroOutput_cmds (d : Dev) (c : Nat) : (d.zeroOutput c).cmds = d.cmds := (Dev.onCtx_cmds ..).trans (Dev.zeroAt_cmds ..)

theorem Dev.releaseHandle_cmds (d : Dev) (c x : Nat) : (d.releaseHandle c x).cmds = d.cmds := by
  simp only [Dev.releaseHandle]
  split
  · rfl
  · split
    · rfl
    · split
      · simp
      · exact Dev.cmds_kept.release ..

theorem Dev.releaseHandles_cmds (d : Dev) (c : Nat) : (d.releaseHandles c).cmds = d.cmds := by
  simp only [Dev.releaseHandles, Dev.releaseHandle_cmds]

theorem Dev.freeCtx_cmds (d : Dev) (c : Nat) : (d.freeCtx c).cmds = d.cmds := rfl

theorem Dev.readLine_cmds (d : Dev) (c l : Nat) (ahead : Bool) : (d.readLine c l ahead).cmds = d.cmds := Dev.ask_cmds ..

/-! ### A decision stands (R96) -/

theorem Dev.decided_congr {d e : Dev} {id : Nat} {k : Completion} (h : e.cmds = d.cmds) (hd : d.decided id k) : e.decided id k := by
  unfold Dev.decided
  rwa [h]

/-- What a decision leaves of a list: each command decided before stays decided. -/
theorem Dev.decided_latch {d : Dev} {id : Nat} {k : Completion} (hd : d.decided id k) (i : Nat) (j : Completion) : (d.latch i j).decided id k := by
  obtain ⟨m, hm, hid, hk⟩ := hd
  refine ⟨m, List.mem_map.mpr ⟨m, hm, if_neg ?_⟩, hid, hk⟩
  simp [hk]

/-- A command that no decision has ended is decided by the first to come. -/
theorem Dev.latch_decides {d : Dev} {m : Cmd} (hm : m ∈ d.cmds) (hn : m.done = none) (k : Completion) : (d.latch m.id k).decided m.id k :=
  ⟨{ m with done := some k }, List.mem_map.mpr ⟨m, hm, if_pos ⟨rfl, by simp [hn]⟩⟩, rfl, rfl⟩

section
variable {d : Dev} {id : Nat} {k : Completion} (hd : d.decided id k)
include hd

theorem Dev.decided_complete (c : Nat) (s : W16) (result : W64) (st : Stamp) : (d.complete c s result st).decided id k := by
  unfold Dev.complete
  extract_lets x d1
  have latched : d1.decided id k := by
    simp only [d1]
    split
    · exact Dev.decided_latch hd ..
    · exact hd
  exact Dev.decided_congr ((Dev.freeCtx_cmds ..).trans (Dev.releaseHandles_cmds ..)) latched

theorem Dev.decided_endCmd (c : Nat) (s : W16) (result : W64) : (d.endCmd c s result).decided id k :=
  Dev.decided_complete (Dev.decided_congr (Dev.stamp_cmds ..) hd) ..

theorem Dev.decided_fault (c : Nat) (s : W16) (result : W64) : (d.fault c s result).decided id k :=
  Dev.decided_endCmd (Dev.decided_congr (Dev.failRecord_cmds ..) hd) ..

theorem Dev.decided_setWord (c : Nat) (w : W64) : (d.setWord c w).decided id k := by
  unfold Dev.setWord
  extract_lets d1
  split
  · exact hd
  · exact Dev.decided_fault (d := d1) hd ..

theorem Dev.decided_fetch (c : Nat) : (d.fetch c).decided id k := by
  unfold Dev.fetch
  extract_lets p a l e
  split
  next ln =>
    extract_lets d1
    refine Dev.decided_setWord (Dev.decided_congr ?_ hd) ..
    rw [Dev.onCtx_cmds]
    split
    · rfl
    · unfold Dev.prefetch
      dsimp only
      split
      · rfl
      · exact Dev.readLine_cmds ..
  next =>
    refine Dev.decided_congr ?_ hd
    rw [Dev.onCtx_cmds]
    split
    · rfl
    · exact Dev.readLine_cmds ..

theorem Dev.decided_next (c : Nat) : (d.next c).decided id k := by
  unfold Dev.next Dev.goTo
  split
  · exact Dev.decided_fault hd ..
  · exact Dev.decided_fetch (Dev.decided_congr (Dev.onCtx_cmds ..) hd) ..

theorem Dev.decided_finish (c : Nat) (s : W16) (out : Option W64) (x y : W64) (cs : Option Stamp) (cat : Option Nat) (z : W32) :
    (d.finish c s out x y cs cat z).decided id k := by
  unfold Dev.finish
  extract_lets x program held dr dw dn
  have before : dn.decided id k := Dev.decided_congr (Dev.failRecord_cmds ..) hd
  split
  · split
    · exact Dev.decided_next before ..
    · exact Dev.decided_endCmd before ..
  · split
    · exact Dev.decided_complete before ..
    · exact Dev.decided_endCmd before ..

theorem Dev.decided_stopProfile (asker : Asker) : (d.stopProfile asker).decided id k := by
  unfold Dev.stopProfile Dev.startProfile
  split
  · exact hd
  · refine Dev.decided_congr ((Dev.onTc_cmds ..).trans (Dev.stamp_cmds ..)) ?_
    unfold Dev.supersede
    split
    · exact hd
    · exact Dev.decided_finish (Dev.decided_congr (Dev.onTc_cmds ..) hd) ..

theorem Dev.decided_dropMotion (c : Nat) : (d.dropMotion c).decided id k := by
  unfold Dev.dropMotion
  extract_lets d1 d2
  have released : d1.decided id k := by
    simp only [d1]
    split
    · exact Dev.decided_stopProfile (Dev.decided_congr (Dev.onTc_cmds ..) hd) ..
    · exact hd
  have given : d2.decided id k := by
    simp only [d2]
    split
    · exact Dev.decided_congr (Dev.onTc_cmds ..) released
    · exact released
  split
  · unfold Dev.restTape
    split
    · exact given
    · exact Dev.decided_stopProfile given ..
  · exact given

end

/-- An uncommitted command that is cut is decided with the status asked for (R97). -/
theorem Dev.cutCommand_decides {d : Dev} {m : Cmd} (hm : m ∈ d.cmds) (hn : m.done = none) (status : W16) (s : Stamp) :
    ∃ k, (d.cutCommand m status s).decided m.id k ∧ k.status = status := by
  unfold Dev.cutCommand
  split
  · exact ⟨_, Dev.latch_decides (by rwa [Dev.zeroStored_cmds]) hn _, rfl⟩
  next c hc =>
    extract_lets d1 d2
    have there : m ∈ d1.cmds := by
      simp only [d1]
      rwa [Dev.zeroOutput_cmds, Dev.zeroRead_cmds, Dev.zeroStored_cmds]
    have latched := Dev.latch_decides there hn ⟨status, BitVec.ofNat 8 (b2n (d1.ctxs.get c).info), d.abortResult m, s⟩
    refine ⟨_, Dev.decided_congr ?_ (Dev.decided_dropMotion latched c), rfl⟩
    rw [Dev.freeCtx_cmds, Dev.releaseHandles_cmds, Dev.cmds_kept.dropFlight]

theorem Dev.decideCut_decides {d : Dev} {m : Cmd} (hm : m ∈ d.cmds) (hn : m.done = none) (hf : m.fwdTo = none) (status : W16) (cause : Nat) :
    ∃ k, (d.decideCut m status cause).decided m.id k ∧ k.status = status := by
  unfold Dev.decideCut
  simp only [hf]
  exact Dev.cutCommand_decides (by rwa [Dev.stamp_cmds]) hn ..

end Sys2Proof.Machine
end

section
/-! Control, maintenance and observation (R31, R61, R65, R77, R78, R97, R380): what a device instruction issues from, and how each of these ends. -/

namespace Sys2Proof.Machine

/-! ### Issue (R57, R64) -/

/-- Issue changes a context and may stamp: what is apart from both stays. -/
theorem Dev.issue_keeps {β : Type} (v : Dev → β) (hs : ∀ (d : Dev) (u a : Nat), v (d.stamp u a).2 = v d)
    (hc : ∀ (d : Dev) (c : Nat) (f : Ctx → Ctx), v (d.onCtx c f) = v d) (d : Dev) (c : Nat) : v (d.issue c) = v d := by
  unfold Dev.issue
  split
  · exact hc ..
  · split
    · exact (hc ..).trans (hs ..)
    · rfl

/-- Issue keeps the command and the instruction of its context. -/
theorem Dev.issue_ctx (d : Dev) (c : Nat) : ((d.issue c).ctxs.get c).cmd = (d.ctxs.get c).cmd ∧ ((d.issue c).ctxs.get c).ir = (d.ctxs.get c).ir := by
  unfold Dev.issue
  split
  · simp
  · split <;> simp

/-- The device from which the instruction of context `c` acts: its turn is used and it has issued. -/
abbrev Dev.issuing (d : Dev) (c : Nat) : Dev := (d.useTurn c).issue c

section
variable (d : Dev) (c : Nat)

theorem Dev.issuing_cmds : (d.issuing c).cmds = d.cmds := (d.useTurn c).issue_keeps Dev.cmds Dev.stamp_cmds Dev.onCtx_cmds c

theorem Dev.issuing_mode : (d.issuing c).mode = d.mode := (d.useTurn c).issue_keeps Dev.mode Dev.stamp_mode Dev.onCtx_mode c

theorem Dev.issuing_vol : (d.issuing c).vol = d.vol := (d.useTurn c).issue_keeps Dev.vol Dev.stamp_vol Dev.onCtx_vol c

theorem Dev.issuing_sn : (d.issuing c).sn = d.sn := (d.useTurn c).issue_keeps Dev.sn Dev.stamp_sn Dev.onCtx_sn c

theorem Dev.issuing_ir : ((d.issuing c).ctxs.get c).ir = (d.ctxs.get c).ir := ((d.useTurn c).issue_ctx c).2

theorem Dev.issuing_isProgram : (d.issuing c).isProgram c = d.isProgram c := by
  simp only [Dev.isProgram, Dev.cmdOf_congr (d := d) (e := d.issuing c) (c := c) ((d.useTurn c).issue_ctx c).1 (d.issuing_cmds c)]

theorem Dev.issuing_abortTarget (q : Nat) (cid : W16) : (d.issuing c).abortTarget q cid = d.abortTarget q cid := by
  simp only [Dev.abortTarget, Dev.issuing_cmds]

theorem Dev.issuing_maintCheck (exit : Bool) : (d.issuing c).maintCheck exit = d.maintCheck exit := by
  simp only [Dev.maintCheck, Dev.issuing_mode, Dev.issuing_vol]

theorem Dev.modIs_issuing {n : Nat} (h : wModLow ((d.issuing c).ctxs.get c).ir = n) : d.modIs c n = true := by
  rw [Dev.issuing_ir] at h
  simp [Dev.modIs, h]

end

/-! ### The end of an instruction (R53) -/

/-- An instruction that has its turn answers what its effect makes of the device. -/
theorem acts_of_insn {i : Instr} {s : State} {c op : Nat} {f : Dev → Dev} (he : exec i s = s.insn c op f) (hw : s.dev.working = true)
    (hi : s.dev.mayIssue c op = true) : exec i s = .next ⟨f (s.dev.useTurn c), s.pending⟩ :=
  he.trans (State.insn_of f hw hi)

/-- The same for one whose modifier names its form. -/
theorem acts_of_insnMod {i : Instr} {s : State} {c op m : Nat} {f : Dev → Dev} (he : exec i s = s.insnMod c op m f) (hw : s.dev.working = true)
    (hi : s.dev.mayIssue c op = true) (hm : s.dev.modIs c m = true) : exec i s = .next ⟨f (s.dev.useTurn c), s.pending⟩ :=
  he.trans (State.insnMod_of f hw hi hm)

/-! ### ABORT (R31, R77, R97) -/

/-- The earliest arrival of a list is the one before it or of the list. -/
theorem earlierArrival_foldl (l : List Cmd) (a : Option Cmd) {m : Cmd} (h : l.foldl earlierArrival a = some m) : a = some m ∨ m ∈ l := by
  induction l generalizing a with
  | nil => exact .inl h
  | cons x l ih =>
    rcases ih _ h with first | rest
    · unfold earlierArrival at first
      split at first
      · simp_all
      · split at first <;> simp_all
    · exact .inr (List.mem_cons_of_mem _ rest)

theorem abortTarget_mem {d : Dev} {q : Nat} {cid : W16} {m : Cmd} (h : d.abortTarget q cid = some m) : m ∈ d.cmds := by
  rcases earlierArrival_foldl _ _ h with first | rest
  · exact absurd first (by simp)
  · exact (List.mem_filter.mp rest).1

/-- The command that an ABORT names in the device as it has issued. -/
abbrev Dev.named (d : Dev) (c : Nat) : Option Cmd :=
  d.abortTarget (fieldOf (d.ctxs.get c).ga 25 16) (BitVec.ofNat 16 (fieldOf (d.ctxs.get c).ga 15 0))

section
variable {s : State} {c : Nat} (hw : s.dev.working = true) (hi : s.dev.mayIssue c 0x80 = true)
include hw hi

theorem abort_outOfRange (hr : fieldOf ((s.dev.issuing c).ctxs.get c).ga 63 26 ≠ 0) :
    Finishes (.abort c) s c St.range none (fun d => d.cmds = s.dev.cmds) :=
  ⟨_, acts_of_insn (Eq.refl (execAbort c s)) hw hi, s.dev.issuing c, 0, 0, none, none, 0, if_pos hr, s.dev.issuing_cmds c⟩

variable (hr : fieldOf ((s.dev.issuing c).ctxs.get c).ga 63 26 = 0)
include hr

theorem abort_nothing (hn : (s.dev.issuing c).named c = none) : Finishes (.abort c) s c St.ok (some 3) (fun d => d.cmds = s.dev.cmds) := by
  refine ⟨_, acts_of_insn (Eq.refl (execAbort c s)) hw hi, ?_⟩
  simp only [hr, hn, ne_eq, not_true_eq_false, if_false]
  exact ⟨_, 0, 0, _, none, 0, rfl, (Dev.stamp_cmds ..).trans (s.dev.issuing_cmds c)⟩

variable {m : Cmd} (hm : (s.dev.issuing c).named c = some m)
include hm

theorem abort_itself (h : m.isAbort = true ∨ ((s.dev.issuing c).ctxs.get c).cmd = some m.id) :
    Finishes (.abort c) s c St.ok (some 3) (fun d => d.cmds = s.dev.cmds) := by
  refine ⟨_, acts_of_insn (Eq.refl (execAbort c s)) hw hi, ?_⟩
  simp only [hr, hm, ne_eq, not_true_eq_false, if_false]
  rw [if_pos h]
  exact ⟨_, 0, 0, _, none, 0, rfl, (Dev.stamp_cmds ..).trans (s.dev.issuing_cmds c)⟩

variable (ha : m.isAbort = false) (hx : ((s.dev.issuing c).ctxs.get c).cmd ≠ some m.id)
include ha hx

theorem abort_decided {k : Completion} (hk : m.done = some k) : Finishes (.abort c) s c St.ok (some 2) (fun d => d.cmds = s.dev.cmds) := by
  refine ⟨_, acts_of_insn (Eq.refl (execAbort c s)) hw hi, ?_⟩
  simp only [hr, hm, hk, ne_eq, not_true_eq_false, if_false]
  rw [if_neg (by simp [ha, hx])]
  exact ⟨_, 0, 0, _, none, 0, rfl, (Dev.stamp_cmds ..).trans (s.dev.issuing_cmds c)⟩

theorem abort_cuts (hk : m.done = none) (hf : m.fwdTo = none) :
    Does (.abort c) s (fun d => (d.ctxs.get c).run = .flight (.abortWait m.id) ∧ ∃ k, d.decided m.id k ∧ k.status = St.aborted) := by
  refine ⟨_, acts_of_insn (Eq.refl (execAbort c s)) hw hi, ?_⟩
  simp only [hr, hm, hk, ne_eq, not_true_eq_false, if_false]
  rw [if_neg (by simp [ha, hx])]
  refine ⟨?_, Dev.decideCut_decides (abortTarget_mem hm) hk hf ..⟩
  rw [Dev.fly, Dev.onCtx_ctxs, Table.get_modify_self]

end

/-! ### MAINT, SNAP and QSTAT (R65, R78, R380) -/

theorem Dev.regB_setRegB_same (d : Dev) (a bank : Nat) (v : W32) : (d.setRegB a bank v).regB a bank = v := by
  rw [Dev.regB, Dev.setRegB, Table.get_set_self]
  by_cases h : v = resetReg a
  · rw [if_pos h, h]
  · rw [if_neg h]

/-- A field of an unbanked register reads as it was put. -/
theorem Dev.rf_setRf (d : Dev) (a : Nat) {hi lo x : Nat} (h : lo ≤ hi) (ht : hi < 32) (hx : x < 2 ^ (hi + 1 - lo)) :
    (d.setRf a hi lo x).rf a hi lo = x := by
  rw [Dev.rf, Dev.reg, Dev.setRf, Dev.setReg, Dev.regB_setRegB_same, fieldOf_putField_same _ x h ht, Nat.mod_eq_of_lt hx]

theorem Dev.armSnap_sn (d : Dev) (source t : Nat) : (d.armSnap source t).sn.armed = true ∧ (d.armSnap source t).sn.held = true ∧
    (d.armSnap source t).sn.target = t + 256 := ⟨rfl, rfl, rfl⟩

end Sys2Proof.Machine

open Sys2Proof Sys2Proof.Machine

/-- Settles O31: each instruction ends as its checks say, from the device as it has issued. -/
theorem controlInstructions : Obligations.ControlInstructions := by
  intro c s hw d0 x q named
  refine ⟨fun hi hr => abort_outOfRange hw hi hr, fun hi hr hn => abort_nothing hw hi hr (((s.dev).issuing_abortTarget c ..).trans hn),
    fun m hi hr hn => ?abort, fun hi => ⟨_, acts_of_insn (Eq.refl (execFence c s)) hw hi, rfl⟩, fun hi hm hn he => ?enter,
    fun st hi hm hc => ?noEnter, fun hi hm hn => ?leave, fun st hi hm hc => ?noLeave, fun hi hh => ?snap, fun hi hh => ?noSnap,
    fun hi => ⟨_, acts_of_insn (Eq.refl (execQstat c s)) hw hi, d0, 0, 0, none, none, 0, rfl, rfl⟩⟩
  case abort =>
    have target : d0.named c = some m := (s.dev.issuing_abortTarget c ..).trans hn
    exact ⟨abort_itself hw hi hr target, fun k ha hx hk => abort_decided hw hi hr target ha hx hk,
      fun ha hx hk _ hf => abort_cuts hw hi hr target ha hx hk hf⟩
  case enter =>
    have free : d0.maintCheck false = none := by
      rw [Dev.issuing_maintCheck]
      simp [Dev.maintCheck, hn, he]
    refine ⟨_, acts_of_insnMod (Eq.refl (execMaintEnter c s)) hw hi (s.dev.modIs_issuing c hm), ?_⟩
    dsimp only
    rw [free]
    exact ⟨_, 0, 0, none, none, 0, rfl, rfl⟩
  case noEnter =>
    have refused : d0.maintCheck false = some st := (s.dev.issuing_maintCheck c false).trans hc
    refine ⟨_, acts_of_insnMod (Eq.refl (execMaintEnter c s)) hw hi (s.dev.modIs_issuing c hm), ?_⟩
    dsimp only
    rw [refused]
    exact ⟨_, 0, 0, none, none, 0, rfl, rfl⟩
  case leave =>
    have free : d0.maintCheck true = none := by
      rw [Dev.issuing_maintCheck]
      simp [Dev.maintCheck, hn]
    refine ⟨_, acts_of_insnMod (Eq.refl (execMaintExit c s)) hw hi (s.dev.modIs_issuing c hm), ?_⟩
    dsimp only
    rw [free]
    exact ⟨_, 0, 0, none, none, 0, rfl, Dev.setRf_mode .., Dev.rf_setRf _ _ (by decide) (by decide) (by decide), rfl⟩
  case noLeave =>
    have refused : d0.maintCheck true = some st := (s.dev.issuing_maintCheck c true).trans hc
    refine ⟨_, acts_of_insnMod (Eq.refl (execMaintExit c s)) hw hi (s.dev.modIs_issuing c hm), ?_⟩
    dsimp only
    rw [refused]
    exact ⟨_, 0, 0, none, none, 0, rfl, rfl⟩
  case snap =>
    intro t
    have free : d0.sn.held = false := (congrArg Snap.held (s.dev.issuing_sn c)).trans hh
    have count : (if d0.isProgram c then x.issue.t else d0.clk.now) = t := by rw [Dev.issuing_isProgram]
    refine ⟨_, acts_of_insn (Eq.refl (execSnap c s)) hw hi, ?_⟩
    dsimp only
    rw [free]
    rw [if_neg (by simp), count]
    exact ⟨_, 0, 0, none, none, 0, rfl, Dev.armSnap_sn ..⟩
  case noSnap =>
    have held : d0.sn.held = true := (congrArg Snap.held (s.dev.issuing_sn c)).trans hh
    exact ⟨_, acts_of_insn (Eq.refl (execSnap c s)) hw hi, d0, 0, 0, none, none, 0, if_pos held, rfl⟩

end

section
/-! PAGE_RANGE_SEGMENT_ARRIVE and the faults of host data (R32, R33, Table 2.4): a segment that reads becomes the walk, one that does not ends the
instruction. -/

namespace Sys2Proof.Machine

/-- A command of the data path that acts answers what its effect makes of the device. -/
theorem acts_of_flow {i : Instr} {s : State} {f : Dev → Dev} {d : Dev} (he : exec i s = s.flow f) (hw : s.dev.working = true)
    (hh : s.dev.er.halted = false) (hd : f s.dev = d) : exec i s = .next ⟨d, s.pending⟩ :=
  hd ▸ he.trans (State.flow_of f hw hh)

theorem Dev.run_of_flightOf {d : Dev} {c : Nat} {f : Flight} (h : d.flightOf c = some f) : (d.ctxs.get c).run = .flight f := by
  unfold Dev.flightOf at h
  split at h
  next g hg => rw [hg, Option.some.inj h]
  next => exact absurd h (by simp)

/-! ### Bytes placed by the host, and reads of a command of the device's own ports (R340) -/

/-- Bytes that the host places change its memory alone. -/
theorem Dev.placeFor_keeps {β : Type} (v : Dev → β) (h : ∀ (d : Dev) a b r, v { d with hostA := a, hostB := b, hostR := r } = v d) (d : Dev) (c : Nat)
    (w : HostWrites) : v (d.placeFor c w) = v d := d.onMemAt_keeps v _ _ (h d)

theorem Dev.ask_local {d : Dev} {c : Nat} (h : d.remoteOf c = none) (a n : Nat) : d.ask c a n = d := by simp [Dev.ask, h]

theorem Dev.placeFor_ask {d : Dev} {c : Nat} (h : d.remoteOf c = none) (w : HostWrites) (a n : Nat) : (d.placeFor c w).ask c a n = d.placeFor c w :=
  Dev.ask_local ((Dev.placeFor_keeps (fun d => d.remoteOf c) (fun _ _ _ _ => rfl) d c w).trans h) a n

/-! ### The pc, through what an instruction in flight gives back -/

theorem Dev.erasesDone_pc (d : Dev) (s c : Nat) : ((d.erasesDone s).ctxs.get c).pc = (d.ctxs.get c).pc := by
  unfold Dev.erasesDone Table.get
  induction d.ctxs.cells with
  | nil => rfl
  | cons x l ih =>
    simp only [List.map_cons, Table.look]
    split
    · rfl
    · exact ih

theorem Dev.pc_kept (c : Nat) : Dev.KeptByDrops (fun d => (d.ctxs.get c).pc) where
  stamp d u a := by simp
  setW1f _ _ _ _ _ _ := rfl
  count _ _ _ _ _ := rfl
  onEr _ _ _ := rfl
  onPools _ _ := rfl
  onIdx _ _ _ := rfl
  onCm _ _ := rfl
  onMi _ _ := rfl
  onCs _ _ := rfl
  epoch _ _ := rfl
  notice _ _ _ _ := rfl
  erasesDone d s := d.erasesDone_pc s c
  onReads _ _ := rfl
  onCx _ _ := rfl
  onVol _ _ := rfl
  onSh _ _ := rfl
  onFm _ _ := rfl

theorem Dev.zeroOutput_pc (d : Dev) (c : Nat) : ((d.zeroOutput c).ctxs.get c).pc = (d.ctxs.get c).pc := by
  have zeroed : ∀ no remote rs, (d.zeroAt no remote rs).ctxs = d.ctxs := fun no remote rs => by
    unfold Dev.zeroAt
    split
    · rfl
    · split
      · rfl
      · exact (Dev.hostSide_eq (d.memWriteAt_hostSide _ _ _ _)).1.trans (Dev.onMemAt_ctxs ..)
  simp only [Dev.zeroOutput, Dev.zeroRanges, Dev.onCtx_ctxs, Table.get_modify_self, zeroed]

/-! ### A fault of the list or of the host (R33, R74, R138, Table 3.7) -/

/-- What gd takes of an instruction whose data faults. -/
def Flight.faultResult : Flight → Option W64
  | .write _ => none
  | _ => some 0

/-- A fault of its data finishes the instruction. -/
theorem Dev.listFault_finishes {d : Dev} {c : Nat} {f : Flight} (hf : d.flightOf c = some f) (hu : usesData f = true) :
    ∃ d1 : Dev, d.listFault c = d1.finish c St.programFault f.faultResult 0 0 ∧ (d1.ctxs.get c).pc = (d.ctxs.get c).pc := by
  cases f with
  | write id => exact ⟨d.dropFlight c, by simp [Dev.listFault, hf, Dev.failWith, Flight.faultResult], (Dev.pc_kept c).dropFlight ..⟩
  | read r =>
    have op : r.opcode = 0x42 := by simpa [usesData] using hu
    have still : ((d.zeroRead c).ctxs.get c).run = .flight (.read r) := by rw [Dev.zeroRead_ctxs]; exact Dev.run_of_flightOf hf
    refine ⟨((d.zeroRead c).unpin r.slot).endReads c, ?_, ?_⟩
    · simp [Dev.listFault, hf, Dev.failRead, Dev.refuseRead, still, op, Dev.when, Flight.faultResult]
    · refine ((Dev.pc_kept c).endReads ..).trans (((Dev.pc_kept c).unpin ..).trans ?_)
      rw [Dev.zeroRead_ctxs]
  | compress cap size need taken =>
    exact ⟨(d.zeroOutput c).dropFlight c, by simp [Dev.listFault, hf, Dev.failOutput, Dev.failZero, Flight.faultResult],
      ((Dev.pc_kept c).dropFlight ..).trans (d.zeroOutput_pc c)⟩
  | decompress cap need taken got =>
    exact ⟨(d.zeroOutput c).dropFlight c, by simp [Dev.listFault, hf, Dev.failOutput, Dev.failZero, Flight.faultResult],
      ((Dev.pc_kept c).dropFlight ..).trans (d.zeroOutput_pc c)⟩
  | _ => exact absurd hu (by simp [usesData])

/-- A command that meets a fault in bytes the host has placed ends its instruction, at the pc it was at. -/
theorem faults_of_listFault {i : Instr} {s : State} {c : Nat} {mem : HostWrites} {f : Flight} (hf : s.dev.flightOf c = some f) (hu : usesData f = true)
    (hx : exec i s = .next ⟨(s.dev.placeFor c mem).listFault c, s.pending⟩) :
    Finishes i s c St.programFault f.faultResult (fun d => (d.ctxs.get c).pc = (s.dev.ctxs.get c).pc) := by
  have flight : (s.dev.placeFor c mem).flightOf c = some f := (Dev.placeFor_keeps (fun d => d.flightOf c) (fun _ _ _ _ => rfl) ..).trans hf
  obtain ⟨d1, ends, pc⟩ := Dev.listFault_finishes flight hu
  exact ⟨_, hx, d1, 0, 0, none, none, 0, ends, pc.trans (Dev.placeFor_keeps (fun d => (d.ctxs.get c).pc) (fun _ _ _ _ => rfl) ..)⟩

/-! ### PAGE_RANGE_SEGMENT_ARRIVE -/

section
variable {c : Nat} {mem : HostWrites} {s : State} {f : Flight} (hw : s.dev.working = true) (hh : s.dev.er.halted = false) (hl : s.dev.remoteOf c = none)
  (hr : s.dev.mayRequest c = true) (hf : s.dev.flightOf c = some f) (hu : usesData f = true)
include hw hh hl hr hf hu

section
variable (ht : (s.dev.dataWalk c).total < s.dev.dataLen c)
include ht

/-- While the list of the data is not walked whole, one segment of it is read. -/
theorem segment_ofData {v : Walk} (hv : takeSegment ((s.dev.placeFor c mem).mem c) (s.dev.dataLen c) (s.dev.dataWalk c) = some v) :
    exec (.pageRangeSegmentArrive c mem true) s = .next ⟨(s.dev.placeFor c mem).onCtx c (fun x => { x with walk := v }), s.pending⟩ := by
  have len : (s.dev.placeFor c mem).dataLen c = s.dev.dataLen c := Dev.placeFor_keeps (fun d => d.dataLen c) (fun _ _ _ _ => rfl) ..
  refine acts_of_flow rfl hw hh ?_
  simp only [hf, hu, hr, ht, hv, len, Dev.placeFor_ask hl, Bool.not_true, Bool.or_self, if_true, Bool.false_eq_true, if_false]

theorem segment_faults (hv : takeSegment ((s.dev.placeFor c mem).mem c) (s.dev.dataLen c) (s.dev.dataWalk c) = none) :
    exec (.pageRangeSegmentArrive c mem true) s = .next ⟨(s.dev.placeFor c mem).listFault c, s.pending⟩ := by
  have len : (s.dev.placeFor c mem).dataLen c = s.dev.dataLen c := Dev.placeFor_keeps (fun d => d.dataLen c) (fun _ _ _ _ => rfl) ..
  refine acts_of_flow rfl hw hh ?_
  simp only [hf, hu, hr, ht, hv, len, Dev.placeFor_ask hl, Bool.not_true, Bool.or_self, if_true, Bool.false_eq_true, if_false]

theorem segment_refused : exec (.pageRangeSegmentArrive c mem false) s = .next ⟨(s.dev.placeFor c mem).listFault c, s.pending⟩ := by
  refine acts_of_flow rfl hw hh ?_
  simp only [hf, hu, hr, ht, Dev.placeFor_ask hl, Bool.not_true, Bool.not_false, Bool.or_self, if_true, Bool.false_eq_true, if_false]

end

/-- The output list is read once the data's is walked. -/
theorem segment_ofOutput (ht : s.dev.dataLen c ≤ (s.dev.dataWalk c).total) (ho : usesOutput f = true)
    (hc : (s.dev.outputWalk c).total < (s.dev.ctxs.get c).gb.toNat) {v : Walk}
    (hv : takeSegment ((s.dev.placeFor c mem).mem c) (s.dev.ctxs.get c).gb.toNat (s.dev.outputWalk c) = some v) :
    exec (.pageRangeSegmentArrive c mem true) s = .next ⟨(s.dev.placeFor c mem).onCtx c (fun x => { x with owalk := v }), s.pending⟩ := by
  refine acts_of_flow rfl hw hh ?_
  simp only [hf, hu, hr, ho, hc, hv, Nat.not_lt.mpr ht, Dev.placeFor_ask hl, Bool.not_true, Bool.or_self, if_true, Bool.false_eq_true, if_false, decide_true,
    Bool.and_self]

end

/-- A change of a context, as the bytes the host has placed leave the contexts. -/
theorem Dev.placeFor_onCtx (d : Dev) (c : Nat) (w : HostWrites) (f : Ctx → Ctx) :
    (d.placeFor c w).onCtx c f = { d.placeFor c w with ctxs := (d.placeFor c w).ctxs.set c (f (d.ctxs.get c)) } := by
  rw [Dev.onCtx, Table.modify, Dev.placeFor_keeps Dev.ctxs (fun _ _ _ _ => rfl)]

end Sys2Proof.Machine
end

section
/-! INGEST_DATA_ARRIVE (R33, R73, R108, R122, R124): a unit is filled, and the next one begins. -/

namespace Sys2Proof.Machine

/-! ### Bytes of ranges -/

theorem readBytes_length (m : Table Byte 0) (n a : Nat) : (readBytes m a n).length = n := by
  induction n generalizing a with
  | zero => rfl
  | succ n ih => rw [readBytes, List.length_cons, ih]

/-- A part of a list gives no more bytes than are asked for. -/
theorem readRanges_subRanges_length (m : Table Byte 0) (rs : List (Nat × Nat)) (start len : Nat) : (readRanges m (subRanges rs start len)).length ≤ len := by
  induction rs generalizing start len with
  | nil => exact Nat.zero_le _
  | cons r rs ih =>
    obtain ⟨a, n⟩ := r
    simp only [subRanges]
    split
    · exact Nat.zero_le _
    · split
      · exact ih ..
      · simp only [readRanges, List.length_append, readBytes_length]
        have rest := ih 0 (len - min (n - start) len)
        omega

/-! ### The FIFOs of a context -/

theorem Table.mem_set {α : Type} {x : α} [DecidableEq α] {m : Table α x} {k : Nat} {v : α} {e : Nat × α} (h : e ∈ (m.set k v).cells) :
    e = (k, v) ∨ e ∈ m.cells := by
  unfold Table.set at h
  split at h
  · exact .inr (Table.mem_dropKey h)
  · exact Table.mem_insertKey h

/-- A FIFO takes what it holds now, or is given back. -/
def Dev.setFifo (d : Dev) (k : Nat) (f : Option Fifo) : Dev := d.onCm (fun m => { m with fifos := m.fifos.set k f })

theorem Dev.mem_fifosOf {d : Dev} {c : Nat} {kf : Nat × Fifo} : kf ∈ d.fifosOf c ↔ (kf.1, some kf.2) ∈ d.cm.fifos.cells ∧ kf.2.ctx = c := by
  simp only [Dev.fifosOf, List.mem_filterMap, Option.bind_eq_some_iff, Option.ite_none_right_eq_some, Option.some.injEq]
  constructor
  · rintro ⟨e, he, f, hf, hc, rfl⟩
    exact ⟨by rw [← hf]; exact he, hc⟩
  · rintro ⟨he, hc⟩
    exact ⟨_, he, kf.2, rfl, hc, rfl⟩

theorem Dev.mem_fifosOf_setFifo {d : Dev} {c k : Nat} {f : Fifo} {kf : Nat × Fifo} (h : kf ∈ (d.setFifo k (some f)).fifosOf c) :
    kf = (k, f) ∨ kf ∈ d.fifosOf c := by
  obtain ⟨he, hc⟩ := Dev.mem_fifosOf.mp h
  rcases Table.mem_set he with new | old
  · simp only [Prod.mk.injEq, Option.some.injEq] at new
    exact .inl (Prod.ext new.1 new.2)
  · exact .inr (Dev.mem_fifosOf.mpr ⟨old, hc⟩)

/-! ### Units -/

/-- Nothing moves on while no unit is both whole and draining. -/
theorem Dev.absorb_idle {d : Dev} {c : Nat} (h : ∀ kf ∈ d.fifosOf c, (kf.2.complete && kf.2.draining) = false) (n : Nat) : d.absorb c n = d := by
  cases n with
  | zero => rfl
  | succ n =>
    unfold Dev.absorb
    split
    · rfl
    · split
      next kf hk =>
        have whole := List.find?_some hk
        have idle := h kf (List.mem_of_find?_eq_some hk)
        rw [Bool.and_assoc, idle, Bool.and_false] at whole
        exact absurd whole Bool.false_ne_true
      · rfl

/-- What a unit's FIFO holds once bytes have arrived for it. -/
def Dev.filled (d : Dev) (c : Nat) (i : Intake) (f : Fifo) (n : Nat) : Fifo :=
  let pos := (d.ctxs.get c).dc + d.arrived c i
  let size := min i.unit (i.need - f.unit * i.unit)
  let room := if f.draining then size - f.bytes.length else 65536 - f.bytes.length
  let bs := readRanges (d.mem c) (subRanges (d.dataWalk c).ranges pos (min (min (min n (size - f.bytes.length)) room) ((d.dataWalk c).total - pos)))
  { f with bytes := f.bytes ++ bs, complete := decide (f.bytes.length + bs.length = size) }

/-- Filling changes the FIFO alone, for a command of the device's own ports. -/
theorem Dev.fillUnit_eq {d : Dev} {c : Nat} (h : d.remoteOf c = none) (i : Intake) (kf : Nat × Fifo) (n : Nat) :
    d.fillUnit c i kf n = d.setFifo kf.1 (some (d.filled c i kf.2 n)) := by
  have asked : ∀ rs : List (Nat × Nat), d.each rs (fun d r => d.ask c r.1 r.2) = d := fun rs => by
    unfold Dev.each
    induction rs with
    | nil => rfl
    | cons r rs ih => rw [List.foldl_cons, Dev.ask_local h, ih]
  unfold Dev.fillUnit
  extract_lets f pos size dc room k rs bs d1
  have same : d1 = d := asked rs
  rw [same]
  rfl

theorem Dev.filled_length (d : Dev) (c : Nat) (i : Intake) (f : Fifo) (n : Nat) : (d.filled c i f n).bytes.length ≤ f.bytes.length + n := by
  unfold Dev.filled
  extract_lets pos size room bs
  have few : bs.length ≤ _ := readRanges_subRanges_length ..
  simp only [List.length_append]
  omega

/-! ### Galley requests (R104, R108) -/

/-- A host request changes what a stamp, the pools and the counts of refusals hold. -/
theorem Dev.hostGrant_keeps {β : Type} (v : Dev → β) (stamp : ∀ (d : Dev) (u a : Nat), v (d.stamp u a).2 = v d)
    (pools : ∀ (d : Dev) (f : Pools → Pools), v (d.onPools f) = v d) (events : ∀ (d : Dev) (a bank hi lo x : Nat), v (d.setW1f a bank hi lo x) = v d)
    (d : Dev) (req size : Nat) (spill : Bool) (h : Holder) : v (d.hostGrant req size spill h).2 = v d := by
  have counted : ∀ (e : Dev) (s : W16), v (e.countRefusal s) = v e := fun e s => by
    unfold Dev.countRefusal
    split
    · exact events ..
    · split
      · exact events ..
      · rfl
  unfold Dev.hostGrant
  extract_lets sd
  split
  next p hp =>
    have taken : v (sd.2.take req p [h]).2 = v d := by
      unfold Dev.take
      split
      · exact stamp ..
      · dsimp only
        rw [pools]
        exact stamp ..
    split
    next k d2 ht => rw [ht] at taken; exact taken
    next d2 ht => rw [ht] at taken; exact taken
  next s l hs => exact (counted ..).trans (stamp ..)

/-- What the next steps of the ingest read besides the index and the pools: the contexts, the commands, the registers, the FIFOs and the cascade. -/
def Dev.ingest (d : Dev) : Table Ctx Ctx.reset × List Cmd × Table (Option W32) none × Compression × Cascade := (d.ctxs, d.cmds, d.regs, d.cm, d.cs)

theorem Dev.hostGrant_ingest (d : Dev) (req size : Nat) (spill : Bool) (h : Holder) : (d.hostGrant req size spill h).2.ingest = d.ingest :=
  Dev.hostGrant_keeps Dev.ingest (fun d u a => by simp [Dev.ingest]) (fun _ _ => rfl) (fun _ _ _ _ _ _ => rfl) ..

theorem Dev.hostGrant_idx (d : Dev) (req size : Nat) (spill : Bool) (h : Holder) : (d.hostGrant req size spill h).2.idx = d.idx :=
  Dev.hostGrant_keeps Dev.idx Dev.stamp_idx Dev.onPools_idx (fun _ _ _ _ _ _ => rfl) ..

/-! ### A unit begins -/

theorem Dev.cutBytes_congr {d e : Dev} (h : e.regs = d.regs) : e.cutBytes = d.cutBytes := by
  have field : e.rf Reg.CM_FIFOCFG 9 0 = d.rf Reg.CM_FIFOCFG 9 0 := by simp only [Dev.rf, Dev.reg, Dev.regB, h]
  simp only [Dev.cutBytes, field]

/-- A write of the index after a change of it. -/
theorem Dev.write_onWrite {d : Dev} {id : Nat} {w : Write} {f : Write → Write} (hf : (f w).id = w.id) (hw : d.write id = some w) :
    (d.onWrite id f).write id = some (f w) := by
  have found : ∀ l : List Write, l.find? (fun w => decide (w.id = id)) = some w →
      (l.map fun w => if w.id = id then f w else w).find? (fun w => decide (w.id = id)) = some (f w) := fun l => by
    induction l with
    | nil => exact fun h => absurd h (by simp)
    | cons x l ih =>
      intro h
      rw [List.find?_cons] at h
      rw [List.map_cons, List.find?_cons]
      by_cases hx : x.id = id
      · obtain rfl : x = w := by simpa [hx] using h
        simp [hx, hf]
      · simp only [hx, decide_false, if_false] at h ⊢
        exact ih h
  exact found _ hw

/-- A unit that begins: its FIFO is empty, and its context alone has it. -/
theorem Dev.openUnit_fifo (d : Dev) (c k u : Nat) (buf : Option Nat) :
    ∃ fi : Fifo, (d.openUnit c k u buf).cm.fifos.get k = some fi ∧ fi.ctx = c ∧ fi.unit = u ∧ fi.bytes = [] ∧ fi.draining = false ∧ fi.cut = d.cutBytes ∧
      (d.openUnit c k u buf).cm = (d.setFifo k (some fi)).cm := by
  unfold Dev.openUnit
  extract_lets isWrite d1
  have opened : ∀ e : Dev, e.cm = d1.cm → ∃ fi : Fifo, e.cm.fifos.get k = some fi ∧ fi.ctx = c ∧ fi.unit = u ∧ fi.bytes = [] ∧ fi.draining = false ∧
      fi.cut = d.cutBytes ∧ e.cm = (d.setFifo k (some fi)).cm := fun e he =>
    ⟨⟨c, u, [], false, false, d.cutBytes, if isWrite then none else buf⟩, by rw [he]; exact Table.get_set_self .., rfl, rfl, rfl, rfl, rfl, he⟩
  split
  · exact opened _ rfl
  · exact opened _ rfl

theorem Dev.openUnit_keeps (d : Dev) (c k u : Nat) (buf : Option Nat) : (d.openUnit c k u buf).ctxs = d.ctxs ∧ (d.openUnit c k u buf).cmds = d.cmds ∧
    (d.openUnit c k u buf).pools = d.pools := by
  unfold Dev.openUnit
  extract_lets isWrite d1
  split <;> exact ⟨rfl, rfl, rfl⟩

/-- What has begun in a FIFO, of at most `n` bytes. -/
def Dev.begun (d : Dev) (c k u n cut : Nat) : Prop :=
  ∃ f : Fifo, d.cm.fifos.get k = some f ∧ f.ctx = c ∧ f.unit = u ∧ f.bytes.length ≤ n ∧ f.draining = false ∧ f.cut = cut

/-! ### INGEST_DATA_ARRIVE -/

/-- The device after a unit's start: it waits, its write ends, or its first bytes enter FIFO `k`. -/
def UnitStart.outcome (c k n : Nat) (i : Intake) : UnitStart → Dev
  | .waits d => d
  | .refused d st size => (d.dropFlight c).failWith c st (toW64 (poolFor size * 2 ^ 56)) (toW64 (d.reqOf c))
  | .started d buf =>
    match (d.openUnit c k (i.moved / i.unit) buf).cm.fifos.get k with
    | some fi => ((d.openUnit c k (i.moved / i.unit) buf).fillUnit c i (k, fi) n).absorb c 8
    | none => d.openUnit c k (i.moved / i.unit) buf

/-- The first bytes of a unit that has just begun, where its context has no other: only the FIFO changes. -/
theorem Dev.begins {d : Dev} {c k : Nat} (hl : d.remoteOf c = none) (hn : d.fifosOf c = []) (i : Intake) (n : Nat) (buf : Option Nat) :
    ∃ g, (UnitStart.started d buf).outcome c k n i = (d.openUnit c k (i.moved / i.unit) buf).setFifo k g ∧
      ((UnitStart.started d buf).outcome c k n i).begun c k (i.moved / i.unit) n d.cutBytes := by
  obtain ⟨fi, got, ctx, unit, bytes, idle, cut, cm⟩ := d.openUnit_fifo c k (i.moved / i.unit) buf
  obtain ⟨ctxs, cmds, -⟩ := d.openUnit_keeps c k (i.moved / i.unit) buf
  have here : (d.openUnit c k (i.moved / i.unit) buf).remoteOf c = none := by
    rw [Dev.remoteOf, Dev.cmdOf_congr (d := d) (by rw [ctxs]) cmds]
    exact hl
  unfold UnitStart.outcome
  simp only [got]
  generalize d.openUnit c k (i.moved / i.unit) buf = d2 at *
  have fill := Dev.fillUnit_eq here i (k, fi) n
  have still : (d2.fillUnit c i (k, fi) n).absorb c 8 = d2.fillUnit c i (k, fi) n := by
    refine Dev.absorb_idle (fun kf hkf => ?_) 8
    rw [fill] at hkf
    rcases Dev.mem_fifosOf_setFifo hkf with rfl | old
    · exact Bool.and_eq_false_imp.mpr fun _ => idle
    · have one : kf ∈ (d.setFifo k (some fi)).fifosOf c := by
        rw [Dev.mem_fifosOf, ← cm]
        exact Dev.mem_fifosOf.mp old
      rcases Dev.mem_fifosOf_setFifo one with rfl | other
      · exact Bool.and_eq_false_imp.mpr fun _ => idle
      · rw [hn] at other
        exact absurd other List.not_mem_nil
  rw [still, fill]
  have few := d2.filled_length c i fi n
  rw [bytes, List.length_nil, Nat.zero_add] at few
  exact ⟨_, rfl, d2.filled c i fi n, Table.get_set_self .., ctx, unit, few, idle, cut⟩

theorem Dev.maxFifos_pos (d : Dev) : 0 < d.maxFifos := by
  unfold Dev.maxFifos
  dsimp only
  split <;> omega

section
variable {c n : Nat} {mem : HostWrites} {s : State} {i : Intake} (hw : s.dev.working = true) (hh : s.dev.er.halted = false)
  (hi : s.dev.intake c = some i) (hr : s.dev.mayRequest c = true) (hg : s.dev.lendWaits c = false)
include hw hh hi hr hg

theorem ingest_refused : exec (.ingestDataArrive c n mem false) s = .next ⟨(s.dev.placeFor c mem).listFault c, s.pending⟩ := by
  refine acts_of_flow rfl hw hh ?_
  simp only [hi, hr, hg, Bool.not_true, Bool.not_false, Bool.or_self, if_true, Bool.false_eq_true, if_false]

theorem ingest_fills {kf : Nat × Fifo} (hk : s.dev.fillingOf c = some kf) :
    exec (.ingestDataArrive c n mem true) s = .next ⟨((s.dev.placeFor c mem).fillUnit c i kf n).absorb c 8, s.pending⟩ := by
  have filling : (s.dev.placeFor c mem).fillingOf c = some kf := (Dev.placeFor_keeps (fun d => d.fillingOf c) (fun _ _ _ _ => rfl) ..).trans hk
  refine acts_of_flow rfl hw hh ?_
  simp only [hi, hr, hg, filling, Bool.not_true, Bool.or_self, Bool.false_eq_true, if_false]

variable {k : Nat} (hn : s.dev.fifosOf c = []) (hb : i.moved < i.need) (hk : s.dev.freeFifo (s.dev.portOfCtx c) = some k)
include hn hb hk

/-- With no unit open and bytes wanted, the next unit starts. -/
theorem ingest_starts : exec (.ingestDataArrive c n mem true) s =
    .next ⟨((s.dev.placeFor c mem).startUnit c (i.moved / i.unit) (min i.unit (i.need - i.moved))).outcome c k n i, s.pending⟩ := by
  have none' : (s.dev.placeFor c mem).fifosOf c = [] := (Dev.placeFor_keeps (fun d => d.fifosOf c) (fun _ _ _ _ => rfl) ..).trans hn
  have filling : (s.dev.placeFor c mem).fillingOf c = none := by rw [Dev.fillingOf, none', List.find?_nil]
  have arrived : (s.dev.placeFor c mem).arrived c i = i.moved := by simp [Dev.arrived, none']
  have free : (s.dev.placeFor c mem).freeFifo ((s.dev.placeFor c mem).portOfCtx c) = some k :=
    (Dev.placeFor_keeps (fun d => d.freeFifo (d.portOfCtx c)) (fun _ _ _ _ => rfl) ..).trans hk
  have wanted : ¬ (i.need ≤ i.moved ∨ (s.dev.placeFor c mem).maxFifos ≤ ([] : List (Nat × Fifo)).length) := by
    have some := (s.dev.placeFor c mem).maxFifos_pos
    simp only [List.length_nil]
    omega
  refine acts_of_flow rfl hw hh ?_
  simp only [hi, hr, hg, filling, arrived, free, none', if_neg wanted, Bool.not_true, Bool.or_self, Bool.false_eq_true, if_false]
  rfl

end

end Sys2Proof.Machine
end

section
/-! The end of a write that is refused its galley buffer (R73, R97, R108): of its context no intent is left. -/

namespace Sys2Proof.Machine

/-- `e` has no write that `d` has not: each comes from one of the same number, context and commit. -/
structure Dev.Thinned (d e : Dev) : Prop where
  source : ∀ w ∈ e.idx.writes, ∃ v ∈ d.idx.writes, v.id = w.id ∧ v.ctx = w.ctx ∧ v.commit = w.commit

namespace Dev.Thinned

theorem of_idx {d e : Dev} (h : e.idx = d.idx) : d.Thinned e := ⟨fun w hw => ⟨w, h ▸ hw, rfl, rfl, rfl⟩⟩

theorem refl (d : Dev) : d.Thinned d := of_idx rfl

theorem trans {d e f : Dev} (h : d.Thinned e) (g : e.Thinned f) : d.Thinned f := ⟨fun w hw => by
  obtain ⟨v, hv, id, ctx, commit⟩ := g.source w hw
  obtain ⟨u, hu, id', ctx', commit'⟩ := h.source v hv
  exact ⟨u, hu, id'.trans id, ctx'.trans ctx, commit'.trans commit⟩⟩

theorem each {α : Type} (d : Dev) (l : List α) (f : Dev → α → Dev) (h : ∀ e x, Dev.Thinned e (f e x)) : d.Thinned (d.each l f) := by
  unfold Dev.each
  induction l generalizing d with
  | nil => exact refl d
  | cons x l ih => exact (h d x).trans (ih _)

/-- Writes that are changed in other parts. -/
theorem map (d : Dev) (f : Index → Index) (g : Write → Write) (h : ∀ x, (f x).writes = x.writes.map g)
    (hg : ∀ w, (g w).id = w.id ∧ (g w).ctx = w.ctx ∧ (g w).commit = w.commit) : d.Thinned (d.onIdx f) := ⟨fun w hw => by
  rw [Dev.onIdx_idx, h] at hw
  obtain ⟨v, hv, rfl⟩ := List.mem_map.mp hw
  obtain ⟨id, ctx, commit⟩ := hg v
  exact ⟨v, hv, id.symm, ctx.symm, commit.symm⟩⟩

/-- Writes that leave the index. -/
theorem filter (d : Dev) (f : Index → Index) (h : ∀ x, ∀ w ∈ (f x).writes, w ∈ x.writes) : d.Thinned (d.onIdx f) :=
  ⟨fun w hw => ⟨w, h _ w hw, rfl, rfl, rfl⟩⟩

/-! ### Operations on buffers, blocks and reads -/

theorem onWrite (d : Dev) (id : Nat) (f : Write → Write) (hf : ∀ w, (f w).id = w.id ∧ (f w).ctx = w.ctx ∧ (f w).commit = w.commit) :
    d.Thinned (d.onWrite id f) := map _ _ _ (fun _ => rfl) fun w => by
  split
  · exact hf w
  · exact ⟨rfl, rfl, rfl⟩

theorem freeBuf (d : Dev) (k : Nat) (b : Buf) : d.Thinned (d.freeBuf k b) := by
  unfold Dev.freeBuf
  extract_lets d0
  have unlisted : d.Thinned d0 := map _ _ _ (fun _ => rfl) fun _ => ⟨rfl, rfl, rfl⟩
  refine unlisted.trans (of_idx ?_)
  split
  · simp [Dev.freeLent]
  · rw [Dev.serveWaiter_keeps Dev.idx Dev.stamp_idx Dev.onPools_idx, Dev.onPools_idx, Dev.onMi_idx]

theorem stamp (d : Dev) (u a : Nat) : d.Thinned (d.stamp u a).2 := of_idx (Dev.stamp_idx ..)

theorem giveBack (d : Dev) (k : Nat) : d.Thinned (d.giveBack k) := by
  unfold Dev.giveBack
  split
  · exact (stamp ..).trans (freeBuf ..)
  · exact refl d

theorem bumpW1 (d : Dev) (a bank hi lo : Nat) : d.Thinned (d.bumpW1 a bank hi lo) := of_idx rfl

theorem note (d : Dev) (r : Report) : d.Thinned (d.note r) := of_idx (Dev.note_idx ..)

theorem onPools (d : Dev) (f : Pools → Pools) : d.Thinned (d.onPools f) := of_idx (Dev.onPools_idx ..)

theorem onCm (d : Dev) (f : Compression → Compression) : d.Thinned (d.onCm f) := of_idx (Dev.onCm_idx ..)

theorem release (d : Dev) (k : Nat) (x : Holder) (req : Nat) : d.Thinned (d.release k x req).2 := by
  refine (stamp d 7 0).trans ?_
  unfold Dev.release
  extract_lets d1
  split
  · dsimp only
    exact (bumpW1 ..).trans (note ..)
  · split
    · dsimp only
      exact (bumpW1 ..).trans (note ..)
    · split
      · split
        · exact freeBuf ..
        · dsimp only
          exact (bumpW1 ..).trans (onPools ..)
      · extract_lets rest
        split
        · exact freeBuf ..
        · dsimp only
          exact onPools ..

theorem letGo (d : Dev) (k : Nat) (x : Holder) : d.Thinned (d.letGo k x) := by
  unfold Dev.letGo
  split
  · exact release ..
  · exact refl d

theorem dropWaits (d : Dev) (p : BufUnit → List Nat → Bool) : d.Thinned (d.dropWaits p) := by
  refine (onPools d _).trans (each _ _ (fun e (r : BufUnit × List Nat × Nat) => e.giveBack r.2.2) fun e r => ?_)
  exact giveBack ..

theorem reviewHolds (d : Dev) : d.Thinned d.reviewHolds := by
  refine each _ _ _ fun e w => ?_
  dsimp only
  split
  · exact refl e
  · refine (stamp e 8 0).trans (onWrite _ _ _ fun x => ?_)
    exact ⟨rfl, rfl, rfl⟩

theorem reap (d : Dev) : d.Thinned d.reap := by
  unfold Dev.reap
  extract_lets d1
  have released : d.Thinned d1 := each _ _ _ fun e w => each _ _ _ fun e kb => by
    split
    · exact refl e
    · exact release ..
  exact released.trans (filter _ _ fun _ _ => List.mem_of_mem_filter)

theorem dropBlocks (d : Dev) (p : Block → Bool) : d.Thinned (d.dropBlocks p) := by
  unfold Dev.dropBlocks
  extract_lets bs d1
  have freed : ∀ (e : Dev) (b : Block) (u : BufUnit), e.Thinned (e.freeBlock b u) := fun e b u => each _ _ _ fun e _ => letGo ..
  have dropped : d.Thinned d1 := each _ _ _ fun e b =>
    (((freed e b .compressor).trans (freed _ b .verify)).trans (freed _ b .cipher)).trans
      ((each _ _ _ giveBack : Dev.Thinned _ (Dev.freeFrame _ b)).trans (each _ _ _ giveBack))
  exact (dropped.trans (dropWaits ..)).trans (onCm ..)

theorem unpin (d : Dev) (s : Nat) : d.Thinned (d.unpin s) :=
  of_idx (Dev.unpin_keeps Dev.idx Dev.stamp_idx
    (fun e after => e.epochAdvance_keeps Dev.idx Dev.stamp_idx Dev.notice_idx Dev.onEr_idx Dev.send_idx after) Dev.onCx_idx (fun _ _ => rfl) d s)

theorem settled (d : Dev) (p : Write → Bool) : (d.onIdx fun x => x.settle (x.writes.filter p)).idx.writes = d.idx.writes.filter p := rfl

/-- An intent that is cancelled is gone. -/
theorem cancelWrite (d : Dev) (w : Write) : d.Thinned (d.cancelWrite w) ∧ ∀ v ∈ (d.cancelWrite w).idx.writes, v.id ≠ w.id := by
  unfold Dev.cancelWrite
  extract_lets d1 d2 d3
  have before : d.Thinned d1 := (stamp d 8 0).trans (dropBlocks ..)
  have removed : d1.Thinned d2 := filter _ _ fun _ _ => List.mem_of_mem_filter
  have freed : d2.Thinned d3 := each _ _ _ fun e kb => by
    split
    · exact release ..
    · exact giveBack ..
  have unpinned : d3.Thinned (if w.pinned then d3.unpin w.slot else d3) := by
    split
    · exact unpin ..
    · exact refl d3
  have after := freed.trans (unpinned.trans ((reviewHolds _).trans (reap _)))
  refine ⟨before.trans (removed.trans after), fun v hv => ?_⟩
  obtain ⟨u, hu, id, -⟩ := after.source v hv
  have other := (List.mem_filter.mp (settled d1 (fun v => decide (v.id ≠ w.id)) ▸ hu)).2
  rw [← id]
  simpa using other

/-- Intents that are cancelled are gone. -/
theorem cancelled (l : List Write) (d : Dev) : d.Thinned (d.each l fun d w => d.cancelWrite w) ∧
    ∀ w ∈ l, ∀ v ∈ (d.each l fun d w => d.cancelWrite w).idx.writes, v.id ≠ w.id := by
  induction l generalizing d with
  | nil => exact ⟨refl d, fun _ hw => absurd hw List.not_mem_nil⟩
  | cons w l ih =>
    obtain ⟨thin, gone⟩ := ih (d.cancelWrite w)
    obtain ⟨thin', gone'⟩ := cancelWrite d w
    refine ⟨thin'.trans thin, fun x hx v hv => ?_⟩
    rcases List.mem_cons.mp hx with rfl | hx
    · obtain ⟨u, hu, id, -⟩ := thin.source v hv
      exact id ▸ gone' u hu
    · exact gone x hx v hv

theorem dropFifos (d : Dev) (c : Nat) : d.Thinned (d.dropFifos c) := by
  unfold Dev.dropFifos
  refine Dev.Thinned.trans (each _ _ _ fun e kf => ?_) (onCm ..)
  split
  · split
    · split
      · exact giveBack ..
      · exact refl e
    · exact refl e
  · exact refl e

theorem endReads (d : Dev) (c : Nat) : d.Thinned (d.endReads c) := by
  have decoded : ∀ e : Dev, e.Thinned e.dropDecoded := fun e => by
    unfold Dev.dropDecoded
    split
    · exact refl e
    · refine Dev.Thinned.trans (each _ _ _ fun e f => ?_) (of_idx (Dev.onVol_idx ..))
      split
      · exact giveBack ..
      · exact refl e
  unfold Dev.endReads
  extract_lets d0 d1 d2
  have unread : d.Thinned d1 := ⟨fun w hw => ⟨w, hw, rfl, rfl, rfl⟩⟩
  have freed : d1.Thinned d2 := each _ _ _ fun e k => by
    split
    · exact each _ _ _ fun e x => release ..
    · exact refl e
  exact (unread.trans freed).trans ((decoded _).trans ((reviewHolds _).trans (reap _)))

end Dev.Thinned

/-- A write in flight that is dropped leaves no intent of its context. -/
theorem Dev.dropFlight_intents {d : Dev} {c id : Nat} (h : d.flightOf c = some (.write id)) :
    (d.dropFlight c).idx.writes.any (fun w => w.ctx == some c && w.commit.isNone) = false := by
  obtain ⟨thin, gone⟩ := Dev.Thinned.cancelled (d.intentsOf c) d
  have rest : (d.cancelIntents c).Thinned (d.dropFlight c) := by
    unfold Dev.dropFlight
    extract_lets d1 d2
    have dropped : (d.cancelIntents c).Thinned d2 :=
      (Dev.Thinned.dropFifos ..).trans ((Dev.Thinned.dropBlocks ..).trans ((Dev.Thinned.dropWaits ..).trans (Dev.Thinned.of_idx (Dev.onCs_idx ..))))
    rw [Dev.run_of_flightOf h]
    exact dropped.trans (Dev.Thinned.endReads ..)
  rw [List.any_eq_false]
  intro w hw hc
  simp only [Bool.and_eq_true, beq_iff_eq, Option.isNone_iff_eq_none] at hc
  obtain ⟨v, hv, id', ctx, commit⟩ := rest.source w hw
  obtain ⟨u, hu, id'', ctx', commit'⟩ := thin.source v hv
  have intent : u ∈ d.intentsOf c := List.mem_filter.mpr ⟨hu, by simp [ctx', ctx, hc.1, commit', commit, hc.2]⟩
  exact gone u intent v hv id''.symm

end Sys2Proof.Machine
end

section
/-! FIFO_DRAIN_START (R124 to R126): a unit that drains, and a whole unit of a write that moves on. -/

namespace Sys2Proof.Machine

/-! ### Cells that a write of a table leaves and removes -/

theorem Table.mem_insertKey_self {α : Type} (l : List (Nat × α)) (k : Nat) (v : α) : (k, v) ∈ Table.insertKey l k v := by
  induction l with
  | nil => exact List.mem_cons_self
  | cons e l ih =>
    obtain ⟨j, a⟩ := e
    simp only [Table.insertKey]
    split
    · exact List.mem_cons_self
    · split
      · exact List.mem_cons_self
      · exact List.mem_cons_of_mem _ ih

theorem Table.mem_set_self {α : Type} {x : α} [DecidableEq α] (m : Table α x) (k : Nat) {v : α} (h : v ≠ x) : (k, v) ∈ (m.set k v).cells := by
  rw [Table.set, if_neg h]
  exact Table.mem_insertKey_self ..

theorem Table.key_of_mem_dropKey {α : Type} {l : List (Nat × α)} {k : Nat} {e : Nat × α} (h : e ∈ Table.dropKey l k) : e.1 ≠ k := by
  induction l with
  | nil => exact absurd h List.not_mem_nil
  | cons y l ih =>
    obtain ⟨j, a⟩ := y
    simp only [Table.dropKey] at h
    split at h
    · exact ih h
    next other =>
      rcases List.mem_cons.mp h with rfl | h
      · exact other
      · exact ih h

/-- A context's FIFOs besides one that is given back. -/
theorem Dev.mem_fifosOf_dropped {d : Dev} {c k : Nat} {kf : Nat × Fifo} (h : kf ∈ (d.setFifo k none).fifosOf c) : kf.1 ≠ k ∧ kf ∈ d.fifosOf c := by
  obtain ⟨he, hc⟩ := Dev.mem_fifosOf.mp h
  have dropped : (kf.1, some kf.2) ∈ Table.dropKey d.cm.fifos.cells k := by simpa [Dev.setFifo, Table.set] using he
  exact ⟨Table.key_of_mem_dropKey (e := (kf.1, some kf.2)) dropped, Dev.mem_fifosOf.mpr ⟨Table.mem_dropKey dropped, hc⟩⟩

/-! ### A whole unit of a write (R125, R126) -/

/-- Bytes reach the galley in its words of memory alone. -/
theorem Dev.storeGalley_keeps {β : Type} (v : Dev → β) (h : ∀ (d : Dev) (f : MemInt → MemInt), v (d.onMi f) = v d) (d : Dev) (w : Write) (u : Nat)
    (bs : List Byte) : v (d.storeGalley w u bs) = v d := by
  unfold Dev.storeGalley
  split
  · rfl
  · split
    · rfl
    · exact Dev.each_keeps v _ _ _ fun e j => h ..

/-- A unit of a write that compresses, in a galley buffer of this member, joins its bytes and is a block ready for a lane. -/
theorem Dev.moveWrite_ready {d : Dev} {id u : Nat} {w : Write} (bs : List Byte) (hw : d.write id = some w) (hr : w.byRequest = false)
    (hl : w.lentAt u = none) :
    (d.moveWrite id u bs).cm = { d.cm with blocks := d.cm.blocks ++ [⟨some id, none, u, bs, .ready, none, none⟩] } ∧
    (d.moveWrite id u bs).write id = some { w with data := w.data ++ bs } := by
  have kept : d.writeLent w u bs = d := by simp [Dev.writeLent, hl]
  unfold Dev.moveWrite
  simp only [hw, hr, kept, Bool.false_eq_true, if_false]
  refine ⟨Dev.storeGalley_keeps Dev.cm (fun _ _ => rfl) .., ?_⟩
  refine (Dev.storeGalley_keeps (fun d => d.write id) (fun _ _ => rfl) ..).trans ?_
  refine (Dev.write_onWrite (f := fun w => { w with data := w.data ++ bs, passed := if w.byRequest then w.passed ++ [u] else w.passed }) rfl hw).trans ?_
  simp [hr]

/-! ### FIFO_DRAIN_START -/

/-- A FIFO once its unit drains. -/
def Fifo.underDrain (f : Fifo) : Fifo := { f with draining := true }

section
variable {p : PortId} {f c : Nat} {fi : Fifo} {s : State} (hw : s.dev.working = true) (hf : f < 32)
  (hg : s.dev.cm.fifos.get (32 * portNo p + f) = some fi) (hc : fi.ctx = c) (hd : fi.draining = false)
  (hn : s.dev.fifosOf c = [(32 * portNo p + f, fi)])
include hw hf hg hc hd

theorem drain_starts (h : fi.complete = true ∨ fi.cut ≤ fi.bytes.length) : exec (.fifoDrainStart p f) s =
    .next ⟨(s.dev.setFifo (32 * portNo p + f) (some fi.underDrain)).absorb c 8, s.pending⟩ := by
  subst hc
  refine acts_of_live rfl (Dev.alive_of_working hw).1 ?_
  simp only [hg]
  rw [if_pos ⟨hf, h, by simp [hd]⟩]
  rfl

include hn

/-- A unit that is not whole drains on. -/
theorem drain_ofCut (hi : fi.complete = false) (h : fi.cut ≤ fi.bytes.length) : exec (.fifoDrainStart p f) s =
    .next ⟨s.dev.setFifo (32 * portNo p + f) (some fi.underDrain), s.pending⟩ := by
  rw [drain_starts hw hf hg hc hd (.inr h), Dev.absorb_idle]
  intro kf hkf
  rcases Dev.mem_fifosOf_setFifo hkf with rfl | old
  · exact Bool.and_eq_false_imp.mpr fun whole => absurd (hi.symm.trans whole) Bool.false_ne_true
  · rw [hn, List.mem_singleton] at old
    subst old
    exact Bool.and_eq_false_imp.mpr fun _ => hd

/-- The whole unit that is next moves on, and no unit after it. -/
theorem drain_ofWhole {i : Intake} (hi : s.dev.intake c = some i) (hx : fi.complete = true) (hu : fi.unit * i.unit = i.moved) {d : Dev}
    (hm : (s.dev.setFifo (32 * portNo p + f) (some fi.underDrain)).moveUnit c (32 * portNo p + f, fi.underDrain) = d)
    (hk : d.fifosOf c = []) : exec (.fifoDrainStart p f) s = .next ⟨d, s.pending⟩ := by
  rw [drain_starts hw hf hg hc hd (.inl hx)]
  have there : (32 * portNo p + f, fi.underDrain) ∈ (s.dev.setFifo (32 * portNo p + f) (some fi.underDrain)).fifosOf c :=
    Dev.mem_fifosOf.mpr ⟨Table.mem_set_self _ _ (by simp), hc⟩
  have next : ((s.dev.setFifo (32 * portNo p + f) (some fi.underDrain)).fifosOf c).find?
      (fun kf => kf.2.unit * i.unit == i.moved && kf.2.complete && kf.2.draining) = some (32 * portNo p + f, fi.underDrain) := by
    have found : (((s.dev.setFifo (32 * portNo p + f) (some fi.underDrain)).fifosOf c).find?
        (fun kf => kf.2.unit * i.unit == i.moved && kf.2.complete && kf.2.draining)).isSome :=
      List.find?_isSome.mpr ⟨_, there, by simp [Fifo.underDrain, hu, hx]⟩
    obtain ⟨kf, hkf⟩ := Option.isSome_iff_exists.mp found
    rcases Dev.mem_fifosOf_setFifo (List.mem_of_find?_eq_some hkf) with rfl | old
    · exact hkf
    · rw [hn, List.mem_singleton] at old
      have drains := List.find?_some hkf
      simp [old, hd] at drains
  have intake : (s.dev.setFifo (32 * portNo p + f) (some fi.underDrain)).intake c = some i := hi
  rw [Dev.absorb]
  simp only [intake, next, hm]
  rw [Dev.absorb_idle fun kf hkf => absurd (hk ▸ hkf) List.not_mem_nil]

end

/-- A whole unit of a write that moves on: its FIFO is free, its block is ready, and its context has no unit more. -/
theorem Dev.moveUnit_ready {d : Dev} {c k id : Nat} {fi : Fifo} {w : Write} (hf : d.flightOf c = some (.write id)) (hw : d.write id = some w)
    (hr : w.byRequest = false) (hl : w.lentAt fi.unit = none) (hn : ∀ kf ∈ d.fifosOf c, kf.1 = k) :
    (d.moveUnit c (k, fi)).fifosOf c = [] ∧ (d.moveUnit c (k, fi)).cm.fifos.get k = none ∧
    (d.moveUnit c (k, fi)).cm.blocks = d.cm.blocks ++ [⟨some id, none, fi.unit, fi.bytes, .ready, none, none⟩] ∧
    (d.moveUnit c (k, fi)).write id = some { w with data := w.data ++ fi.bytes } := by
  obtain ⟨cm, moved⟩ := Dev.moveWrite_ready (d := d.setFifo k none) fi.bytes hw hr hl
  have ends : d.moveUnit c (k, fi) = ((d.setFifo k none).moveWrite id fi.unit fi.bytes).onSh (fun x => { x with inBytes := x.inBytes + fi.bytes.length }) := by
    simp only [Dev.moveUnit, hf]
    rfl
  rw [ends]
  refine ⟨List.eq_nil_iff_forall_not_mem.mpr fun kf hkf => ?_, ?_, congrArg Compression.blocks cm, moved⟩
  · have still : kf ∈ (d.setFifo k none).fifosOf c := by
      rw [Dev.mem_fifosOf] at hkf ⊢
      rwa [Dev.onSh_cm, cm] at hkf
    obtain ⟨other, old⟩ := Dev.mem_fifosOf_dropped still
    exact other (hn kf old)
  · rw [Dev.onSh_cm, cm]
    exact Table.get_set_self ..

/-! ### The start of a unit (R108) -/

section
variable {d : Dev} {c id u n : Nat} (hf : d.flightOf c = some (.write id))
include hf

theorem Dev.startUnit_granted {b : Nat} (hg : (d.hostGrant (d.reqOf c) n (d.rf Reg.BP_CTL 26 26 == 1) (.ctx c)).1 = .ok b) :
    d.startUnit c u n = .started (d.hostGrant (d.reqOf c) n (d.rf Reg.BP_CTL 26 26 == 1) (.ctx c)).2 (some b) := by
  simp only [Dev.startUnit, hf]
  rcases h : d.hostGrant (d.reqOf c) n (d.rf Reg.BP_CTL 26 26 == 1) (.ctx c) with ⟨r, e⟩
  rw [h] at hg
  obtain rfl : r = .ok b := hg
  rfl

theorem Dev.startUnit_refused {st : W16} (hg : (d.hostGrant (d.reqOf c) n (d.rf Reg.BP_CTL 26 26 == 1) (.ctx c)).1 = .error st)
    (hm : d.cs.modeInForce ≠ 1) :
    d.startUnit c u n = .refused (d.hostGrant (d.reqOf c) n (d.rf Reg.BP_CTL 26 26 == 1) (.ctx c)).2 st n := by
  simp only [Dev.startUnit, hf]
  rcases h : d.hostGrant (d.reqOf c) n (d.rf Reg.BP_CTL 26 26 == 1) (.ctx c) with ⟨r, e⟩
  rw [h] at hg
  obtain rfl : r = .error st := hg
  exact if_neg fun deepen => hm deepen.2.2

/-- A galley buffer joins its write. -/
theorem Dev.openUnit_write {w : Write} (hw : d.write id = some w) (k b : Nat) :
    (d.openUnit c k u (some b)).write id = some { w with bufs := w.bufs ++ [(u, b)] } := by
  simp only [Dev.openUnit, hf]
  exact Dev.write_onWrite (f := fun w => { w with bufs := w.bufs ++ [(u, b)] }) rfl hw

end

theorem Dev.openUnit_idx (d : Dev) (c k u : Nat) : (d.openUnit c k u none).idx = d.idx := by
  unfold Dev.openUnit
  extract_lets isWrite d1
  split
  next h => exact absurd h (by simp)
  next => rfl

/-- A unit that needs no buffer begins. -/
theorem Dev.unbuffered_begins {d : Dev} {c k : Nat} (hl : d.remoteOf c = none) (hn : d.fifosOf c = []) (i : Intake) (n : Nat) :
    ((UnitStart.started d none).outcome c k n i).begun c k (i.moved / i.unit) n d.cutBytes ∧
    ((UnitStart.started d none).outcome c k n i).ctxs = d.ctxs ∧ ((UnitStart.started d none).outcome c k n i).idx = d.idx := by
  obtain ⟨g, opened, begun⟩ := Dev.begins (k := k) hl hn i n none
  refine ⟨begun, ?_⟩
  rw [opened]
  exact ⟨(d.openUnit_keeps ..).1, d.openUnit_idx ..⟩

/-- A unit of a write begins from the device that has granted its galley buffer. -/
theorem Dev.granted_begins {d e : Dev} {c k id : Nat} {w : Write} (he : e.ingest = d.ingest) (hx : e.idx = d.idx) (hl : d.remoteOf c = none)
    (hn : d.fifosOf c = []) (hf : d.flightOf c = some (.write id)) (hw : d.write id = some w) (i : Intake) (n b : Nat) :
    ((UnitStart.started e (some b)).outcome c k n i).begun c k (i.moved / i.unit) n d.cutBytes ∧
    ((UnitStart.started e (some b)).outcome c k n i).ctxs = d.ctxs ∧ ((UnitStart.started e (some b)).outcome c k n i).pools = e.pools ∧
    ((UnitStart.started e (some b)).outcome c k n i).write id = some { w with bufs := w.bufs ++ [(i.moved / i.unit, b)] } := by
  simp only [Dev.ingest, Prod.mk.injEq] at he
  obtain ⟨ctxs, cmds, regs, cm, -⟩ := he
  have here : e.remoteOf c = none := by
    rw [Dev.remoteOf, Dev.cmdOf_congr (d := d) (by rw [ctxs]) cmds]
    exact hl
  have flight : e.flightOf c = some (.write id) := by rwa [Dev.flightOf, ctxs]
  have found : e.write id = some w := by rwa [Dev.write, hx]
  obtain ⟨g, opened, begun⟩ := Dev.begins (k := k) here (by rwa [Dev.fifosOf, cm]) i n (some b)
  obtain ⟨kept, -, pools⟩ := e.openUnit_keeps c k (i.moved / i.unit) (some b)
  rw [Dev.cutBytes_congr regs] at begun
  refine ⟨begun, ?_⟩
  rw [opened]
  exact ⟨kept.trans ctxs, pools, Dev.openUnit_write flight found k b⟩

theorem usesData_of_intake {d : Dev} {c : Nat} {i : Intake} {f : Flight} (hi : d.intake c = some i) (hf : d.flightOf c = some f) : usesData f = true := by
  rw [Dev.intake, hf] at hi
  cases f with
  | write id => rfl
  | compress cap size need taken => rfl
  | decompress cap need taken got => rfl
  | _ => exact absurd hi (by simp)

end Sys2Proof.Machine

open Sys2Proof Sys2Proof.Machine

/-- Settles O34: the walks, the units that are filled, those that begin, and the drains. -/
theorem ingestTakesHostData : Obligations.IngestTakesHostData := by
  intro c mem s hw hh hl d0 x gd faults
  have same : gd = Flight.faultResult := by
    funext f
    cases f <;> rfl
  have ends : ∀ {i : Instr} {f : Flight}, s.dev.flightOf c = some f → usesData f = true →
      exec i s = .next ⟨d0.listFault c, s.pending⟩ → faults i f := fun hf hu hx => by
    simp only [faults, same]
    exact faults_of_listFault hf hu hx
  refine ⟨fun f hr hf hu => ⟨fun v ht hv => ?_, fun ht hv => ?_, fun ht => ?_, fun v ht ho hc hv => ?_⟩,
    fun i n hr hi hg => ⟨fun k f hk hd => ?fill, fun k hn hb hk => ?start, fun f hf => ?fault⟩,
    fun p f fi i hf hg hc hd hi hn => ⟨fun hx h => ?cut, fun id w hx hfl hwr hr hlent hu => ?whole⟩⟩
  · exact ⟨_, segment_ofData hw hh hl hr hf hu ht hv, Dev.placeFor_onCtx ..⟩
  · exact ends hf hu (segment_faults hw hh hl hr hf hu ht hv)
  · exact ends hf hu (segment_refused hw hh hl hr hf hu ht)
  · exact ⟨_, segment_ofOutput hw hh hl hr hf hu ht ho hc hv, Dev.placeFor_onCtx ..⟩
  case fault =>
    exact ends hf (usesData_of_intake hi hf) (ingest_refused hw hh hi hr hg)
  case fill =>
    intro size pos m bs
    have held : (k, f) ∈ s.dev.fifosOf c := List.mem_of_find?_eq_some hk
    have idle : f.draining = false := hd _ held
    have here : d0.remoteOf c = none := (Dev.placeFor_keeps (fun d => d.remoteOf c) (fun _ _ _ _ => rfl) ..).trans hl
    have stays : (d0.fillUnit c i (k, f) n).absorb c 8 = d0.setFifo k (some (d0.filled c i f n)) := by
      rw [Dev.fillUnit_eq here]
      refine Dev.absorb_idle (fun kf hkf => Bool.and_eq_false_imp.mpr fun _ => ?_) 8
      rcases Dev.mem_fifosOf_setFifo hkf with rfl | old
      · exact idle
      · exact hd _ ((Dev.placeFor_keeps (fun d => d.fifosOf c) (fun _ _ _ _ => rfl) s.dev c mem) ▸ old)
    have takes : d0.filled c i f n = { f with bytes := f.bytes ++ bs, complete := decide (f.bytes.length + bs.length = size) } := by
      simp only [Dev.filled, idle, Bool.false_eq_true, if_false, d0, Dev.placeFor_keeps Dev.ctxs (fun _ _ _ _ => rfl),
        Dev.placeFor_keeps (fun d => d.arrived c i) (fun _ _ _ _ => rfl), Dev.placeFor_keeps (fun d => d.dataWalk c) (fun _ _ _ _ => rfl)]
      rfl
    refine ⟨_, ingest_fills hw hh hi hr hg hk, stays.trans ?_⟩
    rw [takes]
    rfl
  case start =>
    intro u begun
    have here : d0.remoteOf c = none := (Dev.placeFor_keeps (fun d => d.remoteOf c) (fun _ _ _ _ => rfl) ..).trans hl
    have empty : d0.fifosOf c = [] := (Dev.placeFor_keeps (fun d => d.fifosOf c) (fun _ _ _ _ => rfl) ..).trans hn
    have flight : d0.flightOf c = s.dev.flightOf c := Dev.placeFor_keeps (fun d => d.flightOf c) (fun _ _ _ _ => rfl) ..
    have cut : d0.cutBytes = s.dev.cutBytes := Dev.placeFor_keeps Dev.cutBytes (fun _ _ _ _ => rfl) ..
    have ctxs : d0.ctxs = s.dev.ctxs := Dev.placeFor_keeps Dev.ctxs (fun _ _ _ _ => rfl) ..
    have idx : d0.idx = s.dev.idx := Dev.placeFor_keeps Dev.idx (fun _ _ _ _ => rfl) ..
    have acts := ingest_starts (mem := mem) (n := n) hw hh hi hr hg hn hb hk
    refine ⟨fun cap need taken got hf => ?unbuffered, fun id w hf hwr => ?galley⟩
    case unbuffered =>
      have starts : d0.startUnit c (i.moved / i.unit) (min i.unit (i.need - i.moved)) = .started d0 none := by simp only [Dev.startUnit, flight.trans hf]
      obtain ⟨begins, ctxs', idx'⟩ := Dev.unbuffered_begins (k := k) here empty i n
      rw [starts] at acts
      rw [cut] at begins
      exact ⟨_, acts, begins, ctxs'.trans ctxs, idx'.trans idx⟩
    case galley =>
      intro g
      have asked : d0.hostGrant (d0.reqOf c) (min i.unit (i.need - i.moved)) (d0.rf Reg.BP_CTL 26 26 == 1) (.ctx c) = g := by
        rw [show d0.reqOf c = s.dev.reqOf c from Dev.placeFor_keeps (fun d => d.reqOf c) (fun _ _ _ _ => rfl) ..,
          show d0.rf Reg.BP_CTL 26 26 = s.dev.rf Reg.BP_CTL 26 26 from Dev.placeFor_keeps (fun d => d.rf Reg.BP_CTL 26 26) (fun _ _ _ _ => rfl) ..]
      have frame : g.2.ingest = d0.ingest := Dev.hostGrant_ingest ..
      refine ⟨fun b hok => ?granted, fun st hst hm => ?denied⟩
      case granted =>
        have starts := Dev.startUnit_granted (u := i.moved / i.unit) (flight.trans hf) (asked.symm ▸ hok)
        rw [asked] at starts
        obtain ⟨begins, ctxs', pools, write⟩ := Dev.granted_begins (k := k) frame (Dev.hostGrant_idx ..) here empty (flight.trans hf)
          ((congrArg (fun x : Index => x.writes.find? _) idx).trans hwr) i n b
        rw [starts] at acts
        rw [cut] at begins
        exact ⟨_, acts, begins, ctxs'.trans ctxs, pools, write⟩
      case denied =>
        have deepen : d0.cs.modeInForce ≠ 1 := by rwa [show d0.cs = s.dev.cs from Dev.placeFor_keeps Dev.cs (fun _ _ _ _ => rfl) ..]
        have refused := Dev.startUnit_refused (u := i.moved / i.unit) (flight.trans hf) (asked.symm ▸ hst) deepen
        rw [asked] at refused
        rw [refused] at acts
        have still : g.2.flightOf c = some (.write id) := by
          rw [Dev.flightOf, show g.2.ctxs = d0.ctxs from congrArg Prod.fst frame]
          exact flight.trans hf
        exact ⟨_, acts, g.2.dropFlight c, _, _, none, none, 0, rfl, Dev.dropFlight_intents still⟩
  case cut => exact ⟨_, drain_ofCut hw hf hg hc hd hn hx h, rfl⟩
  case whole =>
    have read : s.dev.intake c = some ⟨w.len, w.blockSize, w.data.length⟩ := by simp [Dev.intake, hfl, hwr]
    obtain rfl : i = ⟨w.len, w.blockSize, w.data.length⟩ := Option.some.inj (hi.symm.trans read)
    obtain ⟨none', free, blocks, write⟩ := Dev.moveUnit_ready (d := s.dev.setFifo (32 * portNo p + f) (some fi.underDrain)) (c := c)
      (k := 32 * portNo p + f) (fi := fi.underDrain) hfl hwr hr hlent (fun kf hkf => by
        rcases Dev.mem_fifosOf_setFifo hkf with rfl | old
        · rfl
        · rw [hn, List.mem_singleton] at old
          rw [old])
    exact ⟨_, drain_ofWhole hw hf hg hc hd hn hi hx hu rfl none', free, blocks, write⟩

end

section
/-! The register instructions (R67, Table 3.5): what each leaves in its context, with its flags said by the numbers its words stand for. -/

namespace Sys2Proof.Machine

/-! ### Flags -/

/-- A word is zero where its number is, and its top bit is its sign. -/
theorem Ctx.setZNCV_eq (x : Ctx) (r : W64) (c v : Bool) :
    x.setZNCV r c v = { x with z := decide (r.toNat = 0), n := decide (r.toInt < 0), c := c, v := v } := by
  have zero : (r == 0) = decide (r.toNat = 0) := by
    rw [Bool.beq_eq_decide_eq]
    exact decide_eq_decide.mpr ⟨fun h => by simp [h], fun h => BitVec.eq_of_toNat_eq h⟩
  rw [Ctx.setZNCV, zero, BitVec.msb_eq_toInt]

theorem overflowAdd_eq (a b : W64) : overflowAdd a b = decide (a.toInt + b.toInt < -(2 ^ 63) ∨ 2 ^ 63 ≤ a.toInt + b.toInt) := by
  have h := BitVec.saddOverflow_eq a b
  rw [BitVec.saddOverflow] at h
  rw [overflowAdd]
  grind

theorem overflowSub_eq (a b : W64) : overflowSub a b = decide (a.toInt - b.toInt < -(2 ^ 63) ∨ 2 ^ 63 ≤ a.toInt - b.toInt) := by
  have h := BitVec.ssubOverflow_eq a b
  rw [BitVec.ssubOverflow] at h
  rw [overflowSub]
  grind

/-- A bit of a word, by its number. -/
theorem getLsbD_eq_div (a : W64) (i : Nat) : a.getLsbD i = decide (a.toNat / 2 ^ i % 2 = 1) := by
  rw [BitVec.getLsbD, Nat.testBit_eq_decide_div_mod_eq]

theorem outLeft_eq (a : W64) (n : Nat) : outLeft a n = decide (0 < n ∧ a.toNat / 2 ^ (64 - n) % 2 = 1) := by
  rw [outLeft, getLsbD_eq_div, Bool.decide_and, decide_eq_decide.mpr Nat.pos_iff_ne_zero]

theorem outRight_eq (a : W64) (n : Nat) : outRight a n = decide (0 < n ∧ a.toNat / 2 ^ (n - 1) % 2 = 1) := by
  rw [outRight, getLsbD_eq_div, Bool.decide_and, decide_eq_decide.mpr Nat.pos_iff_ne_zero]

/-! ### Results -/

theorem shlVal_eq (x : Ctx) : shlVal x = BitVec.ofNat 64 (x.ga.toNat * 2 ^ (x.gb.toNat % 64)) := by
  apply BitVec.eq_of_toNat_eq
  rw [shlVal, shiftBy, BitVec.toNat_shiftLeft, BitVec.toNat_ofNat, Nat.shiftLeft_eq]

theorem shrVal_eq (x : Ctx) : shrVal x = BitVec.ofNat 64 (x.ga.toNat / 2 ^ (x.gb.toNat % 64)) := by
  rw [shrVal, shiftBy, ← Nat.shiftRight_eq_div_pow, ← BitVec.toNat_ushiftRight, BitVec.ofNat_toNat, BitVec.setWidth_eq]

theorem sarVal_eq (x : Ctx) : sarVal x = BitVec.ofInt 64 (x.ga.toInt / 2 ^ (x.gb.toNat % 64)) := by
  rw [sarVal, shiftBy, BitVec.sshiftRight, Int.shiftRight_eq_div_pow]
  norm_cast

theorem mulVal_eq (a b : W64) : a * b = BitVec.ofNat 64 (a.toNat * b.toNat % 2 ^ 64) := by
  rw [← BitVec.toNat_mul, BitVec.ofNat_toNat, BitVec.setWidth_eq]

/-- The immediate field as a number. -/
theorem toNat_imm (w : W64) : (w.extractLsb' 0 40).toNat = wImm w := by
  rw [BitVec.extractLsb'_toNat, wImm, fieldOf]

theorem andiVal_eq (x : Ctx) : andiVal x = x.ga &&& (x.ir.extractLsb' 0 40).zeroExtend 64 := by
  rw [andiVal, ← toNat_imm, toW64, BitVec.ofNat_toNat]

theorem moviVal_eq (x : Ctx) : moviVal x = if wMod x.ir = 0 then (x.ir.extractLsb' 0 40).signExtend 64
    else (x.ir.extractLsb' 0 24 : BitVec 24) ++ (x.gd.extractLsb' 0 40 : BitVec 40) := by
  refine if_congr Iff.rfl rfl (BitVec.eq_of_toNat_eq ?_)
  have high : (x.ir.extractLsb' 0 24).toNat = wImm x.ir % 2 ^ 24 := by
    simp only [wImm, fieldOf, BitVec.extractLsb'_toNat, Nat.shiftRight_zero]
    omega
  have low : (x.gd.extractLsb' 0 40).toNat = x.gd.toNat % 2 ^ 40 := by rw [BitVec.extractLsb'_toNat, Nat.shiftRight_zero]
  have fits : x.gd.toNat % 2 ^ 40 < 2 ^ 40 := Nat.mod_lt _ (by decide)
  rw [BitVec.toNat_append, high, low, ← Nat.shiftLeft_add_eq_or_of_lt fits, Nat.shiftLeft_eq, BitVec.toNat_ofNat]
  omega

/-! ### The step of a register instruction -/

/-- The device with the round robin of the engine of context `c` standing at it (R64), and that context changed. -/
theorem regInsn_steps {i : Instr} {s : State} {c op : Nat} {f : Ctx → Ctx} {v : Ctx → W64} {y : Ctx} {w : W64} (he : exec i s = s.regInsn c op f v)
    (hw : s.dev.working = true) (hi : s.dev.mayIssue c op = true) (hy : f (s.dev.ctxs.get c) = y) (hv : v (s.dev.ctxs.get c) = w) :
    exec i s = .next (s.onDev fun d =>
      { d with engines := d.engines.modify (c / 8) (fun e => { e with turn := c % 8 }), ctxs := d.ctxs.set c y }.stepOn c w) := by
  subst hy hv
  exact he.trans (State.insn_of _ hw hi)

/-- A result goes to gd with its flags. -/
theorem Ctx.put_setZNCV (x : Ctx) (r : W64) (c v : Bool) : (x.setZNCV r c v).put r =
    { x with g := x.g.set (wD x.ir) r, z := decide (r.toNat = 0), n := decide (r.toInt < 0), c := c, v := v } := by
  rw [Ctx.setZNCV_eq]
  rfl

theorem Ctx.put_flagsAdd (x : Ctx) (a b : W64) : (x.flagsAdd a b).put (a + b) = { x with
    g := x.g.set (wD x.ir) (a + b), z := decide ((a + b).toNat = 0), n := decide ((a + b).toInt < 0)
    c := decide (2 ^ 64 ≤ a.toNat + b.toNat), v := decide (a.toInt + b.toInt < -(2 ^ 63) ∨ 2 ^ 63 ≤ a.toInt + b.toInt) } := by
  rw [Ctx.flagsAdd, Ctx.put_setZNCV, overflowAdd_eq, carryOut]

theorem Ctx.flagsSub_eq (x : Ctx) (a b : W64) : x.flagsSub a b = { x with
    z := decide ((a - b).toNat = 0), n := decide ((a - b).toInt < 0), c := decide (b.toNat ≤ a.toNat)
    v := decide (a.toInt - b.toInt < -(2 ^ 63) ∨ 2 ^ 63 ≤ a.toInt - b.toInt) } := by
  rw [Ctx.flagsSub, Ctx.setZNCV_eq, overflowSub_eq, noBorrow]

end Sys2Proof.Machine

open Sys2Proof Sys2Proof.Machine

/-- Settles O18: each instruction leaves its result and flags, and its context steps on from there. -/
theorem registerInstructions : Obligations.RegisterInstructions := by
  intro c s hw x b n turn steps arith logic puts
  refine ⟨fun hi => ?add, fun hi => ?sub, fun hi => ?addi, fun hi => ?cmp, fun hi => ?cmpi, fun hi => ?and, fun hi => ?or, fun hi => ?xor,
    fun hi => ?andi, fun hi => ?mul, fun hi => ?shl, fun hi => ?shr, fun hi => ?sar, fun hi => ?movi⟩
  case add => exact regInsn_steps (Eq.refl (execAdd c s)) hw hi (x.put_flagsAdd ..) rfl
  case sub => exact regInsn_steps (Eq.refl (execSub c s)) hw hi (congrArg (fun y : Ctx => y.put (x.ga - x.gb)) (x.flagsSub_eq ..)) rfl
  case addi => exact regInsn_steps (Eq.refl (execAddi c s)) hw hi (x.put_flagsAdd ..) rfl
  case cmp => exact regInsn_steps (Eq.refl (execCmp c s)) hw hi (x.flagsSub_eq ..) rfl
  case cmpi => exact regInsn_steps (Eq.refl (execCmpi c s)) hw hi (x.flagsSub_eq ..) rfl
  case and => exact regInsn_steps (Eq.refl (execAnd c s)) hw hi (x.put_setZNCV ..) rfl
  case or => exact regInsn_steps (Eq.refl (execOr c s)) hw hi (x.put_setZNCV ..) rfl
  case xor => exact regInsn_steps (Eq.refl (execXor c s)) hw hi (x.put_setZNCV ..) rfl
  case andi =>
    simp only [puts]
    rw [← andiVal_eq]
    exact regInsn_steps (Eq.refl (execAndi c s)) hw hi (x.put_setZNCV ..) rfl
  case mul =>
    simp only [puts]
    rw [← mulVal_eq]
    exact regInsn_steps (Eq.refl (execMul c s)) hw hi (x.put_setZNCV ..) rfl
  case shl =>
    simp only [puts, n]
    rw [← shlVal_eq, ← outLeft_eq]
    exact regInsn_steps (Eq.refl (execShl c s)) hw hi (x.put_setZNCV ..) rfl
  case shr =>
    simp only [puts, n]
    rw [← shrVal_eq, ← outRight_eq]
    exact regInsn_steps (Eq.refl (execShr c s)) hw hi (x.put_setZNCV ..) rfl
  case sar =>
    simp only [puts, n]
    rw [← sarVal_eq, ← outRight_eq]
    exact regInsn_steps (Eq.refl (execSar c s)) hw hi (x.put_setZNCV ..) rfl
  case movi =>
    have value := moviVal_eq x
    exact regInsn_steps (Eq.refl (execMovi c s)) hw hi (congrArg x.put value) value

end

section
/-! How a command comes to its end, and how a program goes on: what a decision leaves (R51, R56, R59, R95), and where a target leads (R68, R79). -/

namespace Sys2Proof.Machine

/-! ### A context and the command it runs -/

/-- Context `c` runs command `m`, which no decision has ended. -/
structure Dev.Runs (d : Dev) (c : Nat) (m : Cmd) : Prop where
  cmd : (d.ctxs.get c).cmd = some m.id
  here : d.cmd m.id = some m
  undecided : m.done = none

/-- Command `m` is decided with a status and a result, and context `c` is free. -/
def Dev.endedWith (d : Dev) (c : Nat) (m : Cmd) (st : W16) (result : W64) : Prop :=
  (∃ k, d.decided m.id k ∧ k.status = st ∧ k.result = result) ∧ d.ctxs.get c = Ctx.reset

theorem Dev.freeCtx_get (d : Dev) (c : Nat) : (d.freeCtx c).ctxs.get c = Ctx.reset := Table.get_modify_self ..

namespace Dev.Runs

variable {d : Dev} {c : Nat} {m : Cmd}

theorem congr (h : d.Runs c m) {e : Dev} (hx : (e.ctxs.get c).cmd = (d.ctxs.get c).cmd) (hc : e.cmds = d.cmds) : e.Runs c m :=
  ⟨hx.trans h.cmd, by simpa only [Dev.cmd, hc] using h.here, h.undecided⟩

theorem mem (h : d.Runs c m) : m ∈ d.cmds := List.mem_of_find?_eq_some h.here

theorem cmdOf (h : d.Runs c m) : d.cmdOf c = some m := by
  rw [Dev.cmdOf, h.cmd]
  exact h.here

theorem isProgram (h : d.Runs c m) : d.isProgram c = decide (m.sqe.kind = 2) := by
  rw [Dev.isProgram, h.cmdOf]
  exact Bool.beq_eq_decide_eq ..

theorem complete (h : d.Runs c m) (st : W16) (result : W64) (t : Stamp) : (d.complete c st result t).endedWith c m st result := by
  unfold Dev.complete
  simp only [h.cmd]
  exact ⟨⟨_, Dev.decided_congr ((Dev.freeCtx_cmds ..).trans (Dev.releaseHandles_cmds ..)) (Dev.latch_decides h.mem h.undecided _), rfl, rfl⟩,
    Dev.freeCtx_get ..⟩

theorem endCmd (h : d.Runs c m) (st : W16) (result : W64) : (d.endCmd c st result).endedWith c m st result :=
  (h.congr (by simp) (Dev.stamp_cmds ..)).complete ..

theorem fault (h : d.Runs c m) (st : W16) (result : W64) : (d.fault c st result).endedWith c m st result :=
  (h.congr (by simp) (Dev.failRecord_cmds ..)).endCmd ..

end Dev.Runs

/-! ### Where a target leads (R68, R79) -/

/-- A target that a program may go to. -/
def validTarget (t : Int) : Prop := 0 ≤ t ∧ t ≤ 0xFFF8 ∧ t % 8 = 0

theorem Dev.goTo_valid (d : Dev) (c : Nat) {t : Int} (h : validTarget t) :
    d.goTo c (BitVec.ofInt 64 t) = (d.onCtx c (fun x => { x with pc := t.toNat })).fetch c := by
  obtain ⟨low, high, aligned⟩ := h
  have number : (BitVec.ofInt 64 t).toNat = t.toNat := by
    rw [BitVec.toNat_ofInt]
    omega
  rw [Dev.goTo, number, if_neg (by omega)]

theorem Dev.goTo_invalid (d : Dev) (c : Nat) {t : Int} (low : -(2 ^ 63) ≤ t) (high : t < 2 ^ 64) (h : ¬ validTarget t) :
    d.goTo c (BitVec.ofInt 64 t) = d.fault c St.programFault (BitVec.ofInt 64 t) := by
  refine if_pos ?_
  rw [BitVec.toNat_ofInt]
  unfold validTarget at h
  omega

theorem Dev.next_eq (d : Dev) (c : Nat) : d.next c = d.goTo c (BitVec.ofInt 64 ((d.ctxs.get c).pc + 8)) := by
  rw [Dev.next, toW64, ← BitVec.ofInt_natCast, Nat.cast_add, Nat.cast_ofNat]

/-! ### Stepping on -/

theorem Dev.stepOn_inline {d : Dev} {c : Nat} (h : d.isProgram c = false) (v : W64) : d.stepOn c v = d.endCmd c St.ok v := by
  simp [Dev.stepOn, h]

theorem Dev.stepOn_program {d : Dev} {c : Nat} (h : d.isProgram c = true) (v : W64) : d.stepOn c v = d.next c := by
  simp [Dev.stepOn, h]

end Sys2Proof.Machine

open Sys2Proof Sys2Proof.Machine

/-- Settles O19: an inline command ends with the value; a program goes on to the next word, which past 0xFFF8 is no target. -/
theorem steppingOn : Obligations.SteppingOn := by
  intro d c v m cmd here undecided
  have runs : d.Runs c m := ⟨cmd, here, undecided⟩
  refine ⟨fun kind => ?inline, fun kind room aligned => ?onward, fun kind last => ?past⟩
  case inline =>
    rw [Dev.stepOn_inline (runs.isProgram.trans (decide_eq_false kind))]
    exact runs.endCmd ..
  case onward =>
    rw [Dev.stepOn_program (runs.isProgram.trans (decide_eq_true kind)), Dev.next_eq, Dev.goTo_valid d c (by unfold validTarget; omega)]
    rfl
  case past =>
    rw [Dev.stepOn_program (runs.isProgram.trans (decide_eq_true kind)), Dev.next_eq, last, Dev.goTo_invalid d c (by decide) (by decide) (by unfold validTarget; decide)]
    exact runs.fault ..

end

section
/-! Branches, waits and END (R67 to R70), and the finish of a device instruction (R53, R55). -/

namespace Sys2Proof.Machine

/-! ### Branches -/

/-- A second change of a context starts from the first. -/
theorem Dev.onCtx_onCtx (d : Dev) (c : Nat) (f g : Ctx → Ctx) :
    (d.onCtx c f).onCtx c g = { d with ctxs := (d.ctxs.set c (f (d.ctxs.get c))).set c (g (f (d.ctxs.get c))) } := by
  simp only [Dev.onCtx, Table.modify, Table.get_set_self]

/-- The condition that the modifier of a B names (Table of R67). -/
theorem condHolds_iff (x : Ctx) (m : Nat) : condHolds x m = true ↔ m = 0 ∨ (m = 1 ∧ x.z = true) ∨ (m = 2 ∧ x.z = false) ∨ (m = 3 ∧ x.n ≠ x.v) ∨
    (m = 4 ∧ x.n = x.v) ∨ (m = 5 ∧ x.c = false) ∨ (m = 6 ∧ x.c = true) ∨ (m = 7 ∧ x.z = false ∧ x.n = x.v) ∨ (m = 8 ∧ (x.z = true ∨ x.n ≠ x.v)) := by
  by_cases h : m ≤ 8
  · interval_cases m <;> simp [condHolds]
  · have : ∀ k ≤ 8, m ≠ k := by omega
    simp [condHolds, this]

/-- A relative target is no word's number gone round. -/
theorem relTarget_bounds {x : Ctx} (h : x.pc ≤ 0xFFF8) : -(2 ^ 63) ≤ (x.pc : Int) + 8 * wSextInt x.ir ∧ (x.pc : Int) + 8 * wSextInt x.ir < 2 ^ 64 := by
  have low := BitVec.le_toInt (x.ir.extractLsb' 0 40)
  have high := BitVec.toInt_lt (x := x.ir.extractLsb' 0 40)
  simp only [wSextInt]
  omega

section
variable {i : Instr} {s : State} {c op : Nat} {f : Dev → Dev} (he : exec i s = s.insn c op f) (hw : s.dev.working = true)
  (hi : s.dev.mayIssue c op = true)
include he hw hi

/-- A branch lands on its target, from the device `d` that it leaves before. -/
theorem branch_lands {d : Dev} {t : Int} (h : f (s.dev.useTurn c) = d.goTo c (BitVec.ofInt 64 t)) (low : -(2 ^ 63) ≤ t) (high : t < 2 ^ 64) :
    (validTarget t → exec i s = .next ⟨(d.onCtx c (fun x => { x with pc := t.toNat })).fetch c, s.pending⟩) ∧
    (¬ validTarget t → exec i s = .next ⟨d.fault c St.programFault (BitVec.ofInt 64 t), s.pending⟩) := by
  have acts := acts_of_insn he hw hi
  rw [h] at acts
  exact ⟨fun v => by rw [acts, Dev.goTo_valid d c v], fun v => by rw [acts, Dev.goTo_invalid d c low high v]⟩

end

end Sys2Proof.Machine

open Sys2Proof Sys2Proof.Machine

/-- Settles O20: each branch goes to its target, or faults with it. -/
theorem branchInstructions : Obligations.BranchInstructions := by
  intro c s hw x rel turn inside lands linked holds
  have onward : ∀ r : W64, (r.toNat : Int) < 2 ^ 64 := fun r => by exact_mod_cast r.isLt
  have word : ∀ r : W64, r = BitVec.ofInt 64 r.toNat := fun r => by rw [BitVec.ofInt_natCast, BitVec.ofNat_toNat, BitVec.setWidth_eq]
  refine ⟨fun hi pc taken => ?b, fun hi pc past => ?past, fun hi pc => ?call, fun hi => ?ret, fun hi => ?br⟩
  case b =>
    refine branch_lands (i := .b c) (Eq.refl (execB c s)) hw hi (d := s.dev.useTurn c) ?_ (relTarget_bounds pc).1 (relTarget_bounds pc).2
    exact if_pos ((condHolds_iff x _).mpr taken)
  case past =>
    refine branch_lands (i := .b c) (Eq.refl (execB c s)) hw hi (d := s.dev.useTurn c) ?_ (by omega) (by omega)
    exact (if_neg (mt (condHolds_iff x _).mp past)).trans (Dev.next_eq ..)
  case call =>
    have at_ := branch_lands (i := .call c) (Eq.refl (execCall c s)) hw hi rfl (relTarget_bounds pc).1 (relTarget_bounds pc).2
    refine ⟨fun v => (at_.1 v).trans ?_, fun v => (at_.2 v).trans ?_⟩
    · rw [Dev.onCtx_onCtx]
      rfl
    · rfl
  case ret => exact branch_lands (i := .ret c) (Eq.refl (execRet c s)) hw hi (d := s.dev.useTurn c) (congrArg _ (word _)) (by omega) (onward _)
  case br => exact branch_lands (i := .br c) (Eq.refl (execBr c s)) hw hi (d := s.dev.useTurn c) (congrArg _ (word _)) (by omega) (onward _)

end

section
/-! WAIT and END (R69, R70), and the finish of a device instruction (R53, R55). -/

namespace Sys2Proof.Machine

/-! ### WAIT and END -/

/-- Time that comes to a count changes the count alone, and reaches it where the count runs. -/
theorem Dev.advanceTo_eq (d : Dev) (t : Nat) : d.advanceTo t = { d with clk := { d.clk with now := (d.advanceTo t).clk.now } } := by
  unfold Dev.advanceTo
  split <;> rfl

theorem Dev.advanceTo_reaches {d : Dev} (h : d.clk.running = true) (t : Nat) : t ≤ (d.advanceTo t).clk.now := by
  rw [Dev.advanceTo, if_pos h]
  exact le_max_right ..

theorem endAllowed_eq_true {st : W16} : endAllowed st = true ↔ definedStatuses.contains st = true ∧ st.toNat / 256 ≠ 1 ∧ st.toNat / 256 ≠ 10 := by
  simp only [endAllowed, Bool.and_eq_true, decide_eq_true_eq, and_assoc]

section
variable {s : State} {c : Nat} (hw : s.dev.working = true)
include hw

theorem waitExpire_steps (hh : s.dev.er.halted = false) {t : Nat} (h : (s.dev.ctxs.get c).run = .waitTill t) :
    exec (.waitExpire c) s = .next ⟨((s.dev.advanceTo t).onCtx c (fun x => { x with run := .ready })).stepOn c 0, s.pending⟩ := by
  refine (State.flow_of _ hw hh).trans ?_
  simp only [State.onDev, h]

section
variable (hi : s.dev.mayIssue c 0x24 = true)
include hi

theorem wait_reached (h : waitTarget s.dev (s.dev.ctxs.get c) ≤ s.dev.clk.now) : exec (.wait c) s = .next ⟨(s.dev.useTurn c).stepOn c 0, s.pending⟩ :=
  (acts_of_insn (i := .wait c) (Eq.refl (execWait c s)) hw hi).trans (congrArg _ (congrArg (State.mk · s.pending) (if_pos h)))

theorem wait_waits (h : s.dev.clk.now < waitTarget s.dev (s.dev.ctxs.get c)) : exec (.wait c) s =
    .next ⟨(s.dev.useTurn c).onCtx c (fun x => { x with run := .waitTill (waitTarget s.dev (s.dev.ctxs.get c)) }), s.pending⟩ :=
  (acts_of_insn (i := .wait c) (Eq.refl (execWait c s)) hw hi).trans (congrArg _ (congrArg (State.mk · s.pending) (if_neg (Nat.not_le.mpr h))))

end

section
variable {m : Cmd} (hi : s.dev.mayIssue c 0x25 = true) (h : s.dev.Runs c m)
include hi h

theorem end_posts (ha : endAllowed (endStatus (s.dev.ctxs.get c)) = true) :
    Does (.end_ c) s (fun d => d.endedWith c m (endStatus (s.dev.ctxs.get c)) (s.dev.ctxs.get c).gd) :=
  ⟨_, (acts_of_insn (i := .end_ c) (Eq.refl (execEnd c s)) hw hi).trans (congrArg _ (congrArg (State.mk · s.pending) (if_pos ha))),
    (h.congr (e := s.dev.useTurn c) rfl rfl).endCmd ..⟩

theorem end_faults (ha : endAllowed (endStatus (s.dev.ctxs.get c)) = false) :
    Does (.end_ c) s (fun d => d.endedWith c m St.programFault (toW64 (s.dev.ctxs.get c).pc)) :=
  ⟨_, (acts_of_insn (i := .end_ c) (Eq.refl (execEnd c s)) hw hi).trans (congrArg _ (congrArg (State.mk · s.pending) (if_neg (Bool.not_eq_true _ ▸ ha)))),
    (h.congr (e := s.dev.useTurn c) rfl rfl).fault ..⟩

end

end

/-! ### The finish of a device instruction -/

/-- What a device instruction leaves in its context (R53). -/
def Ctx.finished (x : Ctx) (st : W16) (out : Option W64) : Ctx :=
  { (match out with
      | some v => x.setR (wD x.ir) v
      | none => x).setStatus st with run := .ready }

/-- Whether catch holds a failed instruction of a program (R53). -/
def Ctx.catches (x : Ctx) (st : W16) : Bool := wCatch x.ir && !neverHeld st

theorem Ctx.catches_iff (x : Ctx) (st : W16) :
    x.catches st = true ↔ x.ir.getLsbD 43 = true ∧ st ≠ St.aborted ∧ st ≠ St.staleEpoch ∧ st ≠ St.illegalInstruction := by
  simp [Ctx.catches, wCatch, neverHeld, and_assoc]

/-- The device of a finish before it goes on or ends: a failure is on record, and the context holds what the instruction leaves. -/
def Dev.finishing (d : Dev) (c : Nat) (st : W16) (out : Option W64) (d0 d1 : W64) (cat : Option Nat) (d2 : W32) : Dev :=
  (((d.failRecord c st (d.isProgram c && wCatch (d.ctxs.get c).ir && !neverHeld st) d0 d1 cat d2).onCtx c (fun x => (match out with
    | some v => x.setR (wD x.ir) v
    | none => x).setStatus st)).onCtx c (fun x => { x with run := .ready }))

theorem Dev.finishing_ctx (d : Dev) (c : Nat) (st : W16) (out : Option W64) (d0 d1 : W64) (cat : Option Nat) (d2 : W32) :
    (d.finishing c st out d0 d1 cat d2).ctxs.get c = (d.ctxs.get c).finished st out := by
  simp only [Dev.finishing, Dev.onCtx_ctxs, Table.get_modify_self, Dev.failRecord_ctxs, Ctx.finished]

theorem Dev.finishing_cmds (d : Dev) (c : Nat) (st : W16) (out : Option W64) (d0 d1 : W64) (cat : Option Nat) (d2 : W32) :
    (d.finishing c st out d0 d1 cat d2).cmds = d.cmds := Dev.failRecord_cmds ..

theorem Dev.finishing_ctx_ne (d : Dev) {c j : Nat} (h : j ≠ c) (st : W16) (out : Option W64) (d0 d1 : W64) (cat : Option Nat) (d2 : W32) :
    (d.finishing c st out d0 d1 cat d2).ctxs.get j = d.ctxs.get j := by
  simp only [Dev.finishing, Dev.onCtx_ctxs, Table.get_modify_ne _ _ h, Dev.failRecord_ctxs]

/-- The finish keeps what names the context's command and its place. -/
theorem Ctx.finished_keeps (x : Ctx) (st : W16) (out : Option W64) : (x.finished st out).cmd = x.cmd ∧ (x.finished st out).pc = x.pc ∧
    (x.finished st out).h = x.h ∧ (x.finished st out).n = x.n ∧ (x.finished st out).c = x.c ∧ (x.finished st out).v = x.v := by
  cases out <;> exact ⟨rfl, rfl, rfl, rfl, rfl, rfl⟩

theorem Ctx.finished_z (x : Ctx) (st : W16) (out : Option W64) : (x.finished st out).z = decide (st = St.ok) := Bool.beq_eq_decide_eq ..

theorem Ctx.finished_g14 (x : Ctx) (st : W16) (out : Option W64) : (x.finished st out).r 14 = st.zeroExtend 64 := Table.get_set_self ..

theorem Ctx.finished_gd (x : Ctx) (st : W16) {v : W64} (h : wD x.ir ≠ 14) : (x.finished st (some v)).r (wD x.ir) = v :=
  (Table.get_set_ne _ _ h).trans (Table.get_set_self ..)

theorem Ctx.finished_r (x : Ctx) (st : W16) {out : Option W64} {k : Nat} (h : k ≠ 14) (hd : k ≠ wD x.ir ∨ out = none) : (x.finished st out).r k = x.r k := by
  refine (Table.get_set_ne _ _ h).trans ?_
  cases out with
  | none => rfl
  | some v => exact Table.get_set_ne _ _ (hd.resolve_right (Option.some_ne_none v))

section
variable {d : Dev} {c : Nat} (st : W16) (out : Option W64) (d0 d1 : W64) (cs : Option Stamp) (cat : Option Nat) (d2 : W32)

/-- A program goes on where its instruction succeeds, or catch holds the failure. -/
theorem Dev.finish_onward (hp : d.isProgram c = true) (h : st = St.ok ∨ (d.ctxs.get c).catches st = true) :
    d.finish c st out d0 d1 cs cat d2 = (d.finishing c st out d0 d1 cat d2).next c := by
  unfold Dev.finish Dev.finishing
  rw [Ctx.catches] at h
  simp only [hp, Bool.true_and, if_true, if_pos h] <;> rfl

theorem Dev.finish_fails (hp : d.isProgram c = true) (hs : st ≠ St.ok) (h : (d.ctxs.get c).catches st = false) :
    d.finish c st out d0 d1 cs cat d2 = (d.finishing c st out d0 d1 cat d2).endCmd c st (toW64 (d.ctxs.get c).pc) := by
  unfold Dev.finish Dev.finishing
  rw [Ctx.catches] at h
  simp only [hp, h, hs, Bool.true_and, if_true, Bool.false_eq_true, or_self, if_false] <;> rfl

theorem Dev.finish_inline (hp : d.isProgram c = false) :
    d.finish c st out d0 d1 none cat d2 = (d.finishing c st out d0 d1 cat d2).endCmd c st (out.getD 0) := by
  unfold Dev.finish Dev.finishing
  simp only [hp, Bool.false_and, Bool.false_eq_true, if_false] <;> rfl

theorem Dev.Runs.finishing {m : Cmd} (h : d.Runs c m) : (d.finishing c st out d0 d1 cat d2).Runs c m :=
  h.congr (by rw [Dev.finishing_ctx, (Ctx.finished_keeps ..).1]) (Dev.finishing_cmds ..)

end

end Sys2Proof.Machine

open Sys2Proof Sys2Proof.Machine

/-- Settles O21: a WAIT steps on once its count has come, and END decides its command. -/
theorem waitAndEnd : Obligations.WaitAndEnd := by
  intro c s hw x turn target st
  have waitsFor : target = waitTarget s.dev x := by simp only [target, waitTarget, toNat_imm]
  rw [waitsFor]
  refine ⟨fun hi reached => wait_reached hw hi reached, fun hi before => wait_waits hw hi before, fun t waits run => ?expires,
    fun m hi cmd here undecided => ?ends⟩
  case expires =>
    refine ⟨_, waitExpire_steps hw run waits, _, rfl, ?_, fun running => Dev.advanceTo_reaches running t, ?_⟩
    · rw [Dev.onCtx_ctxs, Dev.advanceTo_ctxs]
      rfl
    · rw [Dev.advanceTo_eq]
      rfl
  case ends =>
    have runs : s.dev.Runs c m := ⟨cmd, here, undecided⟩
    refine ⟨fun defined one ten => end_posts hw hi runs (endAllowed_eq_true.mpr ⟨defined, one, ten⟩), fun other => end_faults hw hi runs ?_⟩
    refine Bool.eq_false_iff.mpr fun allowed => ?_
    obtain ⟨defined, one, ten⟩ := endAllowed_eq_true.mp allowed
    exact other.elim (fun undefined => Bool.false_ne_true (undefined.symm.trans defined)) (·.elim one ten)

/-- Settles O22: the finish leaves status, output and flags in the context; then the program goes on, or its command ends. -/
theorem deviceInstructionFinishes : Obligations.DeviceInstructionFinishes := by
  intro d c st out y z m cmd here undecided x held
  have runs : d.Runs c m := ⟨cmd, here, undecided⟩
  have catches : x.catches st = true ↔ held := x.catches_iff st
  refine ⟨fun kind goes => ?onward, fun kind fails loose => ?fails, fun kind => ?inline⟩
  case onward =>
    refine ⟨_, Dev.finish_onward st out y z none none 0 (runs.isProgram.trans (decide_eq_true kind)) (goes.imp_right catches.mpr), ?_⟩
    simp only [Dev.finishing_ctx]
    obtain ⟨-, pc, h, n, carry, v⟩ := x.finished_keeps st out
    exact ⟨x.finished_z st out, n, carry, v, x.finished_g14 st out, fun v some_ ne => some_ ▸ x.finished_gd st ne, fun k ne other => x.finished_r st ne other,
      pc, h, fun j ne => d.finishing_ctx_ne ne ..⟩
  case fails =>
    rw [Dev.finish_fails st out y z none none 0 (runs.isProgram.trans (decide_eq_true kind)) fails (Bool.eq_false_iff.mpr (mt catches.mp loose))]
    exact (runs.finishing ..).endCmd ..
  case inline =>
    rw [Dev.finish_inline st out y z none 0 (runs.isProgram.trans (decide_eq_false kind))]
    exact (runs.finishing ..).endCmd ..

end

section
/-! Dispatch of a command to its context (R51, R63, R88), and the arrival of a program line (R60, R79). -/

namespace Sys2Proof.Machine

/-! ### PROGRAM_LINE_ARRIVE -/

section
variable {e p l : Nat} {pf : Bool} {rest : List (Nat × Nat × Bool)} {s : State} (hw : s.dev.working = true) (he : e < 32)
  (hr : (s.dev.engines.get e).reading = (p, l, pf) :: rest) (hm : s.dev.memReachable p = true)

/-- The device once the read that comes back is off the engine's list, with what the host placed. -/
def Dev.lineBack (d : Dev) (e p : Nat) (rest : List (Nat × Nat × Bool)) (mem : HostWrites) : Dev :=
  (d.onMemAt p (fun m => placeCells m mem)).onEngine e (fun x => { x with reading := rest })

include hw he hr hm

theorem programLineArrive_enters (mem : HostWrites) : exec (.programLineArrive e mem true) s =
    .next ⟨((s.dev.lineBack e p rest mem).onEngine e (fun x => x.insert ⟨p, l, readBytes ((s.dev.lineBack e p rest mem).memAt p) l 128⟩)).each
      ((s.dev.lineBack e p rest mem).waitersOn e p l) (fun y c => y.fetch c), s.pending⟩ := by
  refine (State.work_of _ hw).trans ?_
  simp only [State.onDev, hr, he, hm, and_self, if_true]
  rfl

theorem programLineArrive_fails (mem : HostWrites) : exec (.programLineArrive e mem false) s =
    .next ⟨(s.dev.lineBack e p rest mem).each ((s.dev.lineBack e p rest mem).waitersOn e p l)
      (fun y c => y.fault c St.programFault (toW64 (y.ctxs.get c).pc)), s.pending⟩ := by
  refine (State.work_of _ hw).trans ?_
  simp only [State.onDev, hr, he, hm, and_self, if_true, Bool.false_eq_true, if_false]
  rfl

end

/-! ### A PUT whose intent is not told apart -/

/-- The writes after a PUT whose pin is taken: those before and its intent, pinned wherever the number is that of the intent. -/
theorem Dev.enterPut_writes (d : Dev) (c : Nat) (h : (d.slot (wImm (d.ctxs.get c).ir % 1024)).refusal true = none) :
    (d.enterPut c).idx.writes = (d.idx.writes ++ [(d.pin (wImm (d.ctxs.get c).ir % 1024)).newIntent c]).map
      (fun w => if w.id = d.idx.nextWrite then { w with pinned := true } else w) := by
  simp only [Dev.enterPut, h, Option.isNone_none, if_true, Dev.onWrite, Dev.enterIntent, Dev.onIdx_idx, Dev.pin, Dev.onSlot, Dev.onCx_idx, Dev.stamp_idx]

/-- A context as it has taken an inline command, with the command's word before it (R51, R55). -/
def Dev.taking (d : Dev) (c : Nat) (m : Cmd) : Dev :=
  ({ d with cmds := d.cmds.map (fun (x : Cmd) => if x.id = m.id then { x with ctx := some c } else x) }.onCtx c (fun _ => Ctx.setup m)).present c m.sqe.word

theorem Dev.takeCmd_put {d : Dev} {c : Nat} {m : Cmd} (hk : m.sqe.kind ≠ 2) (hl : legalInline m.sqe.word = true) (ho : wOp m.sqe.word = 0x40) :
    d.takeCmd c m = (d.taking c m).enterPut c := by
  simp only [Dev.takeCmd, hk, hl, ho, Dev.taking, if_false, if_true, Bool.not_true, Bool.false_eq_true]

/-- A PUT to slot 0, inline, that waits for a context. -/
def loosePut : Cmd :=
  { id := 0, port := .a, qid := 1
    sqe := { cid := 7, kind := 1, flags := 0, vh := 1, word := mkWord 0x40 1 0 0 0 0, g0 := 0, g1 := 8, g2 := 0, g3 := 0, desc := 0, len := 0 }
    arrival := ⟨900, 1⟩, ctx := none, done := none, fwdTo := none, fwdFrom := none, orphan := false }

/-- A write that is not pinned and bears the number that the index gives out next. -/
def sameNumber : Write :=
  { id := 0, cmd := 9, ctx := none, group := 0, vh := 1, obj := 5, kind := .delete, off := 0, len := 0, cover := 0, slot := 0, keyId := 0
    blockSize := 262144, byRequest := false, arrival := ⟨800, 1⟩, data := [], bufs := [], passed := [], durables := [], commit := none, sizeAfter := 0
    durable := false, withdrawn := false, hold := false, beaten := none, pinned := false, indexed := 0 }

/-- A working device that holds both, with slot 0 loaded for writing. -/
def looseDev : Dev := { Dev.reset with
  clk := { Clock.reset with now := 1000, running := true }
  pa := { Port.reset with linkUp := true, busMaster := true }
  boot := { Boot.reset with pwrLow := false, stage := 6, bootDone := true, fillDone := true, discoveryDone := true, ready := true }
  cx := { Cipher.reset with slots := Table.empty.set 0 { Slot.reset with st := .loaded, usage := 3 } }
  idx := { Index.reset with writes := [sameNumber] }
  cmds := [loosePut] }

/-- Dispatch pins the write that bears the number of the new intent as well. -/
theorem looseDev_takes : ((looseDev.takeCmd 0 loosePut).idx.writes.head?.map Write.pinned) = some true := by
  rw [Dev.takeCmd_put (by decide) (by decide) (by decide), Dev.enterPut_writes _ 0 (by decide)]
  rfl

theorem looseDev_may : looseDev.working = true ∧ looseDev.nextFor 0 = some loosePut ∧ looseDev.chooseEngine loosePut = some (engOf 0) ∧
    (looseDev.engines.get (engOf 0)).asleep = none ∧ looseDev.releaseRoom loosePut = true := by decide

end Sys2Proof.Machine

open Sys2Proof Sys2Proof.Machine

/-- Settles O13: the line leaves the list of reads, and every context that waits for it goes on, or ends. -/
theorem lineArrivesInTheCache : Obligations.LineArrivesInTheCache := by
  intro e p l pf rest mem s hw he hr hm d1 d2
  exact ⟨⟨_, programLineArrive_enters hw he hr hm mem, rfl⟩, ⟨_, programLineArrive_fails hw he hr hm mem, rfl⟩⟩

/-- Refutes O12: the statement holds for an index in which the number given out next is already in use, and there the dispatch of a PUT marks the write
that bears it as pinned too, so that the writes there before are not kept. -/
theorem not_dispatchSetsUpTheContext : ¬ Obligations.DispatchSetsUpTheContext := by
  intro h
  obtain ⟨works, next, engine, awake, room⟩ := looseDev_may
  obtain ⟨-, put, -⟩ := h 0 ⟨looseDev, []⟩ loosePut works next engine awake room
  obtain ⟨d, acts, -, -, w, writes, -⟩ := put (by decide) (by decide) (by decide)
  have taken : exec (.contextDispatch 0) ⟨looseDev, []⟩ = .next ⟨looseDev.takeCmd 0 loosePut, []⟩ := by
    refine (State.work_of _ works).trans ?_
    simp only [State.onDev, next, engine, awake, room, Option.isNone_none, and_self, if_true]
  have same : d = looseDev.takeCmd 0 loosePut := by
    rw [taken] at acts
    exact (congrArg State.dev (Host.Outcome.next.inj acts)).symm
  have pinned := looseDev_takes
  rw [← same, writes] at pinned
  exact absurd (Option.some.inj pinned) Bool.false_ne_true

end

section
/-! PUT, PATCH and DELETE as they issue (R54, R72, R88, R155, R156): their checks, their pin and their intent. -/

namespace Sys2Proof.Machine

/-! ### Pins (R155) -/

section
variable (d : Dev) (n : Nat)

theorem Dev.pin_ctxs : (d.pin n).ctxs = d.ctxs := by simp [Dev.pin, Dev.onSlot]
theorem Dev.pin_cmds : (d.pin n).cmds = d.cmds := by simp [Dev.pin, Dev.onSlot]
theorem Dev.pin_idx : (d.pin n).idx = d.idx := by simp [Dev.pin, Dev.onSlot]
theorem Dev.pin_vol : (d.pin n).vol = d.vol := by simp [Dev.pin, Dev.onSlot]

theorem Dev.pin_slots : (d.pin n).cx.slots = d.cx.slots.modify n (fun x => { x with pins := x.pins + 1 }) := by
  simp only [Dev.pin, Dev.onSlot, Dev.onCx_cx, Dev.stamp_cx]

/-- Slot `n` is pinned once more, and no other slot changes. -/
def Slot.pinnedIn (old new : Table Slot Slot.reset) (n : Nat) : Prop :=
  new.get n = { old.get n with pins := (old.get n).pins + 1 } ∧ ∀ j, j ≠ n → new.get j = old.get j

theorem Dev.pin_pins : Slot.pinnedIn d.cx.slots (d.pin n).cx.slots n := by
  rw [Dev.pin_slots]
  exact ⟨Table.get_modify_self .., fun j hj => Table.get_modify_ne _ _ hj⟩

end

/-! ### The device from which a write acts -/

/-- The turn is used, the instruction has issued, and a write stored raw by request has marked its command. -/
abbrev Dev.writing (d : Dev) (c : Nat) : Dev := (d.issuing c).markRaw c

section
variable (d : Dev) (c : Nat)

theorem Dev.issuing_idx : (d.issuing c).idx = d.idx := (d.useTurn c).issue_keeps Dev.idx Dev.stamp_idx Dev.onCtx_idx c
theorem Dev.issuing_cx : (d.issuing c).cx = d.cx := (d.useTurn c).issue_keeps Dev.cx Dev.stamp_cx Dev.onCtx_cx c
theorem Dev.writing_idx : (d.writing c).idx = d.idx := d.issuing_idx c
theorem Dev.writing_cx : (d.writing c).cx = d.cx := d.issuing_cx c

theorem Dev.writing_ir : ((d.writing c).ctxs.get c).ir = (d.ctxs.get c).ir :=
  (congrArg Ctx.ir (Table.get_modify_self ..)).trans (d.issuing_ir c)

end

/-- An instruction that may issue is the one its context is at. -/
theorem Dev.op_of_mayIssue {d : Dev} {c op : Nat} (h : d.mayIssue c op = true) : wOp (d.ctxs.get c).ir = op := by
  simp only [Dev.mayIssue, Bool.and_eq_true, beq_iff_eq] at h
  exact h.1.2

/-- The slot that a write names. -/
abbrev Dev.slotNo (d : Dev) (c : Nat) : Nat := wImm (d.ctxs.get c).ir % 1024

/-! ### An intent that starts -/

theorem Dev.fly_run (d : Dev) (c : Nat) (f : Flight) : ((d.fly c f).ctxs.get c).run = .flight f :=
  congrArg Ctx.run (Table.get_modify_self ..)

/-- What the intent of a PUT holds once its data starts to move: the slot, the key and the length of the instruction. -/
structure Write.putFrom (w v : Write) (n : Nat) (slots : Table Slot Slot.reset) : Prop where
  slot : v.slot = n
  key : v.keyId = (slots.get n).keyId
  size : v.sizeAfter = w.len
  pinned : v.pinned = true
  obj : v.obj = w.obj
  len : v.len = w.len
  commit : v.commit = w.commit
  arrival : v.arrival = w.arrival

section
variable {d : Dev} {c : Nat} {w : Write} (hi : d.intentIn c = some w)
include hi

theorem Dev.startWrite_run (before : Option Nat) : ((d.startWrite c before).ctxs.get c).run = .flight (.write w.id) := by
  rw [Dev.startWrite, hi]
  exact Dev.fly_run ..

theorem Dev.startWrite_keeps {β : Type} (v : Dev → β) (hc : ∀ (d : Dev) (c : Nat) (f : Ctx → Ctx), v (d.onCtx c f) = v d)
    (hw : ∀ (d : Dev) (id : Nat) (f : Write → Write), v (d.onWrite id f) = v d) (before : Option Nat) : v (d.startWrite c before) = v d := by
  rw [Dev.startWrite, hi]
  exact (hc ..).trans (hw ..)

theorem Dev.startWrite_cx (before : Option Nat) : (d.startWrite c before).cx = d.cx :=
  Dev.startWrite_keeps hi Dev.cx Dev.onCtx_cx (fun d _ _ => d.onIdx_cx _) before

theorem Dev.startWrite_nextWrite (before : Option Nat) : (d.startWrite c before).idx.nextWrite = d.idx.nextWrite :=
  Dev.startWrite_keeps hi (fun d => d.idx.nextWrite) (fun _ _ _ => rfl) (fun _ _ _ => rfl) before

/-- An intent of a PUT that starts takes what the instruction says, and no other write changes. -/
theorem Dev.startWrite_put (hk : w.kind = .put) : ∃ g : Write → Write, d.startWrite c none = (d.onWrite w.id g).fly c (.write w.id) ∧
    w.putFrom (g w) (d.slotNo c) d.cx.slots ∧ (g w).id = w.id ∧ (g w).ctx = w.ctx ∧ (g w).vh = w.vh ∧ (g w).kind = w.kind := by
  rw [Dev.startWrite, hi]
  exact ⟨_, rfl, ⟨rfl, rfl, by simp only [hk], by simp only [hk]; rfl, rfl, rfl, rfl, rfl⟩, rfl, rfl, rfl, rfl⟩

/-- The same, for an intent that was entered before. -/
theorem Dev.startWrite_write (hk : w.kind = .put) (hid : d.write w.id = some w) :
    ∃ v, (d.startWrite c none).write w.id = some v ∧ w.putFrom v (d.slotNo c) d.cx.slots := by
  obtain ⟨g, starts, takes, id, -⟩ := Dev.startWrite_put hi hk
  exact ⟨g w, by rw [starts]; exact Dev.write_onWrite id hid, takes⟩

end

/-! ### PUT -/

section
variable {s : State} {c : Nat} (hw : s.dev.working = true) (hi : s.dev.mayIssue c 0x40 = true)
include hw hi

/-- The intents of the context end, and no other is touched. -/
theorem put_refused {st : W16} {a b : W64} (hc : (s.dev.writing c).writeCheck c 0x40 = some (st, a, b)) :
    exec (.put c) s = .next ⟨((s.dev.writing c).cancelIntents c).failWith c st a b, s.pending⟩ := by
  refine (acts_of_insn (i := .put c) (Eq.refl (execPut c s)) hw hi).trans ?_
  simp only [hc]

variable (hc : (s.dev.writing c).writeCheck c 0x40 = none)
include hc

theorem put_pinned {w : Write} (hx : (s.dev.writing c).intentIn c = some w) (hp : w.pinned = true) :
    exec (.put c) s = .next ⟨(s.dev.writing c).startWrite c none, s.pending⟩ := by
  refine (acts_of_insn (i := .put c) (Eq.refl (execPut c s)) hw hi).trans ?_
  simp only [hc, hx, hp, Option.any_some, if_true]

variable (hr : ((s.dev.writing c).slot ((s.dev.writing c).slotNo c)).pins < 2 ^ 24 - 1)
include hr

theorem put_pins {w : Write} (hx : (s.dev.writing c).intentIn c = some w) (hp : w.pinned = false) :
    exec (.put c) s = .next ⟨((s.dev.writing c).pin ((s.dev.writing c).slotNo c)).startWrite c none, s.pending⟩ := by
  have still : ((s.dev.writing c).pin ((s.dev.writing c).slotNo c)).intentIn c = some w := by rwa [Dev.intentIn, Dev.pin_idx]
  refine (acts_of_insn (i := .put c) (Eq.refl (execPut c s)) hw hi).trans ?_
  simp only [hc, hx, hp, still, Slot.pinRoom, hr, Option.any_some, Option.isNone_some, decide_true, Bool.not_true, Bool.false_eq_true, false_and, or_self,
    if_false]

theorem put_enters (hx : (s.dev.writing c).intentIn c = none) (ho : (s.dev.writing c).intentRoom c = true) : exec (.put c) s =
    .next ⟨(((s.dev.writing c).pin ((s.dev.writing c).slotNo c)).enterIntent c).startWrite c none, s.pending⟩ := by
  have still : ((s.dev.writing c).pin ((s.dev.writing c).slotNo c)).intentIn c = none := by rwa [Dev.intentIn, Dev.pin_idx]
  refine (acts_of_insn (i := .put c) (Eq.refl (execPut c s)) hw hi).trans ?_
  simp only [hc, hx, ho, still, Slot.pinRoom, hr, Option.any_none, Option.isNone_none, decide_true, Bool.not_true, Bool.false_eq_true, and_false, or_self,
    if_false, if_true]

end

/-! ### PATCH and DELETE -/

section
variable {s : State} {c : Nat} (hw : s.dev.working = true)
include hw

theorem patch_refused (hi : s.dev.mayIssue c 0x41 = true) {st : W16} {a b : W64} (hc : (s.dev.writing c).writeCheck c 0x41 = some (st, a, b)) :
    exec (.patch c) s = .next ⟨(s.dev.writing c).failWith c st a b, s.pending⟩ := by
  refine (acts_of_insn (i := .patch c) (Eq.refl (execPatch c s)) hw hi).trans ?_
  simp only [hc]

theorem patch_pins (hi : s.dev.mayIssue c 0x41 = true) (hc : (s.dev.writing c).writeCheck c 0x41 = none)
    (hr : ((s.dev.writing c).slot ((s.dev.writing c).slotNo c)).pins < 2 ^ 24 - 1) : exec (.patch c) s =
    .next ⟨((s.dev.writing c).pin ((s.dev.writing c).slotNo c)).fly c (.existence 0x41), s.pending⟩ := by
  refine (acts_of_insn (i := .patch c) (Eq.refl (execPatch c s)) hw hi).trans ?_
  simp only [hc, Slot.pinRoom, hr, decide_true, Bool.not_true, Bool.false_eq_true, if_false]

theorem delete_flies (hi : s.dev.mayIssue c 0x43 = true) (hc : (s.dev.issuing c).volumeCheck c 0x43 = none) :
    exec (.delete c) s = .next ⟨(s.dev.issuing c).fly c (.existence 0x43), s.pending⟩ := by
  refine (acts_of_insn (i := .delete c) (Eq.refl (execDelete c s)) hw hi).trans ?_
  simp only [hc]

theorem delete_refused (hi : s.dev.mayIssue c 0x43 = true) {st : W16} (hc : (s.dev.issuing c).volumeCheck c 0x43 = some st) :
    exec (.delete c) s = .next ⟨(s.dev.issuing c).failWith c st, s.pending⟩ := by
  refine (acts_of_insn (i := .delete c) (Eq.refl (execDelete c s)) hw hi).trans ?_
  simp only [hc]

end

/-- A context whose intents are cancelled has none left (R97). -/
theorem Dev.cancelIntents_none (d : Dev) (c : Nat) : (d.cancelIntents c).idx.writes.any (fun w => w.ctx == some c && w.commit.isNone) = false := by
  obtain ⟨thin, gone⟩ := Dev.Thinned.cancelled (d.intentsOf c) d
  rw [List.any_eq_false]
  intro w hw hc
  simp only [Bool.and_eq_true, beq_iff_eq, Option.isNone_iff_eq_none] at hc
  obtain ⟨u, hu, id, ctx, commit⟩ := thin.source w hw
  exact gone u (List.mem_filter.mpr ⟨hu, by simp [ctx, hc.1, commit, hc.2]⟩) w hw id.symm

theorem Dev.cancelIntents_nil {d : Dev} {c : Nat} (h : d.intentsOf c = []) : d.cancelIntents c = d := by
  rw [Dev.cancelIntents, h]
  rfl

/-! ### A new intent (R88) -/

/-- The intent entered last is the one of its context, where it had none. -/
theorem Dev.enterIntent_intentIn {d : Dev} {c : Nat} (h : d.intentIn c = none) : (d.enterIntent c).intentIn c = some (d.newIntent c) := by
  have none_ : d.idx.writes.find? (fun w => w.ctx == some c && w.commit.isNone) = none := h
  simp [Dev.intentIn, Dev.enterIntent, none_, Dev.newIntent]

/-- A number that no write bears. -/
theorem Dev.ne_of_write_none {d : Dev} {id : Nat} (h : d.write id = none) : ∀ v ∈ d.idx.writes, v.id ≠ id := fun v hv hid => by
  have all := List.find?_eq_none.mp h v hv
  exact all (decide_eq_true hid)

/-- An intent that is entered and starts at once stands behind the writes that were there. -/
theorem Dev.enterIntent_starts {d : Dev} {c : Nat} (h : d.intentIn c = none) (hn : d.write d.idx.nextWrite = none) (hk : (d.newIntent c).kind = .put) :
    ∃ v, ((d.enterIntent c).startWrite c none).idx.writes = d.idx.writes ++ [v] ∧ (d.newIntent c).putFrom v (d.slotNo c) d.cx.slots ∧
      v.id = d.idx.nextWrite ∧ v.ctx = some c ∧ v.vh = (d.ctxs.get c).vh ∧ v.kind = .put ∧
      ((d.enterIntent c).startWrite c none).idx.nextWrite = d.idx.nextWrite + 1 ∧ ((d.enterIntent c).startWrite c none).cx = d.cx := by
  obtain ⟨g, starts, takes, id, ctx, vh, kind⟩ := Dev.startWrite_put (Dev.enterIntent_intentIn h) hk
  have cx : (d.enterIntent c).cx = d.cx := by simp [Dev.enterIntent]
  have ctxs : (d.enterIntent c).ctxs = d.ctxs := by simp [Dev.enterIntent]
  have slot : (d.enterIntent c).slotNo c = d.slotNo c := by rw [Dev.slotNo, ctxs]
  have others : d.idx.writes.map (fun v => if v.id = (d.newIntent c).id then g v else v) = d.idx.writes :=
    (List.map_congr_left fun v hv => if_neg (Dev.ne_of_write_none hn v hv)).trans (List.map_id' _)
  rw [cx, slot] at takes
  refine ⟨g (d.newIntent c), ?_, takes, id, ctx, vh, kind.trans hk, ?_, ?_⟩
  · have writes : (d.enterIntent c).idx.writes = d.idx.writes ++ [d.newIntent c] := by simp [Dev.enterIntent]
    rw [starts, Dev.fly, Dev.onCtx_idx, Dev.onWrite, Dev.onIdx_idx, writes, List.map_append, others, List.map_singleton, if_pos rfl]
  · rw [starts]
    simp [Dev.fly, Dev.onWrite, Dev.enterIntent]
  · rw [starts, Dev.fly, Dev.onCtx_cx, Dev.onWrite, Dev.onIdx_cx, cx]

end Sys2Proof.Machine

open Sys2Proof Sys2Proof.Machine

/-- Settles O25: each write checks, pins and enters its intent, or finishes with the status of its first check that fails. -/
theorem writesStart : Obligations.WritesStart := by
  intro c s hw d0 x n pinned room
  have cx : d0.cx = s.dev.cx := s.dev.writing_cx c
  have idx : d0.idx = s.dev.idx := s.dev.writing_idx c
  have pins : Slot.pinnedIn s.dev.cx.slots (d0.pin n).cx.slots n := by
    have once := d0.pin_pins n
    rwa [cx] at once
  have after : ∀ d : Dev, d.cx = (d0.pin n).cx → pinned d := fun d h => by
    show Slot.pinnedIn s.dev.cx.slots d.cx.slots n
    rwa [h]
  have free : room → (d0.slot n).pins < 2 ^ 24 - 1 := fun h => by rwa [Dev.slot, cx]
  have slots : ∀ k, ((d0.pin n).cx.slots.get k).keyId = (s.dev.cx.slots.get k).keyId := fun k => by
    by_cases h : k = n
    · rw [h, pins.1]
    · rw [pins.2 k h]
  refine ⟨fun w hi hc hx hid hk ho => ?holds, fun hi hc ho hx hr hn => ?enters, fun st a b hi hc => ?refused, fun hi hc ho => ?patch,
    fun st a b hi hc => ⟨_, patch_refused hw hi hc, d0, a, b, none, none, 0, rfl, idx, cx⟩, fun hi hc => ⟨_, delete_flies hw hi hc, rfl⟩,
    fun st hi hc => ⟨_, delete_refused hw hi hc, s.dev.issuing c, 0, 0, none, none, 0, rfl, rfl⟩⟩
  case holds =>
    cases hp : w.pinned
    case true =>
      obtain ⟨v, at_, takes⟩ := Dev.startWrite_write hx hk hid
      exact ⟨_, put_pinned hw hi hc hx hp, Dev.startWrite_run hx none, fun no => absurd no Bool.noConfusion, fun _ => (Dev.startWrite_cx hx none).trans cx,
        (Dev.startWrite_nextWrite hx none).trans (congrArg _ idx),
        v, at_, takes.slot, takes.key.trans (by rw [cx]), takes.size, takes.pinned, takes.obj, takes.len, takes.commit, takes.arrival⟩
    case false =>
      have still : (d0.pin n).intentIn c = some w := by rwa [Dev.intentIn, Dev.pin_idx]
      have there : (d0.pin n).write w.id = some w := by rwa [Dev.write, Dev.pin_idx]
      have named : (d0.pin n).slotNo c = n := by rw [Dev.slotNo, Dev.pin_ctxs]
      obtain ⟨v, at_, takes⟩ := Dev.startWrite_write still hk there
      rw [named] at takes
      exact ⟨_, put_pins hw hi hc (free (ho.resolve_left (by simp [hp]))) hx hp, Dev.startWrite_run still none, fun _ => after _ (Dev.startWrite_cx still none), fun yes => absurd yes Bool.noConfusion,
        (Dev.startWrite_nextWrite still none).trans (by rw [Dev.pin_idx, s.dev.writing_idx c]),
        v, at_, takes.slot, takes.key.trans (slots n), takes.size, takes.pinned, takes.obj, takes.len, takes.commit, takes.arrival⟩
  case enters =>
    have still : (d0.pin n).intentIn c = none := by rwa [Dev.intentIn, Dev.pin_idx]
    have number : (d0.pin n).idx.nextWrite = s.dev.idx.nextWrite := by rw [Dev.pin_idx, s.dev.writing_idx c]
    have unborn : (d0.pin n).write (d0.pin n).idx.nextWrite = none := by rwa [Dev.write, Dev.pin_idx]
    have named : (d0.pin n).slotNo c = n := by rw [Dev.slotNo, Dev.pin_ctxs]
    have op : wOp x.ir = 0x40 := (congrArg wOp (s.dev.writing_ir c)).trans (Dev.op_of_mayIssue hi)
    have order : (d0.pin n).orderStamp c = d0.orderStamp c := by
      have of_ : (d0.pin n).cmdOf c = d0.cmdOf c := Dev.cmdOf_congr (by rw [Dev.pin_ctxs]) (Dev.pin_cmds ..)
      rw [Dev.orderStamp, Dev.orderStamp, of_, Dev.pin_ctxs]
    have ctx : (d0.pin n).ctxs.get c = x := by rw [Dev.pin_ctxs]
    have kind : ((d0.pin n).newIntent c).kind = .put := by
      rw [Dev.newIntent]
      simp only [ctx, op, writeKind]
      rfl
    obtain ⟨v, writes, takes, id, of_, vh, put, next, same⟩ := Dev.enterIntent_starts still unborn kind
    rw [number] at id next
    rw [Dev.pin_idx, s.dev.writing_idx c] at writes
    refine ⟨_, put_enters hw hi hc (free ho) hx hr, ?_, after _ same, next, v, writes, id, of_, ?_, ?_, put, ?_, ?_, ?_, ?_⟩
    · exact (Dev.startWrite_run (Dev.enterIntent_intentIn still) none).trans (congrArg (fun k => Run.flight (.write k)) number)
    · rw [vh, ctx]
    · rw [takes.obj, Dev.newIntent, ctx]
    · rw [takes.len, Dev.newIntent, ctx, op]
      rfl
    · rw [takes.slot, named]
    · rw [takes.arrival, Dev.newIntent, order]
    · rw [takes.commit, Dev.newIntent]
  case refused =>
    refine ⟨_, put_refused hw hi hc, _, a, b, none, none, 0, rfl, Dev.cancelIntents_none .., fun nil => Dev.cancelIntents_nil ?_⟩
    rwa [Dev.intentsOf, s.dev.writing_idx c]
  case patch =>
    refine ⟨_, patch_pins hw hi hc (free ho), ?_, pins, ?_⟩
    · rw [Dev.fly, Dev.onCtx_ctxs, Dev.pin_ctxs]
      rfl
    · exact (Dev.onCtx_idx ..).trans ((Dev.pin_idx ..).trans idx)

end

section
/-! GET, STAT, LOCATE, COMPRESS and DECOMPRESS as they issue (R72, R74, R89, R138, R228): their checks and their start. -/

namespace Sys2Proof.Machine

/-! ### A read that begins (R89) -/

/-- Context `c` waits for the lookup of a read of object `obj`, registered with stamp `t` behind the reads that `x` has. -/
structure Dev.Reads (d : Dev) (c op : Nat) (obj : W64) (off want slot : Nat) (t : Stamp) (dest : Nat) (x : Index) : Prop where
  flies : (d.ctxs.get c).run = .flight (.read (newRead op obj off want slot t dest))
  registered : d.idx.reads = x.reads ++ [⟨c, obj, t⟩]
  writes : d.idx.writes = x.writes

theorem Dev.startRead_reads (d : Dev) (c op : Nat) (obj : W64) (off want slot : Nat) (t : Stamp) (dest : Nat) :
    (d.startRead c (newRead op obj off want slot t dest)).Reads c op obj off want slot t dest d.idx :=
  ⟨Dev.fly_run .., rfl, rfl⟩

theorem Dev.startRead_cx (d : Dev) (c : Nat) (r : ReadOp) : (d.startRead c r).cx = d.cx := rfl

/-! ### The instructions -/

/-- A GET asks for bytes of an object below 2^48, and for as many as its data has left. -/
abbrev Dev.getInRange (d : Dev) (c : Nat) : Prop :=
  (d.ctxs.get c).gb.toNat + (d.ctxs.get c).gd.toNat ≤ 2 ^ 48 ∧ (d.ctxs.get c).gd.toNat ≤ d.dataLen c - (d.ctxs.get c).dc

theorem Dev.not_getInRange_iff (d : Dev) (c : Nat) : ¬ d.getInRange c ↔
    2 ^ 48 < (d.ctxs.get c).gb.toNat + (d.ctxs.get c).gd.toNat ∨ d.dataLen c - (d.ctxs.get c).dc < (d.ctxs.get c).gd.toNat := by
  unfold Dev.getInRange
  omega

section
variable {s : State} {c : Nat} (hw : s.dev.working = true)
include hw

section
variable (hi : s.dev.mayIssue c 0x42 = true) (hc : (s.dev.issuing c).volumeCheck c 0x42 = none)
include hi hc

theorem get_outOfRange (hr : ¬ (s.dev.issuing c).getInRange c) :
    exec (.get c) s = .next ⟨(s.dev.issuing c).failWith c St.range, s.pending⟩ := by
  refine (acts_of_insn (i := .get c) (Eq.refl (execGet c s)) hw hi).trans ?_
  simp only [hc]
  rw [if_pos ((Dev.not_getInRange_iff ..).mp hr)]

variable (hr : (s.dev.issuing c).getInRange c)
include hr

theorem get_refused {st : W16} (hs : ((s.dev.issuing c).slot ((s.dev.issuing c).slotNo c)).refusal false = some st) :
    exec (.get c) s = .next ⟨(s.dev.issuing c).failWith c st (toW64 ((s.dev.issuing c).slotNo c))
      ((s.dev.issuing c).slot ((s.dev.issuing c).slotNo c)).keyId, s.pending⟩ := by
  refine (acts_of_insn (i := .get c) (Eq.refl (execGet c s)) hw hi).trans ?_
  simp only [hc, hs]
  rw [if_neg (mt (Dev.not_getInRange_iff ..).mpr (not_not_intro hr))]

theorem get_reads (hs : ((s.dev.issuing c).slot ((s.dev.issuing c).slotNo c)).refusal false = none)
    (hp : ((s.dev.issuing c).slot ((s.dev.issuing c).slotNo c)).pins < 2 ^ 24 - 1) : exec (.get c) s =
    .next ⟨((s.dev.issuing c).pin ((s.dev.issuing c).slotNo c)).startRead c (newRead 0x42 ((s.dev.issuing c).ctxs.get c).ga
      ((s.dev.issuing c).ctxs.get c).gb.toNat ((s.dev.issuing c).ctxs.get c).gd.toNat ((s.dev.issuing c).slotNo c) ((s.dev.issuing c).orderStamp c)
      ((s.dev.issuing c).ctxs.get c).dc), s.pending⟩ := by
  refine (acts_of_insn (i := .get c) (Eq.refl (execGet c s)) hw hi).trans ?_
  simp only [hc, hs, Slot.pinRoom, hp, decide_true, Bool.not_true, Bool.false_eq_true, if_false]
  rw [if_neg (mt (Dev.not_getInRange_iff ..).mpr (not_not_intro hr))]

end

section
variable (hi : s.dev.mayIssue c 0x44 = true) (hc : (s.dev.issuing c).volumeCheck c 0x44 = none)
include hi hc

theorem stat_reads (ha : ((s.dev.issuing c).ctxs.get c).gb.toNat % 8 = 0) : exec (.stat c) s =
    .next ⟨(s.dev.issuing c).startRead c (newRead 0x44 ((s.dev.issuing c).ctxs.get c).ga 0 0 0 ((s.dev.issuing c).orderStamp c)
      ((s.dev.issuing c).ctxs.get c).gb.toNat), s.pending⟩ := by
  refine (acts_of_insn (i := .stat c) (Eq.refl (execStat c s)) hw hi).trans ?_
  simp only [hc, ha, ne_eq, not_true_eq_false, if_false]

theorem stat_misaligned (ha : ((s.dev.issuing c).ctxs.get c).gb.toNat % 8 ≠ 0) :
    exec (.stat c) s = .next ⟨(s.dev.issuing c).failWith c St.programFault, s.pending⟩ := by
  refine (acts_of_insn (i := .stat c) (Eq.refl (execStat c s)) hw hi).trans ?_
  simp only [hc, ha, ne_eq, not_false_eq_true, if_true]

end

theorem locate_reads (hi : s.dev.mayIssue c 0x53 = true) (hc : (s.dev.issuing c).volumeCheck c 0x53 = none) : exec (.locate c) s =
    .next ⟨(s.dev.issuing c).startRead c (newRead 0x53 ((s.dev.issuing c).ctxs.get c).ga ((s.dev.issuing c).ctxs.get c).gb.toNat 1 0
      ((s.dev.issuing c).orderStamp c) 0), s.pending⟩ := by
  refine (acts_of_insn (i := .locate c) (Eq.refl (execLocate c s)) hw hi).trans ?_
  simp only [hc]

section
variable (hi : s.dev.mayIssue c 0x48 = true)
include hi

theorem compress_flies (hr : ((s.dev.issuing c).ctxs.get c).gd.toNat ≤ (s.dev.issuing c).dataLen c - ((s.dev.issuing c).ctxs.get c).dc) :
    exec (.compress c) s = .next ⟨(s.dev.issuing c).fly c (.compress ((s.dev.issuing c).ctxs.get c).gb.toNat (s.dev.issuing c).hostBlock
      ((s.dev.issuing c).ctxs.get c).gd.toNat 0), s.pending⟩ :=
  (acts_of_insn (i := .compress c) (Eq.refl (execCompress c s)) hw hi).trans (congrArg _ (congrArg (State.mk · s.pending) (if_neg (Nat.not_lt.mpr hr))))

theorem compress_refused (hr : (s.dev.issuing c).dataLen c - ((s.dev.issuing c).ctxs.get c).dc < ((s.dev.issuing c).ctxs.get c).gd.toNat) :
    exec (.compress c) s = .next ⟨(s.dev.issuing c).failWith c St.range, s.pending⟩ :=
  (acts_of_insn (i := .compress c) (Eq.refl (execCompress c s)) hw hi).trans (congrArg _ (congrArg (State.mk · s.pending) (if_pos hr)))

end

section
variable (hi : s.dev.mayIssue c 0x49 = true)
include hi

theorem decompress_flies (hr : ((s.dev.issuing c).ctxs.get c).gd.toNat ≤ (s.dev.issuing c).dataLen c - ((s.dev.issuing c).ctxs.get c).dc) :
    exec (.decompress c) s = .next ⟨(s.dev.issuing c).fly c (.decompress ((s.dev.issuing c).ctxs.get c).gb.toNat
      ((s.dev.issuing c).ctxs.get c).gd.toNat 0 []), s.pending⟩ :=
  (acts_of_insn (i := .decompress c) (Eq.refl (execDecompress c s)) hw hi).trans (congrArg _ (congrArg (State.mk · s.pending) (if_neg (Nat.not_lt.mpr hr))))

theorem decompress_refused (hr : (s.dev.issuing c).dataLen c - ((s.dev.issuing c).ctxs.get c).dc < ((s.dev.issuing c).ctxs.get c).gd.toNat) :
    exec (.decompress c) s = .next ⟨(s.dev.issuing c).failWith c St.range, s.pending⟩ :=
  (acts_of_insn (i := .decompress c) (Eq.refl (execDecompress c s)) hw hi).trans (congrArg _ (congrArg (State.mk · s.pending) (if_pos hr)))

end

end

end Sys2Proof.Machine

open Sys2Proof Sys2Proof.Machine

/-- Settles O26: each instruction starts where its checks pass, and else finishes with the status of the check, its pin not taken. -/
theorem readsAndCompressionStart : Obligations.ReadsAndCompressionStart := by
  intro c s hw d0 x n reading inRange
  have idx : d0.idx = s.dev.idx := s.dev.issuing_idx c
  have cx : d0.cx = s.dev.cx := s.dev.issuing_cx c
  have read : ∀ (d : Dev) (op off want slot dest : Nat), d.Reads c op x.ga off want slot (d0.orderStamp c) dest s.dev.idx → reading d op off want slot dest :=
    fun d op off want slot dest h => ⟨⟨_, h.flies, rfl, rfl, rfl, rfl, rfl, rfl, rfl, rfl, rfl⟩, h.registered, h.writes⟩
  refine ⟨fun hi hc hr hs hp => ?get, fun hi hc hr => ⟨_, get_outOfRange hw hi hc hr, d0, 0, 0, none, none, 0, rfl, rfl⟩,
    fun st hi hc hr hs => ⟨_, get_refused hw hi hc hr hs, d0, _, _, none, none, 0, rfl, rfl⟩, fun hi hc ha => ?stat,
    fun hi hc ha => ⟨_, stat_misaligned hw hi hc ha, d0, 0, 0, none, none, 0, rfl, rfl⟩, fun hi hc => ?locate,
    fun hi hr => ⟨_, compress_flies hw hi hr, rfl, rfl⟩, fun hi hr => ⟨_, compress_refused hw hi hr, d0, 0, 0, none, none, 0, rfl, rfl⟩,
    fun hi hr => ⟨_, decompress_flies hw hi hr, rfl, rfl⟩, fun hi hr => ⟨_, decompress_refused hw hi hr, d0, 0, 0, none, none, 0, rfl, rfl⟩⟩
  case get =>
    refine ⟨_, get_reads hw hi hc hr hs hp, read _ _ _ _ _ _ ?_, ?_⟩
    · have reads := Dev.startRead_reads (d0.pin n) c 0x42 x.ga x.gb.toNat x.gd.toNat n (d0.orderStamp c) x.dc
      rwa [Dev.pin_idx, s.dev.issuing_idx c] at reads
    · rw [Dev.slot, Dev.startRead_cx, (d0.pin_pins n).1, Dev.slot, cx]
  case stat =>
    have reads := Dev.startRead_reads d0 c 0x44 x.ga 0 0 0 (d0.orderStamp c) x.gb.toNat
    rw [idx] at reads
    exact ⟨_, stat_reads hw hi hc ha, read _ _ _ _ _ _ reads, cx⟩
  case locate =>
    have reads := Dev.startRead_reads d0 c 0x53 x.ga x.gb.toNat 1 0 (d0.orderStamp c) 0
    rw [idx] at reads
    exact ⟨_, locate_reads hw hi hc, read _ _ _ _ _ _ reads, cx⟩

end

section
/-! The motion instructions (R78, R253, R267, R268): their checks, and the profile or seek that they start. -/

namespace Sys2Proof.Machine

/-! ### Profiles and seeks -/

/-- A profile as it starts. -/
def Profile.started (p : Profile) (kind step : Nat) (reverse toZero : Bool) (target : Int) (asker : Asker) : Profile :=
  { p with kind := kind, step := step, reverse := reverse, toZero := toZero, target := target, quick := false, asker := asker, tolCount := 0 }

section
variable {d : Dev} (hr : d.tc.st = .run) (hm : d.tc.movingFor = none)
include hr hm

/-- With no move instruction under way a profile starts at once, and nothing but the stamp and the generator changes. -/
theorem Dev.startProfile_free (kind step : Nat) (reverse toZero : Bool) (target : Int) (asker : Asker) :
    d.startProfile kind step reverse toZero target asker =
      (d.stamp 0x10).2.onTc (fun t => { t with profile := t.profile.started kind step reverse toZero target asker }) := by
  rw [Dev.startProfile, if_neg (fun h => h.1 hr), Dev.supersede, hm]
  rfl

theorem Dev.startProfile_tc (kind step : Nat) (reverse toZero : Bool) (target : Int) (asker : Asker) :
    (d.startProfile kind step reverse toZero target asker).tc = { d.tc with profile := d.tc.profile.started kind step reverse toZero target asker } := by
  rw [Dev.startProfile_free hr hm, Dev.onTc_tc, Dev.stamp_tc]

theorem Dev.startProfile_ctxs (kind step : Nat) (reverse toZero : Bool) (target : Int) (asker : Asker) :
    (d.startProfile kind step reverse toZero target asker).ctxs = d.ctxs := by
  rw [Dev.startProfile_free hr hm, Dev.onTc_ctxs, Dev.stamp_ctxs]

end

theorem Dev.supersede_idle {d : Dev} (hm : d.tc.movingFor = none) : d.supersede = d := by rw [Dev.supersede, hm]

theorem Dev.supersedeSeek_idle {d : Dev} (hm : d.tc.seekFor = none) : d.supersedeSeek = d := by rw [Dev.supersedeSeek, hm]

/-! ### The instructions, in MAINT -/

section
variable (d : Dev) (c : Nat)

theorem Dev.issuing_tc : (d.issuing c).tc = d.tc := (d.useTurn c).issue_keeps Dev.tc Dev.stamp_tc Dev.onCtx_tc c
theorem Dev.issuing_regs : (d.issuing c).regs = d.regs := (d.useTurn c).issue_keeps Dev.regs Dev.stamp_regs Dev.onCtx_regs c

theorem Dev.issuing_reg (a : Nat) : (d.issuing c).reg a = d.reg a := by simp only [Dev.reg, Dev.regB, Dev.issuing_regs]

theorem Dev.issuing_offMedium (um : Nat) : (d.issuing c).offMedium um = d.offMedium um := by simp only [Dev.offMedium, Dev.issuing_vol]

theorem Dev.issuing_threaded : (d.issuing c).threaded = d.threaded := by simp only [Dev.threaded, Dev.issuing_vol]

theorem Dev.issuing_motionRefused : (d.issuing c).motionRefused = decide (d.tc.st ≠ .run) := by rw [Dev.motionRefused, Dev.issuing_tc]

end

/-- In MAINT the state refuses no motion (Table 3.4). -/
theorem Dev.stateCheck_maint {d : Dev} (h : d.mode = .maint) {op : Nat} (ho : op ∈ [0x91, 0x92, 0x93, 0x94, 0x95]) : d.stateCheck op = none := by
  simp only [List.mem_cons, List.not_mem_nil, or_false] at ho
  rcases ho with rfl | rfl | rfl | rfl | rfl <;> simp [Dev.stateCheck, h]

theorem issuing_stateCheck {s : State} {c : Nat} (hm : s.dev.mode = .maint) {op : Nat} (ho : op ∈ [0x91, 0x92, 0x93, 0x94, 0x95]) :
    (s.dev.issuing c).stateCheck op = none :=
  Dev.stateCheck_maint ((s.dev.issuing_mode c).trans hm) ho

theorem issuing_moveCheck {s : State} {c : Nat} (hm : s.dev.mode = .maint) {op : Nat} (ho : op ∈ [0x91, 0x92, 0x93, 0x94, 0x95]) :
    (s.dev.issuing c).moveCheck op = if s.dev.tc.st = .run then none else some St.transportFault := by
  simp only [Dev.moveCheck, issuing_stateCheck hm ho, Dev.issuing_motionRefused, decide_eq_true_eq, ite_not]

section
variable {s : State} {c : Nat} (hw : s.dev.working = true) (hm : s.dev.mode = .maint)
include hw hm

section
variable (hi : s.dev.mayIssue c 0x91 = true)
include hi

theorem movePos_offMedium (ho : s.dev.offMedium ((s.dev.issuing c).ctxs.get c).ga.toNat = true) :
    exec (.movePos c) s = .next ⟨(s.dev.issuing c).failWith c St.range, s.pending⟩ := by
  refine (acts_of_insn (i := .movePos c) (Eq.refl (execMovePos c s)) hw hi).trans ?_
  simp only [issuing_stateCheck hm (c := c) (op := 0x91) (by decide), Dev.issuing_offMedium, ho, if_true]

variable (ho : s.dev.offMedium ((s.dev.issuing c).ctxs.get c).ga.toNat = false)
include ho

theorem movePos_refused (hr : s.dev.tc.st ≠ .run) :
    exec (.movePos c) s = .next ⟨(s.dev.issuing c).failWith c St.transportFault, s.pending⟩ := by
  refine (acts_of_insn (i := .movePos c) (Eq.refl (execMovePos c s)) hw hi).trans ?_
  simp only [issuing_stateCheck hm (c := c) (op := 0x91) (by decide), Dev.issuing_offMedium, Dev.issuing_motionRefused, ho, hr, ne_eq, not_false_eq_true,
    decide_true, if_true, Bool.false_eq_true, if_false]

theorem movePos_moves (hr : s.dev.tc.st = .run) : exec (.movePos c) s =
    .next ⟨((s.dev.issuing c).startProfile 2 (wImm ((s.dev.issuing c).ctxs.get c).ir % 16) false false
      (posOfUm ((s.dev.issuing c).ctxs.get c).ga.toNat) (.insn c)).fly c .move, s.pending⟩ := by
  refine (acts_of_insn (i := .movePos c) (Eq.refl (execMovePos c s)) hw hi).trans ?_
  simp only [issuing_stateCheck hm (c := c) (op := 0x91) (by decide), Dev.issuing_offMedium, Dev.issuing_motionRefused, ho, hr, ne_eq, not_true_eq_false,
    decide_false, Bool.false_eq_true, if_false]

end

section
variable (hi : s.dev.mayIssue c 0x92 = true)
include hi

theorem moveVel_refused (hr : s.dev.tc.st ≠ .run) :
    exec (.moveVel c) s = .next ⟨(s.dev.issuing c).failWith c St.transportFault, s.pending⟩ := by
  refine (acts_of_insn (i := .moveVel c) (Eq.refl (execMoveVel c s)) hw hi).trans ?_
  simp only [issuing_moveCheck hm (c := c) (op := 0x92) (by decide), hr, if_false]

theorem moveVel_moves (hr : s.dev.tc.st = .run) : exec (.moveVel c) s =
    .next ⟨((s.dev.issuing c).startProfile 1 (wImm ((s.dev.issuing c).ctxs.get c).ir % 16) (wMod ((s.dev.issuing c).ctxs.get c).ir % 2 == 1) false 0
      (.insn c)).fly c .move, s.pending⟩ := by
  refine (acts_of_insn (i := .moveVel c) (Eq.refl (execMoveVel c s)) hw hi).trans ?_
  simp only [issuing_moveCheck hm (c := c) (op := 0x92) (by decide), hr, if_true]

end

section
variable (hi : s.dev.mayIssue c 0x93 = true)
include hi

theorem moveStop_refused (hr : s.dev.tc.st ≠ .run) :
    exec (.moveStop c) s = .next ⟨(s.dev.issuing c).failWith c St.transportFault, s.pending⟩ := by
  refine (acts_of_insn (i := .moveStop c) (Eq.refl (execMoveStop c s)) hw hi).trans ?_
  simp only [issuing_moveCheck hm (c := c) (op := 0x93) (by decide), hr, if_false]

theorem moveStop_moves (hr : s.dev.tc.st = .run) : exec (.moveStop c) s = .next ⟨((s.dev.issuing c).stopProfile (.insn c)).fly c .move, s.pending⟩ := by
  refine (acts_of_insn (i := .moveStop c) (Eq.refl (execMoveStop c s)) hw hi).trans ?_
  simp only [issuing_moveCheck hm (c := c) (op := 0x93) (by decide), hr, if_true]

end

section
variable (hi : s.dev.mayIssue c 0x94 = true)
include hi

theorem headSeek_noSheaf (hn : 159 < ((s.dev.issuing c).ctxs.get c).ga.toNat) :
    exec (.headSeek c) s = .next ⟨(s.dev.issuing c).failWith c St.range, s.pending⟩ := by
  refine (acts_of_insn (i := .headSeek c) (Eq.refl (execHeadSeek c s)) hw hi).trans ?_
  simp only [issuing_stateCheck hm (c := c) (op := 0x94) (by decide), hn, if_true]

theorem headSeek_seeks (hn : ((s.dev.issuing c).ctxs.get c).ga.toNat ≤ 159) (hr : s.dev.tc.st = .run) (hf : s.dev.tc.seekFor = none) :
    exec (.headSeek c) s = .next ⟨((s.dev.issuing c).seekHead ((s.dev.issuing c).ctxs.get c).ga.toNat (some c)).fly c .seek, s.pending⟩ := by
  refine (acts_of_insn (i := .headSeek c) (Eq.refl (execHeadSeek c s)) hw hi).trans ?_
  have idle : (s.dev.issuing c).supersedeSeek = s.dev.issuing c := Dev.supersedeSeek_idle ((congrArg Tc.seekFor (s.dev.issuing_tc c)).trans hf)
  simp only [issuing_stateCheck hm (c := c) (op := 0x94) (by decide), Nat.not_lt.mpr hn, Dev.issuing_motionRefused, hr, ne_eq, not_true_eq_false,
    decide_false, Bool.false_eq_true, if_false, idle]

end

section
variable (hi : s.dev.mayIssue c 0x95 = true) (hl : wModLow ((s.dev.issuing c).ctxs.get c).ir = 0)
include hi hl

theorem thread_empty (he : s.dev.vol.st = .empty) :
    exec (.thread c) s = .next ⟨(s.dev.issuing c).failWith c St.noCartridge, s.pending⟩ := by
  refine (acts_of_insnMod (i := .thread c) (Eq.refl (execThread c s)) hw hi (s.dev.modIs_issuing c hl)).trans ?_
  simp only [issuing_stateCheck hm (c := c) (op := 0x95) (by decide), Dev.issuing_vol, he, if_true]

variable (he : s.dev.vol.st ≠ .empty)
include he

theorem thread_threaded (ht : s.dev.threaded = true) :
    exec (.thread c) s = .next ⟨(s.dev.issuing c).finish c St.ok none 0 0, s.pending⟩ := by
  refine (acts_of_insnMod (i := .thread c) (Eq.refl (execThread c s)) hw hi (s.dev.modIs_issuing c hl)).trans ?_
  simp only [issuing_stateCheck hm (c := c) (op := 0x95) (by decide), Dev.issuing_vol, Dev.issuing_threaded, he, ht, if_true, if_false]

theorem thread_moves (ht : s.dev.threaded = false) (hr : s.dev.tc.st = .run) (hf : s.dev.tc.movingFor = none) :
    exec (.thread c) s = .next ⟨((s.dev.issuing c).threadTape false).fly c .thread, s.pending⟩ := by
  refine (acts_of_insnMod (i := .thread c) (Eq.refl (execThread c s)) hw hi (s.dev.modIs_issuing c hl)).trans ?_
  have idle : (s.dev.issuing c).supersede = s.dev.issuing c := Dev.supersede_idle ((congrArg Tc.movingFor (s.dev.issuing_tc c)).trans hf)
  simp only [issuing_stateCheck hm (c := c) (op := 0x95) (by decide), Dev.issuing_vol, Dev.issuing_threaded, he, ht, Dev.issuing_motionRefused, hr, ne_eq,
    not_true_eq_false, decide_false, Bool.false_eq_true, if_false, idle]

end

section
variable (hi : s.dev.mayIssue c 0x95 = true) (hl : wModLow ((s.dev.issuing c).ctxs.get c).ir = 1)
include hi hl

theorem unthread_unthreaded (ht : s.dev.threaded = false) :
    exec (.unthread c) s = .next ⟨(s.dev.issuing c).finish c St.ok none 0 0, s.pending⟩ := by
  refine (acts_of_insnMod (i := .unthread c) (Eq.refl (execUnthread c s)) hw hi (s.dev.modIs_issuing c hl)).trans ?_
  simp only [issuing_stateCheck hm (c := c) (op := 0x95) (by decide), Dev.issuing_threaded, ht, Bool.not_false, if_true]

theorem unthread_moves (ht : s.dev.threaded = true) (hr : s.dev.tc.st = .run) (hf : s.dev.tc.movingFor = none) :
    exec (.unthread c) s = .next ⟨((s.dev.issuing c).threadTape true).fly c .unthread, s.pending⟩ := by
  refine (acts_of_insnMod (i := .unthread c) (Eq.refl (execUnthread c s)) hw hi (s.dev.modIs_issuing c hl)).trans ?_
  have idle : (s.dev.issuing c).supersede = s.dev.issuing c := Dev.supersede_idle ((congrArg Tc.movingFor (s.dev.issuing_tc c)).trans hf)
  simp only [issuing_stateCheck hm (c := c) (op := 0x95) (by decide), Dev.issuing_threaded, ht, Bool.not_true, Dev.issuing_motionRefused, hr, ne_eq,
    not_true_eq_false, decide_false, Bool.false_eq_true, if_false, idle]

end

end

/-! ### What the instructions start -/

theorem Dev.fly_ctxs (d : Dev) (c : Nat) (f : Flight) : (d.fly c f).ctxs = d.ctxs.set c { d.ctxs.get c with run := .flight f } := d.onCtx_ctxs c _

theorem Dev.fly_tc (d : Dev) (c : Nat) (f : Flight) : (d.fly c f).tc = d.tc := d.onCtx_tc c _

theorem Dev.seekHead_tc (d : Dev) (n : Nat) (seeker : Option Nat) : (d.seekHead n seeker).tc =
    { d.tc with headSet := w32Clamp ((d.reg Reg.TC_HEADBASE).toInt + w32Clamp ((n : Int) * (d.reg Reg.TC_HEADPITCH).toInt))
                headSheaf := n, locked := false, seeking := true, seekFor := seeker, lockCount := 0 } := by
  rw [Dev.seekHead, Dev.onTc_tc, Dev.stamp_tc]

theorem Dev.seekHead_ctxs (d : Dev) (n : Nat) (seeker : Option Nat) : (d.seekHead n seeker).ctxs = d.ctxs := by
  rw [Dev.seekHead, Dev.onTc_ctxs, Dev.stamp_ctxs]

section
variable {d : Dev} (hr : d.tc.st = .run) (hm : d.tc.movingFor = none)
include hr hm

theorem Dev.threadTape_tc (back : Bool) : (d.threadTape back).tc =
    if d.tc.posValid ∧ !back then d.tc else { d.tc with profile := d.tc.profile.started 1 0 back false 0 .scheduler } := by
  rw [Dev.threadTape]
  split
  · rfl
  · rw [Dev.startProfile_tc hr hm]

theorem Dev.threadTape_ctxs (back : Bool) : (d.threadTape back).ctxs = d.ctxs := by
  rw [Dev.threadTape]
  split
  · rfl
  · rw [Dev.startProfile_ctxs hr hm]

/-- A move instruction leaves its context waiting for the profile it has started. -/
theorem Dev.startProfile_fly (c kind step : Nat) (reverse toZero : Bool) (target : Int) :
    ((d.startProfile kind step reverse toZero target (.insn c)).fly c .move).tc =
        { d.tc with profile := d.tc.profile.started kind step reverse toZero target (.insn c) } ∧
      ((d.startProfile kind step reverse toZero target (.insn c)).fly c .move).ctxs = d.ctxs.set c { d.ctxs.get c with run := .flight .move } := by
  rw [Dev.fly_tc, Dev.fly_ctxs, Dev.startProfile_ctxs hr hm, Dev.startProfile_tc hr hm]
  exact ⟨rfl, rfl⟩

end

theorem posOfUm_eq (um : Nat) : posOfUm um = (um : Int) * 100 * 2 ^ 24 := by simp [posOfUm]

end Sys2Proof.Machine

open Sys2Proof Sys2Proof.Machine

/-- Settles O32: each instruction starts its profile or seek where its checks pass, and else finishes with the status of the check. -/
theorem motionInstructions : Obligations.MotionInstructions := by
  intro c s hw hm d0 x run free threading profile
  have tc : d0.tc = s.dev.tc := s.dev.issuing_tc c
  have moves : ∀ kind step reverse toZero target, run → free →
      let d := (d0.startProfile kind step reverse toZero target (.insn c)).fly c .move
      s.dev.tc.profile.started kind step reverse toZero target (.insn c) = d.tc.profile ∧ profile d (fun _ => True) := by
    intro kind step reverse toZero target hr hf d
    have start := Dev.startProfile_fly (tc ▸ hr) (tc ▸ hf.1) c kind step reverse toZero target
    rw [tc] at start
    refine ⟨?_, trivial, ?_, ?_, start.2, ?_⟩ <;> rw [start.1] <;> rfl
  have threads : ∀ back f, run → free → ((d0.threadTape back).fly c f).ctxs = d0.ctxs.set c { x with run := .flight f } ∧
      ((d0.threadTape back).fly c f).tc = if s.dev.tc.posValid ∧ !back then s.dev.tc else { s.dev.tc with profile := threading back } := by
    intro back f hr hf
    rw [Dev.fly_ctxs, Dev.fly_tc, Dev.threadTape_ctxs (tc ▸ hr) (tc ▸ hf.1), Dev.threadTape_tc (tc ▸ hr) (tc ▸ hf.1), tc]
    exact ⟨rfl, rfl⟩
  refine ⟨fun hi hr hf ho => ⟨_, movePos_moves hw hm hi ho hr, (moves _ _ _ _ _ hr hf).1 ▸ ⟨rfl, rfl, posOfUm_eq _⟩, (moves _ _ _ _ _ hr hf).2.2⟩,
    fun hi ho => ⟨_, movePos_offMedium hw hm hi ho, d0, 0, 0, none, none, 0, rfl, rfl⟩,
    fun hi hr ho => ⟨_, movePos_refused hw hm hi ho hr, d0, 0, 0, none, none, 0, rfl, rfl⟩,
    fun hi hr hf => ⟨_, moveVel_moves hw hm hi hr, (moves _ _ _ _ _ hr hf).1 ▸ ⟨rfl, rfl, rfl, rfl⟩, (moves _ _ _ _ _ hr hf).2.2⟩,
    fun hi hr => ⟨_, moveVel_refused hw hm hi hr, d0, 0, 0, none, none, 0, rfl, rfl⟩,
    fun hi hr hf => ⟨_, moveStop_moves hw hm hi hr, (moves _ _ _ _ _ hr hf).1 ▸ ⟨rfl, rfl⟩, (moves _ _ _ _ _ hr hf).2.2⟩,
    fun hi hr => ⟨_, moveStop_refused hw hm hi hr, d0, 0, 0, none, none, 0, rfl, rfl⟩,
    fun hi hr hf hn => ⟨_, headSeek_seeks hw hm hi hn hr hf.2, ?ctxs, ?tc⟩,
    fun hi hn => ⟨_, headSeek_noSheaf hw hm hi hn, d0, 0, 0, none, none, 0, rfl, rfl⟩,
    fun hi hl he => ⟨_, thread_empty hw hm hi hl he, d0, 0, 0, none, none, 0, rfl, rfl⟩,
    fun hi hl he ht => ⟨_, thread_threaded hw hm hi hl he ht, d0, 0, 0, none, none, 0, rfl, rfl⟩,
    fun hi hl he ht hr hf => ⟨_, thread_moves hw hm hi hl he ht hr hf.1, ?thread⟩,
    fun hi hl ht hr hf => ⟨_, unthread_moves hw hm hi hl ht hr hf.1, ?unthread⟩,
    fun hi hl ht => ⟨_, unthread_unthreaded hw hm hi hl ht, d0, 0, 0, none, none, 0, rfl, rfl⟩⟩
  case ctxs => rw [Dev.fly_ctxs, Dev.seekHead_ctxs]
  case tc =>
    rw [Dev.fly_tc, Dev.seekHead_tc, tc, s.dev.issuing_reg c, s.dev.issuing_reg c]
  case thread => simpa using threads false .thread hr hf
  case unthread => simpa using threads true .unthread hr hf

end

section
/-! FORMAT, LOAD, UNLOAD, SEAL, FLUSH and MIGRATE as they issue (R65, R66, R91, R226, R234): their checks, the threading, and the flush part that
ends at once where nothing waits. -/

namespace Sys2Proof.Machine

/-! ### What the issue of an instruction leaves -/

theorem Dev.stamp_member (d : Dev) (u a : Nat) : (d.stamp u a).2.clk.member = d.clk.member := by
  have lead : ∀ (d : Dev) (u n : Nat), (d.noteLead u n).clk.member = d.clk.member := by
    intro d u n
    rw [Dev.noteLead]
    split
    · simp
    · rfl
  have stall : ∀ (d : Dev) (u t : Nat), (d.noteStall u t).clk.member = d.clk.member := by
    intro d u t
    rw [Dev.noteStall]
    split
    · rw [Dev.onClk_clk, Dev.advanceTo]
      split <;> simp
    · rfl
  rw [Dev.stamp, stall, lead]
  rfl

section
variable (d : Dev) (c : Nat)

theorem Dev.issuing_cs : (d.issuing c).cs = d.cs := (d.useTurn c).issue_keeps Dev.cs Dev.stamp_cs Dev.onCtx_cs c

theorem Dev.issuing_member : (d.issuing c).clk.member = d.clk.member :=
  (d.useTurn c).issue_keeps (fun d => d.clk.member) Dev.stamp_member (fun d c f => congrArg Clock.member (d.onCtx_clk c f)) c

theorem Dev.issuing_others : (d.issuing c).others = d.others := by simp only [Dev.others, Dev.issuing_cs, Dev.issuing_member]

theorem Dev.issuing_stateCheck (op : Nat) : (d.issuing c).stateCheck op = d.stateCheck op := by
  simp only [Dev.stateCheck, Dev.issuing_mode, Dev.issuing_vol]

theorem Dev.issuing_forSet : (d.issuing c).forSet c = d.forSet c := by
  rw [Dev.forSet, Dev.forSet, Dev.cmdOf_congr (d := d) ((d.useTurn c).issue_ctx c).1 (d.issuing_cmds c)]

end

theorem Dev.volumeCheck_of_state {d : Dev} {c op : Nat} {st : W16} (h : d.stateCheck op = some st) : d.volumeCheck c op = some st := by
  rw [Dev.volumeCheck, h]

/-! ### Set-wide steps, on a device that is alone -/

section
variable {d : Dev} (hr : d.cs.inRing = false)
include hr

theorem Dev.widen_alone : d.widen = false := by rw [Dev.widen, hr, Bool.false_and]

theorem Dev.badSet_alone : d.badSet = false := by rw [Dev.badSet, hr]; rfl

end

theorem Dev.startSet_narrow {d : Dev} (h : d.widen = false) (op : Nat) (arg : W64) : d.startSet op arg = d := by
  rw [Dev.startSet, h, if_neg (fun k => Bool.false_ne_true k.1)]

theorem Dev.takeMode_still {d : Dev} (h : d.cs.modePending = false) : d.takeMode = d := by rw [Dev.takeMode, h]; rfl

theorem Dev.firstSeek_done {d : Dev} (h : d.vol.firstDone = true) (c : Nat) : d.firstSeek c = d := by rw [Dev.firstSeek, h]; rfl

/-! ### Threading -/

/-- Threading changes the profile and takes a stamp. -/
theorem Dev.threadTape_keeps {β : Type} (v : Dev → β) (hs : ∀ (d : Dev) (u a : Nat), v (d.stamp u a).2 = v d)
    (ht : ∀ (d : Dev) (f : Tc → Tc), v (d.onTc f) = v d) {d : Dev} (hr : d.tc.st = .run) (hm : d.tc.movingFor = none) (back : Bool) :
    v (d.threadTape back) = v d := by
  rw [Dev.threadTape]
  split
  · rfl
  · rw [Dev.startProfile_free hr hm, ht, hs]

/-- How a FORMAT or LOAD starts on a device that is alone and at rest: the tape is threaded, and nothing else comes with it. -/
def Dev.threadTo (d : Dev) : Dev := d.threadTape false

section
variable {d : Dev} (hr : d.tc.st = .run) (hm : d.tc.movingFor = none)
include hr hm

theorem Dev.threadTo_cs : d.threadTo.cs = d.cs := Dev.threadTape_keeps Dev.cs Dev.stamp_cs Dev.onTc_cs hr hm false

theorem Dev.threadTo_vol : d.threadTo.vol = d.vol := Dev.threadTape_keeps Dev.vol Dev.stamp_vol Dev.onTc_vol hr hm false

theorem Dev.threadTo_cmds : d.threadTo.cmds = d.cmds := Dev.threadTape_keeps Dev.cmds Dev.stamp_cmds Dev.onTc_cmds hr hm false

theorem Dev.threadTo_ctxs : d.threadTo.ctxs = d.ctxs := Dev.threadTape_ctxs hr hm false

theorem Dev.threadTo_start (hf : d.vol.firstDone = true) (hp : d.cs.modePending = false) (c : Nat) :
    ((d.supersede.firstSeek c).threadTape false).takeMode = d.threadTo := by
  rw [Dev.supersede_idle hm, Dev.firstSeek_done hf, ← Dev.threadTo, Dev.takeMode_still (by rw [Dev.threadTo_cs hr hm, hp])]

end

/-! ### A context whose command goes on or ends runs no instruction -/

theorem Dev.complete_grounds (d : Dev) (c : Nat) (s : W16) (r : W64) (t : Stamp) : (d.complete c s r t).flightOf c = none := by
  rw [Dev.complete, Dev.flightOf, Dev.freeCtx_get]
  rfl

theorem Dev.endCmd_grounds (d : Dev) (c : Nat) (s : W16) (r : W64) : (d.endCmd c s r).flightOf c = none := Dev.complete_grounds ..

theorem Dev.setWord_grounds (d : Dev) (c : Nat) (w : W64) : (d.setWord c w).flightOf c = none := by
  rw [Dev.setWord]
  split
  · simp [Dev.flightOf, Dev.present]
  · exact Dev.endCmd_grounds ..

theorem Dev.fetch_grounds (d : Dev) (c : Nat) : (d.fetch c).flightOf c = none := by
  unfold Dev.fetch
  simp only
  split
  · exact Dev.setWord_grounds ..
  · simp [Dev.flightOf]

theorem Dev.next_grounds (d : Dev) (c : Nat) : (d.next c).flightOf c = none := by
  rw [Dev.next, Dev.goTo]
  split
  · exact Dev.endCmd_grounds ..
  · exact Dev.fetch_grounds ..

theorem Dev.finish_grounds (d : Dev) (c : Nat) (s : W16) (out : Option W64) (x y : W64) : (d.finish c s out x y).flightOf c = none := by
  unfold Dev.finish
  simp only
  split
  · split
    · exact Dev.next_grounds ..
    · exact Dev.endCmd_grounds ..
  · exact Dev.endCmd_grounds ..

/-! ### The flush part -/

/-- The device as the flush part of an instruction has started: the records it needs are sealed. -/
def Dev.flushing (d : Dev) (c : Nat) (f : Flight) : Dev := (d.fly c f).sealRecords

section
variable {d : Dev} (hn : d.widen = false)
include hn

theorem Dev.startFlush_narrow (c : Nat) (f : Flight) (op : Nat) : d.startFlush c f op =
    match (d.flushing c f).settleFlushes.sh.refusal with
    | some st => if ((d.flushing c f).settleFlushes.flightOf c).any Flight.waitsTape then
        (d.flushing c f).settleFlushes.failWith c st (toW64 ((d.flushing c f).settleFlushes.sh.haltFolio.getD 0)) else (d.flushing c f).settleFlushes
    | none => (d.flushing c f).settleFlushes := by
  unfold Dev.startFlush
  rw [Dev.startSet_narrow hn]
  rfl

theorem Dev.startFlush_goesOn {c : Nat} {f : Flight} (h : (d.flushing c f).settleFlushes.sh.refusal = none ∨
    ((d.flushing c f).settleFlushes.flightOf c).any Flight.waitsTape = false) (op : Nat) : d.startFlush c f op = (d.flushing c f).settleFlushes := by
  rw [Dev.startFlush_narrow hn]
  split
  case h_1 st hs =>
    rcases h with h | h
    · rw [h] at hs
      cases hs
    · rw [h]
      rfl
  case h_2 => rfl

theorem Dev.startFlush_refused {c : Nat} {f : Flight} {st : W16} (h : (d.flushing c f).settleFlushes.sh.refusal = some st)
    (hw : ((d.flushing c f).settleFlushes.flightOf c).any Flight.waitsTape = true) (op : Nat) :
    d.startFlush c f op = (d.flushing c f).settleFlushes.failWith c st (toW64 ((d.flushing c f).settleFlushes.sh.haltFolio.getD 0)) := by
  rw [Dev.startFlush_narrow hn, h]
  exact if_pos hw

/-- A FLUSH that has nothing to wait for finishes at once. -/
theorem Dev.startFlush_finishes {c : Nat} {t : Stamp} (only : (d.flushing c (.flush t)).flightsThat Flight.waitsTape = [c])
    (hf : (d.flushing c (.flush t)).flightOf c = some (.flush t))
    (hc : (d.flushing c (.flush t)).coveredDurable ((d.flushing c (.flush t)).ctxs.get c).vh t = true)
    (hp : (d.flushing c (.flush t)).stripesCovered = true) (hs : (d.flushing c (.flush t)).setDone 0x55 = true)
    (hd : (d.flushing c (.flush t)).hk.drain = false) (op : Nat) :
    d.startFlush c (.flush t) op = (d.flushing c (.flush t)).finish c St.ok none 0 0 := by
  have settles := Dev.settleFlushes_flush (Dev.run_of_flightOf hf) only hd hc hp hs
  rw [Dev.startFlush_goesOn hn (.inr _) op, settles]
  rw [settles, Dev.finish_grounds]
  rfl

end

/-! ### The instructions -/

section
variable {s : State} {c : Nat} (hw : s.dev.working = true)
include hw

section
variable (hi : s.dev.mayIssue c 0x50 = true)
include hi

theorem format_stateRefused {st : W16} (h : s.dev.stateCheck 0x50 = some st) :
    exec (.format c) s = .next ⟨(s.dev.issuing c).failWith c st, s.pending⟩ := by
  refine (acts_of_insn (i := .format c) (Eq.refl (execFormat c s)) hw hi).trans ?_
  simp only [Dev.issuing_stateCheck, h]

variable (hc : s.dev.stateCheck 0x50 = none) (ha : s.dev.cs.inRing = false)
include hc ha

theorem format_unsigned (hg : wImm ((s.dev.issuing c).ctxs.get c).ir / 256 ≠ 0x4150524F) :
    exec (.format c) s = .next ⟨(s.dev.issuing c).failWith c St.range, s.pending⟩ := by
  refine (acts_of_insn (i := .format c) (Eq.refl (execFormat c s)) hw hi).trans ?_
  simp only [Dev.issuing_stateCheck, hc, Dev.badSet_alone (s.dev.issuing_cs c ▸ ha), Bool.false_eq_true, if_false, if_pos hg]

variable (hg : wImm ((s.dev.issuing c).ctxs.get c).ir / 256 = 0x4150524F)
include hg

theorem format_refused (hr : s.dev.tc.st ≠ .run) : exec (.format c) s = .next ⟨(s.dev.issuing c).failWith c St.transportFault, s.pending⟩ := by
  refine (acts_of_insn (i := .format c) (Eq.refl (execFormat c s)) hw hi).trans ?_
  simp only [Dev.issuing_stateCheck, hc, Dev.badSet_alone (s.dev.issuing_cs c ▸ ha), Bool.false_eq_true, if_false, hg, ne_eq, not_true_eq_false,
    Dev.issuing_motionRefused, hr, not_false_eq_true, decide_true, if_true]

theorem format_threads (hr : s.dev.tc.st = .run) (hf : s.dev.vol.firstDone = true) (hm : s.dev.tc.movingFor = none)
    (hp : s.dev.cs.modePending = false) (hs : s.dev.forSet c = false) : exec (.format c) s =
    .next ⟨((s.dev.issuing c).threadTo.onVol (fun v => { v with formatting := true })).fly c (.format none 0), s.pending⟩ := by
  have run : (s.dev.issuing c).tc.st = .run := (congrArg Tc.st (s.dev.issuing_tc c)).trans hr
  have rest : (s.dev.issuing c).tc.movingFor = none := (congrArg Tc.movingFor (s.dev.issuing_tc c)).trans hm
  have start := Dev.threadTo_start run rest (by rw [Dev.issuing_vol, hf]) (by rw [Dev.issuing_cs, hp]) c
  have forSet : ((s.dev.issuing c).threadTo.onVol (fun v => { v with formatting := true })).forSet c = false := by
    rw [← hs, ← s.dev.issuing_forSet c, Dev.forSet, Dev.forSet, Dev.cmdOf_congr (d := s.dev.issuing c)]
    · rw [Dev.onVol_ctxs, Dev.threadTo_ctxs run rest]
    · rw [Dev.onVol_cmds, Dev.threadTo_cmds run rest]
  have widen : ((s.dev.issuing c).threadTo.onVol (fun v => { v with formatting := true })).widen = false :=
    Dev.widen_alone (by rw [Dev.onVol_cs, Dev.threadTo_cs run rest, Dev.issuing_cs, ha])
  refine (acts_of_insn (i := .format c) (Eq.refl (execFormat c s)) hw hi).trans ?_
  simp only [Dev.issuing_stateCheck, hc, Dev.badSet_alone (s.dev.issuing_cs c ▸ ha), Bool.false_eq_true, if_false, hg, ne_eq, not_true_eq_false,
    Dev.issuing_motionRefused, hr, decide_false, start, forSet, widen, false_and]

end

section
variable (hi : s.dev.mayIssue c 0x51 = true)
include hi

theorem load_stateRefused {st : W16} (h : s.dev.stateCheck 0x51 = some st) :
    exec (.load c) s = .next ⟨(s.dev.issuing c).failWith c st, s.pending⟩ := by
  refine (acts_of_insn (i := .load c) (Eq.refl (execLoad c s)) hw hi).trans ?_
  simp only [Dev.issuing_stateCheck, h]

variable (hc : s.dev.stateCheck 0x51 = none) (ha : s.dev.cs.inRing = false)
include hc ha

theorem load_refused (hr : s.dev.tc.st ≠ .run) : exec (.load c) s = .next ⟨(s.dev.issuing c).failWith c St.transportFault, s.pending⟩ := by
  refine (acts_of_insn (i := .load c) (Eq.refl (execLoad c s)) hw hi).trans ?_
  simp only [Dev.issuing_stateCheck, hc, Dev.badSet_alone (s.dev.issuing_cs c ▸ ha), Bool.false_eq_true, if_false,
    Dev.issuing_motionRefused, ne_eq, hr, not_false_eq_true, decide_true, if_true]

theorem load_threads (hr : s.dev.tc.st = .run) (hf : s.dev.vol.firstDone = true) (hm : s.dev.tc.movingFor = none)
    (hp : s.dev.cs.modePending = false) : exec (.load c) s = .next ⟨(s.dev.issuing c).threadTo.fly c (.load 0 0), s.pending⟩ := by
  have run : (s.dev.issuing c).tc.st = .run := (congrArg Tc.st (s.dev.issuing_tc c)).trans hr
  have rest : (s.dev.issuing c).tc.movingFor = none := (congrArg Tc.movingFor (s.dev.issuing_tc c)).trans hm
  have start := Dev.threadTo_start run rest (by rw [Dev.issuing_vol, hf]) (by rw [Dev.issuing_cs, hp]) c
  have widen : (s.dev.issuing c).threadTo.widen = false := Dev.widen_alone (by rw [Dev.threadTo_cs run rest, Dev.issuing_cs, ha])
  refine (acts_of_insn (i := .load c) (Eq.refl (execLoad c s)) hw hi).trans ?_
  simp only [Dev.issuing_stateCheck, hc, Dev.badSet_alone (s.dev.issuing_cs c ▸ ha), Bool.false_eq_true, if_false, ne_eq, not_true_eq_false,
    Dev.issuing_motionRefused, hr, decide_false, start, Dev.startSet_narrow widen]

end

section
variable (hi : s.dev.mayIssue c 0x52 = true)
include hi

theorem unload_check {st : W16} (h : (s.dev.issuing c).volumeCheck c 0x52 = some st) :
    exec (.unload c) s = .next ⟨(s.dev.issuing c).failWith c st, s.pending⟩ := by
  refine (acts_of_insn (i := .unload c) (Eq.refl (execUnload c s)) hw hi).trans ?_
  simp only [h]

variable (hc : (s.dev.issuing c).volumeCheck c 0x52 = none)
include hc

theorem unload_refused (hr : s.dev.tc.st ≠ .run) : exec (.unload c) s = .next ⟨(s.dev.issuing c).failWith c St.transportFault, s.pending⟩ := by
  refine (acts_of_insn (i := .unload c) (Eq.refl (execUnload c s)) hw hi).trans ?_
  simp only [hc, Dev.issuing_motionRefused, ne_eq, hr, not_false_eq_true, decide_true, if_true]

variable (hr : s.dev.tc.st = .run)
include hr

theorem unload_rewinds (ha : s.dev.cs.inRing = false) (hv : s.dev.vol.st = .sealed) : exec (.unload c) s =
    .next ⟨(s.dev.issuing c).fly c (.unload 2 ((s.dev.issuing c).orderStamp c)), s.pending⟩ := by
  refine (acts_of_insn (i := .unload c) (Eq.refl (execUnload c s)) hw hi).trans ?_
  simp only [hc, Dev.issuing_motionRefused, ne_eq, hr, not_true_eq_false, decide_false, Bool.false_eq_true, if_false, Dev.issuing_vol, hv, if_true,
    Dev.startSet_narrow (Dev.widen_alone (s.dev.issuing_cs c ▸ ha))]

theorem unload_flushes (hv : s.dev.vol.st = .opened) : exec (.unload c) s =
    .next ⟨(s.dev.issuing c).startFlush c (.unload 0 ((s.dev.issuing c).orderStamp c)) 0x52, s.pending⟩ := by
  refine (acts_of_insn (i := .unload c) (Eq.refl (execUnload c s)) hw hi).trans ?_
  simp only [hc, Dev.issuing_motionRefused, ne_eq, hr, not_true_eq_false, decide_false, Bool.false_eq_true, if_false, Dev.issuing_vol, hv,
    reduceCtorEq]

end

section
variable (hi : s.dev.mayIssue c 0x54 = true)
include hi

theorem seal_check {st : W16} (h : (s.dev.issuing c).volumeCheck c 0x54 = some st) :
    exec (.seal c) s = .next ⟨(s.dev.issuing c).failWith c st, s.pending⟩ := by
  refine (acts_of_insn (i := .seal c) (Eq.refl (execSeal c s)) hw hi).trans ?_
  simp only [h]

variable (hc : (s.dev.issuing c).volumeCheck c 0x54 = none)
include hc

theorem seal_refused (hr : s.dev.tc.st ≠ .run) : exec (.seal c) s = .next ⟨(s.dev.issuing c).failWith c St.transportFault, s.pending⟩ := by
  refine (acts_of_insn (i := .seal c) (Eq.refl (execSeal c s)) hw hi).trans ?_
  simp only [hc, Dev.issuing_motionRefused, ne_eq, hr, not_false_eq_true, decide_true, if_true]

theorem seal_flushes (hr : s.dev.tc.st = .run) : exec (.seal c) s =
    .next ⟨(s.dev.issuing c).startFlush c (.seal false ((s.dev.issuing c).orderStamp c)) 0x54, s.pending⟩ := by
  refine (acts_of_insn (i := .seal c) (Eq.refl (execSeal c s)) hw hi).trans ?_
  simp only [hc, Dev.issuing_motionRefused, ne_eq, hr, not_true_eq_false, decide_false, Bool.false_eq_true, if_false]

end

section
variable (hi : s.dev.mayIssue c 0x55 = true)
include hi

theorem flush_check {st : W16} (h : (s.dev.issuing c).volumeCheck c 0x55 = some st) :
    exec (.flush c) s = .next ⟨(s.dev.issuing c).failWith c st, s.pending⟩ := by
  refine (acts_of_insn (i := .flush c) (Eq.refl (execFlush c s)) hw hi).trans ?_
  simp only [h]

theorem flush_flushes (hc : (s.dev.issuing c).volumeCheck c 0x55 = none) : exec (.flush c) s =
    .next ⟨(s.dev.issuing c).startFlush c (.flush ((s.dev.issuing c).orderStamp c)) 0x55, s.pending⟩ := by
  refine (acts_of_insn (i := .flush c) (Eq.refl (execFlush c s)) hw hi).trans ?_
  simp only [hc]

end

section
variable (hi : s.dev.mayIssue c 0x56 = true)
include hi

theorem migrate_check {st : W16} (h : (s.dev.issuing c).volumeCheck c 0x56 = some st) :
    exec (.migrate c) s = .next ⟨(s.dev.issuing c).failWith c st, s.pending⟩ := by
  refine (acts_of_insn (i := .migrate c) (Eq.refl (execMigrate c s)) hw hi).trans ?_
  simp only [h]

variable (hc : (s.dev.issuing c).volumeCheck c 0x56 = none)
include hc

theorem migrate_noMember (h : s.dev.cs.inRing = false ∨ 2 ^ 32 ≤ ((s.dev.issuing c).ctxs.get c).ga.toNat ∨
    fieldOf ((s.dev.issuing c).ctxs.get c).ga 31 29 ∉ s.dev.others) :
    exec (.migrate c) s = .next ⟨(s.dev.issuing c).failWith c St.badHandle, s.pending⟩ := by
  refine (acts_of_insn (i := .migrate c) (Eq.refl (execMigrate c s)) hw hi).trans ?_
  simp only [hc, Dev.issuing_cs, Dev.issuing_others]
  rw [if_pos]
  rcases h with h | h | h
  · simp [h]
  · exact .inl h
  · simp [h]

theorem migrate_flushes (hr : s.dev.cs.inRing = true) (hg : ((s.dev.issuing c).ctxs.get c).ga.toNat < 2 ^ 32)
    (ho : fieldOf ((s.dev.issuing c).ctxs.get c).ga 31 29 ∈ s.dev.others) : exec (.migrate c) s =
    .next ⟨(s.dev.issuing c).startFlush c (.migrate (toW32 ((s.dev.issuing c).ctxs.get c).ga.toNat) ((s.dev.issuing c).orderStamp c)) 0, s.pending⟩ := by
  refine (acts_of_insn (i := .migrate c) (Eq.refl (execMigrate c s)) hw hi).trans ?_
  simp only [hc, Dev.issuing_cs, Dev.issuing_others]
  rw [if_neg]
  rintro (h | h | h)
  · exact absurd hg (Nat.not_lt.mpr h)
  · simp [hr] at h
  · simp [ho] at h

end

end

end Sys2Proof.Machine

open Sys2Proof Sys2Proof.Machine

/-- Settles O28: each command starts its threading, its rewind or its flush part where its checks pass, and else finishes with their status. -/
theorem volumeCommandsStart : Obligations.VolumeCommandsStart := by
  intro c s hw d0 x t run alone still refused forward threads flushes
  have tc : d0.tc = s.dev.tc := s.dev.issuing_tc c
  have refuse : ∀ {i : Instr} {st : W16}, exec i s = .next ⟨d0.failWith c st, s.pending⟩ → refused i st :=
    fun h => ⟨_, h, d0, 0, 0, none, none, 0, rfl, rfl⟩
  have thread : ∀ (d : Dev) (f : Flight), run → still → d.ctxs = d0.threadTo.ctxs → d.tc = d0.threadTo.tc → threads (d.fly c f) f := by
    intro d f hr hs hx ht
    have runs : d0.tc.st = .run := tc ▸ hr
    have rest : d0.tc.movingFor = none := tc ▸ hs.2.1
    have profile : d.tc = if s.dev.tc.posValid then s.dev.tc else { s.dev.tc with profile := forward } := by
      rw [ht, Dev.threadTo, Dev.threadTape_tc runs rest, tc]
      simp only [Bool.not_false, and_true]
      rfl
    refine ⟨by rw [Dev.fly_ctxs, hx, Dev.threadTo_ctxs runs rest], fun hv => ?_, fun hv => ?_⟩ <;> rw [Dev.fly_tc, profile, hv] <;> rfl
  have flush : ∀ {i : Instr} {f : Flight} (op : Nat), exec i s = .next ⟨d0.startFlush c f op, s.pending⟩ → d0.widen = false → flushes i f := by
    intro i f op hx hn
    exact ⟨fun h => ⟨_, hx, Dev.startFlush_goesOn hn h op⟩, fun r hr hv => ⟨_, hx, _, _, 0, none, none, 0, Dev.startFlush_refused hn hr hv op, rfl⟩⟩
  have single : alone → d0.widen = false := fun ha => Dev.widen_alone ((congrArg Cascade.inRing (s.dev.issuing_cs c)).trans ha.1)
  refine ⟨fun hi hc ha hr hs hf hg => ⟨_, format_threads hw hi hc ha.1 hg hr hs.1 hs.2.1 hs.2.2 hf, thread _ _ hr hs rfl rfl, ?formatting⟩,
    fun hi hc ha hg => refuse (format_unsigned hw hi hc ha.1 hg),
    fun hi hc ha hr hs => ⟨_, load_threads hw hi hc ha.1 hr hs.1 hs.2.1 hs.2.2, thread _ _ hr hs rfl rfl, ?loading⟩,
    fun hi hc ha hr => ⟨fun hv => ⟨_, unload_rewinds hw hi hc hr ha.1 hv, rfl⟩, fun hv => flush 0x52 (unload_flushes hw hi hc hr hv) (single ha)⟩,
    fun hi hc ha hr => flush 0x54 (seal_flushes hw hi hc hr) (single ha),
    fun hi hc ha => ⟨flush 0x55 (flush_flushes hw hi hc) (single ha), fun only hf hv hp hs hd =>
      ⟨_, flush_flushes hw hi hc, _, 0, 0, none, none, 0, Dev.startFlush_finishes (single ha) only hf hv hp hs hd 0x55, rfl⟩⟩,
    fun hi hc => ⟨fun h => refuse (migrate_noMember hw hi hc h), fun hr hn hg ho => flush 0 (migrate_flushes hw hi hc hr hg ho) ?narrow⟩, ?state,
    fun hr ha => ⟨fun hi hc hg => refuse (format_refused hw hi hc ha.1 hg hr), fun hi hc => refuse (load_refused hw hi hc ha.1 hr),
      fun hi hc => refuse (unload_refused hw hi hc hr), fun hi hc => refuse (seal_refused hw hi hc hr)⟩⟩
  case formatting =>
    rw [Dev.fly, Dev.onCtx_vol, Dev.onVol_vol, Dev.threadTo_vol (tc ▸ hr) (tc ▸ hs.2.1), s.dev.issuing_vol c]
  case loading =>
    rw [Dev.fly, Dev.onCtx_vol, Dev.threadTo_vol (tc ▸ hr) (tc ▸ hs.2.1), s.dev.issuing_vol c]
  case narrow =>
    rw [Dev.widen, s.dev.issuing_cs c]
    exact hn
  case state =>
    intro i op hm hi st hs
    have check : d0.volumeCheck c op = some st := Dev.volumeCheck_of_state ((s.dev.issuing_stateCheck c op).trans hs)
    simp only [List.mem_cons, Prod.mk.injEq, List.not_mem_nil, or_false] at hm
    rcases hm with ⟨rfl, rfl⟩ | ⟨rfl, rfl⟩ | ⟨rfl, rfl⟩ | ⟨rfl, rfl⟩ | ⟨rfl, rfl⟩ | ⟨rfl, rfl⟩
    · exact refuse (format_stateRefused hw hi hs)
    · exact refuse (load_stateRefused hw hi hs)
    · exact refuse (unload_check hw hi check)
    · exact refuse (seal_check hw hi check)
    · exact refuse (flush_check hw hi check)
    · exact refuse (migrate_check hw hi check)

end

section
/-! LD, ST and DSEEK (R71, R305, R314, Table 3.6): host memory through the port of the command, the words of a held buffer, and the data cursor. -/

namespace Sys2Proof.Machine

/-! ### What the issue of an instruction leaves -/

/-- The issue of an instruction marks its context alone, with its stamp. -/
theorem Dev.issuing_ctx (d : Dev) (c : Nat) : ∃ i k, (d.issuing c).ctxs.get c = { d.ctxs.get c with issue := i, keep := k } := by
  show ∃ i k, ((d.useTurn c).issue c).ctxs.get c = { (d.useTurn c).ctxs.get c with issue := i, keep := k }
  rw [Dev.issue]
  split
  · exact ⟨_, _, by rw [Dev.onCtx_ctxs, Table.get_modify_self]⟩
  · split
    · exact ⟨_, _, by rw [Dev.onCtx_ctxs, Table.get_modify_self, Dev.stamp_ctxs]⟩
    · exact ⟨_, _, rfl⟩

section
variable (d : Dev) (c : Nat)

theorem Dev.issuing_pairs : (d.issuing c).pairs = d.pairs := (d.useTurn c).issue_keeps Dev.pairs Dev.stamp_pairs Dev.onCtx_pairs c
theorem Dev.issuing_pools : (d.issuing c).pools = d.pools := (d.useTurn c).issue_keeps Dev.pools Dev.stamp_pools Dev.onCtx_pools c
theorem Dev.issuing_mi : (d.issuing c).mi = d.mi := (d.useTurn c).issue_keeps Dev.mi Dev.stamp_mi Dev.onCtx_mi c
theorem Dev.issuing_pa : (d.issuing c).pa = d.pa := (d.useTurn c).issue_keeps Dev.pa Dev.stamp_pa Dev.onCtx_pa c
theorem Dev.issuing_pb : (d.issuing c).pb = d.pb := (d.useTurn c).issue_keeps Dev.pb Dev.stamp_pb Dev.onCtx_pb c

theorem Dev.issuing_hosts : (d.issuing c).hosts = d.hosts :=
  (d.useTurn c).issue_keeps Dev.hosts (fun d u a => by simp [Dev.hosts]) (fun _ _ _ => rfl) c

theorem Dev.issuing_cmdOf : (d.issuing c).cmdOf c = d.cmdOf c := Dev.cmdOf_congr ((d.useTurn c).issue_ctx c).1 (d.issuing_cmds c)

theorem Dev.issuing_memNo : (d.issuing c).memNo c = d.memNo c := Dev.memNo_congr (d.issuing_cmdOf c)

theorem Dev.issuing_mem : (d.issuing c).mem c = d.mem c := Dev.mem_congr (d.issuing_cmdOf c) (d.issuing_hosts c)

theorem Dev.issuing_dataLen : (d.issuing c).dataLen c = d.dataLen c := by simp only [Dev.dataLen, Dev.issuing_cmdOf]

theorem Dev.issuing_rf (a hi lo : Nat) : (d.issuing c).rf a hi lo = d.rf a hi lo := by simp only [Dev.rf, Dev.issuing_reg]

theorem Dev.issuing_flipMask : (d.issuing c).flipMask = d.flipMask := by simp only [Dev.flipMask, Dev.issuing_reg, Dev.issuing_rf]

theorem Dev.issuing_mayRequest : (d.issuing c).mayRequest c = d.mayRequest c := by
  have port : ∀ p, (d.issuing c).port p = d.port p := fun p => by cases p <;> simp only [Dev.port, Dev.issuing_pa, Dev.issuing_pb]
  simp only [Dev.mayRequest, Dev.remoteOf, Dev.portOfCtx, Dev.issuing_cmdOf, port]

/-- The issue changes no operand of an access. -/
theorem Dev.issuing_access : accessAddr ((d.issuing c).ctxs.get c) = accessAddr (d.ctxs.get c) ∧
    accessSize ((d.issuing c).ctxs.get c) = accessSize (d.ctxs.get c) ∧ inBuffer ((d.issuing c).ctxs.get c) = inBuffer (d.ctxs.get c) := by
  obtain ⟨i, k, ctx⟩ := d.issuing_ctx c
  rw [ctx]
  exact ⟨rfl, rfl, rfl⟩

theorem Dev.issuing_bufferPlace (a n : Nat) : (d.issuing c).bufferPlace ((d.issuing c).ctxs.get c) a n = d.bufferPlace (d.ctxs.get c) a n := by
  obtain ⟨i, k, ctx⟩ := d.issuing_ctx c
  simp only [Dev.bufferPlace, Dev.issuing_pools, ctx]

end

/-! ### Host memory -/

theorem Dev.onMemAt_hosts {d e : Dev} (h : e.hosts = d.hosts) (n : Nat) (f : Table Byte 0 → Table Byte 0) : (e.onMemAt n f).hosts = (d.onMemAt n f).hosts := by
  simp only [Dev.hosts, Prod.mk.injEq] at h
  obtain ⟨a, b, r⟩ := h
  unfold Dev.onMemAt
  split
  · cases portOf n <;> simp [Dev.onHost, Dev.hosts, a, b, r]
  · simp [Dev.hosts, a, b, r]

theorem Dev.memAt_onMemAt_ne (d : Dev) {m n : Nat} (h : m ≠ n) (f : Table Byte 0 → Table Byte 0) : (d.onMemAt n f).memAt m = d.memAt m := by
  unfold Dev.onMemAt
  split
  case isTrue hn =>
    by_cases hm : m < 2
    · have apart : (n = 0 ∧ m = 1) ∨ (n = 1 ∧ m = 0) := by omega
      rcases apart with ⟨rfl, rfl⟩ | ⟨rfl, rfl⟩ <;> rfl
    · simp only [Dev.memAt, if_neg hm]
      cases portOf n <;> rfl
  case isFalse hn =>
    by_cases hm : m < 2
    · simp only [Dev.memAt, if_pos hm]
      cases portOf m <;> rfl
    · simp only [Dev.memAt, if_neg hm]
      exact Table.get_modify_ne _ _ (by omega)

/-- A write to host memory changes that memory, takes a stamp and sends messages. -/
theorem Dev.memWrite_keeps {β : Type} (v : Dev → β) (hs : ∀ (d : Dev) (u a : Nat), v (d.stamp u a).2 = v d)
    (hd : ∀ (d : Dev) k m s b, v (d.send k m s b) = v d) (hm : ∀ (d : Dev) a b r, v { d with hostA := a, hostB := b, hostR := r } = v d)
    (d : Dev) (c : Nat) (rs : List (Nat × Nat)) (bs : List Byte) : v (d.memWrite c rs bs) = v d := by
  unfold Dev.memWrite Dev.memWriteAt
  split
  · exact d.onMemAt_keeps v _ _ (hm d)
  · exact (Dev.each_keeps v _ _ _ fun e r => hd ..).trans ((hs ..).trans (d.onMemAt_keeps v _ _ (hm d)))

theorem Dev.memWrite_memAt_ne (d : Dev) (c : Nat) (rs : List (Nat × Nat)) (bs : List Byte) {no : Nat} (h : no ≠ d.memNo c) :
    (d.memWrite c rs bs).memAt no = d.memAt no :=
  (Dev.memAt_congr (Dev.hostSide_eq (d.memWriteAt_hostSide ..)).2.2 no).trans (d.memAt_onMemAt_ne h _)

/-- What an instruction keeps of its context and of the queues, from the device `s`. -/
def Dev.Undone (s : Dev) (c : Nat) (d : Dev) : Prop :=
  (d.ctxs.get c).g = (s.ctxs.get c).g ∧ (d.ctxs.get c).h = (s.ctxs.get c).h ∧ (d.ctxs.get c).pc = (s.ctxs.get c).pc ∧ d.pairs = s.pairs ∧ d.cmds = s.cmds

/-- Besides, it keeps the host memories and the data cursor. -/
def Dev.Unplaced (s : Dev) (c : Nat) (d : Dev) : Prop :=
  s.Undone c d ∧ d.hostA = s.hostA ∧ d.hostB = s.hostB ∧ d.hostR = s.hostR ∧ (d.ctxs.get c).dc = (s.ctxs.get c).dc

theorem Dev.issuing_unplaced (d : Dev) (c : Nat) : d.Unplaced c (d.issuing c) := by
  obtain ⟨i, k, ctx⟩ := d.issuing_ctx c
  have hosts := d.issuing_hosts c
  simp only [Dev.hosts, Prod.mk.injEq] at hosts
  obtain ⟨a, b, r⟩ := hosts
  exact ⟨⟨by rw [ctx], by rw [ctx], by rw [ctx], d.issuing_pairs c, d.issuing_cmds c⟩, a, b, r, by rw [ctx]⟩

theorem Dev.Undone.congr {s d e : Dev} {c : Nat} (h : s.Undone c d) (hx : e.ctxs = d.ctxs) (hp : e.pairs = d.pairs) (hc : e.cmds = d.cmds) : s.Undone c e := by
  rwa [Dev.Undone, hx, hp, hc]

/-- The device as LD reads host memory: the bytes are placed and asked for. -/
def Dev.readingHost (d : Dev) (c : Nat) (mem : HostWrites) (a n : Nat) : Dev := ((d.issuing c).placeFor c mem).ask c a n

section
variable (d : Dev) (c : Nat) (mem : HostWrites) (a n : Nat)

theorem Dev.readingHost_undone : d.Undone c (d.readingHost c mem a n) := by
  refine (d.issuing_unplaced c).1.congr ?_ ?_ ?_
  · exact (Dev.ask_ctxs ..).trans (Dev.onMemAt_ctxs ..)
  · exact (Dev.ask_pairs ..).trans (Dev.placeFor_keeps Dev.pairs (fun _ _ _ _ => rfl) _ c mem)
  · exact (Dev.ask_cmds ..).trans (Dev.onMemAt_cmds ..)

theorem Dev.readingHost_mi : (d.readingHost c mem a n).mi = d.mi :=
  (Dev.ask_mi ..).trans ((Dev.placeFor_keeps Dev.mi (fun _ _ _ _ => rfl) _ c mem).trans (d.issuing_mi c))

theorem Dev.readingHost_mem : (d.readingHost c mem a n).mem c = (d.placeFor c mem).mem c := by
  have hosts : (d.readingHost c mem a n).hosts = (d.placeFor c mem).hosts := by
    rw [Dev.readingHost, show (((d.issuing c).placeFor c mem).ask c a n).hosts = ((d.issuing c).placeFor c mem).hosts by simp [Dev.hosts], Dev.placeFor,
       Dev.issuing_memNo, Dev.onMemAt_hosts (d.issuing_hosts c)]
    rfl
  refine Dev.mem_congr ?_ hosts
  calc (d.readingHost c mem a n).cmdOf c = (d.issuing c).cmdOf c :=
        Dev.cmdOf_congr (by rw [Dev.readingHost, Dev.ask_ctxs, Dev.placeFor, Dev.onMemAt_ctxs]) ((Dev.ask_cmds ..).trans (Dev.onMemAt_cmds ..))
    _ = d.cmdOf c := d.issuing_cmdOf c
    _ = (d.placeFor c mem).cmdOf c := (Dev.cmdOf_congr (congrArg (fun x : Table Ctx Ctx.reset => (x.get c).cmd) (Dev.onMemAt_ctxs ..)) (Dev.onMemAt_cmds ..)).symm

end

/-! ### Buffer space -/

theorem Dev.bufferPlace_empty {d : Dev} {x : Ctx} {a n : Nat} (h : x.h.get (a / 2 ^ 62) = none) : d.bufferPlace x a n = .error St.badHandle := by
  simp only [Dev.bufferPlace, h]

/-- The checks of an access to a held buffer, in their order. -/
theorem Dev.bufferPlace_held {d : Dev} {x : Ctx} {a n k : Nat} (h : x.h.get (a / 2 ^ 62) = some k) (hz : a / 2 ^ 48 % 2 ^ 14 = 0) :
    d.bufferPlace x a n = if a % 2 ^ 48 % n ≠ 0 then .error St.programFault else if poolBytes (bufPool k) < a % 2 ^ 48 + n then .error St.range
      else .ok (d.pools.wordOf k + a % 2 ^ 48 / 8, a % 2 ^ 48 % 8) := by
  simp only [Dev.bufferPlace, h, hz, ne_eq, not_true_eq_false, if_false]

section
variable {d : Dev} {w : Nat} (hp : w ∉ d.mi.poison) (hm : d.mi.mergeOf w = none) (hc : bchDecode (d.mi.raw w) = .clean)
include hp hm hc

/-- A word that is not poisoned, under no merge and clean is read as it stands (R300). -/
theorem Dev.seeWord_clean : d.seeWord w = (some (bchData (d.mi.raw w)), d) := by
  have poison : d.mi.poison.contains w = false := by simpa using hp
  simp only [Dev.seeWord, hm, Dev.readWord, poison, Bool.false_eq_true, if_false, hc]

end

theorem Dev.mergeIn_new {d : Dev} {w : Nat} (hm : d.mi.mergeOf w = none) (mask : BitVec 8) (bytes : W64) :
    d.mergeIn w mask bytes = d.onMi (fun m => { m with merges := m.merges ++ [⟨w, mask, bytes⟩] }) := by rw [Dev.mergeIn, hm]

theorem Dev.storeWord_mi (d : Dev) (w : Nat) (v : W64) : (d.storeWord w v).mi =
    { d.mi with words := d.mi.words.set w (d.mi.stored w (bchEncode v) ^^^ (if d.rf Reg.MI_FLIPCTL 31 31 = 1 then d.flipMask else 0))
                merges := d.mi.merges.filter (fun e => decide (e.word ≠ w))
                poison := d.mi.poison.filter (fun x => decide (x ≠ w)) } := by
  have rf : ∀ f, (d.onMi f).rf Reg.MI_FLIPCTL 31 31 = d.rf Reg.MI_FLIPCTL 31 31 := fun _ => rfl
  unfold Dev.storeWord
  simp only [rf]
  split
  · rw [Dev.setW1_mi, Dev.setRf_mi]
    rfl
  · rfl

/-- What a store into buffer space leaves alone. -/
theorem Dev.storeWord_unplaced {s d : Dev} {c : Nat} (h : s.Unplaced c d) (w : Nat) (v : W64) : s.Unplaced c (d.storeWord w v) := by
  have same : (d.storeWord w v).ctxs = d.ctxs ∧ (d.storeWord w v).pairs = d.pairs ∧ (d.storeWord w v).cmds = d.cmds ∧
      (d.storeWord w v).hostA = d.hostA ∧ (d.storeWord w v).hostB = d.hostB ∧ (d.storeWord w v).hostR = d.hostR := by
    unfold Dev.storeWord
    simp only
    split <;> simp [Dev.putWord]
  obtain ⟨ctxs, pairs, cmds, a, b, r⟩ := same
  rwa [Dev.Unplaced, Dev.Undone, ctxs, pairs, cmds, a, b, r]

/-! ### LD -/

section
variable {s : State} {c : Nat} (hw : s.dev.working = true)
include hw

section
variable (hi : s.dev.mayIssue c 0x30 = true) (mem : HostWrites) (ok : Bool)
include hi

section
variable (hb : inBuffer (s.dev.ctxs.get c) = false)
include hb

theorem ld_misaligned (ha : accessAddr (s.dev.ctxs.get c) % accessSize (s.dev.ctxs.get c) ≠ 0) :
    exec (.ld c mem ok) s = .next ⟨(s.dev.issuing c).failWith c St.programFault, s.pending⟩ := by
  obtain ⟨addr, size, buffer⟩ := s.dev.issuing_access c
  refine (acts_of_insn (i := .ld c mem ok) (Eq.refl (execLd c mem ok s)) hw hi).trans ?_
  simp only [addr, size, buffer, hb, Bool.false_eq_true, if_false, if_pos ha]

variable (ha : accessAddr (s.dev.ctxs.get c) % accessSize (s.dev.ctxs.get c) = 0) (hr : s.dev.mayRequest c = true)
include ha hr

theorem ld_host : exec (.ld c mem true) s =
    .next ⟨(s.dev.readingHost c mem (accessAddr (s.dev.ctxs.get c)) (accessSize (s.dev.ctxs.get c))).finish c St.ok
      (some (toW64 (leNat (readBytes ((s.dev.placeFor c mem).mem c) (accessAddr (s.dev.ctxs.get c)) (accessSize (s.dev.ctxs.get c)))))) 0 0, s.pending⟩ := by
  obtain ⟨addr, size, buffer⟩ := s.dev.issuing_access c
  refine (acts_of_insn (i := .ld c mem true) (Eq.refl (execLd c mem true s)) hw hi).trans ?_
  rw [← s.dev.readingHost_mem c mem (accessAddr (s.dev.ctxs.get c)) (accessSize (s.dev.ctxs.get c))]
  simp only [addr, size, buffer, hb, Bool.false_eq_true, if_false, ha, ne_eq, not_true_eq_false, Dev.issuing_mayRequest, hr, Bool.not_true, if_true]
  rfl

theorem ld_hostFails : exec (.ld c mem false) s =
    .next ⟨(s.dev.readingHost c mem (accessAddr (s.dev.ctxs.get c)) (accessSize (s.dev.ctxs.get c))).failWith c St.programFault, s.pending⟩ := by
  obtain ⟨addr, size, buffer⟩ := s.dev.issuing_access c
  refine (acts_of_insn (i := .ld c mem false) (Eq.refl (execLd c mem false s)) hw hi).trans ?_
  simp only [addr, size, buffer, hb, Bool.false_eq_true, if_false, ha, ne_eq, not_true_eq_false, Dev.issuing_mayRequest, hr, Bool.not_true]
  rfl

end

section
variable (hb : inBuffer (s.dev.ctxs.get c) = true)
include hb

theorem ld_bufferFails {st : W16}
    (hp : s.dev.bufferPlace (s.dev.ctxs.get c) (accessAddr (s.dev.ctxs.get c)) (accessSize (s.dev.ctxs.get c)) = .error st) :
    exec (.ld c mem ok) s = .next ⟨(s.dev.issuing c).failWith c st, s.pending⟩ := by
  obtain ⟨addr, size, buffer⟩ := s.dev.issuing_access c
  refine (acts_of_insn (i := .ld c mem ok) (Eq.refl (execLd c mem ok s)) hw hi).trans ?_
  simp only [addr, size, buffer, hb, if_true, Dev.issuing_bufferPlace, hp]

theorem ld_buffer {w i : Nat}
    (hp : s.dev.bufferPlace (s.dev.ctxs.get c) (accessAddr (s.dev.ctxs.get c)) (accessSize (s.dev.ctxs.get c)) = .ok (w, i))
    (hc : w ∉ s.dev.mi.poison ∧ s.dev.mi.mergeOf w = none ∧ bchDecode (s.dev.mi.raw w) = .clean) : exec (.ld c mem ok) s =
    .next ⟨(s.dev.issuing c).finish c St.ok (some (wordPart (bchData (s.dev.mi.raw w)) i (accessSize (s.dev.ctxs.get c)))) 0 0, s.pending⟩ := by
  obtain ⟨addr, size, buffer⟩ := s.dev.issuing_access c
  obtain ⟨poison, merge, clean⟩ := hc
  rw [← s.dev.issuing_mi c] at poison merge clean ⊢
  refine (acts_of_insn (i := .ld c mem ok) (Eq.refl (execLd c mem ok s)) hw hi).trans ?_
  simp only [addr, size, buffer, hb, if_true, Dev.issuing_bufferPlace, hp, Dev.seeWord_clean poison merge clean]

end

end

/-! ### ST -/

section
variable (hi : s.dev.mayIssue c 0x31 = true) (ok : Bool)
include hi

section
variable (hb : inBuffer (s.dev.ctxs.get c) = false)
include hb

theorem st_misaligned (ha : accessAddr (s.dev.ctxs.get c) % accessSize (s.dev.ctxs.get c) ≠ 0) :
    exec (.st c ok) s = .next ⟨(s.dev.issuing c).failWith c St.programFault, s.pending⟩ := by
  obtain ⟨addr, size, buffer⟩ := s.dev.issuing_access c
  refine (acts_of_insn (i := .st c ok) (Eq.refl (execSt c ok s)) hw hi).trans ?_
  simp only [addr, size, buffer, hb, Bool.false_eq_true, if_false, if_pos ha]

variable (ha : accessAddr (s.dev.ctxs.get c) % accessSize (s.dev.ctxs.get c) = 0) (hr : s.dev.mayRequest c = true)
include ha hr

theorem st_host : exec (.st c true) s =
    .next ⟨((s.dev.issuing c).memWrite c [(accessAddr (s.dev.ctxs.get c), accessSize (s.dev.ctxs.get c))]
      (leBytes (accessSize (s.dev.ctxs.get c)) ((s.dev.issuing c).ctxs.get c).gb.toNat)).finish c St.ok none 0 0, s.pending⟩ := by
  obtain ⟨addr, size, buffer⟩ := s.dev.issuing_access c
  refine (acts_of_insn (i := .st c true) (Eq.refl (execSt c true s)) hw hi).trans ?_
  simp only [addr, size, buffer, hb, Bool.false_eq_true, if_false, ha, ne_eq, not_true_eq_false, Dev.issuing_mayRequest, hr, Bool.not_true, if_true]

theorem st_hostFails : exec (.st c false) s = .next ⟨(s.dev.issuing c).failWith c St.programFault, s.pending⟩ := by
  obtain ⟨addr, size, buffer⟩ := s.dev.issuing_access c
  refine (acts_of_insn (i := .st c false) (Eq.refl (execSt c false s)) hw hi).trans ?_
  simp only [addr, size, buffer, hb, Bool.false_eq_true, if_false, ha, ne_eq, not_true_eq_false, Dev.issuing_mayRequest, hr, Bool.not_true]

end

section
variable (hb : inBuffer (s.dev.ctxs.get c) = true)
include hb

theorem st_bufferFails {st : W16}
    (hp : s.dev.bufferPlace (s.dev.ctxs.get c) (accessAddr (s.dev.ctxs.get c)) (accessSize (s.dev.ctxs.get c)) = .error st) :
    exec (.st c ok) s = .next ⟨(s.dev.issuing c).failWith c st, s.pending⟩ := by
  obtain ⟨addr, size, buffer⟩ := s.dev.issuing_access c
  refine (acts_of_insn (i := .st c ok) (Eq.refl (execSt c ok s)) hw hi).trans ?_
  simp only [addr, size, buffer, hb, if_true, Dev.issuing_bufferPlace, hp]

variable {w i : Nat} (hp : s.dev.bufferPlace (s.dev.ctxs.get c) (accessAddr (s.dev.ctxs.get c)) (accessSize (s.dev.ctxs.get c)) = .ok (w, i))
include hp

theorem st_word (hn : accessSize (s.dev.ctxs.get c) = 8) : exec (.st c ok) s =
    .next ⟨((s.dev.issuing c).storeWord w ((s.dev.issuing c).ctxs.get c).gb).finish c St.ok none 0 0, s.pending⟩ := by
  obtain ⟨addr, size, buffer⟩ := s.dev.issuing_access c
  refine (acts_of_insn (i := .st c ok) (Eq.refl (execSt c ok s)) hw hi).trans ?_
  simp only [addr, size, buffer, hb, if_true, Dev.issuing_bufferPlace, hp, if_pos hn]

theorem st_merges (hn : accessSize (s.dev.ctxs.get c) < 8) (hm : s.dev.mi.mergeCount (wordStack w) < 64)
    (hc : w ∉ s.dev.mi.poison ∧ s.dev.mi.mergeOf w = none ∧ bchDecode (s.dev.mi.raw w) = .clean) : exec (.st c ok) s =
    .next ⟨((s.dev.issuing c).onMi (fun m => { m with merges := m.merges ++
      [⟨w, BitVec.ofNat 8 ((2 ^ accessSize (s.dev.ctxs.get c) - 1) * 2 ^ i),
        toW64 (((s.dev.issuing c).ctxs.get c).gb.toNat % 2 ^ (8 * accessSize (s.dev.ctxs.get c)) * 2 ^ (8 * i))⟩] })).finish c St.ok none 0 0,
      s.pending⟩ := by
  obtain ⟨addr, size, buffer⟩ := s.dev.issuing_access c
  obtain ⟨poison, merge, clean⟩ := hc
  rw [← s.dev.issuing_mi c] at poison merge clean hm
  refine (acts_of_insn (i := .st c ok) (Eq.refl (execSt c ok s)) hw hi).trans ?_
  simp only [addr, size, buffer, hb, if_true, Dev.issuing_bufferPlace, hp, Nat.ne_of_lt hn, if_false, Nat.not_le.mpr hm, false_and,
    Dev.seeWord_clean poison merge clean, Dev.mergeIn_new merge]

end

end

/-! ### DSEEK -/

section
variable (hi : s.dev.mayIssue c 0x32 = true)
include hi

theorem dseek_moves (hl : ((s.dev.issuing c).ctxs.get c).ga.toNat ≤ s.dev.dataLen c) : exec (.dseek c) s =
    .next ⟨((s.dev.issuing c).onCtx c (fun x => { x with dc := x.ga.toNat })).finish c St.ok none 0 0, s.pending⟩ := by
  refine (acts_of_insn (i := .dseek c) (Eq.refl (execDseek c s)) hw hi).trans ?_
  simp only [Dev.issuing_dataLen, Nat.not_lt.mpr hl, if_false]

theorem dseek_pastEnd (hl : s.dev.dataLen c < ((s.dev.issuing c).ctxs.get c).ga.toNat) : exec (.dseek c) s =
    .next ⟨(s.dev.issuing c).failWith c St.range, s.pending⟩ := by
  refine (acts_of_insn (i := .dseek c) (Eq.refl (execDseek c s)) hw hi).trans ?_
  simp only [Dev.issuing_dataLen, hl, if_true]

end

end

end Sys2Proof.Machine

open Sys2Proof Sys2Proof.Machine

/-- Settles O23: host memory, buffer space and the data cursor, each check in its order. -/
theorem memoryInstructions : Obligations.MemoryInstructions := by
  intro c s mem hw x m n a space kept hosts same
  obtain ⟨i, k, ctx⟩ := s.dev.issuing_ctx c
  have gb : ((s.dev.issuing c).ctxs.get c).gb = x.gb := by rw [ctx]; rfl
  have ga : ((s.dev.issuing c).ctxs.get c).ga = x.ga := by rw [ctx]; rfl
  have unplaced : hosts (s.dev.issuing c) := s.dev.issuing_unplaced c
  have issued : same (s.dev.issuing c) := ⟨unplaced, s.dev.issuing_mi c⟩
  have outside : space = 0 → inBuffer x = false := fun h => by rw [inBuffer, show wMod x.ir / 4 % 2 = 0 from h]; rfl
  have inside : space = 1 → inBuffer x = true := fun h => by rw [inBuffer, show wMod x.ir / 4 % 2 = 1 from h]; rfl
  have fails : ∀ {i : Instr} {st : W16}, exec i s = .next ⟨(s.dev.issuing c).failWith c st, s.pending⟩ → Finishes i s c st none same :=
    fun h => ⟨_, h, _, 0, 0, none, none, 0, rfl, issued⟩
  refine ⟨fun hi hs ha hr => ⟨⟨_, ld_host hw hi mem (outside hs) ha hr, _, 0, 0, none, none, 0, rfl, ?_⟩,
      ⟨_, ld_hostFails hw hi mem (outside hs) ha hr, _, 0, 0, none, none, 0, rfl, ?_⟩⟩,
    fun hi hs ha ok => fails (ld_misaligned hw hi mem ok (outside hs) ha),
    fun hi hs ha hr => ⟨⟨_, st_host hw hi (outside hs) ha hr, _, 0, 0, none, none, 0, rfl, ?store⟩, fails (st_hostFails hw hi (outside hs) ha hr)⟩,
    fun hi hs ha ok => fails (st_misaligned hw hi ok (outside hs) ha), ?buffer,
    fun hi hl => ⟨_, dseek_moves hw hi (ga.symm ▸ hl), _, 0, 0, none, none, 0, rfl, ?dseek⟩, fun hi hl => fails (dseek_pastEnd hw hi (ga.symm ▸ hl))⟩
  iterate 2 exact ⟨s.dev.readingHost_undone .., s.dev.readingHost_mi .., s.dev.readingHost_mem ..⟩
  case store =>
    refine ⟨Dev.Undone.congr unplaced.1 (Dev.memWrite_ctxs ..) ?_ ?_, ?_, ?_, fun no hn => ?_⟩
    · exact Dev.memWrite_keeps Dev.pairs Dev.stamp_pairs Dev.send_pairs (fun _ _ _ _ => rfl) ..
    · exact Dev.memWrite_keeps Dev.cmds Dev.stamp_cmds Dev.send_cmds (fun _ _ _ _ => rfl) ..
    · rw [Dev.memWrite_mem, Dev.issuing_mem, gb, writeRanges, writeRanges, List.take_of_length_le (Nat.le_of_eq (leBytes_length ..))]
      rfl
    · exact (Dev.memWrite_keeps Dev.mi Dev.stamp_mi Dev.send_mi (fun _ _ _ _ => rfl) ..).trans (s.dev.issuing_mi c)
    · rw [Dev.memWrite_memAt_ne _ _ _ _ (s.dev.issuing_memNo c ▸ hn), Dev.memAt_congr (s.dev.issuing_hosts c)]
  case buffer =>
    intro hs ok stops
    refine ⟨fun hk => ?_, fun k hk hz => ?_⟩
    · have place : s.dev.bufferPlace x a n = .error St.badHandle := Dev.bufferPlace_empty hk
      exact ⟨fun hi => fails (ld_bufferFails hw hi mem ok (inside hs) place), fun hi => fails (st_bufferFails hw hi ok (inside hs) place)⟩
    · intro off w clean
      have place : s.dev.bufferPlace x a n = _ := Dev.bufferPlace_held hk hz
      have stop : ∀ {st}, s.dev.bufferPlace x a n = .error st → stops st := fun h =>
        ⟨fun hi => fails (ld_bufferFails hw hi mem ok (inside hs) h), fun hi => fails (st_bufferFails hw hi ok (inside hs) h)⟩
      refine ⟨fun ha => stop (by rw [place, if_pos ha]), fun ha he => stop (by rw [place, if_neg (not_not.mpr ha), if_pos he]), fun ha he => ?_⟩
      have spot : s.dev.bufferPlace x a n = .ok (w, off % 8) := by rw [place, if_neg (not_not.mpr ha), if_neg (Nat.not_lt.mpr he)]
      refine ⟨fun hi hc => ⟨_, ld_buffer hw hi mem ok (inside hs) spot hc, _, 0, 0, none, none, 0, rfl, issued⟩,
        fun hi hn => ⟨_, st_word hw hi ok (inside hs) spot hn, _, 0, 0, none, none, 0, rfl, Dev.storeWord_unplaced unplaced .., ?_⟩,
        fun hi hn hc hm => ⟨_, st_merges hw hi ok (inside hs) spot hn hm hc, _, 0, 0, none, none, 0, rfl, unplaced, ?_⟩⟩
      · rw [Dev.storeWord_mi, Dev.issuing_mi, Dev.issuing_rf, Dev.issuing_flipMask, gb]
      · rw [Dev.onMi_mi, Dev.issuing_mi, gb]
        rfl
  case dseek =>
    obtain ⟨⟨g, h, pc, pairs, cmds⟩, -⟩ := unplaced
    have moved : ((s.dev.issuing c).onCtx c (fun x => { x with dc := x.ga.toNat })).ctxs.get c =
        { (s.dev.issuing c).ctxs.get c with dc := x.ga.toNat } := by rw [Dev.onCtx_ctxs, Table.get_modify_self, ga]
    refine ⟨⟨by rw [moved]; exact g, by rw [moved]; exact h, by rw [moved]; exact pc, pairs, cmds⟩, s.dev.issuing_mi c, by rw [moved]⟩

end

section
/-! What the closing of records and formes leaves alone (R118, R142, R178 to R182): the commands, the contexts, and of every write what it is. -/

namespace Sys2Proof.Machine

/-! ### Steps that may wait -/

theorem foldlM_keeps {σ α β : Type} (w : σ → β) {f : σ → α → Option σ} (h : ∀ s a t, f s a = some t → w t = w s) {l : List α} {s t : σ}
    (hl : l.foldlM f s = some t) : w t = w s := by
  induction l generalizing s with
  | nil => exact congrArg w (Option.some.inj hl).symm
  | cons a l ih =>
    rw [List.foldlM_cons] at hl
    obtain ⟨u, hu, ht⟩ := Option.bind_eq_some_iff.mp hl
    exact (ih ht).trans (h s a u hu)

/-- What a write is, apart from its buffers, its hold, what has superseded it, its pin and the checkpoint that names it. -/
def Write.core (w : Write) : Write := { w with bufs := [], hold := false, beaten := none, pinned := false, indexed := 0 }

/-- The writes of the index, as what they are. -/
def Dev.cores (d : Dev) : List Write := d.idx.writes.map Write.core

/-- A part of the device that the assembly of formes and the closing of records do not change: it is apart from stamps, counters, messages, buffers, records,
formes, the volume and the stripes, and from the checkpoints that writes are named in. -/
structure Dev.KeptByFormes {β : Type} (v : Dev → β) : Prop where
  stamp : ∀ (d : Dev) (u a : Nat), v (d.stamp u a).2 = v d
  count : ∀ (d : Dev) (blk sub i n : Nat), v (d.count blk sub i n) = v d
  send : ∀ (d : Dev) (k : MsgKind) (m : Nat) (s : Stamp) (b : List Byte), v (d.send k m s b) = v d
  grab : ∀ (d : Dev) (u : BufUnit) (tag : List Nat) (size : Nat) (share : List Holder), v (d.grab u tag size share).2 = v d
  await : ∀ (d : Dev) (u : BufUnit) (tag : List Nat) (size : Nat) (share : List Holder), v (d.await u tag size share) = v d
  letGo : ∀ (d : Dev) (k : Nat) (x : Holder), v (d.letGo k x) = v d
  giveBack : ∀ (d : Dev) (k : Nat), v (d.giveBack k) = v d
  onIdx : ∀ (d : Dev) (f : Index → Index), (∀ x, (f x).writes.map Write.core = x.writes.map Write.core) → v (d.onIdx f) = v d
  onCs : ∀ (d : Dev) (f : Cascade → Cascade), v (d.onCs f) = v d
  onCx : ∀ (d : Dev) (f : Cipher → Cipher), v (d.onCx f) = v d
  onVol : ∀ (d : Dev) (f : Vol → Vol), v (d.onVol f) = v d
  onFm : ∀ (d : Dev) (f : Formes → Formes), v (d.onFm f) = v d

namespace Dev.KeptByFormes

variable {β : Type} {v : Dev → β} (h : Dev.KeptByFormes v)
include h

/-! ### Records -/

theorem feedPipes (d : Dev) (n : Nat) : v (d.feedPipes n) = v d := by
  induction n generalizing d with
  | zero => rfl
  | succ n ih =>
    unfold Dev.feedPipes
    split
    · exact (ih _).trans (h.onCx ..)
    · rfl

theorem closeRec (d : Dev) (r : Rec) : v (d.closeRec r) = v d := by
  unfold Dev.closeRec
  dsimp only
  rw [h.feedPipes, Dev.onSlot, h.onCx, Dev.onRec, h.onCx, h.stamp]

theorem closeOpen (d : Dev) (p : Rec → Bool) : v (d.closeOpen p) = v d := Dev.each_keeps v _ _ _ h.closeRec

theorem sealRecords (d : Dev) : v d.sealRecords = v d := Dev.each_keeps v _ _ _ fun e x => by
  split
  · exact h.closeOpen ..
  · rfl

/-! ### Formes -/

theorem assemble {d e : Dev} {kind : FKind} {flags : Byte} {member base : Nat} {payload : List Byte} {lead streamOff firstRec : Nat} {ledger : List Byte}
    (he : d.assemble kind flags member base payload lead streamOff firstRec ledger = some e) : v e = v d := by
  unfold Dev.assemble at he
  split at he
  case h_1 vol k d1 hv hg =>
    have grabbed : v d1 = v d := by
      have := h.grab d (if kind = .directory then .directory else .forme) [0] 192000 [.unit .forme, .unit .encoder, .unit .rewrite]
      rwa [hg] at this
    rw [← Option.some.inj he, Dev.onVolume, h.onVol, h.count, h.onFm, h.stamp, apply_ite v]
    simp only [h.letGo, ite_self, grabbed]
  case h_2 => exact absurd he (by simp)

theorem closeGroup {d e : Dev} {cause : Nat} (he : d.closeGroup cause = some e) : v e = v d := by
  unfold Dev.closeGroup at he
  split at he
  · refine (foldlM_keeps v (fun s j t ht => h.assemble ht) he).trans ?_
    rw [Dev.each_keeps v _ _ _ fun e k => h.letGo .., h.count, h.onFm, h.stamp]
  · exact congrArg v (Option.some.inj he).symm

theorem addMember {d e : Dev} {kind : FKind} {flags : Byte} {payload : List Byte} {streamOff firstRec : Nat}
    (he : d.addMember kind flags payload streamOff firstRec = some e) : v e = v d := by
  unfold Dev.addMember at he
  split at he
  · exact absurd he (by simp)
  · have opened : ∀ n, v (d.openGroup n) = v d := fun n => by
      unfold Dev.openGroup
      split
      · rfl
      · exact h.onFm ..
    dsimp only at he
    split at he
    · exact absurd he (by simp)
    · obtain ⟨d2, assembled, closes⟩ := Option.bind_eq_some_iff.mp he
      have added := (h.assemble assembled).trans (opened _)
      split at closes
      · exact ((h.closeGroup closes).trans (h.onFm ..)).trans added
      · exact (congrArg v (Option.some.inj closes).symm).trans ((h.onFm ..).trans added)

theorem passStream (d : Dev) (stream number : Nat) (syms : List (BitVec 10)) : v (d.passStream stream number syms) = v d :=
  (h.count ..).trans (h.onCs ..)

theorem ownTerm (d : Dev) (stream number : Nat) (payload : List Byte) : v (d.ownTerm stream number payload) = v d := by
  have dropped : ∀ p, v (d.dropPartial p) = v d := fun p => by
    unfold Dev.dropPartial
    dsimp only
    split
    · exact (h.giveBack ..).trans (h.onCs ..)
    · exact h.onCs ..
  unfold Dev.ownTerm
  dsimp only
  split
  · exact h.passStream ..
  · split
    · exact (h.passStream ..).trans (dropped _)
    · exact h.onCs ..

theorem ownStripe (d : Dev) (folio : Nat) (payload : List Byte) : v (d.ownStripe folio payload) = v d := by
  unfold Dev.ownStripe
  split
  · rfl
  · dsimp only
    rw [Dev.broadcast, Dev.each_keeps v _ _ _ fun e m => h.send .., h.stamp, apply_ite v]
    simp only [h.ownTerm, ite_self, h.onCs]

theorem closeData {d e : Dev} (he : d.closeData = some e) : v e = v d := by
  unfold Dev.closeData at he
  split at he
  · exact congrArg v (Option.some.inj he).symm
  · split at he
    · exact absurd he (by simp)
    · obtain ⟨d1, added, closed⟩ := Option.map_eq_some_iff.mp he
      rw [← closed, h.ownStripe, h.onFm, h.addMember added]

theorem placeCkpt {d e : Dev} {request : Stamp} (he : d.placeCkpt request = some e) : v e = v d := by
  unfold Dev.placeCkpt at he
  split at he
  · exact absurd he (by simp)
  · obtain ⟨s, placed, last⟩ := Option.map_eq_some_iff.mp he
    rw [← last, h.onFm]
    refine (foldlM_keeps (fun s : Nat × Nat × Dev => v s.2.2) (fun s p t ht => ?_) placed).trans ?_
    · obtain ⟨d1, added, next⟩ := Option.map_eq_some_iff.mp ht
      subst next
      show v (d1.onVolume _) = v s.2.2
      rw [Dev.onVolume, h.onVol, h.addMember added]
    · dsimp only
      rw [h.onIdx, Dev.onVolume, h.onVol]
      intro x
      rw [List.map_map]
      refine List.map_congr_left fun w _ => ?_
      simp only [Function.comp]
      split <;> rfl

/-- A close of the open group at no FLUSH's request pads no stripes. -/
theorem closeWith {d e : Dev} {request : Stamp} {cause : Nat} (hc : cause ≠ 1) (he : d.closeWith request cause = some e) : v e = v d := by
  obtain ⟨d1, closed, he⟩ := Option.bind_eq_some_iff.mp he
  rw [if_neg hc] at he
  obtain ⟨d2, same, he⟩ := Option.bind_eq_some_iff.mp he
  obtain ⟨d3, placed, he⟩ := Option.bind_eq_some_iff.mp he
  rw [h.closeGroup he, h.placeCkpt placed, ← Option.some.inj same, h.closeData closed]

theorem forcedClose (d : Dev) : v d.forcedClose = v d := by
  unfold Dev.forcedClose
  split
  · dsimp only
    have before : ∀ s : Stamp × Dev, v s.2 = v d → v (s.2.closeOpen fun _ => true) = v d := fun s hs => (h.closeOpen ..).trans hs
    cases hc : ((d.stamp 0xC).2.closeOpen fun _ => true).closeWith (d.stamp 0xC).1 2 with
    | none =>
      rw [Option.getD_none, Dev.awaitForme]
      exact ((h.await ..).trans (h.await ..)).trans (before _ (h.stamp ..))
    | some e =>
      rw [Option.getD_some]
      exact (h.closeWith (by decide) hc).trans (before _ (h.stamp ..))
  · rfl

end Dev.KeptByFormes

/-! ### What they are apart from -/

/-- What operations on buffers do not change, the assembly of formes does not either, where it is apart from the index, records, formes and the volume. -/
theorem Dev.KeptByBuffers.byFormes {β : Type} {v : Dev → β} (h : Dev.KeptByBuffers v) (onIdx : ∀ (d : Dev) (f : Index → Index), v (d.onIdx f) = v d)
    (onCx : ∀ (d : Dev) (f : Cipher → Cipher), v (d.onCx f) = v d) (onVol : ∀ (d : Dev) (f : Vol → Vol), v (d.onVol f) = v d)
    (onFm : ∀ (d : Dev) (f : Formes → Formes), v (d.onFm f) = v d) : Dev.KeptByFormes v where
  stamp := h.stamp
  count := h.count
  send := h.send
  grab := h.grab
  await d u tag size share := by
    have asked := h.request d u tag size false share
    unfold Dev.await
    split
    · rfl
    · split
      case h_1 hr => rw [h.onPools, ← asked, hr]
      case h_2 hr => rw [← asked, hr]
  letGo := h.letGo
  giveBack := h.giveBack
  onIdx d f _ := onIdx d f
  onCs := h.onCs
  onCx := onCx
  onVol := onVol
  onFm := onFm

theorem Dev.KeptByDrops.byFormes {β : Type} {v : Dev → β} (h : Dev.KeptByDrops v) : Dev.KeptByFormes v :=
  h.toKeptByBuffers.byFormes h.onReads h.onCx h.onVol h.onFm

theorem Dev.hostSide_byFormes : Dev.KeptByFormes Dev.hostSide :=
  Dev.hostSide_kept.byFormes (fun _ _ => rfl) (fun _ _ => rfl) (fun _ _ => rfl) (fun _ _ => rfl)

theorem Dev.cores_of_idx {d e : Dev} (h : e.idx = d.idx) : e.cores = d.cores := congrArg (fun x : Index => x.writes.map Write.core) h

theorem Dev.request_idx (d : Dev) (u : BufUnit) (tag : List Nat) (size : Nat) (spill : Bool) (share : List Holder) :
    (d.request u tag size spill share).2.idx = d.idx := by
  have refusals : ∀ (d : Dev) (s : W16), (d.countRefusal s).idx = d.idx := fun d s => by simp [Dev.countRefusal, apply_ite Dev.idx]
  have taken : ∀ (d : Dev) (req p : Nat), (d.take req p share).2.idx = d.idx := fun d req p => by
    unfold Dev.take
    split <;> rfl
  unfold Dev.request
  dsimp only
  split
  · exact (taken ..).trans (Dev.stamp_idx ..)
  · exact (refusals ..).trans (Dev.stamp_idx ..)
  · exact (refusals ..).trans (Dev.stamp_idx ..)

theorem Dev.freeBuf_cores (d : Dev) (k : Nat) (b : Buf) : (d.freeBuf k b).cores = d.cores := by
  unfold Dev.freeBuf
  extract_lets d0
  have unlisted : d0.cores = d.cores := List.map_map.trans (List.map_congr_left fun _ _ => rfl)
  refine Eq.trans (Dev.cores_of_idx ?_) unlisted
  split
  · simp [Dev.freeLent]
  · rw [Dev.serveWaiter_keeps Dev.idx Dev.stamp_idx Dev.onPools_idx, Dev.onPools_idx, Dev.onMi_idx]

theorem Dev.giveBack_cores (d : Dev) (k : Nat) : (d.giveBack k).cores = d.cores := by
  unfold Dev.giveBack
  split
  · exact (Dev.freeBuf_cores ..).trans (Dev.cores_of_idx (Dev.stamp_idx ..))
  · rfl

theorem Dev.release_cores (d : Dev) (k : Nat) (x : Holder) (req : Nat) : (d.release k x req).2.cores = d.cores := by
  have stamped : (d.stamp 7).2.cores = d.cores := Dev.cores_of_idx (Dev.stamp_idx ..)
  have noted : ∀ (d : Dev) (r : Report), (d.note r).cores = d.cores := fun d r => Dev.cores_of_idx (Dev.note_idx ..)
  have bumped : ∀ (d : Dev) (a bank hi lo : Nat), (d.bumpW1 a bank hi lo).cores = d.cores := fun _ _ _ _ _ => rfl
  have pooled : ∀ (d : Dev) (f : Pools → Pools), (d.onPools f).cores = d.cores := fun _ _ => rfl
  refine Eq.trans ?_ stamped
  unfold Dev.release
  extract_lets d1
  show _ = d1.cores
  clear_value d1
  split
  · exact (noted ..).trans (bumped ..)
  · split
    · exact (noted ..).trans (bumped ..)
    · split
      · split
        · exact Dev.freeBuf_cores ..
        · exact (pooled ..).trans (bumped ..)
      · extract_lets rest
        split
        · exact Dev.freeBuf_cores ..
        · exact pooled ..

theorem Dev.letGo_cores (d : Dev) (k : Nat) (x : Holder) : (d.letGo k x).cores = d.cores := by
  unfold Dev.letGo
  split
  · exact Dev.release_cores ..
  · rfl

theorem Dev.cores_kept : Dev.KeptByFormes Dev.cores where
  stamp _ _ _ := Dev.cores_of_idx (Dev.stamp_idx ..)
  count _ _ _ _ _ := rfl
  send _ _ _ _ _ := Dev.cores_of_idx (Dev.send_idx ..)
  grab d u tag size share := Dev.cores_of_idx (by
    unfold Dev.grab
    split
    · rfl
    · split
      · rfl
      · exact Dev.request_idx ..)
  await d u tag size share := Dev.cores_of_idx (by
    have asked := d.request_idx u tag size false share
    unfold Dev.await
    split
    · rfl
    · split
      case h_1 hr => rw [Dev.onPools_idx, ← asked, hr]
      case h_2 hr => rw [← asked, hr])
  letGo := Dev.letGo_cores
  giveBack := Dev.giveBack_cores
  onIdx d f hf := hf d.idx
  onCs _ _ := rfl
  onCx _ _ := rfl
  onVol _ _ := rfl
  onFm _ _ := rfl

end Sys2Proof.Machine
end

section
/-! INDEX_LOOKUP and WRITE_COMMIT (R73, R87, R88, R95, R111): the lookup of a PATCH or DELETE and of a read, and a write that becomes a version. -/

namespace Sys2Proof.Machine

/-! ### Writes of the index, as what they are -/

theorem Dev.onWrite_cores {f : Write → Write} (hf : ∀ w, (f w).core = w.core) (d : Dev) (id : Nat) : (d.onWrite id f).cores = d.cores := by
  refine List.map_map.trans (List.map_congr_left fun w _ => ?_)
  simp only [Function.comp]
  split
  · exact hf w
  · rfl

theorem Index.noteOver_cores (x : Index) : x.noteOver.writes.map Write.core = x.writes.map Write.core := by
  have noted : ∀ (l : List Write) (w : Write), (l.foldl (fun w v => { w with beaten := laterOf w.beaten v.arrival }) w).core = w.core := by
    intro l
    induction l with
    | nil => exact fun _ => rfl
    | cons v l ih => exact fun w => ih _
  exact List.map_map.trans (List.map_congr_left fun w _ => noted _ w)

theorem Dev.reviewHolds_cores (d : Dev) : d.reviewHolds.cores = d.cores := Dev.each_keeps Dev.cores _ _ _ fun e w => by
  dsimp only
  split
  · rfl
  · refine (Dev.onWrite_cores (fun _ => ?_) _ _).trans (Dev.cores_kept.stamp ..)
    rfl

/-- The device as the index has released its buffers, before versions leave it. -/
def Dev.reaping (d : Dev) : Dev :=
  d.each d.idx.writes (fun d w => d.each w.loose (fun d kb => if d.refusedOnce kb.2 then d else (d.release kb.2 (.unit .index) 53).2))

theorem Dev.reaping_cores (d : Dev) : d.reaping.cores = d.cores := Dev.each_keeps Dev.cores _ _ _ fun e w => Dev.each_keeps Dev.cores _ _ _ fun e kb => by
  split
  · rfl
  · exact Dev.release_cores ..

/-- A write that is not durable stays in the index. -/
theorem Dev.reap_stays {d : Dev} {u : Write} (hu : u ∈ d.cores) (hd : u.durable = false) : u ∈ d.reap.cores := by
  obtain ⟨w, hw, rfl⟩ := List.mem_map.mp (d.reaping_cores ▸ hu)
  exact List.mem_map.mpr ⟨w, List.mem_filter.mpr ⟨hw, by simp [show w.durable = false from hd]⟩, rfl⟩

theorem Dev.cores_length (d : Dev) : d.cores.length = d.idx.writes.length := List.length_map _

theorem Dev.reap_length (d : Dev) : d.reap.idx.writes.length ≤ d.idx.writes.length := by
  rw [← d.cores_length, ← d.reaping_cores, Dev.cores_length]
  exact List.length_filter_le ..

theorem Dev.unpin_idx (d : Dev) (n : Nat) : (d.unpin n).idx = d.idx :=
  Dev.unpin_keeps Dev.idx Dev.stamp_idx
    (fun e after => e.epochAdvance_keeps Dev.idx Dev.stamp_idx Dev.notice_idx Dev.onEr_idx Dev.send_idx after) Dev.onCx_idx (fun _ _ => rfl) d n

/-- The end of a read takes no write into the index. -/
theorem Dev.endReads_length (d : Dev) (c : Nat) : (d.endReads c).idx.writes.length ≤ d.idx.writes.length := by
  have decoded : ∀ e : Dev, e.dropDecoded.cores = e.cores := fun e => by
    unfold Dev.dropDecoded
    split
    · rfl
    · refine (Dev.cores_kept.onVol ..).trans (Dev.each_keeps Dev.cores _ _ _ fun e f => ?_)
      split
      · exact Dev.giveBack_cores ..
      · rfl
  unfold Dev.endReads
  extract_lets d0 d1 d2
  have freed : d2.cores = d.cores := (Dev.each_keeps Dev.cores _ _ _ fun e k => by
    split
    · exact Dev.each_keeps Dev.cores _ _ _ fun e x => Dev.release_cores ..
    · rfl : d2.cores = d1.cores)
  refine (Dev.reap_length _).trans (Nat.le_of_eq ?_)
  rw [← Dev.cores_length, Dev.reviewHolds_cores, decoded, freed, Dev.cores_length]

theorem Write.same_of_core {v w : Write} (h : v.core = w.core) : v.id = w.id ∧ v.commit = w.commit ∧ v.ctx = w.ctx ∧ v.obj = w.obj ∧ v.len = w.len ∧
    v.slot = w.slot ∧ v.kind = w.kind := by
  simp only [Write.core, Write.mk.injEq] at h
  simp only [h, and_self]

/-! ### INDEX_LOOKUP (R87, R88) -/

/-- The lookup of an object may take place: the horizon has passed, and neither an intent nor a reload stands before it. -/
def Dev.mayLookUp (d : Dev) (vh : W32) (st : Stamp) (obj : W64) (a : Nat) (whole : Bool) : Prop :=
  d.horizonOpen vh st = false ∧ d.intentAhead vh obj st a whole = false ∧ d.reloading obj = false

section
variable {s : State} {c : Nat} (hw : s.dev.working = true) (hh : s.dev.er.halted = false)
include hw hh

theorem indexLookup_existence {op : Nat} (hr : (s.dev.ctxs.get c).run = .flight (.existence op))
    (ho : s.dev.mayLookUp (s.dev.ctxs.get c).vh (s.dev.orderStamp c) (s.dev.ctxs.get c).ga 0 true) :
    exec (.indexLookup c) s = .next ⟨s.dev.existence c op, s.pending⟩ := by
  obtain ⟨horizon, intent, reload⟩ := ho
  refine acts_of_flow (i := .indexLookup c) (Eq.refl (execIndexLookup c s)) hw hh ?_
  simp only [Dev.flightOf_of_run hr, horizon, intent, reload, Bool.or_self, Bool.false_eq_true, if_false]

theorem indexLookup_read {r : ReadOp} (hr : (s.dev.ctxs.get c).run = .flight (.read r)) (hn : r.resolved = false)
    (ho : s.dev.mayLookUp (s.dev.ctxs.get c).vh (s.dev.orderStamp c) r.obj r.off (r.opcode == 0x44)) :
    exec (.indexLookup c) s = .next ⟨s.dev.lookup c r, s.pending⟩ := by
  obtain ⟨horizon, intent, reload⟩ := ho
  refine acts_of_flow (i := .indexLookup c) (Eq.refl (execIndexLookup c s)) hw hh ?_
  simp only [Dev.flightOf_of_run hr, hn, horizon, intent, reload, Bool.or_self, Bool.false_eq_true, if_false]

end

/-! ### The lookup of a PATCH or DELETE -/

/-- A PATCH that ends at its lookup gives its pin back. -/
def Dev.unpinPatch (d : Dev) (c op : Nat) : Dev := if op = 0x41 then d.unpin (d.slotNo c) else d

theorem Dev.unpinPatch_idx (d : Dev) (c op : Nat) : (d.unpinPatch c op).idx = d.idx := by
  unfold Dev.unpinPatch
  split
  · exact Dev.unpin_idx ..
  · rfl

section
variable {d : Dev} {c op : Nat}

theorem Dev.existence_none (h : sizeOf' (d.layers (d.ctxs.get c).vh (d.ctxs.get c).ga (d.orderStamp c)) = none) :
    d.existence c op = (d.unpinPatch c op).failWith c St.noObject := by
  simp only [Dev.existence, Dev.unpinPatch, h]

variable {size : Nat} (h : sizeOf' (d.layers (d.ctxs.get c).vh (d.ctxs.get c).ga (d.orderStamp c)) = some size)
include h

theorem Dev.existence_empty (hp : op = 0x41) (hz : (d.ctxs.get c).gd = 0) : d.existence c op = (d.unpinPatch c op).finish c St.ok none 0 0 := by
  subst hp
  simp only [Dev.existence, Dev.unpinPatch, h, hz, and_self, if_true]

theorem Dev.existence_enters (hp : ¬ (op = 0x41 ∧ (d.ctxs.get c).gd = 0)) (hr : d.intentRoom c = true) :
    d.existence c op = (d.enterIntent c).startWrite c (some size) := by
  simp only [Dev.existence, h, if_neg hp, hr, if_true]

end

/-- The size that a write leaves its object with, from the one before. -/
def Write.sizeFrom (w : Write) (before : Nat) : Nat :=
  match w.kind with
  | .put => w.len
  | .patch => max before (w.off + w.len)
  | .delete => 0

/-- An intent that starts stays what the instruction has made it; its size follows from the one before. -/
theorem Dev.startWrite_starts {d : Dev} {c : Nat} {w : Write} (h : d.intentIn c = some w) (before : Option Nat) : ∃ g : Write → Write,
    d.startWrite c before = (d.onWrite w.id g).fly c (.write w.id) ∧ (g w).kind = w.kind ∧ (g w).obj = w.obj ∧ (g w).ctx = w.ctx ∧
      (g w).commit = w.commit ∧ (g w).len = w.len ∧ (g w).off = w.off ∧ (g w).sizeAfter = w.sizeFrom (before.getD 0) := by
  rw [Dev.startWrite, h]
  exact ⟨_, rfl, rfl, rfl, rfl, rfl, rfl, rfl, rfl⟩

/-- An intent that is entered and starts at once stands behind the writes that were there. -/
theorem Dev.enterIntent_written {d : Dev} {c : Nat} (h : d.intentIn c = none) (hn : d.write d.idx.nextWrite = none) (size : Nat) :
    (((d.enterIntent c).startWrite c (some size)).ctxs.get c).run = .flight (.write d.idx.nextWrite) ∧
    ∃ v, ((d.enterIntent c).startWrite c (some size)).idx.writes = d.idx.writes ++ [v] ∧ v.kind = (d.newIntent c).kind ∧ v.obj = (d.newIntent c).obj ∧
      v.ctx = some c ∧ v.commit = none ∧ v.len = (d.newIntent c).len ∧ v.off = (d.newIntent c).off ∧ v.sizeAfter = (d.newIntent c).sizeFrom size := by
  have intent := Dev.enterIntent_intentIn h
  have writes : (d.enterIntent c).idx.writes = d.idx.writes ++ [d.newIntent c] := by simp [Dev.enterIntent]
  obtain ⟨g, starts, kind, obj, ctx, commit, len, off, after⟩ := Dev.startWrite_starts intent (some size)
  have others : d.idx.writes.map (fun v => if v.id = (d.newIntent c).id then g v else v) = d.idx.writes :=
    (List.map_congr_left fun v hv => if_neg (Dev.ne_of_write_none hn v hv)).trans (List.map_id' _)
  refine ⟨Dev.startWrite_run intent (some size), g (d.newIntent c), ?_, kind, obj, ctx, commit, len, off, after⟩
  rw [starts, Dev.fly, Dev.onCtx_idx, Dev.onWrite, Dev.onIdx_idx, writes, List.map_append, others, List.map_singleton, if_pos rfl]

/-! ### The lookup of a read -/

section
variable {d : Dev} {c : Nat} {r : ReadOp}

theorem Dev.refuseRead_ends (hr : (d.ctxs.get c).run = .flight (.read r)) (st : W16) : ∃ d1 : Dev,
    d.refuseRead c st = d1.finish c st (if r.opcode = 0x42 then some 0 else none) 0 0 ∧ d1.idx.writes.length ≤ d.idx.writes.length := by
  refine ⟨(d.when (r.opcode == 0x42) (fun d => d.unpin r.slot)).endReads c, ?_, (Dev.endReads_length ..).trans (Nat.le_of_eq ?_)⟩
  · simp only [Dev.refuseRead, hr, beq_iff_eq]
  · unfold Dev.when
    split
    · rw [Dev.unpin_idx]
    · rfl

section
variable (hm : d.mode = .normal)
include hm

theorem Dev.lookup_none (hz : sizeOf' (d.layers (d.ctxs.get c).vh r.obj r.stampAt) = none) : d.lookup c r = d.refuseRead c St.noObject := by
  have notDrain : decide (d.mode = .drain) = false := by rw [hm]; rfl
  simp only [Dev.lookup, notDrain, Bool.false_and, Bool.false_eq_true, if_false, hz]

/-- A GET within its object that meets no fault is resolved (R87, R114). -/
theorem Dev.lookup_resolves {size : Nat} (hz : sizeOf' (d.layers (d.ctxs.get c).vh r.obj r.stampAt) = some size) (hg : r.opcode = 0x42)
    (ho : r.off ≤ size) (hf : d.readFault r (d.cells (d.layers (d.ctxs.get c).vh r.obj r.stampAt) r.off (min size (r.off + r.want))) = none)
    (hb : (d.buffersOf (planOf (d.cells (d.layers (d.ctxs.get c).vh r.obj r.stampAt) r.off (min size (r.off + r.want))))).all d.holderRoom = true) :
    d.lookup c r = d.resolveRead c size (min size (r.off + r.want) - r.off)
      (planOf (d.cells (d.layers (d.ctxs.get c).vh r.obj r.stampAt) r.off (min size (r.off + r.want)))) := by
  have notDrain : decide (d.mode = .drain) = false := by rw [hm]; rfl
  have notStat : ¬ r.opcode = 0x44 := by rw [hg]; decide
  have notLocate : ¬ r.opcode = 0x53 := by rw [hg]; decide
  simp only [Dev.lookup, notDrain, Bool.false_and, Bool.false_eq_true, if_false, hz, Nat.not_lt.mpr ho, and_false, notStat, notLocate, false_and, hf, hb,
    if_true]

end

/-- A read that needs no tape: what it delivers is fixed, and its buffers are attached. -/
theorem Dev.resolveRead_buffered (hr : (d.ctxs.get c).run = .flight (.read r)) {plan : List Source} (hp : plan.any Source.onTape = false) (size n : Nat) :
    (d.resolveRead c size n plan).idx = d.idx ∧ (d.resolveRead c size n plan).ctxs =
      d.ctxs.set c { d.ctxs.get c with run := .flight (.read { r with resolved := true, size := size, delivered := n, plan := plan }) } := by
  have attached : ∀ {β : Type} (v : Dev → β), (∀ d f, v (Dev.onPools d f) = v d) →
      v (d.each (d.buffersOf plan) (fun d k => d.attach k (.reader c))) = v d := by
    intro β v h
    refine Dev.each_keeps v _ _ _ fun e k => ?_
    unfold Dev.attach
    split
    · rfl
    · split
      · exact h ..
      · rfl
  simp only [Dev.resolveRead, hp, Bool.false_eq_true, if_false, Dev.onRead, Dev.onCtx_idx, Dev.onCtx_ctxs, attached Dev.idx Dev.onPools_idx,
    attached Dev.ctxs Dev.onPools_ctxs, Table.modify, hr, and_self]

end

/-! ### WRITE_COMMIT (R73, R95, R111) -/

/-- The command of a context and its data cursor. -/
def Dev.cmdCursor (c : Nat) (d : Dev) : Option Nat × Nat := ((d.ctxs.get c).cmd, (d.ctxs.get c).dc)

theorem Dev.erasesDone_cmdCursor (d : Dev) (s c : Nat) : (d.erasesDone s).cmdCursor c = d.cmdCursor c := by
  unfold Dev.cmdCursor Dev.erasesDone Table.get
  induction d.ctxs.cells with
  | nil => rfl
  | cons x l ih =>
    simp only [List.map_cons, Table.look]
    split
    · rfl
    · exact ih

theorem Dev.cmdCursor_kept (c : Nat) : Dev.KeptByDrops (Dev.cmdCursor c) where
  stamp d u a := by simp [Dev.cmdCursor]
  setW1f _ _ _ _ _ _ := rfl
  count _ _ _ _ _ := rfl
  onEr _ _ _ := rfl
  onPools _ _ := rfl
  onIdx _ _ _ := rfl
  onCm _ _ := rfl
  onMi _ _ := rfl
  onCs _ _ := rfl
  epoch _ _ := rfl
  notice _ _ _ _ := rfl
  erasesDone d s := d.erasesDone_cmdCursor s c
  onReads _ _ := rfl
  onCx _ _ := rfl
  onVol _ _ := rfl
  onSh _ _ := rfl
  onFm _ _ := rfl

theorem Dev.id_of_write {d : Dev} {id : Nat} {w : Write} (h : d.write id = some w) : w.id = id := by
  have found := List.find?_some h
  exact of_decide_eq_true found

/-- A write as it is a version, committed at a stamp. -/
def Write.committed (w : Write) (t : Stamp) : Write := { w with commit := some t, ctx := none }

/-- The stamp at which a write commits. -/
def Dev.commitStamp (d : Dev) (w : Write) : Stamp := (d.stamp 8 w.arrival.after).1

/-- The version of a write in the index, its buffers still with the context. -/
def Dev.versionIn (d : Dev) (id : Nat) (w : Write) : Dev :=
  ((d.stamp 8 w.arrival.after).2.onWrite id (fun w' =>
    { w' with commit := some (d.commitStamp w), ctx := none, beaten := d.overOf w' })).onIdx Index.noteOver

/-- The version has its galley, and a version of no bytes gives its pin back. -/
def Dev.versionHeld (d : Dev) (c id : Nat) (w : Write) : Dev :=
  let d2 := (d.versionIn id w).each w.bufs (fun d kb => d.passFinisher kb.2 (.ctx c) (.unit .index))
  if w.pinned && w.len == 0 then (d2.onWrite id (fun w => { w with pinned := false })).unpin w.slot else d2

/-- The device as the instruction of a write that has committed finishes. -/
def Dev.committing (d : Dev) (c id : Nat) (w : Write) : Dev :=
  ((d.versionHeld c id w).onCtx c (fun x => { x with dc := x.dc + w.len })).reviewHolds.reap.forcedClose

theorem Dev.passFinisher_keeps {β : Type} (v : Dev → β) (hs : ∀ (d : Dev) (u a : Nat), v (d.stamp u a).2 = v d)
    (hp : ∀ (d : Dev) (f : Pools → Pools), v (d.onPools f) = v d) (d : Dev) (k : Nat) (x y : Holder) : v (d.passFinisher k x y) = v d := by
  unfold Dev.passFinisher
  split
  · rfl
  · exact (hp ..).trans (hs ..)

section
variable (d : Dev) (c id : Nat) (w : Write)

/-- The insertion of a version changes the index, the pools and a pin. -/
theorem Dev.versionHeld_keeps {β : Type} {v : Dev → β} (h : Dev.KeptByDrops v) : v (d.versionHeld c id w) = v d := by
  have held : v ((d.versionIn id w).each w.bufs (fun d kb => d.passFinisher kb.2 (.ctx c) (.unit .index))) = v d :=
    (Dev.each_keeps v _ _ _ fun e kb => Dev.passFinisher_keeps v h.stamp h.onPools ..).trans
      ((h.onReads ..).trans ((h.onWrite ..).trans (h.stamp ..)))
  unfold Dev.versionHeld
  dsimp only
  split
  · exact (h.unpin ..).trans ((h.onWrite ..).trans held)
  · exact held

theorem Dev.settled_keeps {β : Type} {v : Dev → β} (h : Dev.KeptByDrops v) : v d.reviewHolds.reap.forcedClose = v d :=
  (h.byFormes.forcedClose _).trans ((h.reap _).trans (h.reviewHolds _))

theorem Dev.committing_cmdCursor : (d.committing c id w).cmdCursor c = ((d.ctxs.get c).cmd, (d.ctxs.get c).dc + w.len) := by
  have before := d.versionHeld_keeps c id w (Dev.cmdCursor_kept c)
  simp only [Dev.cmdCursor, Prod.mk.injEq] at before
  rw [Dev.committing, Dev.settled_keeps _ (Dev.cmdCursor_kept c), Dev.cmdCursor, Dev.onCtx_ctxs, Table.get_modify_self, before.1, before.2]

theorem Dev.committing_cmds : (d.committing c id w).cmds = d.cmds :=
  (Dev.settled_keeps _ Dev.cmds_kept).trans (d.versionHeld_keeps c id w Dev.cmds_kept)

variable {d id w}

/-- A write that commits is a version of the index as it was written. -/
theorem Dev.versionHeld_holds (hw : d.write id = some w) : (w.committed (d.commitStamp w)).core ∈ (d.versionHeld c id w).cores := by
  have inserted : (w.committed (d.commitStamp w)).core ∈ (d.versionIn id w).cores := by
    have there : w ∈ d.idx.writes := List.mem_of_find?_eq_some hw
    have number : w.id = id := Dev.id_of_write hw
    rw [Dev.versionIn, Dev.cores, Dev.onIdx_idx, Index.noteOver_cores, Dev.onWrite, Dev.onIdx_idx, Dev.stamp_idx, List.map_map]
    refine List.mem_map.mpr ⟨w, there, ?_⟩
    simp only [Function.comp, if_pos number]
    rfl
  have held : ((d.versionIn id w).each w.bufs (fun d kb => d.passFinisher kb.2 (.ctx c) (.unit .index))).cores = (d.versionIn id w).cores :=
    Dev.each_keeps Dev.cores _ _ _ fun e kb => Dev.passFinisher_keeps Dev.cores Dev.cores_kept.stamp (fun _ _ => rfl) ..
  rw [← held] at inserted
  unfold Dev.versionHeld
  dsimp only
  split
  · rw [Dev.cores_of_idx (Dev.unpin_idx ..), Dev.onWrite_cores fun _ => ?_]
    · exact inserted
    · rfl
  · exact inserted

theorem Dev.committing_holds (hw : d.write id = some w) (hd : w.durable = false) :
    (w.committed (d.commitStamp w)).core ∈ (d.committing c id w).cores := by
  rw [Dev.committing, Dev.cores_kept.forcedClose]
  refine Dev.reap_stays ?_ hd
  rw [Dev.reviewHolds_cores]
  exact Dev.versionHeld_holds c hw

end

section
variable {s : State} {c id : Nat} {w : Write} (hw : s.dev.working = true) (hh : s.dev.er.halted = false)
include hw hh

theorem writeCommit_commits (hr : (s.dev.ctxs.get c).run = .flight (.write id)) (hid : s.dev.write id = some w) (hl : w.data.length = w.len)
    (hc : w.commit = none) : exec (.writeCommit c) s =
    .next ⟨((s.dev.committing c id w).finish c St.ok none 0 0 (some (s.dev.commitStamp w))).sealRecords, s.pending⟩ := by
  refine acts_of_flow (i := .writeCommit c) (Eq.refl (execWriteCommit c s)) hw hh ?_
  simp only [Dev.flightOf_of_run hr, hid, hl, hc, ne_eq, not_true_eq_false, Option.isSome_none, Bool.false_eq_true, or_self, if_false,
    Dev.committing, Dev.versionHeld, Dev.versionIn, Dev.commitStamp]

end

/-- An inline command whose instruction commits is decided at the stamp it commits at. -/
theorem Dev.Runs.finish_at {d : Dev} {c : Nat} {m : Cmd} (h : d.Runs c m) (hk : m.sqe.kind ≠ 2) (st : W16) (t : Stamp) :
    (∃ k, (d.finish c st none 0 0 (some t)).decided m.id k ∧ k.status = st ∧ k.stamp = t) ∧
      (d.finish c st none 0 0 (some t)).ctxs.get c = Ctx.reset := by
  have inline : d.isProgram c = false := by rw [h.isProgram, decide_eq_false hk]
  have runs : (d.finishing c st none 0 0 none 0).Runs c m := h.finishing ..
  have completes : d.finish c st none 0 0 (some t) = (d.finishing c st none 0 0 none 0).complete c st 0 t := by
    unfold Dev.finish Dev.finishing
    simp only [inline, Bool.false_and, Bool.false_eq_true, if_false] <;> rfl
  rw [completes]
  unfold Dev.complete
  simp only [runs.cmd]
  exact ⟨⟨_, Dev.decided_congr ((Dev.freeCtx_cmds ..).trans (Dev.releaseHandles_cmds ..)) (Dev.latch_decides runs.mem runs.undecided _), rfl, rfl⟩,
    Dev.freeCtx_get ..⟩

end Sys2Proof.Machine

open Sys2Proof Sys2Proof.Machine

/-- Settles O27: the lookups in their cases, and the commit, whose version stays through what the index then releases and closes. -/
theorem lookupAndCommit : Obligations.LookupAndCommit := by
  intro c s hw hh x st open'
  refine ⟨fun op hx ho hl => ⟨fun hz => ?missing, fun size hz => ⟨fun hp hg => ?empty, fun hp hr hi ho' hn => ?enters⟩⟩,
    fun r hx hn hm hl => ⟨fun hz => ?noObject, fun size hz hg hs => ?resolves⟩,
    fun id w hx hid hu hl hc hctx hd => ⟨?commits, fun m hcmd hm hdone hk => ?decided⟩⟩
  case missing =>
    rw [Finishes, Does, indexLookup_existence hw hh hx hl, Dev.existence_none hz]
    exact ⟨_, rfl, _, 0, 0, none, none, 0, rfl, congrArg Index.writes (Dev.unpinPatch_idx ..)⟩
  case empty =>
    rw [Finishes, Does, indexLookup_existence hw hh hx hl, Dev.existence_empty hz hp hg]
    exact ⟨_, rfl, _, 0, 0, none, none, 0, rfl, congrArg Index.writes (Dev.unpinPatch_idx ..)⟩
  case enters =>
    have notEmpty : ¬ (op = 0x41 ∧ (s.dev.ctxs.get c).gd = 0) := fun h => hp.elim (fun h' => absurd (h.1.symm.trans h') (by decide)) (fun h' => h' h.2)
    rw [Does, indexLookup_existence hw hh hx hl, Dev.existence_enters hz notEmpty hr]
    obtain ⟨run, v, writes, kind, obj, ctx, commit, len, off, after⟩ := Dev.enterIntent_written hi hn size
    refine ⟨_, rfl, run, v, writes, ?_⟩
    rcases ho with rfl | rfl
    · simp [kind, obj, ctx, commit, len, off, after, Dev.newIntent, Write.sizeFrom, show wOp (s.dev.ctxs.get c).ir = 0x41 from ho', writeKind, x]
    · simp [kind, obj, ctx, commit, len, off, after, Dev.newIntent, Write.sizeFrom, show wOp (s.dev.ctxs.get c).ir = 0x43 from ho', writeKind, x]
  case noObject =>
    obtain ⟨d1, refused, length⟩ := Dev.refuseRead_ends hx St.noObject
    rw [Finishes, Does, indexLookup_read hw hh hx hn hl, Dev.lookup_none hm hz, refused]
    exact ⟨_, rfl, d1, 0, 0, none, none, 0, rfl, length⟩
  case resolves =>
    intro cells hf ht hb r1
    rw [Does, indexLookup_read hw hh hx hn hl, Dev.lookup_resolves hm hz hg hs hf hb]
    exact ⟨_, rfl, Dev.resolveRead_buffered hx ht size _⟩
  case commits =>
    refine ⟨_, writeCommit_commits hw hh hx hid hl hc, _, _, rfl, Dev.after_le_stamp .., ?_, ?_⟩
    · exact congrArg Prod.snd (s.dev.committing_cmdCursor c id w)
    · obtain ⟨v, hv, core⟩ := List.mem_map.mp (Dev.committing_holds c hid hd)
      obtain ⟨number, commit, ctx, obj, len, slot, kind⟩ := Write.same_of_core core
      exact ⟨v, hv, (show v.id = w.id from number).trans (Dev.id_of_write hid), commit, ctx, obj, len, slot, kind⟩
  case decided =>
    have runs : (s.dev.committing c id w).Runs c m :=
      Dev.Runs.congr ⟨hcmd, hm, hdone⟩ (congrArg Prod.fst (s.dev.committing_cmdCursor c id w)) (s.dev.committing_cmds c id w)
    obtain ⟨⟨k, decided, status, stamp⟩, reset⟩ := runs.finish_at hk St.ok (s.dev.commitStamp w)
    refine ⟨_, writeCommit_commits hw hh hx hid hl hc, ⟨k, Dev.decided_congr (Dev.cmds_kept.byFormes.sealRecords _) decided, status, ?_⟩, ?_⟩
    · rw [stamp]
      exact Dev.after_le_stamp ..
    · rw [(Dev.hostSide_eq (Dev.hostSide_byFormes.sealRecords _)).1, reset]

end

section
/-! INSTRUCTION_FINISH of what is under way (R74, R95, R98, R137, R138, R158, R228), and the rebuild of the index (R120, R121). -/

namespace Sys2Proof.Machine

/-! ### The end of a read -/

theorem Dev.reads_kept : Dev.KeptByBuffers (fun d => d.idx.reads) where
  stamp d u a := by simp
  setW1f _ _ _ _ _ _ := rfl
  count _ _ _ _ _ := rfl
  onEr _ _ _ := rfl
  onPools _ _ := rfl
  onIdx d f h := h d.idx
  onCm _ _ := rfl
  onMi _ _ := rfl
  onCs _ _ := rfl

/-- A context whose reads have ended has none registered (R89). -/
theorem Dev.endReads_unread (d : Dev) (c : Nat) : ∀ y ∈ (d.endReads c).idx.reads, y.ctx ≠ c := by
  have decoded : ∀ e : Dev, e.dropDecoded.idx.reads = e.idx.reads := fun e => by
    unfold Dev.dropDecoded
    split
    · rfl
    · refine Eq.trans rfl (Dev.each_keeps (fun d => d.idx.reads) _ _ _ fun e f => ?_)
      split
      · exact Dev.reads_kept.giveBack ..
      · rfl
  unfold Dev.endReads
  extract_lets d0 d1 d2
  have freed : d2.idx.reads = d1.idx.reads := Dev.each_keeps (fun d => d.idx.reads) _ _ _ fun e k => by
    split
    · exact Dev.each_keeps (fun d => d.idx.reads) _ _ _ fun e x => Dev.reads_kept.release ..
    · rfl
  rw [Dev.reads_kept.reap, Dev.reads_kept.reviewHolds, decoded, freed]
  intro y hy
  exact of_decide_eq_true (List.mem_filter.mp hy).2

theorem Dev.hosts_kept : Dev.KeptByDrops Dev.hosts where
  stamp d u a := by simp [Dev.hosts]
  setW1f _ _ _ _ _ _ := rfl
  count _ _ _ _ _ := rfl
  onEr _ _ _ := rfl
  onPools _ _ := rfl
  onIdx _ _ _ := rfl
  onCm _ _ := rfl
  onMi _ _ := rfl
  onCs _ _ := rfl
  epoch _ _ := rfl
  notice _ _ _ _ := rfl
  erasesDone _ _ := rfl
  onReads _ _ := rfl
  onCx _ _ := rfl
  onVol _ _ := rfl
  onSh _ _ := rfl
  onFm _ _ := rfl

/-- The data cursor of a context and the host memory of its command. -/
def Dev.dataSide (c : Nat) (d : Dev) : Nat × Table Byte 0 := ((d.ctxs.get c).dc, d.mem c)

/-- What keeps the command of a context, the commands and the host memories keeps the memory of its command. -/
theorem Dev.dataSide_of {d e : Dev} {c : Nat} (hx : e.cmdCursor c = d.cmdCursor c) (hc : e.cmds = d.cmds) (hh : e.hosts = d.hosts) :
    e.dataSide c = d.dataSide c := by
  have cmdOf : e.cmdOf c = d.cmdOf c := Dev.cmdOf_congr (congrArg Prod.fst hx) hc
  rw [Dev.dataSide, Dev.dataSide, Dev.mem_congr cmdOf hh, show (e.ctxs.get c).dc = (d.ctxs.get c).dc from congrArg Prod.snd hx]

theorem Dev.endReads_dataSide (d : Dev) (c : Nat) : (d.endReads c).dataSide c = d.dataSide c :=
  Dev.dataSide_of ((Dev.cmdCursor_kept c).endReads ..) (Dev.cmds_kept.endReads ..) (Dev.hosts_kept.endReads ..)

theorem Dev.unpin_dataSide (d : Dev) (c n : Nat) : (d.unpin n).dataSide c = d.dataSide c :=
  Dev.dataSide_of ((Dev.cmdCursor_kept c).unpin ..) (Dev.cmds_kept.unpin ..) (Dev.hosts_kept.unpin ..)

theorem Dev.dropFlight_dataSide (d : Dev) (c : Nat) : (d.dropFlight c).dataSide c = d.dataSide c :=
  Dev.dataSide_of ((Dev.cmdCursor_kept c).dropFlight ..) (Dev.cmds_kept.dropFlight ..) (Dev.hosts_kept.dropFlight ..)

/-- A change of the data cursor alone. -/
theorem Dev.dataSide_onCtx (d : Dev) (c : Nat) {f : Ctx → Ctx} (hf : ∀ x, (f x).cmd = x.cmd) :
    (d.onCtx c f).dataSide c = ((f (d.ctxs.get c)).dc, d.mem c) := by
  rw [Dev.dataSide, d.mem_onCtx c f hf, Dev.onCtx_ctxs, Table.get_modify_self]

theorem Dev.memWrite_dataSide (d : Dev) (c : Nat) (rs : List (Nat × Nat)) (bs : List Byte) :
    (d.memWrite c rs bs).dataSide c = ((d.ctxs.get c).dc, writeRanges (d.mem c) rs bs) := by
  rw [Dev.dataSide, Dev.memWrite_ctxs, Dev.memWrite_mem]

theorem Dev.deliverPlan_ctxs (d : Dev) (c : Nat) (r : ReadOp) : (d.deliverPlan c r).ctxs = d.ctxs := Dev.each_keeps Dev.ctxs _ _ _ fun e s => by
  cases s with
  | version id off len =>
    dsimp only
    split
    · exact Dev.memWrite_ctxs ..
    · rfl
  | gap off len => exact Dev.memWrite_ctxs ..
  | extent e off len => rfl

theorem statRecord_length (d : Dev) (vh : W32) (r : ReadOp) (l : Layer) : (d.statRecord vh r l).length = 64 := by
  simp [Dev.statRecord, Dev.statStamp, leBytes_length, zeros]

theorem writeRanges_whole (m : Table Byte 0) (a : Nat) {n : Nat} {bs : List Byte} (h : bs.length = n) : writeRanges m [(a, n)] bs = writeBytes m a bs := by
  rw [writeRanges, writeRanges, List.take_of_length_le (Nat.le_of_eq h)]

section
variable {d : Dev} {c : Nat} {r : ReadOp} (hr : r.resolved = true)
include hr

theorem Dev.readDone_get (ho : r.opcode = 0x42) (ht : r.tapeDone = true) (hm : d.mayRequest c = true) (hw : d.walked c (r.dest + r.delivered) = true) :
    ∃ d1 : Dev, d.readDone c r = d1.finish c St.ok (some (toW64 r.delivered)) 0 0 ∧ (∀ y ∈ d1.idx.reads, y.ctx ≠ c) ∧
      d1.dataSide c = ((d.ctxs.get c).dc + r.delivered, (d.deliverPlan c r).mem c) := by
  refine ⟨(((d.deliverPlan c r).onCtx c (fun x => { x with dc := x.dc + r.delivered, info := x.info || r.rawSeen })).unpin r.slot).endReads c, ?_,
    Dev.endReads_unread _ _, ?_⟩
  · simp only [Dev.readDone, hr, Bool.not_true, Bool.false_eq_true, if_false, ho, if_true, Dev.getDone, ht, hm, hw, or_self, Dev.readOk]
  · rw [Dev.endReads_dataSide, Dev.unpin_dataSide, Dev.dataSide_onCtx, Dev.deliverPlan_ctxs]
    exact fun _ => rfl

theorem Dev.readDone_stat (ho : r.opcode = 0x44) (hm : d.mayRequest c = true) {l : Layer}
    (hl : (d.layers (d.ctxs.get c).vh r.obj r.stampAt).getLast? = some l) :
    ∃ d1 : Dev, d.readDone c r = d1.finish c St.ok (some (toW64 r.size)) 0 0 ∧ (∀ y ∈ d1.idx.reads, y.ctx ≠ c) ∧
      d1.mem c = writeBytes (d.mem c) r.dest (d.statRecord (d.ctxs.get c).vh r l) := by
  refine ⟨({ d with draws := d.draws + 2 }.memWrite c [(r.dest, 64)] (d.statRecord (d.ctxs.get c).vh r l)).endReads c, ?_, Dev.endReads_unread _ _, ?_⟩
  · have notGet : ¬ r.opcode = 0x42 := by rw [ho]; decide
    simp only [Dev.readDone, hr, Bool.not_true, Bool.false_eq_true, if_false, notGet, if_pos ho, Dev.statDone, hm, hl, Dev.readOk]
  · refine (congrArg Prod.snd (Dev.endReads_dataSide ..)).trans ?_
    refine (Dev.memWrite_mem ..).trans ?_
    rw [writeRanges_whole _ _ (statRecord_length ..)]
    exact congrArg (writeBytes · r.dest _) (Dev.mem_congr rfl rfl)

theorem Dev.readDone_locate (ho : r.opcode = 0x53) (hp : r.plan.any Source.onTape = false) :
    ∃ d1 : Dev, d.readDone c r = d1.finish c St.ok none 0 0 ∧ ∀ y ∈ d1.idx.reads, y.ctx ≠ c := by
  refine ⟨d.endReads c, ?_, Dev.endReads_unread _ _⟩
  have notGet : ¬ r.opcode = 0x42 := by rw [ho]; decide
  have notStat : ¬ r.opcode = 0x44 := by rw [ho]; decide
  simp only [Dev.readDone, hr, Bool.not_true, Bool.false_eq_true, if_false, notGet, notStat, Dev.locateDone, hp, Bool.false_and, Dev.readOk]

end

/-! ### The other instructions -/

theorem Dev.compressDone_writes {d : Dev} {c cap size need : Nat} {bs : List Byte} {raw : Bool}
    (hr : d.compressRun c (blockCountOf need size) 0 cap = (bs, raw, .good)) (hm : d.mayRequest c = true) (hl : bs.length ≤ (d.outputWalk c).total) :
    ∃ d1 : Dev, d.compressDone c cap size need = d1.finish c St.ok (some (toW64 bs.length)) 0 0 ∧
      d1.dataSide c = ((d.ctxs.get c).dc + need, writeRanges (d.mem c) (subRanges (d.outputWalk c).ranges 0 bs.length) bs) := by
  refine ⟨((d.memWrite c (subRanges (d.outputWalk c).ranges 0 bs.length) bs).onCtx c (fun x =>
    { x with dc := x.dc + need, info := x.info || raw })).dropFlight c, ?_, ?_⟩
  · simp only [Dev.compressDone, hr, Dev.writeOutput, hm, Bool.not_true, Bool.false_eq_true, Nat.not_lt.mpr hl, or_self, if_false]
  · rw [Dev.dropFlight_dataSide, Dev.dataSide_onCtx, Dev.memWrite_ctxs, Dev.memWrite_mem]
    exact fun _ => rfl

theorem Dev.threadDone_ends {d : Dev} (h : d.tc.posValid = true) (c : Nat) : ∃ d1 : Dev, d.threadDone c = d1.finish c St.ok none 0 0 ∧
    d1.vol.cart = d.vol.cart.map (fun k => { k with threaded := true }) :=
  ⟨d.restTape.onCart (fun k => { k with threaded := true }), by simp only [Dev.threadDone, h, Bool.not_true, Bool.false_eq_true, if_false],
    by rw [Dev.onCart, Dev.onVol_vol, Dev.restTape_vol]⟩

theorem Dev.unthreadDone_ends (d : Dev) (c : Nat) : ∃ d1 : Dev, d.unthreadDone c = d1.finish c St.ok none 0 0 ∧
    d1.vol.cart = d.vol.cart.map (fun k => { k with threaded := false }) ∧ d1.tc.posValid = false :=
  ⟨(d.restTape.onCart (fun k => { k with threaded := false })).onTc (fun t => { t with posValid := false }), rfl,
    by rw [Dev.onTc_vol, Dev.onCart, Dev.onVol_vol, Dev.restTape_vol], by rw [Dev.onTc_tc]⟩

/-- Every engine's instruction cache is empty (R61). -/
def Dev.emptyCaches (d : Dev) : Dev :=
  { d with engines := ⟨(d.engines.cells.map (fun e => (e.1, { e.2 with lines := [] }))).filter (fun e => decide (e.2 ≠ Engine.reset))⟩ }

theorem Dev.emptyCaches_lines (d : Dev) (e : Nat) : (d.emptyCaches.engines.get e).lines = [] := by
  unfold Dev.emptyCaches Table.get
  induction d.engines.cells with
  | nil => rfl
  | cons x l ih =>
    rw [List.map_cons, List.filter_cons]
    split
    · simp only [Table.look]
      split
      · rfl
      · exact ih
    · exact ih

theorem Dev.fenceDone_ends {d : Dev} {c : Nat} (h : d.fenceWaits c = false) (inv : Bool) : ∃ d1 : Dev, d.fenceDone c inv = d1.finish c St.ok none 0 0 ∧
    (inv = true → ∀ e, (d1.engines.get e).lines = []) := by
  refine ⟨if inv then d.emptyCaches else d, ?_, ?_⟩
  · simp only [Dev.fenceDone, h, Bool.false_eq_true, if_false, Dev.emptyCaches]
  · rintro rfl
    exact d.emptyCaches_lines

/-! ### The rebuild of the index (R120, R121) -/

theorem Index.placed_place (x : Index) (vh : W32) (obj : W64) (sess : Nat) : (x.place vh obj sess).placed vh obj = true := by
  rw [Index.place]
  split
  · assumption
  · simp [Index.placed]

theorem Index.placed_stays {x : Index} {vh : W32} {obj : W64} (h : x.placed vh obj = true) (vh' : W32) (obj' : W64) (sess : Nat) :
    (x.place vh' obj' sess).placed vh obj = true := by
  rw [Index.place]
  split
  · exact h
  · rw [Index.placed] at h ⊢
    rw [List.any_append, h, Bool.true_or]

/-- The objects of a list that are placed one after the other all have their position. -/
theorem Index.placed_foldl (l : List (W32 × W64 × Nat)) (x : Index) {vh : W32} {obj : W64}
    (h : x.placed vh obj = true ∨ ∃ o ∈ l, o.1 = vh ∧ o.2.1 = obj) :
    (l.foldl (fun x o => x.place o.1 o.2.1 o.2.2) x).placed vh obj = true := by
  induction l generalizing x with
  | nil => exact h.resolve_right (by simp)
  | cons o l ih =>
    refine ih _ ?_
    rcases h with h | ⟨p, hp, rfl, rfl⟩
    · exact .inl (Index.placed_stays h ..)
    · rcases List.mem_cons.mp hp with rfl | hp
      · exact .inl (Index.placed_place ..)
      · exact .inr ⟨p, hp, rfl, rfl⟩

/-- The row of BP_IXCTL in the register map. -/
def ixctl : RegDesc := mkReg Reg.BP_IXCTL 1 0 1 0 [fd 31 31 .ro 0, fd 30 28 .ro 0, fd 0 0 .wo 0]

theorem findReg_ixctl : findReg Reg.BP_IXCTL = some ixctl := by decide

/-- The device once BP_IXCTL has been written: none of its fields is held by a register. -/
def Dev.ixctlWritten (d : Dev) (p : PortId) : Dev := d.setRegB Reg.BP_IXCTL (d.bankOf p Reg.BP_IXCTL) (d.regB Reg.BP_IXCTL (d.bankOf p Reg.BP_IXCTL))

theorem Dev.writeReg_ixctl {d : Dev} {path : Path} (hw : d.working = true) :
    d.writeReg path Reg.BP_IXCTL 1 = (d.ixctlWritten (pathPort path)).rebuildIndex path 1 := by
  have mask : w1cMask ixctl 1 = 0 := rfl
  have whole : breaksWhole ixctl.base 1 = false := rfl
  have base : ixctl.base = Reg.BP_IXCTL := rfl
  have works : (d.ixctlWritten (pathPort path)).working = true := hw
  have fields : ∀ p old, d.takeFields p ixctl Reg.BP_IXCTL old 1 = (old, false) := fun p old => by
    simp [Dev.takeFields, Dev.takeField, ixctl, mkReg, fd]
  have taken : d.writeKnown path ixctl Reg.BP_IXCTL 1 =
      if bitOf (1 : W32) 0 = true ∧ (d.ixctlWritten (pathPort path)).working then (d.ixctlWritten (pathPort path)).rebuildIndex path 1
      else d.ixctlWritten (pathPort path) := by
    simp only [Dev.writeKnown, fields, mask, whole, Bool.false_eq_true, false_and, if_false, Dev.clearBits, if_true]
    rfl
  simp only [Dev.writeReg, findReg_ixctl, base]
  rw [if_neg (by decide), if_neg (by decide), if_neg (by decide), taken, if_pos ⟨by decide, works⟩]

theorem Dev.startRebuild_starts (d : Dev) (p : PortId) :
    ((d.ixctlWritten p).startRebuild 3).idx = { d.idx with rebuilding := true, saltInForce := d.reg Reg.BP_IXSALT, table := [] } ∧
      ((d.ixctlWritten p).startRebuild 3).w1f Reg.BP_IXCTL 0 30 28 = 3 := by
  have salt : (d.ixctlWritten p).reg Reg.BP_IXSALT = d.reg Reg.BP_IXSALT := d.regB_setRegB_ne _ _ _ (by decide) (by decide) (by decide)
  refine ⟨?_, Dev.w1f_setW1f_same _ _ _ _ (by decide) (by decide)⟩
  rw [← salt]
  rfl

theorem Dev.rebuildIndex_starts {d : Dev} (h : d.idx.rebuilding = false) (path : Path) (v : W32) : d.rebuildIndex path v = d.startRebuild 3 := by
  rw [Dev.rebuildIndex, h]
  rfl

theorem Dev.rebuildIndex_refused {d : Dev} (h : d.idx.rebuilding = true) (path : Path) (v : W32) :
    d.rebuildIndex path v = d.regEvent path Reg.BP_IXCTL v := by
  rw [Dev.rebuildIndex, h]
  rfl

/-- A C0 event is the last record of the log. -/
theorem Dev.note_c0 (d : Dev) {r : Report} (h : r.cls = .c0) : ∃ k, (d.note r).er.log.getLast? = some k ∧ k.cls = .c0 := by
  obtain ⟨e, s, last⟩ := d.note_last (r := r) (by rw [h]; decide)
  exact ⟨_, last, h⟩

theorem Dev.regEvent_logs (d : Dev) (path : Path) (a : Nat) (v : W32) : (d.regEvent path a v).idx = d.idx ∧
    ∃ k, (d.regEvent path a v).er.log.getLast? = some k ∧ k.cls = .c0 := ⟨Dev.note_idx .., Dev.note_c0 _ rfl⟩

end Sys2Proof.Machine

open Sys2Proof Sys2Proof.Machine

/-- Settles O33: each instruction ends where its work is done, and a rebuild starts, is refused and ends. -/
theorem instructionsFinish : Obligations.InstructionsFinish := by
  intro c s hw hh x fin unread
  have ends : ∀ {f : Flight} {out : Option W64} {P : Dev → Prop} {d1 : Dev},
      (x.run = .flight f → s.dev.flightDone c f = d1.finish c St.ok out 0 0) → P d1 → fin f out P := fun hd hp hx => instructionFinish_done hw hh hx ⟨_, by rw [hd hx], hp⟩
  refine ⟨fun r hr ho ht hm hl => ?get, fun r l hr ho hm hl => ?stat, fun r hr ho hp => ?locate, fun cap size need taken bs raw hr hm hl => ?compress,
    fun hv => ?thread, ?unthread, fun hf inv t => ?fence, fun t ht => ends (fun _ => ?abort) rfl, fun n hn => ends (fun _ => ?erase) rfl,
    fun n k hr => ends (fun _ => ?eraseNow) rfl, fun hx => ?fails, fun path hp hr => ?rebuild, fun path hp hr => ?refused, fun n hr => ?done⟩
  case get =>
    obtain ⟨d1, finishes, reads, side⟩ := Dev.readDone_get hr ho ht hm hl
    exact ends (fun _ => finishes) ⟨reads, congrArg Prod.fst side, congrArg Prod.snd side⟩
  case stat =>
    obtain ⟨d1, finishes, reads, mem⟩ := Dev.readDone_stat hr ho hm hl
    exact ends (fun _ => finishes) ⟨reads, mem, statRecord_length ..⟩
  case locate =>
    obtain ⟨d1, finishes, reads⟩ := Dev.readDone_locate (d := s.dev) (c := c) hr ho hp
    exact ends (fun _ => finishes) reads
  case compress =>
    obtain ⟨d1, finishes, side⟩ := Dev.compressDone_writes hr hm hl
    exact ends (fun _ => finishes) ⟨congrArg Prod.fst side, congrArg Prod.snd side⟩
  case thread =>
    obtain ⟨d1, finishes, cart⟩ := Dev.threadDone_ends hv c
    exact ends (fun _ => finishes) cart
  case unthread =>
    obtain ⟨d1, finishes, cart⟩ := s.dev.unthreadDone_ends c
    exact ends (fun _ => finishes) cart
  case fence =>
    obtain ⟨d1, finishes, caches⟩ := Dev.fenceDone_ends hf inv
    exact ends (fun _ => finishes) caches
  case abort => simp only [Dev.flightDone, ht, Option.isNone_none, if_true]
  case erase => simp only [Dev.flightDone, hn, Bool.not_false, and_self, if_true]
  case eraseNow => simp only [Dev.flightDone, hr, Bool.not_false, and_self, if_true]
  case fails =>
    rcases hx with hx | hx
    · exact instructionFinish_failed hw hh hx rfl ⟨s.dev, 0, 0, none, none, 0, rfl, rfl⟩
    · exact instructionFinish_failed hw hh hx rfl ⟨s.dev, 0, 0, none, none, 0, rfl, rfl⟩
  case rebuild =>
    refine write_writable (i := .indexRebuild path) (Eq.refl (execIndexRebuild path s)) hp ?_
    rw [Dev.writeReg_ixctl hw, Dev.rebuildIndex_starts (d := s.dev.ixctlWritten (pathPort path)) hr]
    exact Dev.startRebuild_starts ..
  case refused =>
    refine write_writable (i := .indexRebuild path) (Eq.refl (execIndexRebuild path s)) hp ?_
    rw [Dev.writeReg_ixctl hw, Dev.rebuildIndex_refused (d := s.dev.ixctlWritten (pathPort path)) hr]
    exact Dev.regEvent_logs ..
  case done =>
    refine Does.of_whenDev (i := .indexRebuildDone n) (Eq.refl (execIndexRebuildDone n s)) (by rw [hw, hr]; rfl) ⟨rfl, ?_, fun o ho => ?_⟩
    · exact (Dev.w1f_setW1f_same _ _ _ _ (by decide) (by decide)).trans (Nat.mod_eq_of_lt (by omega))
    · exact Index.placed_foldl s.dev.idx.spine s.dev.idx (.inr ⟨o, ho, rfl, rfl⟩)

end

section
/-! A C5 turns every head link off (R13, R289), so the loss of an ACTIVE link whose C4 is under recovery does not leave it in REPAIR. -/

namespace Sys2Proof.Machine

/-! ### The links, the scheduler and the contexts at a C5 (R13, R289) -/

/-- The links, the sheaf scheduler and the contexts. -/
def Dev.lanes (d : Dev) : Table Link Link.reset × Sheaf × Table Ctx Ctx.reset := (d.links, d.sh, d.ctxs)

theorem Dev.stamp_lanes (d : Dev) (u a : Nat) : (d.stamp u a).2.lanes = d.lanes := by
  simp only [Dev.lanes, Dev.stamp_links, Dev.stamp_sh, Dev.stamp_ctxs]

theorem Dev.log_lanes (d : Dev) (r : Report) (b : Bool) : (d.log r b).2.2.lanes = d.lanes := by
  simp only [Dev.lanes, Dev.log_links, Dev.log_sh, Dev.log_ctxs]

theorem Dev.onEr_lanes (d : Dev) (f : Errors → Errors) : (d.onEr f).lanes = d.lanes := rfl
theorem Dev.notice_lanes (d : Dev) (k : NoticeKind) (r : W64) (s : Stamp) : (d.notice k r s).lanes = d.lanes := rfl
theorem Dev.latch_lanes (d : Dev) (id : Nat) (k : Completion) : (d.latch id k).lanes = d.lanes := rfl
theorem Dev.onFu_lanes (d : Dev) (f : Fuses → Fuses) : (d.onFu f).lanes = d.lanes := rfl

theorem Dev.armSnap_lanes (d : Dev) (source t : Nat) : (d.armSnap source t).lanes = d.lanes := by simp [Dev.armSnap, Dev.lanes]

theorem Dev.burnEvent_lanes (d : Dev) (cause detail : Nat) : (d.burnEvent cause detail).lanes = d.lanes := by
  unfold Dev.burnEvent
  split
  · exact Dev.log_lanes ..
  · rw [Dev.onFu_lanes, Dev.stamp_lanes]

theorem Dev.loss_lanes (d : Dev) (cause member seq : Nat) (ws : List Write) : (d.loss cause member seq ws).lanes = d.lanes := by
  unfold Dev.loss
  split
  · rfl
  · dsimp only
    split <;> rw [Dev.notice_lanes, Dev.onEr_lanes, Dev.stamp_lanes]

theorem Dev.undefine_lanes (d : Dev) (m : Cmd) : (d.undefine m).lanes = d.lanes := by
  unfold Dev.undefine
  dsimp only
  split
  · exact d.onMemAt_keeps Dev.lanes _ _ fun _ _ _ => rfl
  · rfl

theorem Dev.failAll_lanes (d : Dev) : d.failAll.lanes = d.lanes :=
  Dev.each_keeps Dev.lanes _ _ _ fun _ _ => by rw [Dev.undefine_lanes, Dev.latch_lanes, Dev.stamp_lanes]

/-- With every context free there is none to stop. -/
theorem Dev.stopContexts_idle {d : Dev} (h : ∀ c, (d.ctxs.get c).run = .free) : d.stopContexts = d := by
  unfold Dev.stopContexts Dev.each
  induction List.range 256 with
  | nil => rfl
  | cons c l ih => rw [List.foldl_cons, if_pos (h c), ih]

theorem Dev.stopLinks_sh (d : Dev) : d.stopLinks.sh = d.sh := Dev.each_keeps Dev.sh _ _ _ fun _ _ => rfl

theorem Dev.stopLinks_ctxs (d : Dev) : d.stopLinks.ctxs = d.ctxs := Dev.each_keeps Dev.ctxs _ _ _ fun _ _ => rfl

theorem Dev.onBoot_lanes (d : Dev) (f : Boot → Boot) : (d.onBoot f).lanes = d.lanes := rfl

/-- Devices alike in their lanes are alike in each of them. -/
theorem Dev.lanes_eq {d e : Dev} (h : e.lanes = d.lanes) : e.links = d.links ∧ e.sh = d.sh ∧ e.ctxs = d.ctxs := by
  simpa only [Dev.lanes, Prod.mk.injEq] using h

theorem Dev.failDevice_lanes {d : Dev} (h : ∀ c, (d.ctxs.get c).run = .free) (seq : Nat) :
    (d.failDevice seq).lanes = ({ d with tc := d.tc.toSafe } : Dev).stopLinks.lanes := by
  have ctxs := ({ d with tc := d.tc.toSafe } : Dev).stopLinks_ctxs
  unfold Dev.failDevice
  generalize ({ d with tc := d.tc.toSafe } : Dev).stopLinks = e at *
  dsimp only
  split
  · have same : ∀ ws, (((e.onEr fun x => { x with failed := true, halted := false }).loss 5 0 seq ws).failAll).lanes = e.lanes := fun ws => by
      rw [Dev.failAll_lanes, Dev.loss_lanes, Dev.onEr_lanes]
    rw [Dev.stopContexts_idle, same]
    rw [(Dev.lanes_eq (same _)).2.2, ctxs]
    exact h
  · rw [Dev.onBoot_lanes, Dev.onEr_lanes]

/-- A C5 turns every link off; contexts that are free, and the scheduler, it leaves as they are. -/
theorem Dev.raiseC5_links {d : Dev} (hf : d.er.failed = false) (h : ∀ c, (d.ctxs.get c).run = .free) (r : Report) (cause detail : Nat) :
    (∀ t, t < 16 → ((d.raiseC5 r cause detail).links.get t).st = .disabled) ∧ (d.raiseC5 r cause detail).sh = d.sh ∧
      (d.raiseC5 r cause detail).ctxs = d.ctxs := by
  unfold Dev.raiseC5
  extract_lets snap l d1 d2 d3 d4
  have logged : d1.lanes = d.lanes := Dev.log_lanes ..
  clear_value d1
  have before : d2.lanes = d.lanes := by
    simp only [d2]
    split
    · rw [Dev.onEr_lanes, Dev.armSnap_lanes, logged]
    · exact logged
  clear_value d2
  obtain ⟨-, sh, ctxs⟩ := Dev.lanes_eq before
  have after : (d4.burnEvent cause detail).lanes = ({ d2 with tc := d2.tc.toSafe } : Dev).stopLinks.lanes := by
    rw [Dev.burnEvent_lanes, ← Dev.failDevice_lanes (fun c => by rw [ctxs]; exact h c) l.1]
    simp only [d4, d3, hf, Bool.false_eq_true, if_false, apply_ite Dev.lanes, Dev.notice_lanes, Dev.onEr_lanes, ite_self]
  obtain ⟨links', sh', ctxs'⟩ := Dev.lanes_eq after
  rw [links', sh', ctxs', Dev.stopLinks_sh, Dev.stopLinks_ctxs]
  exact ⟨fun t => Dev.stopLinks_disabled _, sh, ctxs⟩

/-! ### The loss of a link whose C4 is under recovery -/

/-- With no run, no read turn and no LOAD there is nothing that the loss of a link cuts short. -/
theorem Dev.linkGone_links {d : Dev} (hr : d.sh.running = false) (ht : d.sh.readTurn = false) (hl : d.loading = false) :
    d.linkGone.links = d.links := by
  have cut : d.interruptRun .idle = d.cutRing := by rw [Dev.interruptRun, hr]; rfl
  have turn : d.cutRing.sh.readTurn = false := ht
  have load : d.cutRing.loading = false := hl
  rw [Dev.linkGone, cut, Dev.linkShort, load, turn]
  rfl

/-- A C3 of a unit whose C4 recovery is under way is a C5 (R290): it turns every link off. -/
theorem Dev.raise_ofC4 {d : Dev} {r : Report} {p : Pend} (hr : r.cls = .c3) (hf : d.er.failed = false)
    (hp : d.er.pend.find? (fun p => decide (p.unit = r.unit) && p.underWay) = some p) (hc : p.cls = .c4) (h : ∀ c, (d.ctxs.get c).run = .free) :
    (∀ t, t < 16 → ((d.raise r).links.get t).st = .disabled) ∧ (d.raise r).sh = d.sh ∧ (d.raise r).ctxs = d.ctxs := by
  have escalates : d.raise r = d.raiseC5 { r with flags := r.flags ||| 1, related := p.seq } 3 r.cat := by
    simp only [Dev.raise, hr, Dev.raiseHigh, hf, hp, hc, Bool.false_eq_true, if_false, true_or, if_true]
  rw [escalates]
  exact Dev.raiseC5_links hf h ..

/-- The fault of an ACTIVE link is its loss. -/
theorem unitFault_link {s : State} {t : Nat} (ht : t < 16) (hf : (s.dev.working && s.dev.canFault ⟨0x11, t⟩) = true) (ha : s.dev.linkActive t = true) :
    exec (.unitFault ⟨0x11, t⟩) s = .next ⟨s.dev.linkLost t, s.pending⟩ := by
  refine (State.whenDev_of (g := fun d => d.working && d.canFault ⟨0x11, t⟩) _ hf).trans ?_
  simp only [State.onDev, ht, ha, and_self, if_true]
  rfl

/-- What a command is said to do holds of the device it answers. -/
theorem Does.answered {i : Instr} {s : State} {P : Dev → Prop} {d : Dev} (h : Does i s P) (hd : exec i s = .next ⟨d, s.pending⟩) : P d := by
  obtain ⟨e, he, hP⟩ := h
  rw [hd] at he
  cases he
  exact hP

/-- A C4 of head link 0 whose recovery is active. -/
def linkZeroPend : Pend :=
  { cls := .c4, unit := ⟨0x11, 0⟩, seq := 0, st := .active, epochAt := 0, stamp := ⟨900, 0x12⟩, tries := 0, head := false, began := 950 }

/-- A started device whose head link 0 is ACTIVE and in service while that recovery runs, as ERROR_RAISE and RECOVERY_START leave it. -/
def recoveringLink : Dev := { Dev.reset with
  clk := { Clock.reset with now := 1000, running := true }
  boot := { Boot.reset with pwrLow := false, stage := 6, bootDone := true, fillDone := true, discoveryDone := true, ready := true }
  links := Table.empty.set 0 { Link.reset with st := .active }
  er := { Errors.reset with seq := 1, halted := true, pend := [linkZeroPend] } }

theorem recoveringLink_canFault : recoveringLink.alive = true ∧ (recoveringLink.working && recoveringLink.canFault ⟨0x11, 0⟩) = true ∧
    recoveringLink.isFenced ⟨0x11, 0⟩ = false ∧ (recoveringLink.links.get 0).st = .active := by decide

/-- The loss of that link fails the device, and leaves the link DISABLED. -/
theorem recoveringLink_lost : ((recoveringLink.linkLost 0).links.get 0).st = .disabled := by
  unfold Dev.linkLost
  extract_lets d1
  have er : d1.er = recoveringLink.er := by simp [d1, Dev.linkTo]
  have sh : d1.sh = recoveringLink.sh := by simp [d1, Dev.linkTo]
  have ctxs : d1.ctxs = recoveringLink.ctxs := by simp [d1, Dev.linkTo]
  clear_value d1
  obtain ⟨off, sh', ctxs'⟩ := Dev.raise_ofC4 (d := d1) (r := d1.linkReport 0 .c3) (p := linkZeroPend) rfl (by rw [er]; rfl) (by rw [er]; rfl) rfl
    (fun c => by rw [ctxs]; rfl)
  rw [Dev.linkGone_links (by rw [sh', sh]; rfl) (by rw [sh', sh]; rfl) (by rw [Dev.loading, Dev.flightsThat, ctxs', ctxs]; rfl)]
  exact off 0 (by decide)

end Sys2Proof.Machine

open Sys2Proof Sys2Proof.Machine

/-- Refutes O49: an ACTIVE link in service is not always lost to REPAIR. Where a C4 of that link is under recovery, its fault is a C3 of a unit whose C4
recovery is active: a C5, which turns the link off (R13, R289, R290). -/
theorem not_errorsActByClass : ¬ Obligations.ErrorsActByClass := by
  intro h
  obtain ⟨alive, faults, inService, active⟩ := recoveringLink_canFault
  obtain ⟨-, -, -, -, -, -, -, -, link⟩ := h ⟨recoveringLink, []⟩ ⟨0x11, 0⟩ 0 0 0 alive
  have taken := unitFault_link (s := ⟨recoveringLink, []⟩) (t := 0) (by decide) faults (beq_iff_eq.mpr active)
  have repair := ((link inService rfl (by decide)).1 active).answered taken
  exact absurd (recoveringLink_lost.symm.trans repair) (by decide)

end

section
/-! The buffer pools (R100 to R112): which buffer a request gets, what a release makes of its buffer, and the write of BP_CTL.apply. -/

namespace Sys2Proof.Machine

/-! ### The lowest free buffer of a pool (R103, R106) -/

/-- A key that a table does not list reads as the default. -/
theorem Table.get_of_notMem_keys {α : Type} {x : α} {m : Table α x} {k : Nat} (h : k ∉ tableKeys m) : m.get k = x := by
  obtain ⟨cells⟩ := m
  induction cells with
  | nil => rfl
  | cons e l ih =>
    obtain ⟨other, rest⟩ := not_or.mp (mt List.mem_cons.mpr h)
    exact (if_neg (Ne.symm other)).trans (ih rest)

theorem bufPool_bufKey (p : Nat) {n : Nat} (h : n < 2 ^ 26) : bufPool (bufKey p n) = p := by
  unfold bufPool bufKey
  omega

/-- Keys of a pool that are not free. -/
def Pools.occupied (b : Pools) (p : Nat) : List Nat := b.granted p ++ b.gone p

/-- A buffer that is occupied is granted or retired. -/
theorem Pools.of_occupied {b : Pools} {p k : Nat} (h : k ∈ b.occupied p) : k ∈ tableKeys b.bufs ∨ k ∈ b.retiredBufs :=
  (List.mem_append.mp h).imp (fun g => (List.mem_filter.mp g).1) (fun g => (List.mem_filter.mp g).1)

theorem Pools.get_of_not_occupied {b : Pools} {p n : Nat} (hn : n < 2 ^ 26) (h : bufKey p n ∉ b.occupied p) : b.bufs.get (bufKey p n) = none := by
  refine Table.get_of_notMem_keys fun mem => h (List.mem_append_left _ (List.mem_filter.mpr ⟨mem, ?_⟩))
  rw [bufPool_bufKey p hn, beq_self_eq_true]

/-- Of one number more than a list is long, one names no member of it. -/
theorem exists_notMem_of_injective {f : Nat → Nat} (hf : Function.Injective f) (l : List Nat) : ∃ n ∈ List.range (l.length + 1), f n ∉ l := by
  by_contra h
  push Not at h
  have fits := (((List.nodup_range (n := l.length + 1)).map hf).subperm (l₂ := l) (by simpa [List.subset_def] using h)).length_le
  rw [List.length_map, List.length_range] at fits
  omega

theorem bufKey_injective (p : Nat) : Function.Injective (bufKey p) := fun i j h => by
  unfold bufKey at h
  omega

/-- A pool with a free buffer has a lowest one, and those below it are granted or retired. -/
theorem Pools.lowest_of_free {b : Pools} {p : Nat} (hc : b.carve.get p < 2 ^ 26) (hf : 0 < b.free p) : ∃ n, n < b.carve.get p ∧
    b.lowest p = some (bufKey p n) ∧ b.bufs.get (bufKey p n) = none ∧
    ∀ j, j < n → b.bufs.cells.any (fun kb => kb.1 == bufKey p j) = true ∨ bufKey p j ∈ b.retiredBufs := by
  have short : (b.occupied p).length < b.carve.get p := by
    rw [Pools.occupied, List.length_append]
    unfold Pools.free at hf
    omega
  obtain ⟨m, hm, fresh⟩ := exists_notMem_of_injective (bufKey_injective p) (b.occupied p)
  cases found : (List.range ((b.occupied p).length + 1)).find? (fun n => !(b.occupied p).contains (bufKey p n)) with
  | none =>
    have taken := List.find?_eq_none.mp found m hm
    exact absurd (by simpa using taken) fresh
  | some n =>
    obtain ⟨free, hn, below⟩ := List.find?_range_eq_some.mp found
    have inside : n < b.carve.get p := by
      have := List.mem_range.mp hn
      omega
    refine ⟨n, inside, ?_, Pools.get_of_not_occupied (by omega) (by simpa using free), fun j hj => ?_⟩
    · rw [Pools.occupied] at found
      rw [Pools.lowest]
      simp only [found, Option.bind_some, if_pos inside]
    · refine (Pools.of_occupied (p := p) (by simpa using below j hj)).imp_left fun key => ?_
      obtain ⟨e, mem, is⟩ := List.mem_map.mp key
      exact List.any_eq_true.mpr ⟨e, mem, beq_iff_eq.mpr is⟩

/-! ### The decision on a request (R104) -/

section
variable {d : Dev} {req size : Nat} (spill : Bool)

theorem Dev.decideGrant_range (h : size = 0 ∨ 16777216 < size) : d.decideGrant req size spill = .refused St.range [] := if_pos h

variable (h1 : 1 ≤ size) (h2 : size ≤ 16777216)
include h1 h2

theorem Dev.decideGrant_overQuota (hq : d.quota req < d.pools.used.get req + poolUnits (poolFor size)) :
    d.decideGrant req size spill = .refused St.quotaExceeded [poolFor size] := by
  rw [Dev.decideGrant, if_neg (by omega)]
  exact if_pos hq

variable (hq : d.pools.used.get req + poolUnits (poolFor size) ≤ d.quota req)
include hq

theorem Dev.decideGrant_fits (hf : d.floorOf req (poolFor size) < d.freeFor req (poolFor size)) :
    d.decideGrant req size spill = .from (poolFor size) := by
  simp only [Dev.decideGrant]
  rw [if_neg (by omega), if_neg (Nat.not_lt.mpr hq), if_pos hf]

variable (hf : d.freeFor req (poolFor size) ≤ d.floorOf req (poolFor size))
include hf

theorem Dev.decideGrant_usedUp : d.decideGrant req size false = .refused St.poolEmpty [poolFor size] := by
  simp only [Dev.decideGrant]
  rw [if_neg (by omega), if_neg (Nat.not_lt.mpr hq), if_neg (Nat.not_lt.mpr hf), if_neg (by simp)]

theorem Dev.decideGrant_spills (h5 : poolFor size < 5) (hq' : d.pools.used.get req + poolUnits (poolFor size + 1) ≤ d.quota req)
    (hf' : d.floorOf req (poolFor size + 1) < d.freeFor req (poolFor size + 1)) : d.decideGrant req size true = .from (poolFor size + 1) := by
  simp only [Dev.decideGrant]
  rw [if_neg (by omega), if_neg (Nat.not_lt.mpr hq), if_neg (Nat.not_lt.mpr hf), if_pos ⟨trivial, h5⟩, if_neg (Nat.not_lt.mpr hq'), if_pos hf']

end

/-- The pools once a buffer of pool `p` has gone to its holders. -/
def Pools.granting (b : Pools) (req p k : Nat) (share : List Holder) : Pools :=
  { b with bufs := b.bufs.set k (some (grantOf req share b.gens)), gens := b.gens + 1, used := b.used.modify req (· + poolUnits p) }

theorem Dev.take_lowest {d : Dev} {p k : Nat} (h : d.pools.lowest p = some k) (req : Nat) (share : List Holder) :
    d.take req p share = (some k, d.onPools (·.granting req p k share)) := by
  simp only [Dev.take, h]
  rfl

theorem Dev.countRefusal_pools (d : Dev) (st : W16) : (d.countRefusal st).pools = d.pools := by
  simp [Dev.countRefusal, apply_ite Dev.pools, Dev.bumpW1]

theorem Dev.countRefusal_ctxs (d : Dev) (st : W16) : (d.countRefusal st).ctxs = d.ctxs :=
  (Dev.hostSide_eq (Dev.hostSide_kept.countRefusal d st)).1

section
variable {d : Dev} {req size p k : Nat} {spill : Bool}

theorem Dev.hostGrant_granted (hd : d.decideGrant req size spill = .from p) (hk : d.pools.lowest p = some k) (h : Holder) :
    d.hostGrant req size spill h = (.ok k, (d.stamp 7).2.onPools (·.granting req p k [h])) := by
  simp only [Dev.hostGrant, Dev.stamp_decideGrant, hd, Dev.take_lowest (d := (d.stamp 7).2) (by rwa [Dev.stamp_pools])]

theorem Dev.hostGrant_refused {st : W16} {tried : List Nat} (hd : d.decideGrant req size spill = .refused st tried) (h : Holder) :
    d.hostGrant req size spill h = (.error st, (d.stamp 7).2.countRefusal st) := by
  simp only [Dev.hostGrant, Dev.stamp_decideGrant, hd]

variable {u : BufUnit}

theorem Dev.unitRequest_waits {st : W16} {q : Nat} (hd : d.decideGrant (unitReq u) size spill = .refused st [q]) :
    (d.unitRequest u size spill).pools = { d.pools with waiters := d.pools.waiters ++ [⟨u, unitReq u, [q], (d.stamp 7).1, [], [.unit u]⟩] } := by
  simp only [Dev.unitRequest, Dev.request, Dev.stamp_decideGrant, hd, Dev.onPools_pools, Dev.countRefusal_pools, Dev.stamp_pools]

end

/-- The requesters of internal units come after those of the host groups (Table 5.2), so that they have no floor and do not stand behind waiters. -/
theorem unitReq_ge (u : BufUnit) : 48 ≤ unitReq u := by cases u <;> decide

theorem Dev.floorOf_unit (d : Dev) (u : BufUnit) (p : Nat) : d.floorOf (unitReq u) p = 0 := if_neg (Nat.not_lt.mpr (unitReq_ge u))

theorem Dev.freeFor_unit (d : Dev) (u : BufUnit) (p : Nat) : d.freeFor (unitReq u) p = d.pools.free p := by
  rw [Dev.freeFor, decide_eq_false (Nat.not_lt.mpr (unitReq_ge u)), Bool.false_and]
  rfl

theorem Dev.freeFor_le (d : Dev) (req p : Nat) : d.freeFor req p ≤ d.pools.free p := by
  unfold Dev.freeFor
  split <;> omega

/-! ### Releases (R109, R111, Table 5.4) -/

theorem Dev.serveWaiter_idle {d : Dev} (h : d.pools.waiters = []) (p : Nat) : d.serveWaiter p = d := by
  simp only [Dev.serveWaiter, Dev.waiterFor, h, List.find?_nil]

/-- The pools once a buffer is free again. -/
def Pools.freeing (x : Pools) (k : Nat) (b : Buf) : Pools :=
  { x with bufs := x.bufs.set k none, used := x.used.modify b.requester (· - poolUnits (bufPool k)) }

/-- A buffer of this member that nobody waits for is free again, its charge returned. -/
theorem Dev.freeBuf_pools {d : Dev} {k : Nat} (hk : k < 2 ^ 40) (hw : d.pools.waiters = []) (b : Buf) : (d.freeBuf k b).pools = d.pools.freeing k b := by
  have own : isLent k = false := decide_eq_false (Nat.not_le.mpr hk)
  simp only [Dev.freeBuf, own, Bool.false_eq_true, if_false]
  rw [Dev.serveWaiter_idle]
  · rfl
  · exact hw

section
variable {d : Dev} {k : Nat} {b : Buf} {h : Holder} (req : Nat) (hb : d.pools.bufs.get k = some b) (hh : h ∈ b.holders)
include hb hh

/-- The finisher that is the only holder frees the buffer. -/
theorem Dev.release_last (hf : b.finisher = h) (hl : b.holders.length = 1) : d.release k h req = (.freed, (d.stamp 7).2.freeBuf k b) := by
  simp [Dev.release, hb, hh, hf, hl]

/-- A context that is the finisher is refused while there are other holders. -/
theorem Dev.release_held {c : Nat} (hc : h = .ctx c) (hf : b.finisher = h) (hl : 2 ≤ b.holders.length) : d.release k h req =
    (.held, ((d.stamp 7).2.bumpW1 Reg.BP_EVENTS 0 23 16).onPools (fun x => { x with bufs := x.bufs.set k (some b) })) := by
  have more : ¬ b.holders.length = 1 := by omega
  obtain ⟨_, holders, _, _, _, _, _, signalled⟩ := b
  subst hc hf
  simp [Dev.release, hb, hh, more]

/-- A holder that is not the finisher falls away. -/
theorem Dev.release_falls (hf : b.finisher ≠ h) (hp : b.finisher ≠ .pool) (hs : b.signalled = false) : d.release k h req =
    (.fell, (d.stamp 7).2.onPools (fun x => { x with bufs := x.bufs.set k (some { b with holders := eraseOne h b.holders }) })) := by
  simp [Dev.release, hb, hh, hf, hp, hs]

end

theorem Dev.release_ctxs (d : Dev) (k : Nat) (h : Holder) (req : Nat) : (d.release k h req).2.ctxs = d.ctxs :=
  (Dev.hostSide_eq (Dev.hostSide_kept.release d k h req)).1

/-! ### The buffer instructions as they issue (R76) -/

/-- What an instruction finishes with may be said with less. -/
theorem Finishes.imp {i : Instr} {s : State} {c : Nat} {st : W16} {out : Option W64} {P Q : Dev → Prop} (h : Finishes i s c st out P) (hQ : ∀ d, P d → Q d) :
    Finishes i s c st out Q := by
  obtain ⟨d, acts, d1, x, y, cs, cat, z, finish, holds⟩ := h
  exact ⟨d, acts, d1, x, y, cs, cat, z, finish, hQ d1 holds⟩

section
variable (d : Dev) (c : Nat)

theorem Dev.issuing_ga : ((d.issuing c).ctxs.get c).ga = (d.ctxs.get c).ga := by
  obtain ⟨i, k, ctx⟩ := d.issuing_ctx c
  rw [ctx]
  rfl

theorem Dev.issuing_h : ((d.issuing c).ctxs.get c).h = (d.ctxs.get c).h := by
  obtain ⟨i, k, ctx⟩ := d.issuing_ctx c
  rw [ctx]

theorem Dev.issuing_reqOf : (d.issuing c).reqOf c = d.reqOf c := by
  simp only [Dev.reqOf, Dev.groupOf, Dev.dqnOf, Dev.issuing_cmdOf, Dev.issuing_rf]

theorem Dev.issuing_tokenBuf (t : W64) : (d.issuing c).tokenBuf t = d.tokenBuf t := by simp only [Dev.tokenBuf, Dev.issuing_pools]

theorem Dev.issuing_decideGrant (req size : Nat) (spill : Bool) : (d.issuing c).decideGrant req size spill = d.decideGrant req size spill :=
  Dev.decideGrant_congr (d.issuing_pools c) (d.issuing_regs c) ..

/-- The handles of a context that has one of them set. -/
theorem Dev.handles_onCtx (n : Nat) (v : Option Nat) : ((d.onCtx c (fun x => { x with h := x.h.set n v })).ctxs.get c).h = (d.ctxs.get c).h.set n v := by
  rw [Dev.onCtx_ctxs, Table.get_modify_self]

end

section
variable {s : State} {c : Nat} (hw : s.dev.working = true)
include hw

section
variable (hi : s.dev.mayIssue c 0x70 = true)
include hi

theorem bufAlloc_inUse (hh : (s.dev.ctxs.get c).h.get (wD (s.dev.ctxs.get c).ir % 4) ≠ none) :
    Finishes (.bufAlloc c) s c St.badHandle none (fun d => d.pools = s.dev.pools) := by
  refine ⟨_, acts_of_insn (i := .bufAlloc c) (Eq.refl (execBufAlloc c s)) hw hi, ?_⟩
  simp only [Dev.issuing_h, Dev.issuing_ir, Option.isSome_iff_ne_none.mpr hh, if_true]
  exact ⟨_, 0, 0, none, none, 0, rfl, s.dev.issuing_pools c⟩

variable (hh : (s.dev.ctxs.get c).h.get (wD (s.dev.ctxs.get c).ir % 4) = none)
include hh

theorem bufAlloc_refused {st : W16} {tried : List Nat}
    (hd : s.dev.decideGrant (s.dev.reqOf c) (s.dev.ctxs.get c).ga.toNat (wMod (s.dev.ctxs.get c).ir % 2 == 1) = .refused st tried) :
    Finishes (.bufAlloc c) s c st none (fun d => d.pools = s.dev.pools) := by
  refine ⟨_, acts_of_insn (i := .bufAlloc c) (Eq.refl (execBufAlloc c s)) hw hi, ?_⟩
  simp only [Dev.issuing_h, Dev.issuing_ir, Dev.issuing_ga, Dev.issuing_reqOf, hh, Option.isSome_none, Bool.false_eq_true, if_false,
    Dev.hostGrant_refused ((s.dev.issuing_decideGrant c ..).trans hd)]
  exact ⟨_, _, _, none, none, 0, rfl, by rw [Dev.countRefusal_pools, Dev.stamp_pools, Dev.issuing_pools]⟩

theorem bufAlloc_granted {p k : Nat}
    (hd : s.dev.decideGrant (s.dev.reqOf c) (s.dev.ctxs.get c).ga.toNat (wMod (s.dev.ctxs.get c).ir % 2 == 1) = .from p)
    (hk : s.dev.pools.lowest p = some k) :
    Finishes (.bufAlloc c) s c St.ok none (fun d => (d.ctxs.get c).h = (s.dev.ctxs.get c).h.set (wD (s.dev.ctxs.get c).ir % 4) (some k) ∧
      d.pools = s.dev.pools.granting (s.dev.reqOf c) p k [.ctx c]) := by
  refine ⟨_, acts_of_insn (i := .bufAlloc c) (Eq.refl (execBufAlloc c s)) hw hi, ?_⟩
  simp only [Dev.issuing_h, Dev.issuing_ir, Dev.issuing_ga, Dev.issuing_reqOf, hh, Option.isSome_none, Bool.false_eq_true, if_false,
    Dev.hostGrant_granted ((s.dev.issuing_decideGrant c ..).trans hd) ((congrArg (·.lowest p) (s.dev.issuing_pools c)).trans hk)]
  refine ⟨_, 0, 0, none, none, 0, rfl, ?_, ?_⟩
  · rw [Dev.handles_onCtx, Dev.onPools_ctxs, Dev.stamp_ctxs, Dev.issuing_h]
  · rw [Dev.onCtx_pools, Dev.onPools_pools, Dev.stamp_pools, Dev.issuing_pools]

end

section
variable (hi : s.dev.mayIssue c 0x71 = true)
include hi

theorem bufShare_token {k : Nat} {b : Buf} (hm : wMod (s.dev.ctxs.get c).ir % 8 < 2)
    (hh : (s.dev.ctxs.get c).h.get (wA (s.dev.ctxs.get c).ir % 4) = some k) (hb : s.dev.pools.bufs.get k = some b) :
    Finishes (.bufShare c) s c St.ok (some (shareToken k b.gen)) (fun d => d.pools.bufs = s.dev.pools.bufs.set k
      (some { b with shared := true, passOnAttach := wMod (s.dev.ctxs.get c).ir % 8 == 1 && b.finisher == .ctx c })) := by
  have gives : ¬ wMod (s.dev.ctxs.get c).ir % 8 = 2 := by omega
  refine ⟨_, acts_of_insn (i := .bufShare c) (Eq.refl (execBufShare c s)) hw hi, ?_⟩
  simp only [Dev.issuing_h, Dev.issuing_ir, Dev.issuing_pools, gives, if_false, hh, hb]
  exact ⟨_, 0, 0, none, none, 0, rfl, by rw [Dev.onPools_pools, Dev.stamp_pools, Dev.issuing_pools]⟩

theorem bufShare_attaches {k : Nat} {b : Buf} (hm : wMod (s.dev.ctxs.get c).ir % 8 = 2) (ht : s.dev.tokenBuf (s.dev.ctxs.get c).ga = some (k, b))
    (hh : (s.dev.ctxs.get c).h.get (wD (s.dev.ctxs.get c).ir % 4) = none) (hn : b.ctxHolders ≤ 14) :
    Finishes (.bufShare c) s c St.ok none (fun d => (d.ctxs.get c).h = (s.dev.ctxs.get c).h.set (wD (s.dev.ctxs.get c).ir % 4) (some k) ∧
      ∃ b2 : Buf, d.pools.bufs = s.dev.pools.bufs.set k (some b2) ∧ b2.holders = b.holders ++ [.ctx c] ∧
        b2.finisher = (if b.passOnAttach then .ctx c else b.finisher)) := by
  have room : ¬ 15 ≤ b.ctxHolders := by omega
  refine ⟨_, acts_of_insn (i := .bufShare c) (Eq.refl (execBufShare c s)) hw hi, ?_⟩
  simp only [Dev.issuing_h, Dev.issuing_ir, Dev.issuing_ga, Dev.issuing_tokenBuf, hm, ht, hh, room, if_true, if_false, Option.isSome_none,
    Bool.false_eq_true]
  refine ⟨_, 0, 0, none, none, 0, rfl, ?_, { b with holders := b.holders ++ [.ctx c], finisher := if b.passOnAttach then .ctx c else b.finisher
                                                    closed := b.passOnAttach, passOnAttach := false }, ?_, rfl, rfl⟩
  · rw [Dev.handles_onCtx, Dev.onPools_ctxs, Dev.stamp_ctxs, Dev.issuing_h]
  · rw [Dev.onCtx_pools, Dev.onPools_pools, Dev.stamp_pools, Dev.issuing_pools]

end

section
variable (hi : s.dev.mayIssue c 0x72 = true) {k : Nat} (hh : (s.dev.ctxs.get c).h.get (wA (s.dev.ctxs.get c).ir % 4) = some k)
include hi hh

/-- A release that is not refused empties the handle. -/
theorem bufFree_empties {r : Release} {d1 : Dev} (hr : (s.dev.issuing c).release k (.ctx c) (s.dev.reqOf c) = (r, d1)) (hn : r ≠ .held) :
    Finishes (.bufFree c) s c St.ok none (fun d => (d.ctxs.get c).h = (s.dev.ctxs.get c).h.set (wA (s.dev.ctxs.get c).ir % 4) none ∧ d.pools = d1.pools) := by
  have ctxs : d1.ctxs = (s.dev.issuing c).ctxs := (congrArg (fun x => x.2.ctxs) hr).symm.trans (Dev.release_ctxs ..)
  refine ⟨_, acts_of_insn (i := .bufFree c) (Eq.refl (execBufFree c s)) hw hi, ?_⟩
  simp only [Dev.issuing_h, Dev.issuing_ir, Dev.issuing_reqOf, hh, hr]
  cases r
  case held => exact absurd rfl hn
  all_goals exact ⟨_, 0, 0, none, none, 0, rfl, by rw [Dev.handles_onCtx, ctxs, Dev.issuing_h], Dev.onCtx_pools ..⟩

theorem bufFree_refused {d1 : Dev} (hr : (s.dev.issuing c).release k (.ctx c) (s.dev.reqOf c) = (.held, d1)) :
    Finishes (.bufFree c) s c St.bufferHeld none (fun d => (d.ctxs.get c).h = (s.dev.ctxs.get c).h ∧ d.pools = d1.pools) := by
  have ctxs : d1.ctxs = (s.dev.issuing c).ctxs := (congrArg (fun x => x.2.ctxs) hr).symm.trans (Dev.release_ctxs ..)
  refine ⟨_, acts_of_insn (i := .bufFree c) (Eq.refl (execBufFree c s)) hw hi, ?_⟩
  simp only [Dev.issuing_h, Dev.issuing_ir, Dev.issuing_reqOf, hh, hr]
  exact ⟨_, _, _, none, none, 0, rfl, by rw [ctxs, Dev.issuing_h], rfl⟩

end

end

/-! ### CARVE_APPLY (R101) -/

/-- The row of BP_CTL in the register map. -/
def bpCtl : RegDesc := mkReg Reg.BP_CTL 1 0 1 0 [fd 31 31 .rwl 0, fd 30 30 .wo 0, fd 29 27 .ro 0, fd 26 26 .rwl 1]

theorem findReg_bpCtl : findReg Reg.BP_CTL = some bpCtl := by decide

theorem Dev.fieldRule_bpCtl (d : Dev) (p : PortId) (f : FieldDesc) (old new : Nat) : d.fieldRule p Reg.BP_CTL f old new = .value new := by
  have elsewhere : ¬ (Reg.QM_SQBASE_LO ≤ Reg.BP_CTL ∧ Reg.BP_CTL ≤ Reg.QM_CQBASE_HI) := by decide
  simp [Dev.fieldRule, safeOnly, elsewhere]

/-- A bit set in a word leaves the other bits. -/
theorem fieldOf_or_bit (v : W32) {n i : Nat} (hn : n < 32) (h : n ≠ i) : fieldOf (v ||| toW32 (2 ^ n)) i i = fieldOf v i i := by
  have mask : (toW32 (2 ^ n)).toNat = 2 ^ n := (BitVec.toNat_ofNat ..).trans (Nat.mod_eq_of_lt (Nat.pow_lt_pow_right (by decide) hn))
  have bit : ∀ w : W32, fieldOf w i i = (w.toNat.testBit i).toNat := fun w => by
    rw [fieldOf_eq, show i + 1 - i = 1 by omega, pow_one, Nat.toNat_testBit]
  rw [bit, bit, BitVec.toNat_or, mask, Nat.testBit_or, Nat.testBit_two_pow_of_ne h, Bool.or_false]

/-- The device once the write of BP_CTL has taken its fields. -/
def Dev.bpCtlWritten (d : Dev) (p : PortId) (v : W32) : Dev := d.setRegB Reg.BP_CTL 0 (d.takeFields p bpCtl Reg.BP_CTL (d.regB Reg.BP_CTL 0) v).1

/-- A write that leaves the fields as they are has none refused, in a locked block either. -/
theorem Dev.takeFields_bpCtl (d : Dev) (p : PortId) {old v : W32} (lock : fieldOf old 31 31 = fieldOf v 31 31) (spill : fieldOf old 26 26 = fieldOf v 26 26) :
    (d.takeFields p bpCtl Reg.BP_CTL old v).2 = false := by
  cases h : d.locked Reg.BP_CTL <;>
    simp [Dev.takeFields, Dev.takeField, bpCtl, mkReg, fd, h, Dev.fieldRule_bpCtl, guarded, lock, spill]

theorem Dev.writeReg_apply {d : Dev} (path : Path) (hr : d.boot.ready = true) (hw : d.working = true) :
    d.writeReg path Reg.BP_CTL (d.withBit path Reg.BP_CTL 30) =
      (d.bpCtlWritten (pathPort path) (d.withBit path Reg.BP_CTL 30)).applyCarve path (d.withBit path Reg.BP_CTL 30) := by
  have bank : d.bankOf (pathPort path) Reg.BP_CTL = 0 := rfl
  have ask : d.withBit path Reg.BP_CTL 30 = d.regB Reg.BP_CTL 0 ||| toW32 (2 ^ 30) := by rw [Dev.withBit, bank]
  have bit : bitOf (d.withBit path Reg.BP_CTL 30) 30 = true := by
    rw [ask, bitOf, BitVec.getLsbD_or, show (toW32 (2 ^ 30)).getLsbD 30 = true by decide, Bool.or_true]
  have taken : (d.takeFields (pathPort path) bpCtl Reg.BP_CTL (d.regB Reg.BP_CTL 0) (d.withBit path Reg.BP_CTL 30)).2 = false := by
    rw [ask]
    exact d.takeFields_bpCtl _ (fieldOf_or_bit _ (by decide) (by decide)).symm (fieldOf_or_bit _ (by decide) (by decide)).symm
  generalize d.withBit path Reg.BP_CTL 30 = v at *
  have mask : w1cMask bpCtl v = 0 := rfl
  have whole : breaksWhole bpCtl.base v = false := rfl
  have base : bpCtl.base = Reg.BP_CTL := rfl
  have held : (d.bpCtlWritten (pathPort path) v).heldBack Reg.BP_CTL v = false := by
    have ready : (d.bpCtlWritten (pathPort path) v).boot.ready = true := hr
    simp [Dev.heldBack, ready]
  have works : (d.bpCtlWritten (pathPort path) v).working = true := hw
  have known : d.writeKnown path bpCtl Reg.BP_CTL v = (d.bpCtlWritten (pathPort path) v).startOp path Reg.BP_CTL v := by
    simp only [Dev.writeKnown, bank, taken, mask, whole, Bool.false_eq_true, false_and, if_false, Dev.clearBits, if_true, Dev.regHook]
    exact if_pos bit
  simp only [Dev.writeReg, findReg_bpCtl, base]
  rw [if_neg (by decide), if_neg (by decide), if_neg (by decide)]
  refine known.trans ?_
  simp only [Dev.startOp, held, Dev.lateOp, works, Bool.false_eq_true, if_false, Bool.not_true, if_true]
  rw [if_neg (by decide)]

section
variable (d : Dev) (p : PortId) (v : W32)

theorem Dev.bpCtlWritten_rf {a : Nat} (ha : a < 2 ^ 26) (h : a ≠ Reg.BP_CTL) (hi lo : Nat) : (d.bpCtlWritten p v).rf a hi lo = d.rf a hi lo :=
  congrArg (fieldOf · hi lo) (d.regB_setRegB_ne _ _ _ (by decide) ha h)

theorem Dev.bpCtlWritten_carveReg {q : Nat} (hq : q < 6) : (d.bpCtlWritten p v).carveReg q = d.carveReg q :=
  d.bpCtlWritten_rf p v (by unfold Reg.BP_CARVE0; omega) (by unfold Reg.BP_CARVE0 Reg.BP_CTL; omega) 25 0

theorem Dev.bpCtlWritten_resvReg {q : Nat} (hq : q < 6) : (d.bpCtlWritten p v).resvReg q = d.resvReg q :=
  d.bpCtlWritten_rf p v (by unfold Reg.BP_RESV0; omega) (by unfold Reg.BP_RESV0 Reg.BP_CTL; omega) 25 0

theorem Dev.bpCtlWritten_carveCheck : (d.bpCtlWritten p v).carveCheck = d.carveCheck := by
  have carve : ∀ q, q < 6 → (d.bpCtlWritten p v).carveReg q = d.carveReg q := fun q => d.bpCtlWritten_carveReg p v
  have resv : ∀ q, q < 6 → (d.bpCtlWritten p v).resvReg q = d.resvReg q := fun q => d.bpCtlWritten_resvReg p v
  simp only [Dev.carveCheck, allPools, sumPools, carve, resv, Nat.reduceLT]
  rfl

end

/-- The carve and reserve of one pool come into force. -/
def Dev.installPool (d : Dev) (q : Nat) : Dev :=
  d.onPools (fun b => { b with carve := b.carve.set q (d.carveReg q), reserve := b.reserve.set q (d.resvReg q) })

/-- Where the pools of a list come into force one after the other, each of them is in force. -/
theorem Dev.installPools_inForce (l : List Nat) (d : Dev) {q : Nat}
    (h : q ∈ l ∨ (d.pools.carve.get q = d.carveReg q ∧ d.pools.reserve.get q = d.resvReg q)) :
    (d.each l Dev.installPool).pools.carve.get q = d.carveReg q ∧ (d.each l Dev.installPool).pools.reserve.get q = d.resvReg q := by
  induction l generalizing d with
  | nil => exact h.resolve_left List.not_mem_nil
  | cons a l ih =>
    refine ih (d.installPool a) ?_
    by_cases ha : q = a
    · subst ha
      exact .inr ⟨Table.get_set_self .., Table.get_set_self ..⟩
    · refine h.imp (fun m => (List.mem_cons.mp m).resolve_left ha) (fun m => ⟨?_, ?_⟩)
      · exact (Table.get_set_ne _ _ ha).trans m.1
      · exact (Table.get_set_ne _ _ ha).trans m.2

theorem Dev.carveReg_setW1f (d : Dev) (a bank hi lo x q : Nat) : (d.setW1f a bank hi lo x).carveReg q = d.carveReg q := rfl
theorem Dev.resvReg_setW1f (d : Dev) (a bank hi lo x q : Nat) : (d.setW1f a bank hi lo x).resvReg q = d.resvReg q := rfl

/-- An apply that fails no check brings the registers' carve and reserves into force. -/
theorem Dev.applyCarve_inForce {d : Dev} (h : d.carveCheck = 0) (path : Path) (v : W32) {q : Nat} (hq : q < 6) :
    (d.applyCarve path v).pools.carve.get q = d.carveReg q ∧ (d.applyCarve path v).pools.reserve.get q = d.resvReg q := by
  simp only [Dev.applyCarve, h, if_true, Dev.startRebuild, Dev.setW1f_pools, Dev.onIdx_pools, Dev.onPools_pools]
  have installed := (d.setW1f Reg.BP_CTL 0 29 27 0).installPools_inForce (List.range 6) (.inl (List.mem_range.mpr hq))
  rwa [Dev.carveReg_setW1f, Dev.resvReg_setW1f] at installed

end Sys2Proof.Machine

open Sys2Proof Sys2Proof.Machine

/-- Settles O24: a request gets what the decision of R104 says, from the lowest free buffer; a release ends as Table 5.4 says; an apply installs the carve. -/
theorem bufferGrantsAndReleases : Obligations.BufferGrantsAndReleases := by
  intro c s hw x req p size fits alloc share
  refine ⟨fun hi hh h1 h2 hq hc hf => ?grants, fun hi hh h1 h2 hq hf hm => ?empty,
    fun hi hh h1 h2 hq => bufAlloc_refused hw hi hh (Dev.decideGrant_overQuota _ h1 h2 (Nat.lt_of_not_le hq)),
    fun hi hh hr => bufAlloc_refused hw hi hh (Dev.decideGrant_range _ hr), fun hi hh => bufAlloc_inUse hw hi hh,
    fun k b hi hm hh hb => bufShare_token hw hi hm hh hb, fun k b hi hm ht hh hn => bufShare_attaches hw hi hm ht hh hn,
    fun k b hi hh hb hc => ?free, ?request, fun u k b hb hu hf hn hk => ?release, fun path hp hr => ?carve⟩
  case grants =>
    obtain ⟨n, inside, lowest, free, below⟩ := Pools.lowest_of_free hc (Nat.lt_of_lt_of_le (Nat.zero_lt_of_lt hf) (s.dev.freeFor_le req p))
    exact ⟨n, inside, free, below, (bufAlloc_granted hw hi hh (Dev.decideGrant_fits _ h1 h2 hq hf) lowest).imp fun d => fun ⟨handle, pools⟩ =>
      ⟨handle, congrArg Pools.bufs pools, congrArg Pools.used pools⟩⟩
  case empty =>
    have noSpill : (wMod (s.dev.ctxs.get c).ir % 2 == 1) = false := by
      rw [show wMod (s.dev.ctxs.get c).ir % 2 = 0 from hm]
      rfl
    exact bufAlloc_refused hw hi hh (by rw [noSpill]; exact Dev.decideGrant_usedUp h1 h2 hq hf)
  case free =>
    have held : (s.dev.issuing c).pools.bufs.get k = some b := (congrArg (·.bufs.get k) (s.dev.issuing_pools c)).trans hb
    refine ⟨fun hf hl hn hk => ?last, fun hf hp hs => ?falls, fun hf hl => ?refused⟩
    case last =>
      have freed := Dev.freeBuf_pools (d := ((s.dev.issuing c).stamp 7).2) hk (by rw [Dev.stamp_pools, Dev.issuing_pools]; exact hn) b
      rw [Dev.stamp_pools, Dev.issuing_pools] at freed
      exact (bufFree_empties hw hi hh (Dev.release_last (s.dev.reqOf c) held hc hf hl) (by decide)).imp fun d => fun ⟨handle, pools⟩ =>
        ⟨congrArg Pools.bufs (pools.trans freed), handle, congrArg Pools.used (pools.trans freed)⟩
    case falls =>
      refine (bufFree_empties hw hi hh (Dev.release_falls (s.dev.reqOf c) held hc hf hp hs) (by decide)).imp fun d => fun ⟨handle, pools⟩ => ⟨handle, ?_⟩
      rw [pools, Dev.onPools_pools, Dev.stamp_pools, Dev.issuing_pools]
    case refused =>
      refine (bufFree_refused hw hi hh (Dev.release_held (s.dev.reqOf c) held hc rfl hf hl)).imp fun d => fun ⟨handle, pools⟩ => ⟨handle, ?_⟩
      rw [pools, Dev.onPools_pools, Table.get_set_self]
  case request =>
    intro u n q h1 h2 hq
    have acts : ∀ {n spill P}, P (s.dev.unitRequest u n spill) → Does (.bufferRequest u n spill) s P := fun h => ⟨_, State.work_of _ hw, h⟩
    refine ⟨fun k hf hk spill => acts (Dev.request_of (Dev.decideGrant_fits _ h1 h2 hq ?_) hk).2,
      fun k hf h5 hf' hk hq' => acts (Dev.request_of (Dev.decideGrant_spills h1 h2 hq ?_ h5 hq' ?_) hk).2,
      fun hf => acts ⟨_, Dev.unitRequest_waits (Dev.decideGrant_usedUp h1 h2 hq ?_)⟩⟩
    all_goals rw [Dev.floorOf_unit, Dev.freeFor_unit]
    · exact hf
    · exact Nat.le_of_eq hf
    · exact hf'
    · exact Nat.le_of_eq hf
  case release =>
    have freed : (s.dev.release k (.unit u) (unitReq u)).2.pools = s.dev.pools.freeing k b := by
      rw [Dev.release_last _ hb (by rw [hu]; exact List.mem_singleton_self _) hf (by rw [hu]; rfl),
        Dev.freeBuf_pools hk (by rw [Dev.stamp_pools]; exact hn), Dev.stamp_pools]
    exact ⟨_, State.work_of _ hw, congrArg Pools.bufs freed⟩
  case carve =>
    have started := hp
    simp only [Dev.writable, Bool.and_eq_true] at started
    obtain ⟨⟨⟨-, ready⟩, -⟩, works⟩ := started
    refine write_writable (i := .carveApply path) (Eq.refl (execCarveApply path s)) hp fun q hq => ?_
    have installed := Dev.applyCarve_inForce ((s.dev.bpCtlWritten_carveCheck (pathPort path) (s.dev.withBit path Reg.BP_CTL 30)).trans hr) path
      (s.dev.withBit path Reg.BP_CTL 30) hq
    rw [Dev.bpCtlWritten_carveReg _ _ _ hq, Dev.bpCtlWritten_resvReg _ _ _ hq] at installed
    rwa [Dev.writeReg_apply path ready works]

end

section
/-! Sealed records (R143, R144, R160, Table 7.1): AES and GCM in the lengths of their bytes, the fields of a record's header, and the round trip. -/

namespace Sys2Proof.Machine

/-! ### Byte strings -/

@[simp] theorem zeros_length (n : Nat) : (zeros n).length = n := List.length_replicate

@[simp] theorem sliceBytes_length (bs : List Byte) (a n : Nat) : (sliceBytes bs a n).length = n := by
  simp [sliceBytes]

@[simp] theorem beBytes_length (n v : Nat) : (beBytes n v).length = n := by rw [beBytes, List.length_reverse, leBytes_length]

theorem beNat_beBytes {n v : Nat} (h : v < 256 ^ n) : beNat (beBytes n v) = v := by
  rw [beNat, beBytes, List.reverse_reverse, leNat_leBytes, Nat.mod_eq_of_lt h]

theorem sliceBytes_append {a : List Byte} (b : List Byte) {o n : Nat} (h : o + n ≤ a.length) : sliceBytes (a ++ b) o n = sliceBytes a o n := by
  rw [sliceBytes, sliceBytes, List.drop_append_of_le_length (by omega), List.take_append_of_le_length (by rw [List.length_drop]; omega)]

@[simp] theorem xorBytes_length (a b : List Byte) : (xorBytes a b).length = min a.length b.length := List.length_zipWith

/-! ### AES and GCM -/

/-- The key schedule is made of words of four bytes, as many more as were asked for. -/
theorem aesExpand_words (k i : Nat) {w : List (List Byte)} (h8 : 8 ≤ w.length) (h4 : ∀ x ∈ w, x.length = 4) :
    (aesExpand k i w).length = w.length + k ∧ ∀ x ∈ aesExpand k i w, x.length = 4 := by
  induction k generalizing i w with
  | zero => exact ⟨rfl, h4⟩
  | succ k ih =>
    have word : ∀ {n}, n < 8 → (w.getD n []).length = 4 := fun {n} hn => by
      rw [List.getD_eq_getElem _ _ (by omega)]
      exact h4 _ (List.getElem_mem _)
    have latest : (w.headD []).length = 4 := by
      rw [List.headD_eq_head?_getD, List.head?_eq_getElem?]
      exact word (by decide)
    rw [aesExpand]
    refine And.imp_left (fun len => ?_) (ih (i + 1) (w := _ :: w) (Nat.le_succ_of_le h8) (List.forall_mem_cons.mpr ⟨?_, h4⟩))
    · rw [len, List.length_cons]
      omega
    · rw [xorBytes_length, word (by decide)]
      split
      · rw [xorBytes_length, List.length_map, List.length_append, List.length_drop, List.length_take, latest]
        rfl
      · split
        · rw [List.length_map, latest]
          rfl
        · rw [latest]
          rfl

theorem length_flatten_of_words {l : List (List Byte)} {n : Nat} (h : ∀ x ∈ l, x.length = n) : l.flatten.length = l.length * n := by
  rw [List.length_flatten, List.map_congr_left h]
  simp

/-- Each round key of AES-256 has 16 bytes. -/
theorem aesKeys_length (key : List Byte) {r : Nat} (hr : r < 15) : ((aesKeys key).getD r []).length = 16 := by
  obtain ⟨len, words⟩ := aesExpand_words 52 8 (w := ((List.range 8).map (fun i => sliceBytes key (4 * i) 4)).reverse) (by simp) (by simp)
  rw [aesKeys, List.getD_eq_getElem _ _ (by simpa using hr), List.getElem_map, List.getElem_range, length_flatten_of_words (n := 4)]
  · simp [len]
    omega
  · intro x hx
    exact words x (List.mem_reverse.mp (List.mem_of_mem_drop (List.mem_of_mem_take hx)))

theorem aesBlock_length (key b : List Byte) : (aesBlock (aesKeys key) b).length = 16 := by
  have last := aesKeys_length key (r := 14) (by decide)
  simp only [aesBlock, aesShift, xorBytes_length, List.length_map, List.length_range, last, min_self]

theorem gcmTag_length (key : BitVec 256) (iv aad ct : List Byte) : (gcmTag key iv aad ct).length = 16 := by
  simp [gcmTag, aesBlock_length]

theorem gcmXor_length (key : BitVec 256) (iv : List Byte) (i : Nat) (bs : List Byte) : (gcmXor key iv i bs).length = bs.length := by
  induction bs generalizing i with
  | nil => rfl
  | cons b t ih => simp [gcmXor, ih]

/-- The keystream taken off again gives the bytes back. -/
theorem gcmXor_gcmXor (key : BitVec 256) (iv : List Byte) (i : Nat) (bs : List Byte) : gcmXor key iv i (gcmXor key iv i bs) = bs := by
  induction bs generalizing i with
  | nil => rfl
  | cons b t ih => rw [gcmXor, gcmXor, ih, BitVec.xor_assoc, BitVec.xor_self, BitVec.xor_zero]

/-! ### Sealing and opening -/

theorem sealBytes_length (key : BitVec 256) {header : List Byte} (h : header.length = 64) (plain : List Byte) :
    (sealBytes key header plain).length = 80 + plain.length := by
  simp [sealBytes, gcmXor_length, gcmTag_length, h]
  omega

theorem take_sealBytes (key : BitVec 256) {header : List Byte} (h : header.length = 64) (plain : List Byte) :
    (sealBytes key header plain).take 64 = header := by
  rw [sealBytes, List.append_assoc, ← h, List.take_left]

/-- A field of the header of a sealed record. -/
theorem sliceBytes_sealBytes (key : BitVec 256) {header : List Byte} (plain : List Byte) {o n : Nat} (h : o + n ≤ header.length) :
    sliceBytes (sealBytes key header plain) o n = sliceBytes header o n := by
  rw [sealBytes, List.append_assoc, sliceBytes_append _ h]

/-- What is sealed under a key opens under it. -/
theorem openBytes_sealBytes (key : BitVec 256) {header : List Byte} (h : header.length = 64) (plain : List Byte) :
    openBytes key (sealBytes key header plain) = some plain := by
  have ct : ((sealBytes key header plain).drop 64).take ((sealBytes key header plain).length - 80) = gcmXor key (sliceBytes header 24 12) 0 plain := by
    rw [sealBytes_length key h, sealBytes, List.append_assoc, ← h, List.drop_left]
    exact List.take_left' (by rw [gcmXor_length]; omega)
  have tag : (sealBytes key header plain).drop ((sealBytes key header plain).length - 16) =
      gcmTag key (sliceBytes header 24 12) header (gcmXor key (sliceBytes header 24 12) 0 plain) := by
    rw [sealBytes_length key h, sealBytes]
    exact List.drop_left' (by rw [List.length_append, gcmXor_length, h]; omega)
  rw [openBytes, ct, take_sealBytes key h, tag, if_pos rfl, gcmXor_gcmXor]

/-! ### The header of a record (Table 7.1) -/

@[simp] theorem stampOnTape_length (sess : Nat) (adopted : Bool) (s : Stamp) : (stampOnTape sess adopted s).length = 16 := by
  simp [stampOnTape]

theorem Rec.header_length (r : Rec) (sess : Nat) (adopted : Bool) : (r.header sess adopted).length = 64 := by
  simp [Rec.header]

section
variable (r : Rec) (sess : Nat) (adopted : Bool)

/-- The bytes of each field that a restore checks. -/
theorem Rec.header_fields :
    sliceBytes (r.header sess adopted) 0 4 = beBytes 4 0x43524543 ∧ sliceBytes (r.header sess adopted) 4 1 = [1] ∧
    sliceBytes (r.header sess adopted) 5 1 = [0] ∧ sliceBytes (r.header sess adopted) 6 2 = beBytes 2 r.blocks.length ∧
    sliceBytes (r.header sess adopted) 8 4 = beBytes 4 r.plain.length ∧ sliceBytes (r.header sess adopted) 12 4 = zeros 4 ∧
    sliceBytes (r.header sess adopted) 16 8 = beBytes 8 r.keyId.toNat ∧ sliceBytes (r.header sess adopted) 24 4 = beBytes 4 r.pfx.toNat ∧
    sliceBytes (r.header sess adopted) 52 12 = zeros 12 := by
  simp [Rec.header, sliceBytes, List.take_append, List.drop_append, List.drop_of_length_le, List.take_of_length_le, zeros]

theorem Rec.header_keyId : beNat (sliceBytes (r.header sess adopted) 16 8) = r.keyId.toNat := by
  obtain ⟨-, -, -, -, -, -, keyId, -, -⟩ := r.header_fields sess adopted
  rw [keyId, beNat_beBytes r.keyId.isLt]

theorem Rec.header_pfx : beNat (sliceBytes (r.header sess adopted) 24 4) = r.pfx.toNat := by
  obtain ⟨-, -, -, -, -, -, -, pfx, -⟩ := r.header_fields sess adopted
  rw [pfx, beNat_beBytes r.pfx.isLt]

theorem Rec.header_plainLength (h : r.plain.length < 2 ^ 32) : beNat (sliceBytes (r.header sess adopted) 8 4) = r.plain.length := by
  obtain ⟨-, -, -, -, plain, -, -, -, -⟩ := r.header_fields sess adopted
  rw [plain, beNat_beBytes h]

theorem allZero_zeros (n : Nat) : allZero (zeros n) = true := by
  simp [allZero, zeros]

/-- A record of 1 to 65,535 blocks and of a length that Table 7.1 admits has a legal header. -/
theorem Rec.headerOk_header (b1 : 1 ≤ r.blocks.length) (b2 : r.blocks.length < 65536) (p8 : r.plain.length % 8 = 0) (p1 : 56 ≤ r.plain.length)
    (p2 : r.plain.length ≤ 16777136) : headerOk (r.header sess adopted) = true := by
  obtain ⟨magic, version, flags, blocks, -, zero, -, -, rest⟩ := r.header_fields sess adopted
  have plain := r.header_plainLength sess adopted (by omega)
  have marks : beNat (beBytes 4 0x43524543) = 0x43524543 ∧ beNat [1#8] = 1 ∧ beNat [0#8] = 0 := by decide
  obtain ⟨m1, m2, m3⟩ := marks
  simp [headerOk, magic, version, flags, blocks, plain, zero, rest, allZero_zeros, m1, m2, m3, beNat_beBytes (n := 2) b2, b1, p8, p1, p2]

end

end Sys2Proof.Machine

open Sys2Proof Sys2Proof.Machine

/-- Settles O36: the keystream taken off again gives the plaintext back, and the header's fields read as they were written. -/
theorem sealedRecordOpens : Obligations.SealedRecordOpens := by
  intro key r sess adopted body
  have header : (r.header sess adopted).length = 64 := r.header_length sess adopted
  have field : ∀ {o n}, o + n ≤ 64 → sliceBytes body o n = sliceBytes (r.header sess adopted) o n := fun h =>
    sliceBytes_sealBytes key r.plain (header.symm ▸ h)
  have length : body.length = 80 + r.plain.length := sealBytes_length key header r.plain
  refine ⟨length, openBytes_sealBytes key header r.plain, fun b1 b2 p8 p1 p2 => ⟨?_, ?_, ?_, ?_⟩⟩
  · rw [take_sealBytes key header]
    exact r.headerOk_header sess adopted b1 b2 p8 p1 p2
  · rw [field (by decide), r.header_plainLength sess adopted (by omega), length]
  · rw [field (by decide), r.header_keyId]
  · rw [field (by decide), r.header_pfx]
end

section
/-! Key slots (R145, R147, R150, R153 to R158, R293, Table 7.6): KEY.IMPORT, KEY.LOAD, KEY.SAVE, the erases, the end of a revocation and a failure of the
random generator. -/

namespace Sys2Proof.Machine

/-! ### The cipher complex through other operations -/

/-- No operation on buffers and blocks changes the cipher complex. -/
theorem Dev.cx_kept : Dev.KeptByBuffers Dev.cx where
  stamp _ _ _ := Dev.stamp_cx ..
  setW1f _ _ _ _ _ _ := rfl
  count _ _ _ _ _ := rfl
  onEr _ _ _ := rfl
  onPools _ _ := rfl
  onIdx _ _ _ := rfl
  onCm _ _ := rfl
  onMi _ _ := rfl
  onCs _ _ := rfl

theorem Dev.epochAdvance_cx (d : Dev) (a : Nat) : (d.epochAdvance a).cx = d.cx :=
  d.epochAdvance_keeps Dev.cx Dev.stamp_cx Dev.notice_cx Dev.onEr_cx Dev.send_cx a

/-- Any device but a member advances the order epoch itself (R293, R338). -/
theorem Dev.epochAdvance_epoch {d : Dev} (h : d.cs.st ≠ .member) (a : Nat) : (d.epochAdvance a).er.epoch = (d.er.epoch + 1) % 2 ^ 48 := by
  have advanced : (d.epochTo (d.er.epoch + 1) a).2.er.epoch = (d.er.epoch + 1) % 2 ^ 48 := by simp [Dev.epochTo]
  simp only [Dev.epochAdvance, if_neg h]
  split
  · exact (congrArg Errors.epoch (Dev.each_keeps Dev.er _ _ _ fun e m => Dev.send_er ..)).trans advanced
  · exact advanced

theorem Dev.randoms_cx (d : Dev) (n : Nat) : (d.randoms n).2.cx = d.cx := by
  induction n generalizing d with
  | zero => rfl
  | succ n ih => exact ih { d with draws := d.draws + 1 }

theorem Dev.ivlWrite_cx (d : Dev) (r : Rec) : (d.ivlWrite r).cx = d.cx := by
  have written : ∀ p a bs, (d.hostWrite p a bs).cx = d.cx := fun p a bs => by cases p <;> rfl
  unfold Dev.ivlWrite
  (repeat' split) <;> simp [Dev.ivlLose, written]

/-! ### Slots -/

theorem Dev.feedPipes_slots (d : Dev) (n : Nat) : (d.feedPipes n).cx.slots = d.cx.slots := by
  induction n generalizing d with
  | zero => rfl
  | succ n ih =>
    unfold Dev.feedPipes
    split
    · exact ih _
    · rfl

theorem Dev.logged_slots (d : Dev) (r : Rec) : (d.logged r).cx.slots = d.cx.slots := rfl

theorem Dev.logIvs_slots (d : Dev) (n : Nat) : (d.logIvs n).cx.slots = d.cx.slots := by
  induction n generalizing d with
  | zero => rfl
  | succ n ih =>
    unfold Dev.logIvs
    split
    · split
      · rw [ih, Dev.logged_slots, Dev.ivlWrite_cx]
      · rfl
    · rfl

/-- A record that closes advances the counter of its slot (R145). -/
theorem Dev.closeRec_slots (d : Dev) (r : Rec) :
    (d.closeRec r).cx.slots = d.cx.slots.modify r.slot (fun x => { x with counter := x.counter + 1 }) := by
  simp only [Dev.closeRec, Dev.feedPipes_slots, Dev.onSlot, Dev.onRec, Dev.onCx_cx, Dev.stamp_cx]

/-- A slot but for its counter. -/
def Dev.uncounted (d : Dev) (n : Nat) : Slot := { d.slot n with counter := 0 }

theorem Dev.closeOpen_uncounted (d : Dev) (p : Rec → Bool) (n : Nat) : (d.closeOpen p).uncounted n = d.uncounted n := by
  refine Dev.each_keeps (fun e => e.uncounted n) _ _ _ fun e r => ?_
  rw [Dev.uncounted, Dev.slot, Dev.closeRec_slots, Table.get_modify]
  split
  case isTrue h => rw [← h]; rfl
  case isFalse => rfl

/-- The key of a slot is zeroed, and the slot is EMPTY (R157). -/
theorem Dev.emptySlot_slots (d : Dev) (n : Nat) : (d.emptySlot n).cx.slots = d.cx.slots.set n Slot.reset := by
  rw [Dev.emptySlot, Dev.epochAdvance_cx]
  exact congrArg (fun x : Cipher => x.slots.set n Slot.reset) (Dev.stamp_cx ..)

theorem Dev.emptySlot_epoch {d : Dev} (h : d.cs.st ≠ .member) (n : Nat) : (d.emptySlot n).er.epoch = (d.er.epoch + 1) % 2 ^ 48 := by
  rw [Dev.emptySlot, Dev.epochAdvance_epoch] <;> simp [Dev.onSlot, Dev.erasesDone, h]

/-- The entries of a table changed one by one by a function that keeps the default. -/
theorem Table.get_map {α : Type} {x : α} (m : Table α x) {f : α → α} (h : f x = x) (k : Nat) :
    (⟨m.cells.map fun c => (c.1, f c.2)⟩ : Table α x).get k = f (m.get k) := by
  unfold Table.get
  induction m.cells with
  | nil => exact h.symm
  | cons c l ih =>
    simp only [List.map_cons, Table.look]
    split
    · rfl
    · exact ih

/-- A context once slot `n` is EMPTY: its flight no longer waits for that. -/
def Ctx.afterErase (n : Nat) (x : Ctx) : Ctx :=
  { x with run := match x.run with
    | .flight f => .flight (f.afterErase n)
    | r => r }

theorem Dev.erasesDone_get (d : Dev) (n c : Nat) : (d.erasesDone n).ctxs.get c = (d.ctxs.get c).afterErase n :=
  Table.get_map d.ctxs (f := Ctx.afterErase n) rfl c

theorem Dev.erasesDone_run {d : Dev} {c : Nat} {f : Flight} (h : (d.ctxs.get c).run = .flight f) (n : Nat) :
    ((d.erasesDone n).ctxs.get c).run = .flight (f.afterErase n) := by
  rw [Dev.erasesDone_get]
  simp only [Ctx.afterErase, h]

theorem Dev.emptySlot_run {d : Dev} {c : Nat} {f : Flight} (h : (d.ctxs.get c).run = .flight f) (n : Nat) :
    ((d.emptySlot n).ctxs.get c).run = .flight (f.afterErase n) := by
  rw [Dev.emptySlot, Dev.epochAdvance_ctxs]
  exact Dev.erasesDone_run (by rw [Dev.onSlot, Dev.onCx_ctxs, Dev.stamp_ctxs, h]) n

/-! ### The `pfx` of a loaded key (R145) -/

theorem Dev.drawPrefix_cx (d : Dev) (l : List W32) (n : Nat) : (d.drawPrefix l n).2.cx = d.cx := by
  induction n generalizing d with
  | zero => exact d.randoms_cx 4
  | succ n ih =>
    rw [Dev.drawPrefix]
    split
    · rw [ih, Dev.randoms_cx]
    · exact d.randoms_cx 4

/-- Among one more values in a row than a list has, one is not in it. -/
theorem exists_next_notMem {l : List W32} (h : l.length < 2 ^ 32) (v : Nat) : ∃ i ∈ List.range (l.length + 1), toW32 (v + i) ∉ l := by
  obtain ⟨i, hi, out⟩ := exists_notMem_of_injective (f := id) Function.injective_id (l.map fun p => (p - toW32 v).toNat)
  rw [List.length_map] at hi
  refine ⟨i, hi, fun taken => out (List.mem_map.mpr ⟨_, taken, ?_⟩)⟩
  have small : i < 2 ^ 32 := by
    rw [List.mem_range] at hi
    omega
  rw [id, toW32, toW32, BitVec.toNat_sub, BitVec.toNat_ofNat, BitVec.toNat_ofNat]
  omega

/-- The `pfx` drawn is none of those that are taken. -/
theorem Dev.drawPrefix_notMem (d : Dev) {l : List W32} (h : l.length < 2 ^ 32) (n : Nat) : (d.drawPrefix l n).1 ∉ l := by
  induction n generalizing d with
  | zero =>
    rw [Dev.drawPrefix]
    dsimp only
    cases hf : ((List.range (l.length + 1)).map fun i => toW32 (leNat (d.randoms 4).1 + i)).find? fun p => !l.contains p with
    | some p => simpa using List.find?_some hf
    | none =>
      obtain ⟨i, hi, free⟩ := exists_next_notMem h (leNat (d.randoms 4).1)
      have taken := List.find?_eq_none.mp hf _ (List.mem_map_of_mem hi)
      exact absurd free (by simpa using taken)
  | succ n ih =>
    rw [Dev.drawPrefix]
    split
    case isTrue => exact ih _
    case isFalse free => simpa using free

/-- What a slot holds after a passing load: the content of the blob, its `pfx`, and no pins (R153). -/
def loadedSlot (k : List Byte) (pfx : W32) : Slot :=
  { st := .loaded, key := keyOf (k.take 32), keyId := toW64 (leNat (sliceBytes k 40 8)), usage := BitVec.ofNat 2 (leNat (sliceBytes k 48 4))
    gen := leNat (sliceBytes k 52 4), counter := leNat (sliceBytes k 32 8), pfx := pfx, pins := 0 }

/-- The `pfx` that a load draws for slot `n`. -/
def Dev.loadPrefix (d : Dev) (n : Nat) (k : List Byte) : W32 := (d.drawPrefix (d.prefixesOf (toW64 (leNat (sliceBytes k 40 8))) n) 16).1

theorem Dev.loadSlot_slots (d : Dev) (n : Nat) (k : List Byte) :
    (d.loadSlot n k).cx.slots = d.cx.slots.set n (loadedSlot k (d.loadPrefix n k)) := by
  unfold Dev.loadSlot
  extract_lets keyId pd sd was d1
  have slots : d1.cx.slots = d.cx.slots.set n (loadedSlot k (d.loadPrefix n k)) := by
    simp only [d1, sd, pd, Dev.onSlot, Dev.onCx_cx, Dev.stamp_cx, Dev.drawPrefix_cx]
    rfl
  split
  · rw [Dev.epochAdvance_cx, slots]
  · exact slots

/-- No other loaded slot of the key has the `pfx` drawn (R145). -/
theorem Dev.loadPrefix_free {d : Dev} (h : d.cx.slots.cells.length ≤ 1024) {n : Nat} (k : List Byte) {e : Nat × Slot} (he : e ∈ d.cx.slots.cells)
    (hn : e.1 ≠ n) (hs : e.2.st ≠ .empty) (hk : e.2.keyId = toW64 (leNat (sliceBytes k 40 8))) : e.2.pfx ≠ d.loadPrefix n k := by
  have held : e.2.pfx ∈ d.prefixesOf (toW64 (leNat (sliceBytes k 40 8))) n :=
    List.mem_map.mpr ⟨e, List.mem_filter.mpr ⟨he, by simp [hn, hs, hk]⟩, rfl⟩
  have few : (d.prefixesOf (toW64 (leNat (sliceBytes k 40 8))) n).length < 2 ^ 32 := by
    rw [Dev.prefixesOf, List.length_map]
    exact Nat.lt_of_le_of_lt (List.length_filter_le ..) (by omega)
  intro same
  rw [same] at held
  exact d.drawPrefix_notMem few 16 held

/-- A slot that a load may fill (Table 7.6). -/
theorem Slot.mayLoad_of {x : Slot} (h : x.st = .empty ∨ (x.st = .loaded ∧ x.pins = 0)) :
    (!(x.st == .empty || (x.st == .loaded && decide (x.pins = 0)))) = false := by
  rcases h with st | ⟨st, pins⟩
  · simp [st]
  · simp [st, pins]

/-- The device once a slot drains for a context's erase: its open record has closed (R157). -/
def Dev.drainSlot (d : Dev) (c n : Nat) : Dev :=
  (((d.stamp 0xB).2.onSlot n (fun x => { x with st := .draining })).closeOpen (fun r => r.slot == n)).fly c (.erase n false)

theorem Dev.drainSlot_uncounted (d : Dev) (c n : Nat) : (d.drainSlot c n).uncounted n = { d.slot n with st := .draining, counter := 0 } := by
  have flies : ∀ e : Dev, (e.fly c (.erase n false)).uncounted n = e.uncounted n := fun _ => rfl
  rw [Dev.drainSlot, flies, Dev.closeOpen_uncounted]
  simp only [Dev.uncounted, Dev.slot, Dev.onSlot, Dev.onCx_cx, Dev.stamp_cx, Table.get_modify_self]

theorem Slot.drained_of {x y : Slot} (h : { x with counter := 0 } = { y with st := .draining, counter := 0 }) :
    x.st = .draining ∧ x.pins = y.pins ∧ x.key = y.key := by
  obtain ⟨st, key, -, -, -, -, -, pins⟩ := Slot.mk.inj h
  exact ⟨st, pins, key⟩

/-- A slot that drains keeps its pins and its key. -/
theorem Dev.drainSlot_slot (d : Dev) (c n : Nat) :
    ((d.drainSlot c n).slot n).st = .draining ∧ ((d.drainSlot c n).slot n).pins = (d.slot n).pins ∧ ((d.drainSlot c n).slot n).key = (d.slot n).key :=
  Slot.drained_of (d.drainSlot_uncounted c n)

/-! ### Revocation (R158) -/

section
variable (d : Dev) (c : Nat)

/-- What a context runs, and its instruction. -/
def Dev.workAt (d : Dev) (j : Nat) : Run × W64 := ((d.ctxs.get j).run, (d.ctxs.get j).ir)

theorem Dev.onCtx_workAt {f : Ctx → Ctx} (hf : ∀ x, (f x).run = x.run ∧ (f x).ir = x.ir) (j : Nat) : (d.onCtx c f).workAt j = d.workAt j := by
  rw [Dev.workAt, Dev.onCtx_ctxs, Table.get_modify]
  split
  case isTrue h => rw [h, (hf _).1, (hf _).2, Dev.workAt]
  case isFalse => rfl

theorem Dev.stamp_workAt (u a j : Nat) : (d.stamp u a).2.workAt j = d.workAt j := by rw [Dev.workAt, Dev.stamp_ctxs, Dev.workAt]

end

theorem Dev.pinsSlot_congr {d e : Dev} {j : Nat} (hw : e.workAt j = d.workAt j) (hi : e.idx = d.idx) (n : Nat) : e.pinsSlot j n = d.pinsSlot j n := by
  obtain ⟨run, ir⟩ := Prod.mk.inj hw
  simp only [Dev.pinsSlot, Dev.write, Dev.intentIn, run, ir, hi]

theorem Dev.discardUnsealed_slots (d : Dev) (n : Nat) : (d.discardUnsealed n).cx.slots = d.cx.slots := by
  unfold Dev.discardUnsealed
  extract_lets mine
  rw [Dev.feedPipes_slots, Dev.logDue, Dev.logIvs_slots, Dev.onCx_cx, Dev.cx_kept.dropWaits,
    Dev.each_keeps Dev.cx _ _ _ fun e r => Dev.each_keeps Dev.cx _ _ _ Dev.cx_kept.giveBack]

/-- A slot that nothing pins, with no write in the index, is revoked and ends nothing. -/
theorem Dev.revoke_idle {d : Dev} {n : Nat} (hp : ∀ j, j < 256 → d.pinsSlot j n = false) (hi : d.idx.writes = []) :
    (d.revoke n).1 = 0 ∧ (d.revoke n).2.cx.slots = d.cx.slots.modify n (fun x => { x with st := .revoking }) := by
  unfold Dev.revoke
  extract_lets d1 cs d2 ws d3
  have idx : d1.idx = d.idx := Dev.stamp_idx ..
  have unpinned : cs = [] := List.filter_eq_nil_iff.mpr fun j hj => by
    have free := (Dev.pinsSlot_congr (e := d1) (d := d) (d.stamp_workAt 0xB 0 j) idx n).trans (hp j (List.mem_range.mp hj))
    simp [free]
  have same : d2 = d1 := by rw [show d2 = d1.each cs fun d c => d.revokeCmd c n from rfl, unpinned]; rfl
  have unwritten : ws = [] := by rw [show ws = d2.idx.writes.filter _ from rfl, same, idx, hi]; rfl
  refine ⟨by rw [unpinned, unwritten]; rfl, ?_⟩
  rw [Dev.cx_kept.reap, Dev.cx_kept.reviewHolds, unwritten, Dev.loss]
  rw [show d3 = (d2.each ws fun d w => d.withdraw w).discardUnsealed n from rfl, Dev.discardUnsealed_slots, unwritten, same]
  exact congrArg (fun x : Cipher => x.slots.modify n fun x => { x with st := .revoking }) (Dev.stamp_cx ..)

/-! ### The random generator (R147, R287) -/

theorem Dev.isFenced_fence (d : Dev) (u : UnitId) : (d.fence u).isFenced u = true := by
  unfold Dev.fence
  split
  case isTrue h => exact h
  case isFalse => simp [Dev.isFenced, Dev.onEr]

/-- A C3 that enters the pending list takes its unit out of service. -/
theorem Dev.enterPend_fences (d : Dev) {r : Report} (h : r.cls = .c3) (rclass : EClass) : (d.enterPend r rclass).2.isFenced r.unit = true := by
  unfold Dev.enterPend
  extract_lets snap active pre related l d1 d2 d3 d4
  have fenced : d3.isFenced r.unit = true := by
    rw [show d3 = d2.fence r.unit from if_pos (.inr h)]
    exact Dev.isFenced_fence ..
  exact fenced

/-- A C3 with room among the pending errors, none of them of its unit, fences the unit. -/
theorem Dev.raise_fences {d : Dev} {r : Report} (h : r.cls = .c3) (hf : d.er.failed = false) (hl : d.er.pend.length < 16)
    (hp : ∀ p ∈ d.er.pend, p.unit ≠ r.unit) : (d.raise r).isFenced r.unit = true := by
  have fresh : d.er.pend.find? (fun p => decide (p.unit = r.unit) && p.underWay) = none := List.find?_eq_none.mpr fun p hm => by simp [hp p hm]
  simp only [Dev.raise, h, Dev.raiseHigh, hf, Bool.false_eq_true, if_false, fresh, Nat.not_le.mpr hl]
  exact Dev.enterPend_fences d h _

/-! ### Packages and blobs (R150 to R154) -/

section
variable {d e : Dev} (hf : e.fu = d.fu) (hx : e.cx = d.cx)
include hf

theorem Dev.blob_congr (key : List Byte) (floor keyId usage gen : Nat) : e.blob key floor keyId usage gen = d.blob key floor keyId usage gen := by
  rw [show e.blob key floor keyId usage gen = ({ d with fu := e.fu } : Dev).blob key floor keyId usage gen from rfl, hf]

include hx

theorem Dev.importKey_congr (p : List Byte) : e.importKey p = d.importKey p := by
  rw [show e.importKey p = ({ d with fu := e.fu, cx := e.cx } : Dev).importKey p from rfl, hf, hx]

theorem Dev.unwrapBlob_congr (b : List Byte) : e.unwrapBlob b = d.unwrapBlob b := by
  rw [show e.unwrapBlob b = ({ d with fu := e.fu, cx := e.cx } : Dev).unwrapBlob b from rfl, hf, hx]

end

/-- What KEY.LOAD makes of the blob it has read for slot `n` (R153 steps 2 and 3). -/
def Dev.loadBlob (d : Dev) (c n : Nat) (b : List Byte) : Dev :=
  match d.unwrapBlob b with
  | none => d.failWith c St.unwrapFailed (toW64 n) (toW64 (leNat (sliceBytes b 8 8)))
  | some k =>
    if d.rngFenced then d.failWith c St.rngFailed (toW64 n) (toW64 (leNat (sliceBytes b 8 8))) else (d.loadSlot n k).finish c St.ok none 0 0

section
variable (d : Dev) (c : Nat) (mem : HostWrites) (a n : Nat)

theorem Dev.issuing_gb : ((d.issuing c).ctxs.get c).gb = (d.ctxs.get c).gb := by
  obtain ⟨i, k, ctx⟩ := d.issuing_ctx c
  rw [ctx]
  rfl

theorem Dev.issuing_slot : (d.issuing c).slot n = d.cx.slots.get n := by rw [Dev.slot, Dev.issuing_cx]

theorem Dev.issuing_fu : (d.issuing c).fu = d.fu := (d.useTurn c).issue_keeps Dev.fu Dev.stamp_fu Dev.onCtx_fu c

theorem Dev.issuing_fenced : (d.issuing c).er.fenced = d.er.fenced :=
  (d.useTurn c).issue_keeps (fun d => d.er.fenced) (fun d u a => by rw [Dev.stamp_er]) (fun _ _ _ => rfl) c

/-- The issue changes no context's work. -/
theorem Dev.issuing_workAt (j : Nat) : (d.issuing c).workAt j = d.workAt j := by
  have used : (d.useTurn c).workAt j = d.workAt j := rfl
  unfold Dev.issuing Dev.issue
  split
  · rw [Dev.onCtx_workAt, used]
    exact fun _ => ⟨rfl, rfl⟩
  · split
    · dsimp only
      rw [Dev.onCtx_workAt, Dev.stamp_workAt, used]
      exact fun _ => ⟨rfl, rfl⟩
    · exact used

theorem Dev.readingHost_cx : (d.readingHost c mem a n).cx = d.cx :=
  (Dev.ask_cx ..).trans ((Dev.placeFor_keeps Dev.cx (fun _ _ _ _ => rfl) _ c mem).trans (d.issuing_cx c))

theorem Dev.readingHost_fu : (d.readingHost c mem a n).fu = d.fu :=
  (Dev.ask_fu ..).trans ((Dev.placeFor_keeps Dev.fu (fun _ _ _ _ => rfl) _ c mem).trans (d.issuing_fu c))

theorem Dev.readingHost_rngFenced : (d.readingHost c mem a n).rngFenced = d.rngFenced := by
  have fenced : (d.readingHost c mem a n).er.fenced = d.er.fenced :=
    (congrArg Errors.fenced (Dev.ask_er ..)).trans ((Dev.placeFor_keeps (fun d => d.er.fenced) (fun _ _ _ _ => rfl) _ c mem).trans (d.issuing_fenced c))
  rw [Dev.rngFenced, Dev.rngFenced, Dev.isFenced, Dev.isFenced, fenced]

end

section
variable {s : State} {c : Nat} (hw : s.dev.working = true)
include hw

/-! ### KEY.IMPORT (R150) -/

section
variable (hi : s.dev.mayIssue c 0x60 = true) (mem : HostWrites)
include hi

theorem keyImport_misaligned (ok : Bool) (ha : (s.dev.ctxs.get c).ga.toNat % 8 ≠ 0 ∨ (s.dev.ctxs.get c).gb.toNat % 8 ≠ 0) :
    exec (.keyImport c mem ok) s = .next ⟨(s.dev.issuing c).failWith c St.programFault, s.pending⟩ := by
  refine (acts_of_insn (i := .keyImport c mem ok) (Eq.refl (execKeyImport c mem ok s)) hw hi).trans ?_
  simp only [Dev.issuing_ga, Dev.issuing_gb, if_pos ha]

/-- A package that passes every check becomes a blob of generation 0. -/
theorem keyImport_writes {p k : List Byte} (hp : readBytes ((s.dev.placeFor c mem).mem c) (s.dev.ctxs.get c).ga.toNat 184 = p)
    (ha : (s.dev.ctxs.get c).ga.toNat % 8 = 0) (hb : (s.dev.ctxs.get c).gb.toNat % 8 = 0) (hr : s.dev.mayRequest c = true)
    (hk : packageOk p = true) (hn : leNat (sliceBytes p 24 8) < 2 ^ 63) (hu : s.dev.importKey p = some k) :
    exec (.keyImport c mem true) s = .next ⟨((s.dev.readingHost c mem (s.dev.ctxs.get c).ga.toNat 184).memWrite c [((s.dev.ctxs.get c).gb.toNat, 96)]
      (s.dev.blob k (leNat (sliceBytes p 24 8)) (leNat (sliceBytes p 8 8)) (leNat (sliceBytes p 16 4)) 0)).finish c St.ok (some 96) 0 0, s.pending⟩ := by
  have key := (Dev.importKey_congr (s.dev.readingHost_fu c mem (s.dev.ctxs.get c).ga.toNat 184) (s.dev.readingHost_cx ..) p).trans hu
  rw [← s.dev.readingHost_mem c mem (s.dev.ctxs.get c).ga.toNat 184] at hp
  rw [← Dev.blob_congr (s.dev.readingHost_fu c mem (s.dev.ctxs.get c).ga.toNat 184)]
  refine (acts_of_insn (i := .keyImport c mem true) (Eq.refl (execKeyImport c mem true s)) hw hi).trans ?_
  rw [Dev.readingHost] at hp key ⊢
  simp only [Dev.issuing_ga, Dev.issuing_gb, ha, hb, ne_eq, not_true_eq_false, or_self, if_false, Dev.issuing_mayRequest, hr, Bool.not_true,
    Bool.false_eq_true, hp, hk, Nat.not_le.mpr hn, key]

end

/-! ### KEY.LOAD (R153) -/

section
variable (hi : s.dev.mayIssue c 0x61 = true) (mem : HostWrites) {n : Nat} (hn : s.dev.slotNo c = n)
include hi hn

theorem keyLoad_busy (ok : Bool) (hs : ((s.dev.cx.slots.get n).st = .loaded ∧ (s.dev.cx.slots.get n).pins ≠ 0) ∨
    (s.dev.cx.slots.get n).st = .draining ∨ (s.dev.cx.slots.get n).st = .revoking) :
    exec (.keyLoad c mem ok) s = .next ⟨(s.dev.issuing c).failWith c St.keySlotBusy (toW64 n) (s.dev.cx.slots.get n).keyId, s.pending⟩ := by
  subst hn
  refine (acts_of_insn (i := .keyLoad c mem ok) (Eq.refl (execKeyLoad c mem ok s)) hw hi).trans ?_
  simp only [Dev.issuing_slot, Dev.issuing_ir]
  rw [if_pos]
  rcases hs with ⟨st, pins⟩ | st | st
  · simp [st, pins]
  · simp [st]
  · simp [st]

variable (hr : s.dev.mayRequest c = true)
  (hs : (s.dev.cx.slots.get n).st = .empty ∨ ((s.dev.cx.slots.get n).st = .loaded ∧ (s.dev.cx.slots.get n).pins = 0))
  {b : List Byte} (hb : readBytes ((s.dev.placeFor c mem).mem c) (s.dev.ctxs.get c).ga.toNat 96 = b)
include hr hs hb

/-- A slot that may be loaded takes what the blob holds, once its bytes are read. -/
theorem keyLoad_reads : exec (.keyLoad c mem true) s =
    .next ⟨(s.dev.readingHost c mem (s.dev.ctxs.get c).ga.toNat 96).loadBlob c n b, s.pending⟩ := by
  subst hn
  rw [← s.dev.readingHost_mem c mem (s.dev.ctxs.get c).ga.toNat 96] at hb
  refine (acts_of_insn (i := .keyLoad c mem true) (Eq.refl (execKeyLoad c mem true s)) hw hi).trans ?_
  rw [Dev.readingHost] at hb ⊢
  simp only [Dev.issuing_slot, Dev.issuing_ir, Slot.mayLoad_of hs, Bool.false_eq_true, if_false, Dev.issuing_ga, Dev.issuing_mayRequest, hr,
    Bool.not_true, hb]
  rfl

theorem keyLoad_unwrapFails (hu : s.dev.unwrapBlob b = none) : exec (.keyLoad c mem true) s =
    .next ⟨(s.dev.readingHost c mem (s.dev.ctxs.get c).ga.toNat 96).failWith c St.unwrapFailed (toW64 n) (toW64 (leNat (sliceBytes b 8 8))),
      s.pending⟩ := by
  have content := (Dev.unwrapBlob_congr (s.dev.readingHost_fu c mem (s.dev.ctxs.get c).ga.toNat 96) (s.dev.readingHost_cx ..) b).trans hu
  rw [keyLoad_reads hw hi mem hn hr hs hb]
  simp only [Dev.loadBlob, content]

theorem keyLoad_loads {k : List Byte} (hu : s.dev.unwrapBlob b = some k) (hg : s.dev.rngFenced = false) : exec (.keyLoad c mem true) s =
    .next ⟨((s.dev.readingHost c mem (s.dev.ctxs.get c).ga.toNat 96).loadSlot n k).finish c St.ok none 0 0, s.pending⟩ := by
  have content := (Dev.unwrapBlob_congr (s.dev.readingHost_fu c mem (s.dev.ctxs.get c).ga.toNat 96) (s.dev.readingHost_cx ..) b).trans hu
  have serves := (s.dev.readingHost_rngFenced c mem (s.dev.ctxs.get c).ga.toNat 96).trans hg
  rw [keyLoad_reads hw hi mem hn hr hs hb]
  simp only [Dev.loadBlob, content, serves, Bool.false_eq_true, if_false]

end

/-! ### KEY.SAVE (R154) -/

section
variable (hi : s.dev.mayIssue c 0x62 = true) {n : Nat} (hn : s.dev.slotNo c = n)
include hi hn

theorem keySave_empty (ok : Bool) (hs : (s.dev.cx.slots.get n).st = .empty) :
    exec (.keySave c ok) s = .next ⟨(s.dev.issuing c).failWith c St.slotEmpty (toW64 n), s.pending⟩ := by
  subst hn
  refine (acts_of_insn (i := .keySave c ok) (Eq.refl (execKeySave c ok s)) hw hi).trans ?_
  simp only [Dev.issuing_slot, Dev.issuing_ir, hs, if_true]

theorem keySave_revoking (ok : Bool) (hs : (s.dev.cx.slots.get n).st = .revoking) :
    exec (.keySave c ok) s = .next ⟨(s.dev.issuing c).failWith c St.keyRevoked (toW64 n) (s.dev.cx.slots.get n).keyId, s.pending⟩ := by
  subst hn
  refine (acts_of_insn (i := .keySave c ok) (Eq.refl (execKeySave c ok s)) hw hi).trans ?_
  simp only [Dev.issuing_slot, Dev.issuing_ir, hs, reduceCtorEq, if_false, if_true]

theorem keySave_writes (hr : s.dev.mayRequest c = true) (hs : (s.dev.cx.slots.get n).st = .loaded ∨ (s.dev.cx.slots.get n).st = .draining) :
    exec (.keySave c true) s = .next ⟨(((s.dev.issuing c).memWrite c [((s.dev.ctxs.get c).ga.toNat, 96)]
      (s.dev.blob (beBytes 32 (s.dev.cx.slots.get n).key.toNat) (s.dev.cx.slots.get n).counter (s.dev.cx.slots.get n).keyId.toNat
        (s.dev.cx.slots.get n).usage.toNat ((s.dev.cx.slots.get n).gen + 1))).onSlot n (fun y => { y with gen := y.gen + 1 })).finish c St.ok
      (some 96) 0 0, s.pending⟩ := by
  subst hn
  have held : (s.dev.cx.slots.get (s.dev.slotNo c)).st ≠ .empty ∧ (s.dev.cx.slots.get (s.dev.slotNo c)).st ≠ .revoking := by
    rcases hs with st | st <;> simp [st]
  rw [← Dev.blob_congr (s.dev.issuing_fu c)]
  refine (acts_of_insn (i := .keySave c true) (Eq.refl (execKeySave c true s)) hw hi).trans ?_
  simp only [Dev.issuing_slot, Dev.issuing_ir, Dev.issuing_ga, held, if_false, Dev.issuing_mayRequest, hr, Bool.not_true, Bool.false_eq_true]

end

/-! ### KEY.ERASE (R157) -/

section
variable (hi : s.dev.mayIssue c 0x63 = true) {n : Nat} (hn : s.dev.slotNo c = n)
include hi hn

theorem keyErase_empty (hs : (s.dev.cx.slots.get n).st = .empty) :
    exec (.keyErase c) s = .next ⟨(s.dev.issuing c).failWith c St.slotEmpty (toW64 n), s.pending⟩ := by
  subst hn
  refine (acts_of_insn (i := .keyErase c) (Eq.refl (execKeyErase c s)) hw hi).trans ?_
  simp only [Dev.issuing_slot, Dev.issuing_ir, hs]

theorem keyErase_waits (hs : (s.dev.cx.slots.get n).st = .draining ∨ (s.dev.cx.slots.get n).st = .revoking) :
    exec (.keyErase c) s = .next ⟨(s.dev.issuing c).fly c (.erase n false), s.pending⟩ := by
  subst hn
  refine (acts_of_insn (i := .keyErase c) (Eq.refl (execKeyErase c s)) hw hi).trans ?_
  rcases hs with st | st <;> simp only [Dev.issuing_slot, Dev.issuing_ir, st]

theorem keyErase_drains (hs : (s.dev.cx.slots.get n).st = .loaded) (hp : 0 < (s.dev.cx.slots.get n).pins) :
    exec (.keyErase c) s = .next ⟨(s.dev.issuing c).drainSlot c n, s.pending⟩ := by
  subst hn
  have pins : (((s.dev.issuing c).drainSlot c (s.dev.slotNo c)).slot (s.dev.slotNo c)).pins ≠ 0 := by
    obtain ⟨-, kept, -⟩ := (s.dev.issuing c).drainSlot_slot c (s.dev.slotNo c)
    rw [kept, Dev.issuing_slot]
    omega
  refine (acts_of_insn (i := .keyErase c) (Eq.refl (execKeyErase c s)) hw hi).trans ?_
  rw [Dev.drainSlot] at pins ⊢
  simp only [Dev.issuing_slot, Dev.issuing_ir, hs, pins, if_false]

theorem keyErase_empties (hs : (s.dev.cx.slots.get n).st = .loaded) (hp : (s.dev.cx.slots.get n).pins = 0) :
    exec (.keyErase c) s = .next ⟨((s.dev.issuing c).drainSlot c n).emptySlot n, s.pending⟩ := by
  subst hn
  have pins : (((s.dev.issuing c).drainSlot c (s.dev.slotNo c)).slot (s.dev.slotNo c)).pins = 0 := by
    obtain ⟨-, kept, -⟩ := (s.dev.issuing c).drainSlot_slot c (s.dev.slotNo c)
    rw [kept, Dev.issuing_slot, hp]
  refine (acts_of_insn (i := .keyErase c) (Eq.refl (execKeyErase c s)) hw hi).trans ?_
  rw [Dev.drainSlot] at pins ⊢
  simp only [Dev.issuing_slot, Dev.issuing_ir, hs, pins, if_true]

end

/-! ### KEY.ERASE.NOW (R157, R158) -/

section
variable (hi : s.dev.mayIssue c 0x64 = true) {n : Nat} (hn : s.dev.slotNo c = n)
include hi hn

theorem keyEraseNow_empty (hs : (s.dev.cx.slots.get n).st = .empty) :
    exec (.keyEraseNow c) s = .next ⟨(s.dev.issuing c).failWith c St.slotEmpty (toW64 n), s.pending⟩ := by
  subst hn
  refine (acts_of_insn (i := .keyEraseNow c) (Eq.refl (execKeyEraseNow c s)) hw hi).trans ?_
  simp only [Dev.issuing_slot, Dev.issuing_ir, hs]

theorem keyEraseNow_waits (hs : (s.dev.cx.slots.get n).st = .revoking) :
    exec (.keyEraseNow c) s = .next ⟨(s.dev.issuing c).fly c (.eraseNow n 0 false), s.pending⟩ := by
  subst hn
  refine (acts_of_insn (i := .keyEraseNow c) (Eq.refl (execKeyEraseNow c s)) hw hi).trans ?_
  simp only [Dev.issuing_slot, Dev.issuing_ir, hs]

theorem keyEraseNow_revokes (hs : (s.dev.cx.slots.get n).st = .loaded ∨ (s.dev.cx.slots.get n).st = .draining) :
    exec (.keyEraseNow c) s = .next ⟨((s.dev.issuing c).revoke n).2.fly c (.eraseNow n ((s.dev.issuing c).revoke n).1 false), s.pending⟩ := by
  subst hn
  refine (acts_of_insn (i := .keyEraseNow c) (Eq.refl (execKeyEraseNow c s)) hw hi).trans ?_
  rcases hs with st | st <;> simp only [Dev.issuing_slot, Dev.issuing_ir, st]

end

end

end Sys2Proof.Machine

open Sys2Proof Sys2Proof.Machine

/-- Settles O30: each instruction from the device as it has issued, its slot as Table 7.6 has it. -/
theorem keyInstructions : Obligations.KeyInstructions := by
  intro c s mem hw x n sl req p b
  have hn : s.dev.slotNo c = n := rfl
  have cx : (s.dev.issuing c).cx = s.dev.cx := s.dev.issuing_cx c
  have slot : (s.dev.issuing c).slot n = sl := s.dev.issuing_slot c n
  have refuse : ∀ {i : Instr} {st : W16} {d : Dev} {a b : W64}, exec i s = .next ⟨d.failWith c st a b, s.pending⟩ → d.cx = s.dev.cx →
      Finishes i s c st none (fun d => d.cx = s.dev.cx) := fun h hd => ⟨_, h, _, _, _, none, none, 0, rfl, hd⟩
  refine ⟨fun k hi hr ha hb hk hv hu => ⟨_, keyImport_writes hw hi mem rfl ha hb hr hk hv hu, _, 0, 0, none, none, 0, rfl, ?wraps⟩,
    fun ok hi ha => refuse (keyImport_misaligned hw hi mem ok ha) cx,
    fun k hi hr hs hu hg => ⟨_, keyLoad_loads hw hi mem hn hr hs rfl hu hg, _, 0, 0, none, none, 0, rfl, ?load⟩,
    fun ok hi hs => refuse (keyLoad_busy hw hi mem hn ok hs) cx,
    fun hi hr hs hu => refuse (keyLoad_unwrapFails hw hi mem hn hr hs rfl hu) (s.dev.readingHost_cx ..),
    fun hi hs ok => ?noSave,
    fun hi hr hs => ⟨_, keySave_writes hw hi hn hr hs, _, 0, 0, none, none, 0, rfl, ?save⟩,
    fun hi hs => refuse (keyErase_empty hw hi hn hs) cx,
    fun hi hs hp => ⟨_, keyErase_drains hw hi hn hs hp, Dev.fly_run .., ?drain⟩,
    fun hi hs hp => ⟨_, keyErase_empties hw hi hn hs hp, ?empty⟩,
    fun hi hs => ⟨_, keyErase_waits hw hi hn hs, rfl⟩,
    fun hi hs => refuse (keyEraseNow_empty hw hi hn hs) cx,
    fun hi hs hp hx => ⟨_, keyEraseNow_revokes hw hi hn hs, ?revoke⟩,
    fun hi hs => ⟨_, keyEraseNow_waits hw hi hn hs, rfl⟩,
    fun k hk hs hm => ?revoked, fun hl hp => ?rng⟩
  case wraps =>
    refine ⟨(Dev.memWrite_keeps Dev.cx Dev.stamp_cx Dev.send_cx (fun _ _ _ _ => rfl) ..).trans (s.dev.readingHost_cx ..), ?_⟩
    rw [Dev.memWrite_mem, Dev.readingHost_mem]
    rfl
  case load =>
    have slots := Dev.loadSlot_slots (s.dev.readingHost c mem x.ga.toNat 96) n k
    have before : (s.dev.readingHost c mem x.ga.toNat 96).cx = s.dev.cx := s.dev.readingHost_cx ..
    have own := (congrArg (fun t => Table.get t n) slots).trans (Table.get_set_self ..)
    refine ⟨?_, ?_, ?_, ?_, ?_, ?_, ?_, fun j hj => ?others, fun few e he hne hst hkey => ?prefixes⟩
    case others => rw [slots, Table.get_set_ne _ _ hj, before]
    case prefixes =>
      rw [own] at hkey ⊢
      exact Dev.loadPrefix_free (before ▸ few) k (before ▸ he) hne hst hkey
    all_goals
      rw [own]
      rfl
  case noSave =>
    rcases hs with st | st
    · rw [if_pos st]
      exact refuse (keySave_empty hw hi hn ok st) cx
    · rw [if_neg (by simp [st])]
      exact refuse (keySave_revoking hw hi hn ok st) cx
  case save =>
    refine ⟨?_, ?_⟩
    · rw [Dev.onSlot, Dev.onCx_cx, Dev.memWrite_keeps Dev.cx Dev.stamp_cx Dev.send_cx (fun _ _ _ _ => rfl), cx]
    · refine (Dev.memWrite_mem ..).trans ?_
      rw [Dev.issuing_mem]
      rfl
  case drain =>
    have drained := (s.dev.issuing c).drainSlot_slot c n
    rwa [slot] at drained
  case empty =>
    refine ⟨(Dev.emptySlot_run (Dev.fly_run ..) n).trans ?_, ?_⟩
    · simp [Flight.afterErase]
    · rw [Dev.emptySlot_slots, Table.get_set_self]
  case revoke =>
    have unpinned : ∀ j, j < 256 → (s.dev.issuing c).pinsSlot j n = false := fun j hj =>
      (Dev.pinsSlot_congr (s.dev.issuing_workAt c j) (s.dev.issuing_idx c) n).trans (hp j hj)
    obtain ⟨ended, slots⟩ := Dev.revoke_idle unpinned ((congrArg Index.writes (s.dev.issuing_idx c)).trans hx)
    refine ⟨(Dev.fly_run ..).trans (by rw [ended]), ?_⟩
    rw [Dev.fly, Dev.onCtx_cx, slots, Table.get_modify_self]
  case revoked =>
    refine ⟨_, State.work_of _ hw, ?_⟩
    simp only [Dev.slot, hk, hs, and_self, if_true, Dev.emptySlot_slots, Dev.emptySlot_epoch hm]
  case rng =>
    obtain ⟨-, works⟩ := Dev.alive_of_working hw
    refine ⟨_, State.work_of _ hw, ?_⟩
    dsimp only
    split
    case isTrue fenced => exact ⟨fenced, rfl⟩
    case isFalse =>
      obtain ⟨-, -, -, same⟩ := Dev.seat_eq (Dev.seat_kept.raise (fun _ => rfl) s.dev { cls := .c3, unit := ⟨0xB, 18⟩, cat := 5 })
      exact ⟨Dev.raise_fences rfl works hl hp, same⟩
end

section
/-! How records are sealed (R142, R144, R145, R148): the blocks that join a record, its close, its tag, and the IV log. -/

namespace Sys2Proof.Machine

/-! ### The blocks in the compression complex -/

theorem Dev.freeBuf_cm (d : Dev) (k : Nat) (b : Buf) : (d.freeBuf k b).cm = d.cm := by
  unfold Dev.freeBuf
  extract_lets d0
  split
  · simp [Dev.freeLent, d0]
  · rw [Dev.serveWaiter_keeps Dev.cm Dev.stamp_cm Dev.onPools_cm, Dev.onPools_cm, Dev.onMi_cm, Dev.onIdx_cm]

theorem Dev.giveBack_cm (d : Dev) (k : Nat) : (d.giveBack k).cm = d.cm := by
  unfold Dev.giveBack
  split
  · exact (Dev.freeBuf_cm ..).trans (Dev.stamp_cm ..)
  · rfl

theorem Dev.release_cm (d : Dev) (k : Nat) (x : Holder) (req : Nat) : (d.release k x req).2.cm = d.cm := by
  simp only [Dev.release]
  (repeat' split) <;> simp [Dev.freeBuf_cm]

theorem Dev.letGo_cm (d : Dev) (k : Nat) (x : Holder) : (d.letGo k x).cm = d.cm := by
  unfold Dev.letGo
  split
  · exact Dev.release_cm ..
  · rfl

theorem Dev.dropWaits_cm (d : Dev) (p : BufUnit → List Nat → Bool) : (d.dropWaits p).cm = d.cm :=
  (Dev.each_keeps Dev.cm _ _ _ fun e _ => e.giveBack_cm _).trans (Dev.onPools_cm ..)

/-- The blocks that a condition names leave, the others stay. -/
theorem Dev.dropBlocks_blocks (d : Dev) (p : Block → Bool) : (d.dropBlocks p).cm.blocks = d.cm.blocks.filter (fun b => !p b) := by
  have freed : ∀ (e : Dev) (b : Block) (u : BufUnit), (e.freeBlock b u).cm = e.cm := fun e b u =>
    Dev.each_keeps Dev.cm _ _ _ fun e k => e.letGo_cm ..
  unfold Dev.dropBlocks
  extract_lets bs d1
  have same : d1.cm = d.cm := Dev.each_keeps Dev.cm _ _ _ fun e b => by
    rw [Dev.each_keeps Dev.cm _ _ _ Dev.giveBack_cm, Dev.freeFrame, Dev.each_keeps Dev.cm _ _ _ Dev.giveBack_cm, freed, freed, freed]
  rw [Dev.onCm_cm, Dev.dropWaits_cm, same]

theorem Dev.grab_cm (d : Dev) (u : BufUnit) (tag : List Nat) (size : Nat) (share : List Holder) : (d.grab u tag size share).2.cm = d.cm := by
  have taken : ∀ (e : Dev) (req p : Nat), (e.take req p share).2.cm = e.cm := fun e req p => by
    unfold Dev.take
    split <;> rfl
  have refused : ∀ (e : Dev) (st : W16), (e.countRefusal st).cm = e.cm := fun e st => by simp [Dev.countRefusal, apply_ite Dev.cm]
  unfold Dev.grab
  split
  · rfl
  · split
    · rfl
    · unfold Dev.request
      dsimp only
      split <;> simp [taken, refused]

/-! ### Dividers of the record stream (R142) -/

/-- What the dividers are read from. -/
def Dev.divides (d : Dev) : Hk × Vol × List Cmd × Table Ctx Ctx.reset := (d.hk, d.vol, d.cmds, d.ctxs)

theorem Dev.divides_kept : Dev.KeptByBuffers Dev.divides where
  stamp d u a := by simp [Dev.divides]
  setW1f _ _ _ _ _ _ := rfl
  count _ _ _ _ _ := rfl
  onEr _ _ _ := rfl
  onPools _ _ := rfl
  onIdx _ _ _ := rfl
  onCm _ _ := rfl
  onMi _ _ := rfl
  onCs _ _ := rfl

theorem Dev.dividers_congr {d e : Dev} (h : e.divides = d.divides) : e.dividers = d.dividers := by
  obtain ⟨hk, vol, cmds, ctxs⟩ : e.hk = d.hk ∧ e.vol = d.vol ∧ e.cmds = d.cmds ∧ e.ctxs = d.ctxs := by simpa [Dev.divides] using h
  rw [show e.dividers = ({ d with hk := e.hk, vol := e.vol, cmds := e.cmds, ctxs := e.ctxs } : Dev).dividers from rfl, hk, vol, cmds, ctxs]

/-- With no divider, no record closes for one. -/
theorem Dev.sealRecords_idle {d : Dev} (h : d.dividers = []) : d.sealRecords = d := by
  rw [Dev.sealRecords, h]
  rfl

/-! ### Records that take a block (R142) -/

/-- A record once a block of write `id` has joined it. -/
def Rec.joined (y : Rec) (id k : Nat) (env : List Byte) (now : Nat) : Rec :=
  { y with blocks := y.blocks ++ [(id, k, y.plain.length)], plain := y.plain ++ env, joinedAt := now }

section
variable (d : Dev) (r : Rec) (w : Write) (b : Block) (env : List Byte)

theorem Dev.putBlock_cx : (d.putBlock r w b env).cx =
    { d.cx with recs := d.cx.recs.map (fun y => if y.id = r.id then y.joined w.id b.k env d.clk.now else y) } := Dev.cx_kept.dropBlocks ..

theorem Dev.putBlock_dividers : (d.putBlock r w b env).dividers = d.dividers :=
  Dev.dividers_congr (Dev.divides_kept.dropBlocks ..)

variable {d w b} in
/-- The one block of a write leaves the compression complex as it joins. -/
theorem Dev.putBlock_blocksOf (hb : d.blocksOf w.id = [b]) : (d.putBlock r w b env).blocksOf w.id = [] := by
  rw [Dev.blocksOf, Dev.putBlock, Dev.dropBlocks_blocks, List.filter_filter, List.filter_eq_nil_iff]
  intro x hx
  by_cases own : x.write = some w.id
  · have only : x ∈ d.blocksOf w.id := List.mem_filter.mpr ⟨hx, by simp [own]⟩
    rw [hb, List.mem_singleton] at only
    simp [only]
  · simp [own]

end

/-- What is so once a record has opened for the blocks of a write. -/
structure Dev.Opens (d : Dev) (w : Write) (r : Rec) (e : Dev) : Prop where
  slot : r.slot = w.slot
  keyId : r.keyId = w.keyId
  id : r.id = d.cx.nextRec
  blank : r.blocks = [] ∧ r.plain = []
  now : r.joinedAt = e.clk.now
  recs : e.cx.recs = d.cx.recs ++ [r]
  nextRec : e.cx.nextRec = d.cx.nextRec + 1
  cm : e.cm = d.cm
  dividers : e.dividers = d.dividers

/-- The first block joins the record that has opened for it, and no other. -/
theorem Dev.Opens.joined {d e : Dev} {w : Write} {r : Rec} (h : d.Opens w r e) (apart : ∀ y ∈ d.cx.recs, y.id ≠ r.id) (k : Nat) (env : List Byte) :
    (d.cx.recs ++ [r]).map (fun y => if y.id = r.id then y.joined w.id k env e.clk.now else y) =
      d.cx.recs ++ [{ r with blocks := [(w.id, k, 0)], plain := env }] := by
  obtain ⟨blocks, plain⟩ := h.blank
  have others : d.cx.recs.map (fun y => if y.id = r.id then y.joined w.id k env e.clk.now else y) = d.cx.recs :=
    (List.map_congr_left fun y hy => if_neg (apart y hy)).trans (List.map_id' _)
  have own : r.joined w.id k env e.clk.now = { r with blocks := [(w.id, k, 0)], plain := env } := by
    rw [Rec.joined, blocks, plain, ← h.now]
    rfl
  rw [List.map_append, others, List.map_singleton, if_pos rfl, own]

theorem Dev.newRec_opens {d e : Dev} {w : Write} {size : Nat} {r : Rec} (h : d.newRec w size = (some r, e)) : d.Opens w r e := by
  unfold Dev.newRec at h
  split at h
  case h_1 => exact absurd (congrArg Prod.fst h) (by simp)
  case h_2 k d1 hg =>
    have granted : d1 = (d.grab .cipher [w.slot] (min 16777216 (max (d.recLimit + 80) (size + 80))) [.unit .cipher, .unit .forme]).2 := by rw [hg]
    have cx : d1.cx = d.cx := granted ▸ Dev.cx_kept.grab ..
    have cm : d1.cm = d.cm := granted ▸ Dev.grab_cm ..
    have divides : d1.divides = d.divides := granted ▸ Dev.divides_kept.grab ..
    obtain ⟨rfl, rfl⟩ : _ = r ∧ _ = e := by simpa using h
    exact { slot := rfl, keyId := rfl, id := congrArg Cipher.nextRec cx, blank := ⟨rfl, rfl⟩, now := rfl, cm := cm
            recs := by rw [Dev.onCx_cx, cx], nextRec := by rw [Dev.onCx_cx, cx], dividers := Dev.dividers_congr divides }

theorem Dev.evictRec_few {d : Dev} (h : (d.cx.recs.filter (fun r => r.st == .open)).length < 16) : d.evictRec = d := if_pos h

/-! ### BLOCK_JOIN_RECORD (R142) -/

section
variable {d : Dev} {w : Write} {b : Block} {r : Rec} {body : List Byte} {raw : Bool} {cause : Nat}
  (hd : d.dividers = [])
include hd

theorem Dev.joinBlock_fits (ho : d.openRec w.slot = some r)
    (hl : r.plain.length + (envelope w b.k b.data.length body raw cause d.session d.clk.adopted).length ≤ d.recLimit) :
    d.joinBlock w b body raw cause = d.putBlock r w b (envelope w b.k b.data.length body raw cause d.session d.clk.adopted) := by
  simp only [Dev.joinBlock, ho, if_pos hl]
  exact Dev.sealRecords_idle ((Dev.putBlock_dividers ..).trans hd)

theorem Dev.joinBlock_opens {d1 : Dev} (ho : d.openRec w.slot = none) (hf : (d.cx.recs.filter (fun r => r.st == .open)).length < 16)
    (hn : d.newRec w (envelope w b.k b.data.length body raw cause d.session d.clk.adopted).length = (some r, d1)) :
    d.joinBlock w b body raw cause = d1.putBlock r w b (envelope w b.k b.data.length body raw cause d.session d.clk.adopted) := by
  simp only [Dev.joinBlock, ho, Dev.evictRec_few hf, hn]
  exact Dev.sealRecords_idle ((Dev.putBlock_dividers ..).trans ((Dev.newRec_opens hn).dividers.trans hd))

end

/-- The next block passed on joins. -/
theorem blockJoinRecord_joins {s : State} {w : Write} {b : Block} {body : List Byte} {raw : Bool} {cause : Nat} (hw : s.dev.working = true)
    (hh : s.dev.er.halted = false) (hj : s.dev.nextJoin = some w) (hb : s.dev.blocksOf w.id = [b]) (hs : b.st = .passed body raw cause) :
    exec .blockJoinRecord s = .next ⟨s.dev.joinBlock w b body raw cause, s.pending⟩ := by
  have gone : b.gone = true := by simp only [Block.gone, hs]
  refine acts_of_flow (Eq.refl (execBlockJoinRecord s)) hw hh ?_
  simp only [hj, hb, List.filter_cons, gone, if_true, List.filter_nil, List.foldl_cons, List.foldl_nil, hs]

/-! ### Records on their way through the pipelines and the IV log (R141, R142, R148) -/

/-- The earliest record of a list is the one before it or of the list. -/
theorem earlierRec_foldl (l : List Rec) (a : Option Rec) {r : Rec} (h : l.foldl earlierRec a = some r) : a = some r ∨ r ∈ l := by
  induction l generalizing a with
  | nil => exact .inl h
  | cons x l ih =>
    rcases ih _ h with first | rest
    · cases a with
      | none => exact .inr (by simp [Option.some.inj first])
      | some y =>
        simp only [earlierRec] at first
        split at first
        · exact .inr (by simp [Option.some.inj first])
        · exact .inl first
    · exact .inr (List.mem_cons_of_mem _ rest)

theorem Dev.onRec_length (d : Dev) (id : Nat) (f : Rec → Rec) : (d.onRec id f).cx.recs.length = d.cx.recs.length := List.length_map ..

/-- What holds of every record, and of the one changed after its change, holds after the change. -/
theorem Dev.onRec_all {P : Rec → Prop} {d : Dev} {id : Nat} {f : Rec → Rec} (h : ∀ y ∈ d.cx.recs, P y) (hf : ∀ y, P y → y.id = id → P (f y)) :
    ∀ y ∈ (d.onRec id f).cx.recs, P y := by
  intro y hy
  obtain ⟨x, hx, rfl⟩ := List.mem_map.mp hy
  split
  case isTrue same => exact hf x (h x hx) same
  case isFalse => exact h x hx

theorem Dev.feedPipes_length (d : Dev) (n : Nat) : (d.feedPipes n).cx.recs.length = d.cx.recs.length := by
  induction n generalizing d with
  | zero => rfl
  | succ n ih =>
    unfold Dev.feedPipes
    split
    · exact (ih _).trans (Dev.onRec_length ..)
    · rfl

/-- What holds of every record, and of those that enter a pipeline from waiting when they have, holds after all have. -/
theorem Dev.feedPipes_all {P : Rec → Prop} (step : ∀ r y p, r.st = .waiting → P r → P y → y.id = r.id → P { y with st := .inPipe p }) (n : Nat)
    {d : Dev} (h : ∀ y ∈ d.cx.recs, P y) : ∀ y ∈ (d.feedPipes n).cx.recs, P y := by
  induction n generalizing d with
  | zero => exact h
  | succ n ih =>
    unfold Dev.feedPipes
    split
    case h_1 r p hr hp =>
      obtain ⟨hm, waits⟩ : r ∈ d.cx.recs ∧ r.st = .waiting := by
        rcases earlierRec_foldl _ _ hr with first | rest
        · exact absurd first (by simp)
        · simpa using rest
      exact ih (Dev.onRec_all h fun y hy => step r y p waits (h r hm) hy)
    case h_2 => exact h

theorem Dev.logged_all {P : Rec → Prop} (step : ∀ y, P y → P { y with logged := true }) {d : Dev} (h : ∀ y ∈ d.cx.recs, P y) (r : Rec) :
    ∀ y ∈ (d.logged r).cx.recs, P y := Dev.onRec_all (d := d) h fun y hy _ => step y hy

theorem Dev.logged_length (d : Dev) (r : Rec) : (d.logged r).cx.recs.length = d.cx.recs.length := d.onRec_length ..

theorem Dev.logIvs_length (d : Dev) (n : Nat) : (d.logIvs n).cx.recs.length = d.cx.recs.length := by
  induction n generalizing d with
  | zero => rfl
  | succ n ih =>
    unfold Dev.logIvs
    split
    · split
      · rw [ih, Dev.logged_length, Dev.ivlWrite_cx]
      · rfl
    · rfl

theorem Dev.logIvs_all {P : Rec → Prop} (step : ∀ y, P y → P { y with logged := true }) (n : Nat) {d : Dev} (h : ∀ y ∈ d.cx.recs, P y) :
    ∀ y ∈ (d.logIvs n).cx.recs, P y := by
  induction n generalizing d with
  | zero => exact h
  | succ n ih =>
    unfold Dev.logIvs
    split
    · split
      · exact ih (Dev.logged_all step (by rwa [Dev.ivlWrite_cx]) _)
      · exact h
    · exact h

/-! ### RECORD_IDLE_CLOSE (R142, R145) -/

theorem Dev.openRec_open {d : Dev} {n : Nat} {r : Rec} (h : d.openRec n = some r) : r.st = .open := by
  have found := List.find?_some h
  simp only [Bool.and_eq_true, beq_iff_eq] at found
  exact found.1

/-- A record that closes has its slot's `pfx` and counter as its IV (R145). -/
theorem Dev.closeRec_iv (d : Dev) (r : Rec) : ∀ y ∈ (d.closeRec r).cx.recs, y.id = r.id →
    y.st ≠ .open ∧ y.pfx = (d.cx.slots.get r.slot).pfx ∧ y.counter = (d.cx.slots.get r.slot).counter := by
  unfold Dev.closeRec
  extract_lets sd x
  have slot : x = d.cx.slots.get r.slot := by rw [show x = sd.2.cx.slots.get r.slot from rfl, Dev.stamp_cx]
  refine Dev.feedPipes_all (fun _ y p _ _ iv _ same => ⟨by simp, (iv same).2⟩) 16 fun y hy => ?_
  obtain ⟨z, hz, rfl⟩ := List.mem_map.mp hy
  split
  case isTrue => exact fun _ => ⟨by simp, by rw [slot], by rw [slot]⟩
  case isFalse other => exact fun same => absurd same other

theorem Dev.closeRec_length (d : Dev) (r : Rec) : (d.closeRec r).cx.recs.length = d.cx.recs.length := by
  rw [Dev.closeRec, Dev.feedPipes_length]
  exact (Dev.onRec_length ..).trans (by rw [Dev.stamp_cx])

theorem recordIdleClose_closes {s : State} {n : Nat} {r : Rec} (hw : s.dev.working = true) (hh : s.dev.er.halted = false) (ho : s.dev.openRec n = some r)
    (hi : s.dev.rf Reg.CX_CTL 7 0 ≠ 0) :
    exec (.recordIdleClose n) s = .next ⟨(s.dev.advanceTo (r.joinedAt + s.dev.rf Reg.CX_CTL 7 0 * msTicks)).closeRec r, s.pending⟩ := by
  refine acts_of_flow (Eq.refl (execRecordIdleClose n s)) hw hh ?_
  simp only [ho, if_neg hi]

/-! ### RECORD_TAG_DONE (R142, R144, R155) -/

theorem Dev.emptySlot_recs (d : Dev) (n : Nat) : (d.emptySlot n).cx.recs = d.cx.recs := by
  simp only [Dev.emptySlot, Dev.epochAdvance_cx, Dev.erasesDone, Dev.onSlot, Dev.onCx_cx, Dev.stamp_cx]

theorem Dev.unpin_recs (d : Dev) (n : Nat) : (d.unpin n).cx.recs = d.cx.recs := by
  unfold Dev.unpin
  extract_lets d1
  have unpinned : d1.cx.recs = d.cx.recs := by simp only [d1, Dev.onSlot, Dev.onCx_cx, Dev.stamp_cx]
  split
  · rw [Dev.emptySlot_recs, unpinned]
  · exact unpinned

theorem Dev.unpinVersions_recs (d : Dev) : d.unpinVersions.cx.recs = d.cx.recs :=
  Dev.each_keeps (fun e => e.cx.recs) _ _ _ fun _ _ => Dev.unpin_recs ..

/-- The device once a record of a pipeline has its tag. -/
def Dev.tagDone (d : Dev) (r : Rec) : Dev :=
  ((((d.onRec r.id (fun y => { y with st := .tagged, body := sealBytes (d.slot r.slot).key (r.header d.session d.clk.adopted) r.plain })).each r.buf.toList
    (fun d k => d.letGo k (.unit .cipher))).logDue).unpinVersions).feedPipes 16

theorem recordTagDone_tags {s : State} {pipe : Nat} {r : Rec} (hw : s.dev.working = true)
    (hr : s.dev.cx.recs.find? (fun r => r.st == .inPipe pipe) = some r) : exec (.recordTagDone pipe) s = .next ⟨s.dev.tagDone r, s.pending⟩ := by
  refine (State.work_of _ hw).trans ?_
  simp only [State.onDev, hr]
  rfl

theorem Dev.tagDone_length (d : Dev) (r : Rec) : (d.tagDone r).cx.recs.length = d.cx.recs.length := by
  rw [Dev.tagDone, Dev.feedPipes_length, Dev.unpinVersions_recs, Dev.logDue, Dev.logIvs_length,
    Dev.each_keeps Dev.cx _ _ _ fun e k => Dev.cx_kept.letGo e k _, Dev.onRec_length]

/-- A record that has its tag keeps it while others go on. -/
theorem Dev.tagDone_tagged (d : Dev) (r : Rec) : ∀ y ∈ (d.tagDone r).cx.recs, y.id = r.id →
    y.st = .tagged ∧ y.body = sealBytes (d.slot r.slot).key (r.header d.session d.clk.adopted) r.plain := by
  rw [Dev.tagDone]
  refine Dev.feedPipes_all (fun x y p waits tagged _ same own => ?_) 16 ?_
  · exact absurd ((tagged (same.symm.trans own)).1.symm.trans waits) (by simp)
  rw [Dev.unpinVersions_recs, Dev.logDue]
  refine Dev.logIvs_all (fun y tagged => tagged) _ ?_
  rw [Dev.each_keeps Dev.cx _ _ _ fun e k => Dev.cx_kept.letGo e k _]
  intro y hy
  obtain ⟨z, hz, rfl⟩ := List.mem_map.mp hy
  split
  case isTrue => exact fun _ => ⟨rfl, rfl⟩
  case isFalse other => exact fun same => absurd same other

/-! ### IV_LOG_ENABLE (R148) -/

/-- The row of CX_IVLCTL in the register map. -/
def ivlCtl : RegDesc := mkReg Reg.CX_IVLCTL 1 0 1 0 [fd 31 31 .rw 0, fd 30 30 .rw 0, fd 3 0 .rw 0]

theorem findReg_ivlCtl : findReg Reg.CX_IVLCTL = some ivlCtl := by decide

theorem Dev.writeReg_ivlCtl (d : Dev) (path : Path) (v : W32) : d.writeReg path Reg.CX_IVLCTL v = d.writeIvlCtl path v := by
  rw [Dev.writeReg, findReg_ivlCtl]
  rfl

/-- The device once the IV log is enabled: its control register is written, and its indices are at 0. -/
def Dev.ivlEnabled (d : Dev) (v : W32) : Dev :=
  ((d.setReg Reg.CX_IVLCTL (v &&& 0xC000000F)).setReg Reg.CX_IVLHEAD 0).setW1f Reg.CX_IVLTAIL 0 14 0 0

section
variable {d : Dev} {v : W32} (hv : bitOf v 31 = true)
include hv

theorem Dev.writeIvlCtl_enables (path : Path) (hb : fieldOf (d.reg Reg.CX_IVLBASE_LO) 11 0 = 0) (hs : 6 ≤ fieldOf v 3 0)
    (ho : d.rf Reg.CX_IVLCTL 31 31 = 0) : d.writeIvlCtl path v = d.ivlEnabled v := by
  have off : d.ivlOn = false := by rw [Dev.ivlOn, ho]; rfl
  simp only [Dev.writeIvlCtl, hv, hb, off, Nat.not_lt.mpr hs, ne_eq, not_true_eq_false, or_self, and_false, if_false, Bool.not_false, and_self, if_true]
  rfl

theorem Dev.writeIvlCtl_refused (path : Path) (h : fieldOf (d.reg Reg.CX_IVLBASE_LO) 11 0 ≠ 0 ∨ fieldOf v 3 0 < 6) :
    d.writeIvlCtl path v = d.regEvent path Reg.CX_IVLCTL v := if_pos ⟨hv, h⟩

end

theorem Dev.ivlEnabled_reads (d : Dev) (v : W32) : (d.ivlEnabled v).reg Reg.CX_IVLCTL = v &&& 0xC000000F ∧ (d.ivlEnabled v).reg Reg.CX_IVLHEAD = 0 ∧
    (d.ivlEnabled v).w1f Reg.CX_IVLTAIL 0 14 0 = 0 := by
  refine ⟨?_, ?_, Dev.w1f_setW1f_same _ _ _ 0 (by decide) (by decide)⟩
  · show (((d.setReg Reg.CX_IVLCTL (v &&& 0xC000000F)).setReg Reg.CX_IVLHEAD 0)).reg Reg.CX_IVLCTL = _
    exact (Dev.regB_setRegB_ne _ _ _ _ (by decide) (by decide) (by decide)).trans (Dev.reg_setReg_same ..)
  · exact Dev.reg_setReg_same (d.setReg Reg.CX_IVLCTL (v &&& 0xC000000F)) ..

end Sys2Proof.Machine

open Sys2Proof Sys2Proof.Machine

/-- Settles O37: each command by what it makes of the records, the tag's one once the others have gone on. -/
theorem recordsAreSealed : Obligations.RecordsAreSealed := by
  intro s hw
  refine ⟨fun w b r body raw cause hh hj hb hs ho hd hl => ?joins, fun w b r d1 body raw cause hh hj hb hs ho hd hf hi hn => ?opens,
    fun n r hh ho hi => ?closes, fun pipe r hr => ⟨_, recordTagDone_tags hw hr, s.dev.tagDone_length r, s.dev.tagDone_tagged r⟩,
    fun path v hp hv hb hs ho => ?enables, fun path v hp hv h => ?refused⟩
  case joins =>
    refine ⟨_, blockJoinRecord_joins hw hh hj hb hs, ?_⟩
    rw [Dev.joinBlock_fits hd ho hl]
    exact ⟨Dev.putBlock_blocksOf _ _ hb, congrArg Cipher.recs (Dev.putBlock_cx ..)⟩
  case opens =>
    have new := Dev.newRec_opens hn
    refine ⟨_, blockJoinRecord_joins hw hh hj hb hs, ?_⟩
    rw [Dev.joinBlock_opens hd ho hf hn]
    refine ⟨Dev.putBlock_blocksOf _ _ (by rw [Dev.blocksOf, new.cm]; exact hb), ?_, new.slot, new.keyId, ?_⟩
    · rw [Dev.putBlock_cx, new.nextRec]
    · have apart : ∀ y ∈ s.dev.cx.recs, y.id ≠ r.id := fun y hy => new.id ▸ hi y hy
      rw [Dev.putBlock_cx, new.recs, new.joined apart]
  case closes =>
    have cx : (s.dev.advanceTo (r.joinedAt + s.dev.rf Reg.CX_CTL 7 0 * msTicks)).cx = s.dev.cx := Dev.advanceTo_cx ..
    refine ⟨_, recordIdleClose_closes hw hh ho hi, ?_, ?_, ?_⟩
    · rw [← cx]
      exact Dev.closeRec_iv _ r
    · rw [Dev.closeRec_slots, cx]
    · rw [Dev.closeRec_length, cx]
  case enables =>
    refine write_writable (i := .ivLogEnable path v) (Eq.refl (execIvLogEnable path v s)) hp ?_
    rw [Dev.writeReg_ivlCtl, Dev.writeIvlCtl_enables hv path hb hs ho]
    obtain ⟨ctl, head, tail⟩ := s.dev.ivlEnabled_reads v
    exact ⟨ctl, head, tail, rfl⟩
  case refused =>
    refine write_writable (i := .ivLogEnable path v) (Eq.refl (execIvLogEnable path v s)) hp ?_
    rw [Dev.writeReg_ivlCtl, Dev.writeIvlCtl_refused hv path h]
    exact ⟨Dev.regEvent_regs .., (Dev.regEvent_logs ..).2⟩
end

section
/-! A position of a run (R176, R177, R189, R196): the copies that rewrites, new formes and fillers send to its slots, and the tape under them. -/

namespace Sys2Proof.Machine

/-! ### What a copy that is sent changes -/

theorem Dev.onLinks_keeps {β : Type} (v : Dev → β) (h : ∀ (d : Dev) (t : Nat) (f : Link → Link), v (d.onLink t f) = v d) (d : Dev)
    (f : Nat → Link → Link) : v (d.onLinks f) = v d := Dev.each_keeps v _ _ _ fun e t => by
  split
  · exact h ..
  · rfl

/-- A cartridge once a copy lies at its place, over what was there. -/
def Cart.laying (c : Cart) (o : OnTape) : Cart :=
  { c with formes := c.formes.filter (fun x => !(x.sheaf == o.sheaf && x.position == o.position && x.slot == o.slot)) ++ [o] }

theorem Cart.mem_laying (c : Cart) (o : OnTape) : o ∈ (c.laying o).formes := List.mem_append_right _ (List.mem_singleton_self o)

theorem Cart.laying_keeps {c : Cart} {o x : OnTape} (hx : x ∈ c.formes) (h : x.slot ≠ o.slot) : x ∈ (c.laying o).formes :=
  List.mem_append_left _ (List.mem_filter.mpr ⟨hx, by simp [h]⟩)

/-- A copy that goes to the tape leaves the scheduler, and lies on the tape of a present cartridge (R189). -/
theorem Dev.layCopy_lays (d : Dev) (vid : W64) (f : Forme) (sheaf position slot : Nat) : (d.layCopy vid f sheaf position slot).sh = d.sh ∧
    ∃ h, (d.layCopy vid f sheaf position slot).vol.cart = d.vol.cart.map (·.laying ⟨sheaf, position, slot, vid, f, h⟩) := by
  unfold Dev.layCopy
  extract_lets h
  have sh : (d.sendRows slot f.rewrite f.folio (f.rows h)).sh = d.sh := Dev.onLinks_keeps Dev.sh (fun _ _ _ => rfl) ..
  have vol : (d.sendRows slot f.rewrite f.folio (f.rows h)).vol = d.vol := Dev.onLinks_keeps Dev.vol (fun _ _ _ => rfl) ..
  refine ⟨(Dev.onVol_sh ..).trans sh, h, ?_⟩
  rw [Dev.onVol_vol, vol]
  rfl

/-- Where a run stands along the tape, whether it goes on, and its colophon. -/
def Sheaf.course (x : Sheaf) : Nat × Nat × RunSt × Option ColAttempt := (x.sheaf, x.pos, x.run, x.colophon)

/-- A copy as it is sent to the place where a run stands. -/
def Copy.sentAt (k : Copy) (x : Sheaf) : Prop := k.sheaf = x.sheaf ∧ k.position = x.pos ∧ k.rows = [] ∧ k.bad = false

/-- A forme copy on the tape is the one that a copy stands for. -/
def OnTape.is (o : OnTape) (k : Copy) : Prop := o.sheaf = k.sheaf ∧ o.position = k.position ∧ o.slot = k.slot ∧ o.forme.folio = k.folio

/-- From `d` the copies `new` have been sent to the place where its run stands: they are listed, they lie on the tape where each has a slot of its own, and
what the tape holds in other slots is still there. -/
structure Dev.Sends (d : Dev) (new : List Copy) (e : Dev) : Prop where
  course : e.sh.course = d.sh.course
  copies : e.sh.copies = d.sh.copies ++ new
  sent : ∀ k ∈ new, k.sentAt d.sh
  laid : ∀ c, e.vol.cart = some c → (new.map Copy.slot).Nodup → ∀ k ∈ new, ∃ o ∈ c.formes, o.is k
  kept : ∀ c, e.vol.cart = some c → ∃ c0, d.vol.cart = some c0 ∧ ∀ o ∈ c0.formes, o.slot ∉ new.map Copy.slot → o ∈ c.formes

theorem Copy.sentAt_congr {k : Copy} {x y : Sheaf} (h : y.course = x.course) (hk : k.sentAt y) : k.sentAt x := by
  obtain ⟨sheaf, pos, -, -⟩ : y.sheaf = x.sheaf ∧ y.pos = x.pos ∧ y.run = x.run ∧ y.colophon = x.colophon := by
    simpa only [Sheaf.course, Prod.mk.injEq] using h
  exact ⟨hk.1.trans sheaf, hk.2.1.trans pos, hk.2.2⟩

namespace Dev.Sends

/-- A change that is apart from the copies, the place and the cartridge sends nothing. -/
theorem nothing {d e : Dev} (course : e.sh.course = d.sh.course) (copies : e.sh.copies = d.sh.copies) (cart : e.vol.cart = d.vol.cart) : d.Sends [] e where
  course := course
  copies := by rw [copies, List.append_nil]
  sent _ hk := absurd hk List.not_mem_nil
  laid _ _ _ _ hk := absurd hk List.not_mem_nil
  kept c hc := ⟨c, cart ▸ hc, fun _ ho _ => ho⟩

theorem refl (d : Dev) : d.Sends [] d := nothing rfl rfl rfl

theorem trans {d e f : Dev} {a b : List Copy} (h : d.Sends a e) (g : e.Sends b f) : d.Sends (a ++ b) f where
  course := g.course.trans h.course
  copies := by rw [g.copies, h.copies, List.append_assoc]
  sent k hk := (List.mem_append.mp hk).elim (h.sent k) fun hb => Copy.sentAt_congr h.course (g.sent k hb)
  laid c hc apart k hk := by
    rw [List.map_append] at apart
    obtain ⟨ownA, ownB, others⟩ := List.nodup_append.mp apart
    rcases List.mem_append.mp hk with ha | hb
    · obtain ⟨c0, hc0, stays⟩ := g.kept c hc
      obtain ⟨o, ho, is⟩ := h.laid c0 hc0 ownA k ha
      refine ⟨o, stays o ho fun hb => ?_, is⟩
      exact others _ (List.mem_map_of_mem ha) _ hb is.2.2.1.symm
    · exact g.laid c hc ownB k hb
  kept c hc := by
    obtain ⟨c1, hc1, staysB⟩ := g.kept c hc
    obtain ⟨c0, hc0, staysA⟩ := h.kept c1 hc1
    refine ⟨c0, hc0, fun o ho apart => ?_⟩
    rw [List.map_append, List.mem_append, not_or] at apart
    exact staysB o (staysA o ho apart.1) apart.2

theorem cons {d e f : Dev} {k : Copy} {b : List Copy} (h : d.Sends [k] e) (g : e.Sends b f) : d.Sends (k :: b) f := h.trans g

/-- A change that sends nothing, after copies that were sent. -/
theorem then_nothing {d e f : Dev} {a : List Copy} (h : d.Sends a e) (g : e.Sends [] f) : d.Sends a f := by
  simpa only [List.append_nil] using h.trans g

/-- A change that sends nothing, before copies that are sent. -/
theorem after_nothing {d e f : Dev} {b : List Copy} (h : d.Sends [] e) (g : e.Sends b f) : d.Sends b f := h.trans g

theorem onLinks (d : Dev) (f : Nat → Link → Link) : d.Sends [] (d.onLinks f) := by
  have sh : (d.onLinks f).sh = d.sh := Dev.onLinks_keeps Dev.sh (fun _ _ _ => rfl) ..
  have vol : (d.onLinks f).vol = d.vol := Dev.onLinks_keeps Dev.vol (fun _ _ _ => rfl) ..
  exact nothing (by rw [sh]) (by rw [sh]) (by rw [vol])

theorem stamp (d : Dev) (u a : Nat) : d.Sends [] (d.stamp u a).2 := nothing (by simp) (by simp) (by simp)

theorem note (d : Dev) (r : Report) : d.Sends [] (d.note r) := nothing (by simp) (by simp) (by simp)

theorem count (d : Dev) (blk sub i n : Nat) : d.Sends [] (d.count blk sub i n) := nothing rfl rfl rfl

theorem onForme (d : Dev) (folio : Nat) (f : Forme → Forme) : d.Sends [] (d.onForme folio f) := nothing rfl rfl rfl

/-- A change of the scheduler's lists of what is due sends nothing. -/
theorem onSh (d : Dev) (f : Sheaf → Sheaf) (hc : ∀ x, (f x).course = x.course) (hk : ∀ x, (f x).copies = x.copies) : d.Sends [] (d.onSh f) :=
  nothing (hc _) (hk _) rfl

/-! ### One copy -/

/-- A forme sent to a slot of the present place is one copy more (R189). -/
theorem sendCopy {d : Dev} {sheaf pos : Nat} (hs : d.sh.sheaf = sheaf) (hp : d.sh.pos = pos) (f : Forme) (slot : Nat) (filler : Bool) :
    ∃ k : Copy, d.Sends [k] (d.sendCopy f sheaf pos slot filler) ∧ k.slot = slot ∧ k.filler = filler := by
  refine ⟨⟨d.sh.nextCopy, f.folio, filler, f.rewrite, sheaf, pos, slot, [], false⟩, ?_, rfl, rfl⟩
  unfold Dev.sendCopy
  extract_lets id vid d1
  refine then_nothing ?_ (count ..)
  obtain ⟨sh, h, cart⟩ := d1.layCopy_lays vid f sheaf pos slot
  refine ⟨?_, ?_, by simp [Copy.sentAt, hs, hp], fun c hc _ k hk => ?_, fun c hc => ?_⟩
  · rw [sh]; rfl
  · rw [sh]; rfl
  · obtain ⟨c0, -, rfl⟩ := Option.map_eq_some_iff.mp (cart ▸ hc)
    rw [List.mem_singleton.mp hk]
    exact ⟨_, c0.mem_laying _, rfl, rfl, rfl, rfl⟩
  · obtain ⟨c0, hc0, rfl⟩ := Option.map_eq_some_iff.mp (cart ▸ hc)
    exact ⟨c0, hc0, fun o ho apart => Cart.laying_keeps ho (by simpa using apart)⟩

theorem sendFiller (d : Dev) (slot : Nat) : ∃ k : Copy, d.Sends [k] (d.sendFiller slot) ∧ k.slot = slot ∧ k.filler = true := by
  unfold Dev.sendFiller
  extract_lets sd
  have sh : sd.2.sh = d.sh := Dev.stamp_sh ..
  obtain ⟨k, sends, is⟩ := sendCopy (congrArg Sheaf.sheaf sh) (congrArg Sheaf.pos sh) (fillerForme sd.1 ((d.vol.loaded.map Volume.ckptFolio).getD noFolio)) slot true
  exact ⟨k, ((stamp ..).after_nothing sends).then_nothing (count ..), is⟩

/-! ### The copies of a position -/

/-- Rewrites fill some of the free slots, each once (R196). -/
theorem placeRewrites (rs : List Rewrite) (d : Dev) (free : List Nat) (hf : free.Nodup) :
    ∃ new, d.Sends new (d.placeRewrites rs free).2 ∧ (new.map Copy.slot ++ (d.placeRewrites rs free).1).Perm free := by
  induction rs generalizing d free with
  | nil => exact ⟨[], refl d, .refl _⟩
  | cons r rs ih =>
    unfold Dev.placeRewrites
    split
    case h_1 j f picked _ =>
      extract_lets g d1 d2
      obtain ⟨k, sends, slot, -⟩ := sendCopy (d := d.onForme f.folio fun _ => g) rfl rfl g j false
      have one : d.Sends [k] d2 := ((onForme ..).after_nothing sends).then_nothing ((count ..).trans (onSh _ _ (fun _ => rfl) fun _ => rfl))
      obtain ⟨new, rest, perm⟩ := ih d2 (free.filter fun y => decide (y ≠ j)) (hf.filter _)
      have free' : j ∈ free := by
        unfold pickSlot at picked
        split at picked
        · exact Option.some.inj picked ▸ List.mem_of_find?_eq_some ‹_›
        · exact List.mem_of_mem_head? picked
      refine ⟨k :: new, one.cons rest, ?_⟩
      rw [List.map_cons, slot, List.cons_append]
      refine (perm.cons j).trans ?_
      rw [show (fun y => decide (y ≠ j)) = (fun y => y != j) from funext fun y => by simp [bne, beq_eq_decide], ← hf.erase_eq_filter]
      exact (List.perm_cons_erase free').symm
    case h_2 =>
      obtain ⟨new, rest, perm⟩ := ih (d.onSh _) free hf
      refine ⟨new, after_nothing ?_ rest, perm⟩
      exact onSh d _ (fun _ => rfl) fun _ => rfl
    case h_3 => exact ⟨[], refl d, .refl _⟩

/-- New formes fill free slots from the first on (R176). -/
theorem placeNew (fs : List Nat) (d : Dev) (free : List Nat) :
    ∃ new, d.Sends new (d.placeNew fs free).2 ∧ new.map Copy.slot ++ (d.placeNew fs free).1 = free := by
  induction fs generalizing d free with
  | nil => exact ⟨[], refl d, rfl⟩
  | cons f fs ih =>
    cases free with
    | nil => exact ⟨[], refl d, rfl⟩
    | cons j free =>
      unfold Dev.placeNew
      split
      case h_1 g _ =>
        extract_lets h
        obtain ⟨k, sends, slot, -⟩ := sendCopy (d := d.onForme f fun _ => h) rfl rfl h j false
        obtain ⟨new, rest, slots⟩ := ih ((d.onForme f fun _ => h).sendCopy h d.sh.sheaf d.sh.pos j false) free
        exact ⟨k :: new, ((onForme ..).after_nothing sends).cons rest, congrArg₂ List.cons slot slots⟩
      case h_2 => exact ih ..

/-- Fillers fill every slot that they are sent to (R177). -/
theorem fillers (l : List Nat) (d : Dev) : ∃ new, d.Sends new (l.foldl Dev.sendFiller d) ∧ new.map Copy.slot = l ∧ ∀ k ∈ new, k.filler = true := by
  induction l generalizing d with
  | nil => exact ⟨[], refl d, rfl, fun _ hk => absurd hk List.not_mem_nil⟩
  | cons j l ih =>
    obtain ⟨k, sends, slot, filler⟩ := sendFiller d j
    obtain ⟨new, rest, slots, fill⟩ := ih (d.sendFiller j)
    rw [List.foldl_cons]
    exact ⟨k :: new, sends.cons rest, congrArg₂ List.cons slot slots, List.forall_mem_cons.mpr ⟨filler, fill⟩⟩

theorem trailWindow (d : Dev) : d.Sends [] d.trailWindow := by
  unfold Dev.trailWindow
  extract_lets d1 above
  have counted : d.Sends [] d1 := onSh _ _ (fun _ => rfl) fun _ => rfl
  split
  · exact counted
  · refine (counted.then_nothing ?_).then_nothing (note ..)
    exact onSh d1 _ (fun _ => rfl) fun _ => rfl

end Dev.Sends

/-- The slots in service are apart, and none of them is disabled. -/
theorem Sheaf.slots_nodup (x : Sheaf) : x.slots.Nodup := List.nodup_range.filter _

theorem Sheaf.notMem_slotsOff {x : Sheaf} {j : Nat} (h : j ∈ x.slots) : j ∉ x.slotsOff := by simpa using (List.mem_filter.mp h).2

/-- A streaming run with no colophon fills every slot of its position once, the disabled ones with fillers, and goes on to the next. -/
theorem Dev.sendPosition_sends {d : Dev} (hr : d.sh.run = .streaming) (hc : d.sh.colophon = none) : ∃ (e : Dev) (new : List Copy), d.Sends new e ∧
    d.sendPosition = e.onSh (fun x => { x with pos := x.pos + 1 }) ∧ (new.map Copy.slot).Perm (d.sh.slots ++ d.sh.slotsOff) ∧
    ∀ k ∈ new, k.slot ∈ d.sh.slotsOff → k.filler = true := by
  unfold Dev.sendPosition
  extract_lets a p stopping old r placed b news c e
  have begun : d.Sends [] a := (Dev.Sends.stamp d 0xD 0).then_nothing (.onLinks ..)
  have same : a.sh = d.sh := (Dev.onLinks_keeps Dev.sh (fun _ _ _ => rfl) ..).trans (Dev.stamp_sh ..)
  have streams : stopping = false := by simp only [stopping, same, hr]; rfl
  obtain ⟨rewrites, sendsA, slotsA⟩ := Dev.Sends.placeRewrites a.sh.dueNow a a.sh.slots a.sh.slots_nodup
  have upTo : d.Sends rewrites b := begun.after_nothing sendsA
  have plain : b.sh.colophon = none := by
    have course := upTo.course
    simp only [Sheaf.course, Prod.mk.injEq] at course
    rw [course.2.2.2, hc]
  have formes : c = b.placeNew news r.1 := by simp only [c, plain]
  obtain ⟨fresh, sendsB, slotsB⟩ := Dev.Sends.placeNew news b r.1
  obtain ⟨fill, sendsC, slotsC, fillers⟩ := Dev.Sends.fillers (c.1 ++ a.sh.slotsOff) c.2
  have perm : (rewrites.map Copy.slot ++ (fresh.map Copy.slot ++ c.1)).Perm d.sh.slots := by
    rw [formes, slotsB, ← same]
    exact slotsA
  refine ⟨e.trailWindow, rewrites ++ fresh ++ fill, ?_, ?_, ?_, fun k hk off => ?_⟩
  · have sendsB' : b.Sends fresh c.2 := formes ▸ sendsB
    exact (((upTo.trans sendsB').trans sendsC).then_nothing (.onLinks ..)).then_nothing (.trailWindow _)
  · simp only [streams, Bool.false_eq_true, if_false]
  · rw [List.map_append, List.map_append, slotsC, same]
    simpa only [List.append_assoc] using perm.append_right d.sh.slotsOff
  · rcases List.mem_append.mp hk with sent | filler
    · have inService : k.slot ∈ d.sh.slots := perm.subset (by
        rw [← List.append_assoc, ← List.map_append]
        exact List.mem_append_left _ (List.mem_map_of_mem sent))
      exact absurd off (Sheaf.notMem_slotsOff inService)
    · exact fillers k filler

theorem Dev.endRunIfDone_streaming {d : Dev} (h : d.sh.run = .streaming) : d.endRunIfDone = d := by
  rw [Dev.endRunIfDone, if_neg]
  simp [Sheaf.tailDone, h]

end Sys2Proof.Machine

open Sys2Proof Sys2Proof.Machine

/-- Settles O40: the slots that rewrites leave free go to new formes, and those that these leave, with the disabled ones, to fillers. -/
theorem everySlotOfAPositionIsFilled : Obligations.EverySlotOfAPositionIsFilled := by
  intro s hw hr hc hp
  obtain ⟨e, new, sends, next, slots, fillers⟩ := Dev.sendPosition_sends hr hc
  have course := sends.course
  simp only [Sheaf.course, Prod.mk.injEq] at course
  obtain ⟨sheaf, pos, run, -⟩ := course
  have ends : s.dev.sendPosition.endRunIfDone = e.onSh (fun x => { x with pos := x.pos + 1 }) := by
    rw [next]
    exact Dev.endRunIfDone_streaming (run.trans hr)
  refine ⟨_, State.work_of _ hw, ?_⟩
  simp only [hr, hp, true_or, if_true, ends]
  refine ⟨congrArg (· + 1) pos, run.trans hr, sheaf, new, sends.copies, slots, sends.sent, fillers, fun c hcart off k hk => ?_⟩
  refine sends.laid c hcart (slots.nodup_iff.mpr (List.nodup_append.mpr ⟨s.dev.sh.slots_nodup, off, ?_⟩)) k hk
  rintro i hi j hj rfl
  exact Sheaf.notMem_slotsOff hi hj
end

section
/-! The record stream (R178 to R180): a sealed record goes into the open data forme, and a forme that it fills is assembled as the next member of its
group. -/

namespace Sys2Proof.Machine

/-! ### What the buffers of the assembler leave as it is -/

/-- Whether a request is granted, and which buffer it gets, is for the pools and the registers to say. -/
theorem Dev.grab_congr {d e : Dev} (hp : e.pools = d.pools) (hr : e.regs = d.regs) (u : BufUnit) (tag : List Nat) (size : Nat) (share : List Holder) :
    (e.grab u tag size share).1 = (d.grab u tag size share).1 := by
  have taken : ∀ p, ((e.stamp 7).2.take (unitReq u) p share).1 = ((d.stamp 7).2.take (unitReq u) p share).1 := fun p => by
    unfold Dev.take
    rw [Dev.stamp_pools, Dev.stamp_pools, hp]
    split <;> rfl
  unfold Dev.grab
  rw [hp]
  split
  · rfl
  · split
    · rfl
    · unfold Dev.request
      dsimp only
      rw [Dev.stamp_decideGrant, Dev.stamp_decideGrant, Dev.decideGrant_congr hp hr]
      split
      · exact taken _
      · rfl
      · rfl

/-- A data member's terms and their messages are apart from all that operations on buffers are apart from. -/
theorem Dev.KeptByBuffers.ownStripe {β : Type} {v : Dev → β} (h : Dev.KeptByBuffers v) (d : Dev) (folio : Nat) (payload : List Byte) :
    v (d.ownStripe folio payload) = v d := by
  have passed : ∀ (e : Dev) (s n : Nat) (t : List (BitVec 10)), v (e.passStream s n t) = v e := fun e s n t => (h.count ..).trans (h.onCs ..)
  have term : ∀ (e : Dev) (s n : Nat), v (e.ownTerm s n payload) = v e := fun e s n => by
    unfold Dev.ownTerm
    extract_lets i t
    split
    · exact passed ..
    · split
      · rw [passed, Dev.dropPartial]
        split
        · exact (h.giveBack ..).trans (h.onCs ..)
        · exact h.onCs ..
      · exact h.onCs ..
  unfold Dev.ownStripe
  split
  · rfl
  · dsimp only
    rw [Dev.broadcast, Dev.each_keeps v _ _ _ fun e m => h.send .., h.stamp, apply_ite v]
    simp only [term, ite_self, h.onCs]

/-- What the assembler works on: the formes and the volume. -/
def Dev.stock (d : Dev) : Formes × Vol := (d.fm, d.vol)

theorem Dev.stock_kept : Dev.KeptByBuffers Dev.stock where
  stamp d u a := by simp [Dev.stock]
  setW1f _ _ _ _ _ _ := rfl
  count _ _ _ _ _ := rfl
  onEr _ _ _ := rfl
  onPools _ _ := rfl
  onIdx _ _ _ := rfl
  onCm _ _ := rfl
  onMi _ _ := rfl
  onCs _ _ := rfl

theorem Dev.stock_eq {d e : Dev} : e.stock = d.stock ↔ e.fm = d.fm ∧ e.vol = d.vol := by simp [Dev.stock]

/-! ### A data forme is assembled -/

/-- The holders of a forme's buffer. -/
def formeShare : List Holder := [.unit .forme, .unit .encoder, .unit .rewrite]

/-- A data forme as it is assembled from a payload: a member of a group, in a buffer, stamped. -/
def Dev.dataForme (d : Dev) (v : Volume) (member base : Nat) (payload : List Byte) (off first k : Nat) (at' : Stamp) : Forme :=
  { folio := v.nextFolio, kind := .data, flags := 0, member := member, groupBase := base, payload := payload, lead := 0, streamOff := off
    firstRec := first, stamp := at', lastCkpt := v.ckptFolio, ledger := [], enc := d.l2Encoder, buf := some k, accepted := none, rewrite := 0
    copies := 0, fullSheaves := 0, fullIn := none, queued := true }

/-- The formes with one more. -/
def Formes.holding (x : Formes) (f : Forme) : Formes := { x with held := x.held ++ [f] }

/-- A volume once a data forme of a payload has been assembled. -/
def Volume.assembled (v : Volume) (payload : List Byte) : Volume :=
  { v with nextFolio := v.nextFolio + 1, nativeUsed := v.nativeUsed + payload.length }

/-- A data forme whose buffer is granted is held with it, as the next folio. -/
theorem Dev.assemble_data {d : Dev} {v : Volume} {k : Nat} (hv : d.vol.loaded = some v) (hg : (d.grab .forme [0] 192000 formeShare).1 = some k)
    (member base off first : Nat) (payload : List Byte) : ∃ e at', d.assemble .data 0 member base payload 0 off first [] = some e ∧
      e.fm = d.fm.holding (d.dataForme v member base payload off first k at') ∧ e.vol.loaded = some (v.assembled payload) := by
  obtain ⟨d1, grabbed⟩ : ∃ d1, d.grab .forme [0] 192000 [.unit .forme, .unit .encoder, .unit .rewrite] = (some k, d1) := ⟨_, Prod.ext hg rfl⟩
  have kept : ((d1.letGo k (.unit .forme)).stamp 0xC).2.stock = d.stock := by
    rw [Dev.stock_kept.stamp, Dev.stock_kept.letGo, ← Dev.stock_kept.grab d .forme [0] 192000 formeShare, formeShare, grabbed]
  obtain ⟨fm, vol⟩ := Dev.stock_eq.mp kept
  unfold Dev.assemble
  rw [hv, if_neg (by decide), grabbed]
  refine ⟨_, ((d1.letGo k (.unit .forme)).stamp 0xC).1, rfl, ?_, ?_⟩
  · exact congrArg (Formes.holding · (d.dataForme v member base payload off first k _)) fm
  · exact (congrArg (fun x : Vol => x.loaded.map fun v => v.assembled payload) vol).trans (by rw [hv])

/-! ### It joins the open group -/

/-- The open group, or the one that opens with the next folio (R180). -/
def Dev.groupFor (d : Dev) (folio : Nat) : Group := d.fm.group.getD ⟨folio, [], d.groupSize, 2 ^ 64, 2 ^ 64, d.l3Encoder, []⟩

theorem Dev.openGroup_fm (d : Dev) (folio : Nat) : (d.openGroup folio).fm = { d.fm with group := some (d.groupFor folio) } := by
  unfold Dev.openGroup Dev.groupFor
  cases hg : d.fm.group with
  | none => rfl
  | some g => exact (congrArg (fun x => { d.fm with group := x }) hg).symm ▸ rfl

theorem Dev.openGroup_rest (d : Dev) (folio : Nat) : (d.openGroup folio).vol = d.vol ∧ (d.openGroup folio).pools = d.pools ∧
    (d.openGroup folio).regs = d.regs ∧ (d.openGroup folio).clk = d.clk := by
  unfold Dev.openGroup
  split <;> exact ⟨rfl, rfl, rfl, rfl⟩

/-- A group with one member more, whose symbols its accumulator takes in (R179). -/
def Group.joined (g : Group) (folio : Nat) (payload : List Byte) (off : Nat) : Group :=
  { g with members := g.members ++ [folio], acc := l3Add g.acc g.members.length (memberSpan payload), recordBase := min g.recordBase off }

/-- The open data forme, whose buffer is granted, is assembled as the next member of a group that does not become full by it. -/
theorem Dev.closeData_joins {d : Dev} {v : Volume} {k : Nat} (hv : d.vol.loaded = some v) (hp : d.fm.openPayload ≠ [])
    (hg : (d.grab .forme [0] 192000 formeShare).1 = some k) (room : (d.groupFor v.nextFolio).members.length + 1 < (d.groupFor v.nextFolio).size) :
    let p := d.fm.openPayload
    let g := d.groupFor v.nextFolio
    let off := v.recordLen - p.length
    ∃ e d0 first at', d.closeData = some e ∧ e.vol.loaded = some (v.assembled p) ∧ e.fm = { d.fm with
      held := d.fm.held ++ [Dev.dataForme d0 v g.members.length g.base p off first k at']
      group := some (g.joined v.nextFolio p off), openPayload := [], openFirst := none } := by
  intro p g off
  obtain ⟨vol, pools, regs, -⟩ := d.openGroup_rest v.nextFolio
  obtain ⟨e, at', assembled, fm, loaded⟩ := Dev.assemble_data (d := d.openGroup v.nextFolio) (by rw [vol, hv]) ((Dev.grab_congr pools regs ..).trans hg)
    g.members.length g.base off (d.fm.openFirst.getD 0xFFFFFFFF) p
  have group : (d.openGroup v.nextFolio).fm.group = some g := congrArg Formes.group (d.openGroup_fm v.nextFolio)
  have open' : d.fm.openPayload.isEmpty = false := by simpa using hp
  have added : d.addMember .data 0 p off (d.fm.openFirst.getD 0xFFFFFFFF) = some (e.onFm fun x => { x with group := some (g.joined v.nextFolio p off) }) := by
    unfold Dev.addMember
    simp only [hv, group, assembled, Option.bind_some]
    rw [if_neg (Nat.not_le.mpr room)]
    rfl
  obtain ⟨fm', vol'⟩ := Dev.stock_eq.mp (Dev.stock_kept.ownStripe ((e.onFm fun x => { x with group := some (g.joined v.nextFolio p off) }).onFm
    fun x => { x with openPayload := [], openFirst := none }) v.nextFolio p)
  refine ⟨_, d.openGroup v.nextFolio, d.fm.openFirst.getD 0xFFFFFFFF, at', ?_, ?_, fm'.trans ?_⟩
  · rw [Dev.closeData, open', if_neg Bool.false_ne_true]
    simp only [hv]
    rw [added]
    rfl
  · rw [vol', ← loaded]
    rfl
  · rw [Dev.onFm_fm, Dev.onFm_fm, fm, Dev.openGroup_fm]
    rfl

/-! ### The next record (R178, R219) -/

theorem Dev.extentsOf_congr {d e : Dev} (hi : e.idx = d.idx) (hs : e.session = d.session) (r : Rec) (off : Nat) :
    e.extentsOf r off = d.extentsOf r off := by
  unfold Dev.extentsOf Dev.write
  rw [hi, hs]

/-- A record placed leaves the cipher complex, and its extents wait for the next checkpoint. -/
theorem Dev.recordPlaced_places (d : Dev) (r : Rec) (off : Nat) : (d.recordPlaced r off).fm = d.fm ∧
    (d.recordPlaced r off).vol = { d.vol with loaded := d.vol.loaded.map fun v => { v with fresh := v.fresh ++ d.extentsOf r off } } ∧
    (d.recordPlaced r off).cx = { d.cx with recs := d.cx.recs.filter (fun q => decide (q.id ≠ r.id))
                                            unlogged := if r.logged then d.cx.unlogged else d.cx.unlogged ++ [r] } := by
  unfold Dev.recordPlaced
  extract_lets d1 d2
  split
  · obtain ⟨fm, vol⟩ := Dev.stock_eq.mp (Dev.stock_kept.giveBack d2 _)
    exact ⟨fm, vol, Dev.cx_kept.giveBack ..⟩
  · exact ⟨rfl, rfl, rfl⟩

/-- The device once the first bytes of a record have gone into the open data forme. -/
def Dev.streams (d : Dev) (bytes : List Byte) : Dev :=
  let first := if d.fm.openFirst.isNone then some d.fm.openPayload.length else d.fm.openFirst
  (d.onFm fun x => { x with openPayload := x.openPayload ++ bytes, openFirst := first }).onVolume fun v => { v with recordLen := v.recordLen + bytes.length }

theorem Dev.streams_loaded {d : Dev} {v : Volume} (hv : d.vol.loaded = some v) (bytes : List Byte) :
    (d.streams bytes).vol.loaded = some { v with recordLen := v.recordLen + bytes.length } := congrArg (Option.map _) hv

theorem Dev.streams_session {d : Dev} {v : Volume} (hv : d.vol.loaded = some v) (bytes : List Byte) : (d.streams bytes).session = d.session := by
  unfold Dev.session Dev.streams Dev.onVolume
  simp only [Dev.onVol_vol, Dev.onFm_vol, hv, Option.map_some]

section
variable {d : Dev} {v : Volume} {r : Rec} (hv : d.vol.loaded = some v) (hr : d.nextRecord = some r) (ht : r.st = .tagged)
include hv hr ht

/-- What becomes of a sealed record that is not begun: as much as fits goes into the open data forme. -/
theorem Dev.placeRecord_tagged : d.placeRecord =
    let take := r.body.take (191488 - d.fm.openPayload.length)
    let d2 := if take.length = r.body.length then (d.streams take).recordPlaced r v.recordLen
      else (d.streams take).onRec r.id fun r => { r with st := .placed v.recordLen }
    if d2.fm.openPayload.length = 191488 then d2.closeData else some d2 := by
  have off : r.placedAt = none := by rw [Rec.placedAt, ht]
  have sealed : r.sealed = true := by rw [Rec.sealed, ht]
  unfold Dev.placeRecord
  simp only [hr, hv, sealed, off, Option.getD_none, Nat.sub_self, List.drop_zero, Bool.not_true, Bool.false_eq_true, if_false, Option.isNone_none, true_and]
  rfl

theorem Dev.placeRecord_fits (fits : d.fm.openPayload.length + r.body.length < 191488) :
    d.placeRecord = some ((d.streams r.body).recordPlaced r v.recordLen) := by
  have whole : r.body.take (191488 - d.fm.openPayload.length) = r.body := List.take_of_length_le (by omega)
  have payload : ((d.streams r.body).recordPlaced r v.recordLen).fm.openPayload = d.fm.openPayload ++ r.body :=
    congrArg Formes.openPayload (Dev.recordPlaced_places ..).1
  rw [Dev.placeRecord_tagged hv hr ht]
  simp only [whole, if_true, payload, List.length_append]
  exact if_neg (by omega)

theorem Dev.placeRecord_fills (begun : d.fm.openPayload.length < 191488) (past : 191488 < d.fm.openPayload.length + r.body.length) :
    ∃ (d2 : Dev) (first : Option Nat), d.placeRecord = d2.closeData ∧ d2.pools = d.pools ∧ d2.regs = d.regs ∧
      d2.vol.loaded = some { v with recordLen := v.recordLen + (191488 - d.fm.openPayload.length) } ∧
      d2.fm = { d.fm with openPayload := d.fm.openPayload ++ r.body.take (191488 - d.fm.openPayload.length), openFirst := first } := by
  have part : (r.body.take (191488 - d.fm.openPayload.length)).length = 191488 - d.fm.openPayload.length := by
    rw [List.length_take]
    omega
  have short : (r.body.take (191488 - d.fm.openPayload.length)).length ≠ r.body.length := by omega
  refine ⟨(d.streams (r.body.take (191488 - d.fm.openPayload.length))).onRec r.id fun r => { r with st := .placed v.recordLen }, _, ?_, rfl, rfl, ?_, rfl⟩
  · rw [Dev.placeRecord_tagged hv hr ht]
    simp only [if_neg short]
    refine if_pos ?_
    show (d.fm.openPayload ++ r.body.take (191488 - d.fm.openPayload.length)).length = 191488
    rw [List.length_append]
    omega
  · exact (Dev.streams_loaded hv _).trans (by rw [part])

end

/-- The base folio of the group that a forme joins, and its place in it. -/
theorem Dev.groupFor_base (d : Dev) (folio : Nat) : (d.groupFor folio).base = (d.fm.group.map fun g => g.base).getD folio := by
  unfold Dev.groupFor
  cases d.fm.group <;> rfl

theorem Dev.groupFor_length (d : Dev) (folio : Nat) : (d.groupFor folio).members.length = (d.fm.group.map fun g => g.members.length).getD 0 := by
  unfold Dev.groupFor
  cases d.fm.group <;> rfl

theorem Dev.groupFor_acc (d : Dev) (folio : Nat) : (d.groupFor folio).acc = (d.fm.group.map fun g => g.acc).getD [] := by
  unfold Dev.groupFor
  cases d.fm.group <;> rfl

/-- A group that opens has room for its first member: its size is 8 or more. -/
theorem Dev.groupFor_room {d : Dev} (h : ∀ g, d.fm.group = some g → g.members.length + 1 < g.size) (folio : Nat) :
    (d.groupFor folio).members.length + 1 < (d.groupFor folio).size := by
  unfold Dev.groupFor
  cases hg : d.fm.group with
  | none =>
    show 1 < min 32 (max 8 _)
    omega
  | some g => exact h g hg

end Sys2Proof.Machine

open Sys2Proof Sys2Proof.Machine

/-- Settles O39: a record that fits whole is placed, and one that does not fills the forme, which closes as a member of its group. -/
theorem recordStreamFillsFormes : Obligations.RecordStreamFillsFormes := by
  intro s v r hw hh hv hclose hseal hr ht p
  have acts : exec .formeAssemble s = .next ⟨s.dev.placeRecord.getD s.dev.awaitForme, s.pending⟩ := by
    refine acts_of_flow (Eq.refl (execFormeAssemble s)) hw hh ?_
    have sealed : r.sealed = true := by rw [Rec.sealed, ht]
    simp only [hseal, hclose, hr, Option.any_some, sealed, Bool.not_true, Bool.false_eq_true, and_false, if_false]
  refine ⟨fun fits => ?_, fun k d1 begun past _ granted room => ?_⟩
  · obtain ⟨fm, vol, cx⟩ := (s.dev.streams r.body).recordPlaced_places r v.recordLen
    have entries : (s.dev.streams r.body).extentsOf r v.recordLen = s.dev.extentsOf r v.recordLen :=
      Dev.extentsOf_congr (d := s.dev) (e := s.dev.streams r.body) rfl (Dev.streams_session hv _) ..
    refine ⟨_, acts.trans (by rw [Dev.placeRecord_fits hv hr ht fits, Option.getD_some]), ?_, ?_, ?_, ?_, ?_⟩
    · rw [fm]; rfl
    · rw [cx]; rfl
    · rw [cx]; rfl
    · rw [fm]; rfl
    · rw [vol, Dev.streams_loaded hv, entries]
      exact ⟨_, rfl, rfl, rfl, rfl⟩
  · obtain ⟨d2, first, fills, pools, regs, loaded, fm2⟩ := Dev.placeRecord_fills hv hr ht begun past
    have payload : d2.fm.openPayload = p ++ r.body.take (191488 - p.length) := by rw [fm2]
    have length : (p ++ r.body.take (191488 - p.length)).length = 191488 := by
      rw [List.length_append, List.length_take]
      omega
    have group : d2.fm.group = s.dev.fm.group := by rw [fm2]
    have held : d2.fm.held = s.dev.fm.held := by rw [fm2]
    obtain ⟨e, d0, first', at', closed, vol, fm⟩ := Dev.closeData_joins (k := k) loaded (List.ne_nil_of_length_pos (by rw [payload, length]; decide))
      ((Dev.grab_congr pools regs ..).trans (congrArg Prod.fst granted)) (Dev.groupFor_room (group ▸ room) _)
    simp only [payload, held, length, Group.joined, Volume.assembled, Dev.groupFor_base, Dev.groupFor_length, Dev.groupFor_acc, group] at vol fm
    refine ⟨e, acts.trans (by rw [fills, closed, Option.getD_some]), ?_, ?_, ?_, ?_⟩
    · rw [fm]
    · rw [fm]
      refine ⟨_, rfl, rfl, rfl, rfl, rfl, ?_, rfl, rfl, rfl, rfl⟩
      show v.recordLen + (191488 - p.length) - 191488 = v.recordLen - p.length
      omega
    · exact ⟨_, vol, rfl, rfl, rfl⟩
    · rw [fm]
      exact ⟨_, rfl, rfl, List.getLast?_concat, rfl⟩
end

section
/-! Proof (R194 to R200): what the result of a row and the verdict of a copy change, and that what a verdict settles takes no forme's place away. -/

namespace Sys2Proof.Machine

/-- A guarded command that acts answers what its effect makes of the device. -/
theorem acts_of_whenDev {i : Instr} {s : State} {g : Dev → Bool} {f : Dev → Dev} {d : Dev} (he : exec i s = s.whenDev g f) (hg : g s.dev = true)
    (hd : f s.dev = d) : exec i s = .next ⟨d, s.pending⟩ :=
  hd ▸ he.trans (State.whenDev_of f hg)

theorem acts_of_work {i : Instr} {s : State} {f : Dev → Dev} {d : Dev} (he : exec i s = s.work f) (hw : s.dev.working = true) (hd : f s.dev = d) :
    exec i s = .next ⟨d, s.pending⟩ := acts_of_whenDev he hw hd

/-! ### The result of a row -/

/-- A failed row of a track that stays within its limit is entered and counted. -/
theorem Dev.rowFailed_within {d : Dev} {n : Nat} (h : (d.sh.tracks.get n).fails.length < d.rf Reg.SH_TRKCFG 15 0) :
    d.rowFailed n = (d.onSh fun x => { x with tracks := x.tracks.modify n fun t =>
      { t with fails := (t.fails ++ [x.count]).filter fun m => decide (x.count < m + 4096) } }).count 0x60 0 5 1 := by
  unfold Dev.rowFailed
  extract_lets d1
  refine if_neg fun past => ?_
  have entered : (d1.sh.tracks.get n).fails = ((d.sh.tracks.get n).fails ++ [d.sh.count]).filter fun m => decide (d.sh.count < m + 4096) :=
    congrArg Track.fails (Table.get_modify_self ..)
  have most : (d1.sh.tracks.get n).fails.length ≤ (d.sh.tracks.get n).fails.length + 1 := by
    rw [entered]
    exact (List.length_filter_le ..).trans (by simp)
  have limit : d1.rf Reg.SH_TRKCFG 15 0 = d.rf Reg.SH_TRKCFG 15 0 := rfl
  omega

/-- A row's result is counted; where its track stays within its limit, that changes no copy, forme, volume or link. -/
theorem Dev.rowCounted {d : Dev} {n : Nat} {ok : Bool} (h : ok = true ∨ (d.sh.tracks.get n).fails.length < d.rf Reg.SH_TRKCFG 15 0) (bits : Nat) :
    ∃ e : Dev, (if ok = true then d.count 0x60 0 6 bits else d.rowFailed n) = e ∧ e.sh.copies = d.sh.copies ∧ e.fm = d.fm ∧ e.vol = d.vol ∧
      e.links = d.links := by
  cases ok with
  | true => exact ⟨_, if_pos rfl, rfl, rfl, rfl, rfl⟩
  | false =>
    have within := h.resolve_left Bool.false_ne_true
    exact ⟨_, (if_neg Bool.false_ne_true).trans (Dev.rowFailed_within within), rfl, rfl, rfl, rfl⟩

theorem Dev.trackSymbols_dropSymbols (d : Dev) (n k : Nat) : (d.dropSymbols n k).trackSymbols n = (d.trackSymbols n).drop k := by
  unfold Dev.trackSymbols Dev.dropSymbols
  rw [Dev.onLink_links, Table.get_modify_self, Table.get_modify_self]

/-- A copy with the result of a row entered. -/
def Copy.rowIn (c : Copy) (copy row : Nat) (ok : Bool) : Copy := if c.id = copy then { c with rows := c.rows ++ [row], bad := c.bad || !ok } else c

/-! ### What a verdict settles (R183, R217) -/

/-- What a verdict reads and changes besides buffers: the scheduler, the contexts, the sequencer and the formes. -/
def Dev.bench (d : Dev) : Sheaf × Table Ctx Ctx.reset × Hk × Formes := (d.sh, d.ctxs, d.hk, d.fm)

theorem Dev.bench_kept : Dev.KeptByBuffers Dev.bench where
  stamp d u a := by simp [Dev.bench]
  setW1f _ _ _ _ _ _ := rfl
  count _ _ _ _ _ := rfl
  onEr _ _ _ := rfl
  onPools _ _ := rfl
  onIdx _ _ _ := rfl
  onCm _ _ := rfl
  onMi _ _ := rfl
  onCs _ _ := rfl

/-- The folios held, each with its accepted place. -/
def Formes.places (x : Formes) : List (Nat × Option (Nat × Nat × Nat)) := x.held.map fun f => (f.folio, f.accepted)

/-- From `d` to `e` formes are held no longer, and those that are keep their places; the scheduler, the contexts and the sequencer stay. -/
structure Dev.Settles (d e : Dev) : Prop where
  sh : e.sh = d.sh
  ctxs : e.ctxs = d.ctxs
  hk : e.hk = d.hk
  places : e.fm.places ⊆ d.fm.places

namespace Dev.Settles

theorem of_bench {d e : Dev} (h : e.bench = d.bench) : d.Settles e := by
  obtain ⟨sh, ctxs, hk, fm⟩ : e.sh = d.sh ∧ e.ctxs = d.ctxs ∧ e.hk = d.hk ∧ e.fm = d.fm := by simpa [Dev.bench] using h
  exact ⟨sh, ctxs, hk, fm ▸ List.Subset.refl _⟩

theorem refl (d : Dev) : d.Settles d := of_bench rfl

theorem trans {d e f : Dev} (h : d.Settles e) (g : e.Settles f) : d.Settles f :=
  ⟨g.sh.trans h.sh, g.ctxs.trans h.ctxs, g.hk.trans h.hk, fun _ hp => h.places (g.places hp)⟩

theorem each {α : Type} (d : Dev) (l : List α) (f : Dev → α → Dev) (h : ∀ e x, Dev.Settles e (f e x)) : d.Settles (d.each l f) := by
  unfold Dev.each
  induction l generalizing d with
  | nil => exact refl d
  | cons x l ih => exact (h d x).trans (ih _)

theorem onFm (d : Dev) (f : Formes → Formes) (h : ∀ x, (f x).places ⊆ x.places) : d.Settles (d.onFm f) := ⟨rfl, rfl, rfl, h _⟩

theorem onVolume (d : Dev) (f : Volume → Volume) : d.Settles (d.onVolume f) := of_bench rfl

theorem releaseFormes (d : Dev) : d.Settles d.releaseFormes := by
  unfold Dev.releaseFormes
  extract_lets done
  refine (of_bench (Dev.each_keeps Dev.bench d _ _ fun e f => Dev.each_keeps Dev.bench e _ _ fun e' k => Dev.bench_kept.letGo ..)).trans (onFm _ _ fun x => ?_)
  intro p hp
  obtain ⟨f, hf, rfl⟩ := List.mem_map.mp hp
  obtain ⟨g, hg, rfl⟩ := List.mem_map.mp hf
  refine List.mem_map.mpr ⟨g, hg, ?_⟩
  split <;> rfl

theorem locate (d : Dev) (g : Closed) : d.Settles (d.locate g) := by
  unfold Dev.locate
  split
  · split
    · extract_lets mark
      split
      · exact onVolume ..
      · exact refl d
    · exact refl d
  · exact refl d

theorem dropGroup (d : Dev) (g : Closed) : d.Settles (d.dropGroup g) := by
  unfold Dev.dropGroup
  extract_lets mine d1
  have given : d.Settles d1 := (locate d g).trans (each _ _ _ fun e f => by
    split
    · exact of_bench (Dev.bench_kept.giveBack ..)
    · exact refl e)
  exact given.trans (onFm _ _ fun x => List.map_subset _ (List.filter_subset_self _))

theorem reportStripes (d : Dev) (n : Nat) : d.Settles (d.reportStripes n) := by
  unfold Dev.reportStripes
  split
  · exact refl d
  · refine of_bench (Dev.each_keeps Dev.bench _ _ _ fun e n => ?_)
    rw [Dev.bench_kept.onCs, Dev.broadcast, Dev.each_keeps Dev.bench _ _ _ fun e m => Dev.bench_kept.send .., Dev.bench_kept.stamp]

theorem recordCkpt (d : Dev) (c : Ckpt) : d.Settles (d.recordCkpt c) := by
  unfold Dev.recordCkpt
  extract_lets sd
  split
  · exact refl d
  · extract_lets all ents d1 d2
    have taken : d.Settles d1 := (of_bench (Dev.bench_kept.stamp ..)).trans (onVolume ..)
    have recorded : d1.Settles d2 := onFm _ _ fun x => List.Subset.refl _
    refine ((taken.trans recorded).trans (of_bench ?_)).trans (reportStripes ..)
    exact (Dev.bench_kept.reap _).trans (Dev.bench_kept.onIdx _ _ fun _ => rfl)

theorem settleGroups (d : Dev) : d.Settles d.settleGroups := by
  unfold Dev.settleGroups
  extract_lets d0 d1
  refine ((releaseFormes d).trans (each _ _ _ dropGroup)).trans (each _ _ _ fun e c => ?_)
  split
  · exact recordCkpt ..
  · exact refl e

end Dev.Settles

/-! ### Verdicts -/

/-- With no flight that waits for tape and no drain-shutdown, nothing goes on to its end. -/
theorem Dev.settleFlushes_idle {d : Dev} (hf : d.flightsThat Flight.waitsTape = []) (hd : d.hk.drain = false) : d.settleFlushes = d := by
  have drains : d.drainDivider = [] := by simp [Dev.drainDivider, hd]
  unfold Dev.settleFlushes
  rw [hf]
  exact if_neg (by simp [Dev.each, drains])

/-- An accepted copy gives its forme its place; in a streaming run with no FLUSH waiting nothing else of the scheduler changes. -/
theorem Dev.acceptCopy_places {d : Dev} (k : Copy) (hf : d.flightsThat Flight.waitsTape = []) (hd : d.hk.drain = false) :
    (d.acceptCopy k).sh = d.sh ∧ ∀ f ∈ (d.acceptCopy k).fm.held, f.folio = k.folio → f.accepted = some (k.sheaf, k.position, k.slot) := by
  unfold Dev.acceptCopy
  generalize hd1 : Dev.onFm (d.onForme _ _) _ = d1
  have entered : d1.sh = d.sh ∧ d1.ctxs = d.ctxs ∧ d1.hk = d.hk ∧ ∀ p ∈ d1.fm.places, p.1 = k.folio → p.2 = some (k.sheaf, k.position, k.slot) := by
    subst hd1
    refine ⟨rfl, rfl, rfl, fun p hp => ?_⟩
    obtain ⟨f, hf, rfl⟩ := List.mem_map.mp hp
    obtain ⟨g, -, rfl⟩ := List.mem_map.mp hf
    split
    · exact fun _ => rfl
    · exact fun own => absurd own ‹_›
  obtain ⟨sh1, ctxs1, hk1, own⟩ := entered
  obtain ⟨sh, ctxs, hk, places⟩ := Dev.Settles.settleGroups d1
  rw [Dev.settleFlushes_idle]
  · exact ⟨sh.trans sh1, fun f hf => own _ (places (List.mem_map_of_mem hf))⟩
  · rw [← hf, Dev.flightsThat, Dev.flightsThat, ctxs, ctxs1]
  · rw [hk, hk1, hd]

/-- A copy whose verdict is given leaves the list, is counted, and its forme on the tape is marked where it is accepted. -/
def Dev.takenOff (d : Dev) (copy : Nat) (k : Copy) : Dev :=
  (((d.stamp 0xE).2.onSh fun x => { x with copies := x.copies.filter fun c => decide (c.id ≠ copy) }).count 0x60 0 (if k.bad then 2 else 1) 1).markAccepted k

section
variable (d : Dev) (copy : Nat) (k : Copy)

/-- A change of the tape alone keeps what is apart from the volume. -/
theorem Dev.markAccepted_keeps {β : Type} (v : Dev → β) (h : ∀ (e : Dev) (f : Vol → Vol), v (e.onVol f) = v e) : v (d.markAccepted k) = v d := by
  unfold Dev.markAccepted
  split
  · rfl
  · exact h ..

theorem Dev.takenOff_bench : (d.takenOff copy k).sh = { d.sh with copies := d.sh.copies.filter fun c => decide (c.id ≠ copy) } ∧
    (d.takenOff copy k).ctxs = d.ctxs ∧ (d.takenOff copy k).hk = d.hk ∧ (d.takenOff copy k).fm = d.fm := by
  unfold Dev.takenOff
  refine ⟨(Dev.markAccepted_keeps _ k Dev.sh fun _ _ => rfl).trans ?_, (Dev.markAccepted_keeps _ k Dev.ctxs fun _ _ => rfl).trans ?_,
    (Dev.markAccepted_keeps _ k Dev.hk fun _ _ => rfl).trans ?_, (Dev.markAccepted_keeps _ k Dev.fm fun _ _ => rfl).trans ?_⟩ <;> simp

theorem Dev.takenOff_regs : (d.takenOff copy k).regs = d.regs := by
  rw [Dev.takenOff, Dev.markAccepted_keeps _ _ Dev.regs fun _ _ => rfl]
  simp

variable {k} in
theorem Dev.takenOff_vol (hb : k.bad = true) : (d.takenOff copy k).vol = d.vol := by
  rw [Dev.takenOff, Dev.markAccepted, if_pos (.inl hb)]
  simp

end

theorem Dev.rewriteLimits_congr {d e : Dev} (h : e.regs = d.regs) : d.maxCopies = e.maxCopies ∧ d.maxSheaves = e.maxSheaves := by
  simp only [Dev.maxCopies, Dev.maxSheaves, Dev.rf, Dev.reg, Dev.regB, h, and_self]

/-- A rejected copy of a forme that has had fewer than max_copies is due for a rewrite (R196). -/
theorem Dev.reject_due {d : Dev} {k : Copy} {f : Forme} (held : d.fm.held.find? (fun f => f.folio == k.folio) = some f) (few : f.copies < d.maxCopies) :
    d.reject k = d.onSh fun x => { x with due := x.due ++ [⟨k.folio, k.position, k.slot, k.position + x.lag + 1⟩] } := by
  simp only [Dev.reject, held, if_pos few]

/-- One of a forme that has had as many waits for the next sheaf, unless this is the last of max_sheaves in a row (R197, R198). -/
theorem Dev.reject_waits {d : Dev} {k : Copy} {f : Forme} (held : d.fm.held.find? (fun f => f.folio == k.folio) = some f) (many : d.maxCopies ≤ f.copies)
    (rows : f.fullRow d.sh.sheaf < d.maxSheaves) :
    (d.reject k).sh = { d.sh with deferred := d.sh.deferred ++ [k.folio] } ∧ (d.reject k).vol = d.vol := by
  simp only [Dev.reject, held, if_neg (Nat.not_lt.mpr many), if_neg (Nat.not_le.mpr rows), Dev.note_sh, Dev.note_vol]
  exact ⟨rfl, rfl⟩

end Sys2Proof.Machine

open Sys2Proof Sys2Proof.Machine

/-- Settles O42: a row's result is entered where its symbols are done with; an accepted copy settles groups and checkpoints, which keep its forme's place. -/
theorem proofJudgesCopies : Obligations.ProofJudgesCopies := by
  intro copy s k hw hk
  refine ⟨?rows, fun all plain col run => ?verdicts⟩
  case rows =>
    intro row mark hrow hnew n ok good
    have fresh : ¬ (176 ≤ row ∨ k.rows.contains row = true) := by
      rw [hnew]
      simpa using hrow
    cases mark with
    | none =>
      obtain ⟨e, counted, copies, fm, vol, -⟩ := Dev.rowCounted (d := s.dev.onSh fun x => { x with copies := x.copies.map (·.rowIn copy row ok) }) good 0
      refine ⟨e, acts_of_work (Eq.refl (execProofRowResult ..)) hw ?_, copies, fm, vol, fun p hp => nomatch hp⟩
      simp only [hk, if_neg fresh]
      exact counted
    | some p =>
      obtain ⟨e, counted, copies, fm, vol, links⟩ := Dev.rowCounted (ok := ok)
        (d := (s.dev.dropSymbols n (p + 4 + frameTail)).onSh fun x => { x with copies := x.copies.map (·.rowIn copy row ok) }) good
        ((rowCorrections (rowFrameAt (s.dev.trackSymbols n) p)).getD 0)
      refine ⟨e, acts_of_work (Eq.refl (execProofRowResult ..)) hw ?_, copies, fm, vol, fun q hq => ?_⟩
      · simp only [hk, if_neg fresh]
        exact counted
      · rw [← Option.some.inj hq, ← s.dev.trackSymbols_dropSymbols]
        exact congrArg (fun l : Table Link Link.reset => (l.get (n % 16)).rx.get (n / 16)) links
  case verdicts =>
    let t := s.dev.takenOff copy k
    obtain ⟨sh, ctxs, hks, fm⟩ : t.sh = { s.dev.sh with copies := s.dev.sh.copies.filter fun c => decide (c.id ≠ copy) } ∧ t.ctxs = s.dev.ctxs ∧
      t.hk = s.dev.hk ∧ t.fm = s.dev.fm := s.dev.takenOff_bench copy k
    have most : s.dev.maxCopies = t.maxCopies ∧ s.dev.maxSheaves = t.maxSheaves := Dev.rewriteLimits_congr (s.dev.takenOff_regs copy k)
    have vol : k.bad = true → t.vol = s.dev.vol := s.dev.takenOff_vol copy
    have judged : t.judge k = if k.bad = true then t.reject k else t.acceptCopy k := by
      have none : t.sh.colophon = none := by rw [sh, col]
      simp only [Dev.judge, plain, none, Bool.false_eq_true, if_false]
    have acts : ∀ e, t.judge k = e → e.sh.run = .streaming → exec (.proofVerdict copy) s = .next ⟨e, s.pending⟩ := by
      rintro e rfl streams
      refine acts_of_work (Eq.refl (execProofVerdict ..)) hw ?_
      simp only [hk, if_neg (Nat.not_lt.mpr all)]
      exact Dev.endRunIfDone_streaming streams
    refine ⟨fun fine idle drain => ?good, fun f bad held => ⟨fun few => ?rewrite, fun many rows => ?waits⟩⟩
    case good =>
      obtain ⟨same, placed⟩ := Dev.acceptCopy_places (d := t) k (by rw [← idle, Dev.flightsThat, Dev.flightsThat, ctxs]) (by rw [hks, drain])
      refine ⟨t.acceptCopy k, acts _ (judged.trans (by rw [fine]; rfl)) (by rw [same, sh, run]), by rw [same, sh], placed⟩
    case rewrite =>
      have due := Dev.reject_due (d := t) (fm ▸ held) (most.1 ▸ few)
      refine ⟨_, acts _ (judged.trans ((if_pos bad).trans due)) ?_, ?_, ?_, fm, vol bad⟩
      · rw [Dev.onSh_sh, sh, run]
      · rw [Dev.onSh_sh, sh]
      · rw [Dev.onSh_sh, sh]
    case waits =>
      obtain ⟨waits, same⟩ := Dev.reject_waits (d := t) (fm ▸ held) (most.1 ▸ many) (most.2 ▸ sh ▸ rows)
      refine ⟨_, acts _ (judged.trans (if_pos bad)) ?_, ?_, ?_, ?_, same.trans (vol bad)⟩
      all_goals rw [waits, sh]
      exact run
end

section
/-! What comes back from the tape (R185, R229 to R231): copies that are decoded, groups that are recovered, and the sweep of a read turn that goes on. -/

namespace Sys2Proof.Machine

/-! ### The sweep goes on (R227) -/

section
variable {β : Type} (v : Dev → β) (stamp : ∀ (d : Dev) (u a : Nat), v (d.stamp u a).2 = v d) (onTc : ∀ (d : Dev) (f : Tc → Tc), v (d.onTc f) = v d)
include stamp onTc

/-- A profile that supersedes no move changes the generator alone. -/
theorem Dev.startProfile_keeps {d : Dev} (hm : d.tc.movingFor = none) (kind step : Nat) (reverse toZero : Bool) (target : Int) (asker : Asker) :
    v (d.startProfile kind step reverse toZero target asker) = v d := by
  unfold Dev.startProfile
  split
  · rfl
  · rw [Dev.supersede_idle hm, onTc, stamp]

/-- With no move under way, the next read of a sweep moves the tape and the head, and nothing else. -/
theorem Dev.retarget_keeps (onSh : ∀ (d : Dev) (f : Sheaf → Sheaf), v (d.onSh f) = v d) {d : Dev} (hm : d.tc.movingFor = none) : v d.retarget = v d := by
  have head : ∀ (e : Dev) (n : Nat), v (e.headTo n) = v e ∧ (e.headTo n).tc.movingFor = e.tc.movingFor := fun e n => by
    unfold Dev.headTo
    split
    · exact ⟨rfl, rfl⟩
    · unfold Dev.seekHead
      extract_lets set
      refine ⟨(onTc _ _).trans (stamp ..), ?_⟩
      rw [Dev.onTc_tc, Dev.stamp_tc]
      rfl
  unfold Dev.retarget
  split
  · rfl
  · split
    · exact onSh ..
    · rename_i rev s _
      extract_lets d1
      have aimed : v d1 = v d := (head _ _).1.trans (onSh ..)
      have free : d1.tc.movingFor = none := (head _ _).2.trans hm
      split
      · exact (Dev.startProfile_keeps v stamp onTc free ..).trans aimed
      · split
        · exact (Dev.startProfile_keeps v stamp onTc free ..).trans aimed
        · exact aimed

end

theorem Dev.retarget_vol {d : Dev} (hm : d.tc.movingFor = none) : d.retarget.vol = d.vol :=
  Dev.retarget_keeps Dev.vol Dev.stamp_vol (fun _ _ => rfl) (fun _ _ => rfl) hm

/-! ### A forme that is held for the reads -/

/-- What the decoders work on: the transport, the volume and the scheduler. -/
def Dev.deck (d : Dev) : Tc × Vol × Sheaf := (d.tc, d.vol, d.sh)

theorem Dev.deck_kept : Dev.KeptByBuffers Dev.deck where
  stamp d u a := by simp [Dev.deck]
  setW1f _ _ _ _ _ _ := rfl
  count _ _ _ _ _ := rfl
  onEr _ _ _ := rfl
  onPools _ _ := rfl
  onIdx _ _ _ := rfl
  onCm _ _ := rfl
  onMi _ _ := rfl
  onCs _ _ := rfl

/-- The volume side with one decoded forme more, in its buffer. -/
def Vol.holding (x : Vol) (f : Forme) (k : Nat) : Vol := { x with decoded := x.decoded ++ [{ f with buf := some k }] }

/-- A forme whose buffer is granted is held for the reads. -/
theorem Dev.holdDecoded_holds {d : Dev} {f : Forme} {k : Nat} (hg : (d.grab .restore [f.folio] 192000 [.unit .restore, .unit .cipher]).1 = some k) :
    (d.holdDecoded f).vol = d.vol.holding f k ∧ (d.holdDecoded f).tc = d.tc := by
  obtain ⟨d1, grabbed⟩ : ∃ d1, d.grab .restore [f.folio] 192000 [.unit .restore, .unit .cipher] = (some k, d1) := ⟨_, Prod.ext hg rfl⟩
  have kept : (d1.letGo k (.unit .restore)).deck = d.deck := by
    rw [Dev.deck_kept.letGo, ← Dev.deck_kept.grab d .restore [f.folio] 192000 [.unit .restore, .unit .cipher], grabbed]
  obtain ⟨tc, vol, -⟩ : (d1.letGo k (.unit .restore)).tc = d.tc ∧ (d1.letGo k (.unit .restore)).vol = d.vol ∧ (d1.letGo k (.unit .restore)).sh = d.sh := by
    simpa [Dev.deck] using kept
  unfold Dev.holdDecoded
  rw [grabbed]
  exact ⟨congrArg (Vol.holding · f k) vol, tc⟩

/-! ### A copy under the head (R229) -/

theorem Dev.dropFrames_keeps {β : Type} (v : Dev → β) (h : ∀ (d : Dev) (t : Nat) (f : Link → Link), v (d.onLink t f) = v d) (d : Dev) (slot : Nat)
    (marks : List (Nat × Nat)) : v (d.dropFrames slot marks) = v d := Dev.each_keeps v _ _ _ fun _ _ => h ..

/-- The device once a decoder is done with the frames that it found: its identifiers are counted, the symbols are done with. -/
def Dev.framesDone (d : Dev) (slot : Nat) (marks : List (Nat × Nat)) : Dev :=
  ((d.stamp 0xF).2.dropFrames slot marks).count 0x50 0 10 (((d.framesOn slot marks).filterMap decodeRowId).filter fun x => x.2.2.2).length

theorem Dev.framesDone_keeps {β : Type} (v : Dev → β) (stamp : ∀ (d : Dev) (u a : Nat), v (d.stamp u a).2 = v d)
    (onLink : ∀ (d : Dev) (t : Nat) (f : Link → Link), v (d.onLink t f) = v d) (count : ∀ (d : Dev) (blk sub i n : Nat), v (d.count blk sub i n) = v d)
    (d : Dev) (slot : Nat) (marks : List (Nat × Nat)) : v (d.framesDone slot marks) = v d := by
  rw [Dev.framesDone, count, Dev.dropFrames_keeps v onLink, stamp]

theorem Dev.count_cnts_ne (d : Dev) {blk sub i j : Nat} (h : j ≠ cntKey blk sub i) (n : Nat) : (d.count blk sub i n).cnts.get j = d.cnts.get j :=
  Table.get_modify_ne _ _ h

theorem Dev.count_cnts_self (d : Dev) (blk sub i n : Nat) :
    (d.count blk sub i n).cnts.get (cntKey blk sub i) = (d.cnts.get (cntKey blk sub i) + n) % 2 ^ 64 := Table.get_modify_self ..

theorem Dev.framesDone_refusals (d : Dev) (slot : Nat) (marks : List (Nat × Nat)) :
    (d.framesDone slot marks).cnts.get (cntKey 0x50 0 9) = d.cnts.get (cntKey 0x50 0 9) := by
  rw [Dev.framesDone, Dev.count_cnts_ne _ (by decide), Dev.dropFrames_keeps Dev.cnts fun _ _ _ => rfl, Dev.stamp_cnts]

/-- What becomes of a copy that a decoder has read, or has not. -/
def Dev.copyRead (a : Dev) : CopyOut → Dev
  | .lost => a
  | .refused => a.count 0x50 0 9 1
  | .accepted o => if a.sh.readTurn then (a.turnCopy o).retarget else a.scanCopy o

/-- What FORME_DECODE makes of a copy that decodes, or does not. -/
theorem formeDecode_acts {s : State} {sheaf pos slot : Nat} {marks : List (Nat × Nat)} (hw : s.dev.working = true)
    (reads : s.dev.sh.readTurn = true ∨ s.dev.loading = true) (head : s.dev.tc.headSheaf = sheaf) (holds : s.dev.tapeHolds sheaf pos slot = true) :
    exec (.formeDecode sheaf pos slot marks) s = .next ⟨(s.dev.framesDone slot marks).copyRead (readCopy (s.dev.framesOn slot marks)), s.pending⟩ := by
  refine acts_of_whenDev (Eq.refl (execFormeDecode sheaf pos slot marks s)) ?_ ?_
  · have turn : (s.dev.sh.readTurn || s.dev.loading) = true := by simpa using reads
    simp only [hw, turn, head, holds, beq_self_eq_true, Bool.and_self]
  · dsimp only
    rw [← Dev.framesDone]
    cases readCopy (s.dev.framesOn slot marks) <;> rfl

theorem Dev.framesDone_deck (d : Dev) (slot : Nat) (marks : List (Nat × Nat)) : (d.framesDone slot marks).vol = d.vol ∧
    (d.framesDone slot marks).tc = d.tc ∧ (d.framesDone slot marks).sh = d.sh := by
  have kept := Dev.framesDone_keeps Dev.deck Dev.deck_kept.stamp (fun _ _ _ => rfl) Dev.deck_kept.count d slot marks
  obtain ⟨tc, vol, sh⟩ : (d.framesDone slot marks).tc = d.tc ∧ (d.framesDone slot marks).vol = d.vol ∧ (d.framesDone slot marks).sh = d.sh := by
    simpa [Dev.deck] using kept
  exact ⟨vol, tc, sh⟩

theorem Dev.framesDone_grab (d : Dev) (slot : Nat) (marks : List (Nat × Nat)) (u : BufUnit) (tag : List Nat) (size : Nat) (share : List Holder) :
    ((d.framesDone slot marks).grab u tag size share).1 = (d.grab u tag size share).1 :=
  Dev.grab_congr (Dev.framesDone_keeps Dev.pools Dev.stamp_pools (fun _ _ _ => rfl) (fun _ _ _ _ _ => rfl) ..)
    (Dev.framesDone_keeps Dev.regs Dev.stamp_regs (fun _ _ _ => rfl) (fun _ _ _ _ _ => rfl) ..) ..

/-- A copy of the loaded volume that carries data, a directory or parity, and whose folio is new, is held for the reads (R229). -/
theorem Dev.turnCopy_new {d : Dev} {o : OnTape} (own : ∃ v, d.vol.loaded = some v ∧ v.volumeId = o.volumeId) (filler : o.forme.kind ≠ .filler)
    (colophon : o.forme.kind ≠ .colophon) (new : ∀ y ∈ d.vol.decoded, y.folio ≠ o.forme.folio) : d.turnCopy o = d.holdDecoded o.forme := by
  obtain ⟨v, loaded, same⟩ := own
  have fresh : ¬ (o.forme.kind = .filler ∨ d.vol.decoded.any (fun x => x.folio == o.forme.folio) = true) := by simpa [filler] using new
  unfold Dev.turnCopy
  rw [if_neg (by simp [loaded, same]), if_neg colophon, if_neg fresh]

/-- A LOAD keeps such a copy (R223). -/
theorem Dev.scanCopy_new {d : Dev} {o : OnTape} (filler : o.forme.kind ≠ .filler) (new : ∀ y ∈ d.vol.scan, y.forme.folio ≠ o.forme.folio) :
    d.scanCopy o = d.onVol fun v => { v with scan := v.scan ++ [o] } := by
  refine if_neg ?_
  simp only [filler, false_or, not_and, Bool.not_eq_true, List.any_eq_false, Bool.and_eq_true, beq_iff_eq]
  exact fun _ y hy same => absurd same (new y hy)

section
variable {s : State} {sheaf pos slot : Nat} {marks : List (Nat × Nat)} (hw : s.dev.working = true)
  (reads : s.dev.sh.readTurn = true ∨ s.dev.loading = true) (head : s.dev.tc.headSheaf = sheaf) (holds : s.dev.tapeHolds sheaf pos slot = true)
include hw reads head holds

/-- A copy that is lost or refused leaves the volume side as it was; a refused one is counted. -/
theorem formeDecode_fails (small : s.dev.cnts.get (cntKey 0x50 0 9) < 2 ^ 64)
    (fails : readCopy (s.dev.framesOn slot marks) = .lost ∨ readCopy (s.dev.framesOn slot marks) = .refused) :
    Does (.formeDecode sheaf pos slot marks) s (fun d => d.vol = s.dev.vol ∧ d.cnts.get (cntKey 0x50 0 9) =
      (s.dev.cnts.get (cntKey 0x50 0 9) + b2n (readCopy (s.dev.framesOn slot marks) == .refused)) % 2 ^ 64) := by
  refine ⟨_, formeDecode_acts hw reads head holds, ?_⟩
  obtain ⟨vol, -, -⟩ := s.dev.framesDone_deck slot marks
  rcases fails with lost | refused
  · rw [lost]
    exact ⟨vol, (s.dev.framesDone_refusals slot marks).trans (Nat.mod_eq_of_lt small).symm⟩
  · rw [refused, Dev.copyRead]
    rw [Dev.count_vol, Dev.count_cnts_self, s.dev.framesDone_refusals]
    exact ⟨vol, rfl⟩

/-- A copy that a read turn has decoded, of a folio that is new, is held for the reads. -/
theorem formeDecode_held (hm : s.dev.tc.movingFor = none) {o : OnTape} (seen : readCopy (s.dev.framesOn slot marks) = .accepted o)
    (filler : o.forme.kind ≠ .filler) (colophon : o.forme.kind ≠ .colophon) {k : Nat} {d1 : Dev} (turn : s.dev.sh.readTurn = true)
    (own : ∃ v, s.dev.vol.loaded = some v ∧ v.volumeId = o.volumeId) (new : ∀ y ∈ s.dev.vol.decoded, y.folio ≠ o.forme.folio)
    (granted : s.dev.grab .restore [o.forme.folio] 192000 [.unit .restore, .unit .cipher] = (some k, d1)) :
    Does (.formeDecode sheaf pos slot marks) s (fun d => d.vol.decoded = s.dev.vol.decoded ++ [{ o.forme with buf := some k }]) := by
  refine ⟨_, formeDecode_acts hw reads head holds, ?_⟩
  obtain ⟨vol, tc, sh⟩ := s.dev.framesDone_deck slot marks
  obtain ⟨heldVol, heldTc⟩ := Dev.holdDecoded_holds ((s.dev.framesDone_grab slot marks ..).trans (congrArg Prod.fst granted))
  rw [seen, Dev.copyRead, if_pos (by rw [sh, turn]), Dev.turnCopy_new (vol ▸ own) filler colophon (vol ▸ new),
    Dev.retarget_vol (by rw [heldTc, tc, hm]), heldVol, vol]
  rfl

/-- A copy that a LOAD has read, of a folio that is new, is kept. -/
theorem formeDecode_scanned {o : OnTape} (seen : readCopy (s.dev.framesOn slot marks) = .accepted o) (filler : o.forme.kind ≠ .filler)
    (turn : s.dev.sh.readTurn = false) (new : ∀ y ∈ s.dev.vol.scan, y.forme.folio ≠ o.forme.folio) :
    Does (.formeDecode sheaf pos slot marks) s (fun d => d.vol.scan = s.dev.vol.scan ++ [o] ∧ d.vol.decoded = s.dev.vol.decoded) := by
  refine ⟨_, formeDecode_acts hw reads head holds, ?_⟩
  obtain ⟨vol, -, sh⟩ := s.dev.framesDone_deck slot marks
  rw [seen, Dev.copyRead, if_neg (by rw [sh, turn]; decide), Dev.scanCopy_new filler (vol ▸ new), Dev.onVol_vol, vol]
  exact ⟨rfl, rfl⟩

end

/-! ### A group that is recovered, read again, or given up (R230, R231) -/

/-- The recovery of a group begins: its readings at step 7 are counted. -/
def Dev.recovering (d : Dev) (base n : Nat) : Dev := (d.stamp 0xF).2.onVol fun v => { v with rereads := v.rereads.set base n }

section
variable (d : Dev) (base n : Nat)

theorem Dev.recovering_vol : (d.recovering base n).vol = { d.vol with rereads := d.vol.rereads.set base n } := by
  rw [Dev.recovering, Dev.onVol_vol, Dev.stamp_vol]

theorem Dev.recovering_tc : (d.recovering base n).tc = d.tc := by rw [Dev.recovering, Dev.onVol_tc, Dev.stamp_tc]

theorem Dev.recovering_ctxs : (d.recovering base n).ctxs = d.ctxs := by rw [Dev.recovering, Dev.onVol_ctxs, Dev.stamp_ctxs]

theorem Dev.recovering_grab (u : BufUnit) (tag : List Nat) (size : Nat) (share : List Holder) :
    ((d.recovering base n).grab u tag size share).1 = (d.grab u tag size share).1 :=
  Dev.grab_congr (by rw [Dev.recovering, Dev.onVol_pools, Dev.stamp_pools]) (by rw [Dev.recovering, Dev.onVol_regs, Dev.stamp_regs]) ..

end

theorem Dev.orderAll_keeps {β : Type} (v : Dev → β) (h : ∀ (d : Dev) (t : Nat) (f : Link → Link), v (d.onLink t f) = v d) (d : Dev) (c : LinkCmd) :
    v (d.orderAll c) = v d := Dev.each_keeps v _ _ _ fun _ _ => h ..

/-- A read. -/
def Flight.reads : Flight → Bool
  | .read _ => true
  | _ => false

theorem Dev.flightsThat_congr {d e : Dev} (h : e.ctxs = d.ctxs) (p : Flight → Bool) : e.flightsThat p = d.flightsThat p := by
  rw [Dev.flightsThat, Dev.flightsThat, h]

/-- Where no flight meets a condition, none meets a narrower one. -/
theorem Dev.flightsThat_none {d : Dev} {p q : Flight → Bool} (none : d.flightsThat p = []) (h : ∀ f, q f = true → p f = true) : d.flightsThat q = [] := by
  refine List.filter_eq_nil_iff.mpr fun c hc => ?_
  have not := List.filter_eq_nil_iff.mp none c hc
  cases hr : (d.ctxs.get c).run <;> simp only [hr] at not ⊢
  case flight f => exact fun hq => not (h f hq)
  all_goals exact not

/-- With no read outstanding a group that is unrecovered has a C2 record of category 0x08, and nothing else becomes of it (R231, R421). -/
theorem Dev.unrecovered_noted {d : Dev} (none : d.flightsThat Flight.reads = []) (base k : Nat) (fs : List Forme) (lost : List Nat) :
    ∃ r : Report, d.unrecovered base k fs lost = d.note r ∧ r.cls = .c2 ∧ r.cat = 8 := by
  unfold Dev.unrecovered
  extract_lets x d0 hits b
  have hit : hits = [] := Dev.flightsThat_none none fun f hf => by
    cases f
    case read => rfl
    all_goals exact absurd hf Bool.false_ne_true
  have idle : b = d := congrArg (fun l => d.each l fun d c => d.failRead c St.mediumUnrecovered d0 (toW64 x.1) (some 8) (toW32 x.2)) hit
  rw [if_pos (List.isEmpty_iff.mpr hit), idle]
  exact ⟨_, rfl, rfl, rfl⟩

section
variable {s : State} {base : Nat} (hw : s.dev.working = true) (turn : s.dev.sh.readTurn = true)
  (lost : lostFolios base (s.dev.groupSpan base (groupOf s.dev.vol.decoded base)) (groupOf s.dev.vol.decoded base) ≠ [])
include hw turn lost

/-- A group whose one lost member is rebuilt is held with it. -/
theorem l3RecoveryDone_rebuilds (hm : s.dev.tc.movingFor = none) {f : Forme} {k : Nat} {d1 : Dev} (ok : Bool) (others : List (Nat × List (Nat × List Byte)))
    (rebuilt : l3Rebuild (groupOf s.dev.vol.decoded base) = some [f])
    (granted : s.dev.grab .restore [f.folio] 192000 [.unit .restore, .unit .cipher] = (some k, d1)) :
    Does (.l3RecoveryDone base ok others) s (fun d => d.vol.decoded = s.dev.vol.decoded ++ [{ f with buf := some k }]) := by
  have acts : exec (.l3RecoveryDone base ok others) s = .next ⟨((s.dev.recovering base 0).holdDecoded f).retarget, s.pending⟩ := by
    refine acts_of_whenDev (Eq.refl (execL3RecoveryDone base ok others s)) (by simp only [hw, turn, Bool.and_self]) ?_
    simp only [List.isEmpty_iff, if_neg lost, rebuilt]
    rfl
  obtain ⟨vol, tc⟩ := Dev.holdDecoded_holds ((s.dev.recovering_grab base 0 ..).trans (congrArg Prod.fst granted))
  refine ⟨_, acts, ?_⟩
  beta_reduce
  rw [Dev.retarget_vol (by rw [tc, s.dev.recovering_tc, hm]), vol, s.dev.recovering_vol]
  rfl

variable (unbuilt : l3Rebuild (groupOf s.dev.vol.decoded base) = none)
include unbuilt

/-- One that cannot be recovered is read again at step 7, twice (R230). -/
theorem l3RecoveryDone_rereads (hm : s.dev.tc.movingFor = none) (twice : s.dev.vol.rereads.get base < 2) (run : s.dev.tc.st = .run) :
    Does (.l3RecoveryDone base false []) s (fun d => d.vol.decoded = s.dev.vol.decoded ∧ d.vol.rereads.get base = s.dev.vol.rereads.get base + 1 ∧
      d.tc.profile.kind = 1 ∧ d.tc.profile.step = 7) := by
  let a := (s.dev.recovering base (s.dev.vol.rereads.get base + 1)).orderAll ⟨Hc.setRate, 0, toW32 (stepRate 7), 0⟩
  have acts : exec (.l3RecoveryDone base false []) s = .next ⟨a.startProfile 1 7 s.dev.sh.sweepRev false 0 .scheduler, s.pending⟩ := by
    refine acts_of_whenDev (Eq.refl (execL3RecoveryDone base false [] s)) (by simp only [hw, turn, Bool.and_self]) ?_
    simp only [List.isEmpty_iff, if_neg lost, unbuilt, Bool.and_false, Bool.false_and, Bool.false_eq_true, if_false, if_pos twice]
    rfl
  have tc : a.tc = s.dev.tc := (Dev.orderAll_keeps Dev.tc (fun _ _ _ => rfl) ..).trans (Dev.recovering_tc ..)
  have vol : a.vol = (s.dev.recovering base (s.dev.vol.rereads.get base + 1)).vol := Dev.orderAll_vol ..
  obtain ⟨kind, step, -⟩ := Dev.startProfile_runs (d := a) (kind := 1) (step := 7) (reverse := s.dev.sh.sweepRev) (toZero := false) (target := 0)
    (by rw [tc, run]) (by rw [tc, hm])
  have same := Dev.startProfile_keeps Dev.vol Dev.stamp_vol (fun _ _ => rfl) (d := a) (by rw [tc, hm]) 1 7 s.dev.sh.sweepRev false 0 .scheduler
  refine ⟨_, acts, ?_, ?_, kind, step⟩
  · rw [same, vol, Dev.recovering_vol]
  · rw [same, vol, Dev.recovering_vol, Table.get_set_self]

/-- After that, with no read outstanding, a C2 record of category 0x08 says so (R231). -/
theorem l3RecoveryDone_unrecovered (hm : s.dev.tc.movingFor = none) (after : 2 ≤ s.dev.vol.rereads.get base) (none : s.dev.flightsThat Flight.reads = []) :
    Does (.l3RecoveryDone base false []) s (fun d => d.vol.decoded = s.dev.vol.decoded ∧ ∃ r, d.er.log.getLast? = some r ∧ r.cls = .c2 ∧ r.category = 8) := by
  obtain ⟨r, noted, cls, cat⟩ := Dev.unrecovered_noted (d := s.dev.recovering base 0) ((Dev.flightsThat_congr (Dev.recovering_ctxs ..) _).trans none) base
    (s.dev.groupSpan base (groupOf s.dev.vol.decoded base)) (groupOf s.dev.vol.decoded base)
    (lostFolios base (s.dev.groupSpan base (groupOf s.dev.vol.decoded base)) (groupOf s.dev.vol.decoded base))
  have acts : exec (.l3RecoveryDone base false []) s = .next ⟨((s.dev.recovering base 0).note r).retarget, s.pending⟩ := by
    refine acts_of_whenDev (Eq.refl (execL3RecoveryDone base false [] s)) (by simp only [hw, turn, Bool.and_self]) ?_
    rw [← noted]
    simp only [List.isEmpty_iff, if_neg lost, unbuilt, Bool.and_false, Bool.false_and, Bool.false_eq_true, if_false, if_neg (Nat.not_lt.mpr after)]
    rfl
  have free : ((s.dev.recovering base 0).note r).tc.movingFor = .none := by rw [Dev.tc_kept.note, Dev.recovering_tc, hm]
  refine ⟨_, acts, ?_⟩
  beta_reduce
  rw [Dev.retarget_vol free, Dev.note_vol, Dev.recovering_vol, Dev.retarget_keeps Dev.er Dev.stamp_er (fun _ _ => rfl) (fun _ _ => rfl) free]
  obtain ⟨e, at', last⟩ := (s.dev.recovering base 0).note_last (r := r) (by rw [cls]; decide)
  exact ⟨rfl, _, last, cls, cat⟩

end

end Sys2Proof.Machine
end

section
/-! The loss of a cartridge (R213, R214): no record and no command that ends unmounts a volume that no FORMAT or LOAD has in hand, and then every write of
the volume leaves the index. -/

namespace Sys2Proof.Machine

/-! ### Which contexts run FORMAT or LOAD -/

/-- Whether a context that stands so runs FORMAT or LOAD. -/
def Run.opens : Run → Bool
  | .flight f => f.opens
  | _ => false

/-- Whether a context runs FORMAT or LOAD. -/
def Dev.opensAt (c : Nat) (d : Dev) : Bool := (d.ctxs.get c).run.opens

theorem Dev.opensAt_congr {d e : Dev} {c : Nat} (h : (e.ctxs.get c).run = (d.ctxs.get c).run) : e.opensAt c = d.opensAt c := by
  rw [Dev.opensAt, Dev.opensAt, h]

theorem Flight.afterErase_opens (s : Nat) (f : Flight) : (f.afterErase s).opens = f.opens := by cases f <;> rfl

theorem Dev.erasesDone_opensAt (d : Dev) (s c : Nat) : (d.erasesDone s).opensAt c = d.opensAt c := by
  unfold Dev.opensAt Dev.erasesDone Table.get
  induction d.ctxs.cells with
  | nil => rfl
  | cons x l ih =>
    simp only [List.map_cons, Table.look]
    by_cases hc : x.1 = c
    · rw [if_pos hc, if_pos hc]
      cases x.2.run with
      | flight f => exact f.afterErase_opens s
      | _ => rfl
    · rw [if_neg hc, if_neg hc]
      exact ih

theorem Dev.opensAt_kept (c : Nat) : Dev.KeptByDrops (Dev.opensAt c) where
  stamp d u a := Dev.opensAt_congr (by rw [Dev.stamp_ctxs])
  setW1f _ _ _ _ _ _ := rfl
  count _ _ _ _ _ := rfl
  onEr _ _ _ := rfl
  onPools _ _ := rfl
  onIdx _ _ _ := rfl
  onCm _ _ := rfl
  onMi _ _ := rfl
  onCs _ _ := rfl
  epoch _ _ := rfl
  notice _ _ _ _ := rfl
  erasesDone d s := d.erasesDone_opensAt s c
  onReads _ _ := rfl
  onCx _ _ := rfl
  onVol _ _ := rfl
  onSh _ _ := rfl
  onFm _ _ := rfl

theorem Dev.tc_byDrops : Dev.KeptByDrops Dev.tc where
  stamp := Dev.stamp_tc
  setW1f _ _ _ _ _ _ := rfl
  count _ _ _ _ _ := rfl
  onEr _ _ _ := rfl
  onPools _ _ := rfl
  onIdx _ _ _ := rfl
  onCm _ _ := rfl
  onMi _ _ := rfl
  onCs _ _ := rfl
  epoch _ _ := rfl
  notice _ _ _ _ := rfl
  erasesDone _ _ := rfl
  onReads _ _ := rfl
  onCx _ _ := rfl
  onVol _ _ := rfl
  onSh _ _ := rfl
  onFm _ _ := rfl

/-- With no context in the list of those that open a volume, none opens one. -/
theorem Dev.opensAt_none {d : Dev} (h : d.opening = []) (c : Nat) : d.opensAt c = false := by
  by_cases hc : c ∈ tableKeys d.ctxs
  · have not := List.filter_eq_nil_iff.mp h c hc
    unfold Dev.opensAt
    cases hr : (d.ctxs.get c).run with
    | flight f =>
      rw [hr] at not
      exact Bool.eq_false_iff.mpr not
    | _ => rfl
  · rw [Dev.opensAt, Table.get_of_notMem_keys hc]
    rfl

/-! ### A flight that is dropped keeps the volume -/

theorem Dev.endReads_loaded (d : Dev) (c : Nat) : (d.endReads c).vol.loaded = d.vol.loaded := by
  have decoded : ∀ e : Dev, e.dropDecoded.vol.loaded = e.vol.loaded := fun e => by
    unfold Dev.dropDecoded
    split
    · rfl
    · show (e.each e.vol.decoded _).vol.loaded = _
      rw [Dev.each_vol]
      intro e f
      split <;> simp
  unfold Dev.endReads
  extract_lets d0 d1 d2
  have freed : d2.vol = d1.vol := Dev.each_vol _ _ _ fun e k => by
    split
    · exact Dev.each_vol _ _ _ fun e x => Dev.release_vol ..
    · rfl
  rw [Dev.reap_vol, Dev.reviewHolds_vol, decoded, freed]
  rfl

theorem Dev.dropFifos_vol (d : Dev) (c : Nat) : (d.dropFifos c).vol = d.vol := by
  unfold Dev.dropFifos
  rw [Dev.onCm_vol]
  refine Dev.each_vol _ _ _ fun e kf => ?_
  (repeat' split) <;> simp

/-- A flight other than FORMAT or LOAD that is dropped leaves the volume loaded. -/
theorem Dev.dropFlight_loaded {d : Dev} {c : Nat} (h : d.opensAt c = false) : (d.dropFlight c).vol.loaded = d.vol.loaded := by
  unfold Dev.dropFlight
  extract_lets d1 d2
  have dropped : d2.vol = d.vol := by
    simp only [d2, d1]
    rw [Dev.onCs_vol, Dev.dropWaits_vol, Dev.dropBlocks_vol, Dev.dropFifos_vol]
    exact Dev.each_vol _ _ _ Dev.cancelWrite_vol
  split
  case h_1 => rw [Dev.endReads_loaded, apply_ite Dev.vol, Dev.unpin_vol, ite_self, dropped]
  case h_2 => rw [apply_ite Dev.vol, Dev.unpin_vol, ite_self, dropped]
  case h_3 hr => simp [Dev.opensAt, hr, Run.opens, Flight.opens] at h
  case h_4 hr => simp [Dev.opensAt, hr, Run.opens, Flight.opens] at h
  case h_5 => rw [Dev.endReads_loaded, dropped]

/-! ### A volume that stays mounted -/

/-- The volume, the contexts and the transport. -/
def Dev.rig (d : Dev) : Vol × Table Ctx Ctx.reset × Tc := (d.vol, d.ctxs, d.tc)

theorem Dev.rig_kept : Dev.KeptByBuffers Dev.rig where
  stamp d u a := by simp [Dev.rig]
  setW1f _ _ _ _ _ _ := rfl
  count _ _ _ _ _ := rfl
  onEr _ _ _ := rfl
  onPools _ _ := rfl
  onIdx _ _ _ := rfl
  onCm _ _ := rfl
  onMi _ _ := rfl
  onCs _ _ := rfl

/-- A volume is loaded, no context opens one, and no move is under way. -/
structure Dev.Mounted (v : Volume) (d : Dev) : Prop where
  loaded : d.vol.loaded = some v
  closed : ∀ c, d.opensAt c = false
  still : d.tc.movingFor = none

namespace Dev.Mounted

variable {v : Volume}

theorem of_rig {d e : Dev} (h : d.Mounted v) (same : e.rig = d.rig) : e.Mounted v := by
  obtain ⟨vol, ctxs, tc⟩ : e.vol = d.vol ∧ e.ctxs = d.ctxs ∧ e.tc = d.tc := by simpa [Dev.rig] using same
  exact ⟨vol ▸ h.loaded, fun c => (Dev.opensAt_congr (by rw [ctxs])).trans (h.closed c), tc ▸ h.still⟩

theorem each {α : Type} {d : Dev} (h : d.Mounted v) (l : List α) (f : Dev → α → Dev) (step : ∀ e x, Dev.Mounted v e → Dev.Mounted v (f e x)) :
    (d.each l f).Mounted v := by
  unfold Dev.each
  induction l generalizing d with
  | nil => exact h
  | cons x l ih => exact ih (step d x h)

/-- A change of contexts by which none begins to open a volume. -/
theorem of_runs {d e : Dev} (h : d.Mounted v) (vol : e.vol = d.vol) (tc : e.tc = d.tc) (runs : ∀ c, (e.ctxs.get c).run = (d.ctxs.get c).run ∨
    (e.ctxs.get c).run = .free) : e.Mounted v where
  loaded := vol ▸ h.loaded
  closed c := by
    rcases runs c with same | free
    · exact (Dev.opensAt_congr same).trans (h.closed c)
    · rw [Dev.opensAt, free]
      rfl
  still := tc ▸ h.still

theorem ite {p : Prop} [Decidable p] {a b : Dev} (ha : a.Mounted v) (hb : b.Mounted v) : (if p then a else b).Mounted v := by
  split
  · exact ha
  · exact hb

/-! ### Errors and records (R285 to R290) -/

theorem onEr_rig (d : Dev) (f : Errors → Errors) : (d.onEr f).rig = d.rig := rfl

theorem notice_rig (d : Dev) (k : NoticeKind) (r : W64) (s : Stamp) : (d.notice k r s).rig = d.rig := rfl

theorem latch_rig (d : Dev) (id : Nat) (k : Completion) : (d.latch id k).rig = d.rig := rfl

theorem onBoot_rig (d : Dev) (f : Boot → Boot) : (d.onBoot f).rig = d.rig := rfl

theorem onFu_rig (d : Dev) (f : Fuses → Fuses) : (d.onFu f).rig = d.rig := rfl

theorem onMemAt_rig (d : Dev) (n : Nat) (f : Table Byte 0 → Table Byte 0) : (d.onMemAt n f).rig = d.rig := d.onMemAt_keeps Dev.rig n f fun _ _ _ => rfl

theorem log_rig (d : Dev) (r : Report) (b : Bool) : (d.log r b).2.2.rig = d.rig := by simp [Dev.rig]

theorem armSnap_rig (d : Dev) (source t : Nat) : (d.armSnap source t).rig = d.rig := by simp [Dev.rig, Dev.armSnap]

theorem fence_rig (d : Dev) (u : UnitId) : (d.fence u).rig = d.rig := by
  unfold Dev.fence
  split <;> rfl

theorem burnEvent_rig (d : Dev) (cause detail : Nat) : (d.burnEvent cause detail).rig = d.rig := by
  unfold Dev.burnEvent
  split
  · exact Dev.rig_kept.note ..
  · rw [onFu_rig, Dev.rig_kept.stamp]

theorem loss_rig (d : Dev) (cause member seq : Nat) (ws : List Write) : (d.loss cause member seq ws).rig = d.rig := by
  unfold Dev.loss
  split
  · rfl
  · dsimp only
    split <;> rw [notice_rig, onEr_rig, Dev.rig_kept.stamp]

theorem undefine_rig (d : Dev) (m : Cmd) : (d.undefine m).rig = d.rig := by
  unfold Dev.undefine
  dsimp only
  split
  · exact onMemAt_rig ..
  · rfl

theorem failAll_rig (d : Dev) : d.failAll.rig = d.rig := Dev.each_keeps Dev.rig _ _ _ fun e m => by
  rw [undefine_rig, latch_rig, Dev.rig_kept.stamp]

theorem enterPend_rig (d : Dev) (r : Report) (rclass : EClass) : (d.enterPend r rclass).2.rig = d.rig := by
  simp only [Dev.enterPend, notice_rig, onEr_rig, apply_ite Dev.rig, fence_rig, armSnap_rig, log_rig, ite_self]

variable {d : Dev} (h : d.Mounted v)
include h

theorem stopContexts : d.stopContexts.Mounted v := h.each _ _ fun e c he => by
  split
  · exact he
  · refine he.of_runs rfl rfl fun j => ?_
    rw [Dev.onCtx_ctxs, Table.get_modify]
    split
    · exact .inr rfl
    · exact .inl rfl

/-- A device that fails keeps its volume; its contexts stop, and its transport is in SAFE. -/
theorem failDevice (seq : Nat) : (d.failDevice seq).Mounted v := by
  have safe : ({ d with tc := d.tc.toSafe } : Dev).Mounted v := ⟨h.loaded, h.closed, rfl⟩
  have off : (({ d with tc := d.tc.toSafe } : Dev).stopLinks).Mounted v := safe.of_rig (Dev.each_keeps Dev.rig _ _ _ fun _ _ => rfl)
  unfold Dev.failDevice
  extract_lets d1
  have failed : d1.Mounted v := off.of_rig (onEr_rig ..)
  exact ite ((failed.of_rig (loss_rig ..)).of_rig (failAll_rig _)).stopContexts (failed.of_rig (onBoot_rig ..))

theorem raiseC5 (r : Report) (cause detail : Nat) (mute : Bool) : (d.raiseC5 r cause detail mute).Mounted v := by
  unfold Dev.raiseC5
  extract_lets snap l d1 d2 d3 d4
  have logged : d1.Mounted v := h.of_rig (log_rig ..)
  have armed : d2.Mounted v := ite ((logged.of_rig (armSnap_rig ..)).of_rig (onEr_rig ..)) logged
  have failed : d3.Mounted v := (ite armed (armed.failDevice _)).of_rig (onEr_rig ..)
  have told : d4.Mounted v := ite (failed.of_rig (notice_rig ..)) failed
  exact told.of_rig (burnEvent_rig ..)

theorem raiseHigh (r : Report) : (d.raiseHigh r).Mounted v := by
  unfold Dev.raiseHigh
  split
  · exact h.of_rig (Dev.rig_kept.note ..)
  · split
    · extract_lets r2
      split
      · exact h.raiseC5 ..
      · exact (h.of_rig (onEr_rig ..)).of_rig (enterPend_rig ..)
    · split
      · extract_lets l d1 full
        have logged : l.2.2.Mounted v := h.of_rig (log_rig ..)
        have noted : d1.Mounted v := (ite (logged.of_rig (fence_rig ..)) logged).of_rig (notice_rig ..)
        split
        · exact noted.raiseC5 ..
        · exact noted.of_rig (enterPend_rig ..)
      · exact h.of_rig (enterPend_rig ..)

theorem raise (r : Report) : (d.raise r).Mounted v := by
  have noted : (d.note r).Mounted v := h.of_rig (Dev.rig_kept.note ..)
  unfold Dev.raise
  split
  · exact noted
  · exact noted
  · exact noted
  · exact h.raiseHigh r
  · exact h.raiseHigh r
  · exact h.raiseC5 ..

/-! ### Commands that end (R58, R97, R214) -/

omit h in
theorem zeroAt_rig (d : Dev) (no : Nat) (remote : Option Nat) (rs : List (Nat × Nat)) : (d.zeroAt no remote rs).rig = d.rig := by
  unfold Dev.zeroAt
  split
  · rfl
  · split
    · rfl
    · unfold Dev.memWriteAt
      extract_lets e sd
      split
      · exact onMemAt_rig ..
      · rw [Dev.each_keeps Dev.rig _ _ _ fun x r => Dev.rig_kept.send .., Dev.rig_kept.stamp]
        exact onMemAt_rig ..

omit h in
theorem zeroStored_rig (d : Dev) (m : Cmd) : (d.zeroStored m).rig = d.rig := by
  unfold Dev.zeroStored
  (repeat' split) <;> simp only [zeroAt_rig]

omit h in
theorem zeroRead_rig (d : Dev) (c : Nat) : (d.zeroRead c).rig = d.rig := by
  unfold Dev.zeroRead
  (repeat' split) <;> simp only [Dev.zeroData, Dev.zeroRanges, zeroAt_rig]

/-- A change of a context that leaves what it runs. -/
theorem onCtx (c : Nat) (f : Ctx → Ctx) (hf : ∀ x, (f x).run = x.run ∨ (f x).run = .free) : (d.onCtx c f).Mounted v := h.of_runs rfl rfl fun j => by
  rw [Dev.onCtx_ctxs, Table.get_modify]
  split
  case isTrue same => exact same ▸ hf _
  case isFalse => exact .inl rfl

theorem zeroOutput (c : Nat) : (d.zeroOutput c).Mounted v := (h.of_rig (zeroAt_rig ..)).onCtx _ _ fun _ => .inl rfl

/-- With no move under way, the tape comes to rest at most. -/
theorem restTape : d.restTape.Mounted v := by
  unfold Dev.restTape Dev.stopProfile Dev.startProfile
  have stamped : (d.stamp 0x10).2.Mounted v := h.of_rig (Dev.rig_kept.stamp ..)
  rw [Dev.supersede_idle h.still]
  exact ite h (ite h ⟨stamped.loaded, stamped.closed, rfl⟩)

theorem dropMotion (c : Nat) : (d.dropMotion c).Mounted v := by
  have other : d.tc.movingFor ≠ some c := by rw [h.still]; exact Option.some_ne_none c |>.symm
  unfold Dev.dropMotion
  extract_lets d1 d2
  have same : d1 = d := if_neg other
  have sought : d2.Mounted v := ite ⟨same ▸ h.loaded, same ▸ h.closed, same ▸ h.still⟩ (same ▸ h)
  exact ite sought.restTape sought

theorem dropFlight (c : Nat) : (d.dropFlight c).Mounted v where
  loaded := (Dev.dropFlight_loaded (h.closed c)).trans h.loaded
  closed j := ((Dev.opensAt_kept j).dropFlight ..).trans (h.closed j)
  still := (congrArg Tc.movingFor (Dev.tc_byDrops.dropFlight ..)).trans h.still

theorem releaseHandle (c k : Nat) : (d.releaseHandle c k).Mounted v := by
  unfold Dev.releaseHandle
  split
  · exact h
  · extract_lets d1
    have unset : d1.Mounted v := h.onCtx _ _ fun _ => .inl rfl
    split
    · exact unset
    · refine ite (unset.of_rig ?_) (unset.of_rig (Dev.rig_kept.release ..))
      rw [Dev.rig_kept.note, Dev.rig_kept.onPools, Dev.rig_kept.stamp]

theorem releaseHandles (c : Nat) : (d.releaseHandles c).Mounted v := (((h.releaseHandle c 0).releaseHandle c 1).releaseHandle c 2).releaseHandle c 3

omit h in
theorem onEngine_rig (d : Dev) (e : Nat) (f : Engine → Engine) : (d.onEngine e f).rig = d.rig := rfl

theorem freeCtx (c : Nat) : (d.freeCtx c).Mounted v := (h.onCtx c (fun _ => Ctx.reset) fun _ => .inr rfl).of_rig (onEngine_rig ..)

theorem cutCommand (m : Cmd) (status : W16) (s : Stamp) : (d.cutCommand m status s).Mounted v := by
  unfold Dev.cutCommand
  have stored := h.of_rig (zeroStored_rig d m)
  split
  · exact stored.of_rig (latch_rig ..)
  · extract_lets d1 d2
    have zeroed : d1.Mounted v := (stored.of_rig (zeroRead_rig ..)).zeroOutput _
    have latched : d2.Mounted v := zeroed.of_rig (latch_rig ..)
    exact (((latched.dropMotion _).dropFlight _).releaseHandles _).freeCtx _

theorem endWith (m : Cmd) (s : W16) : (d.endWith m s).Mounted v := by
  unfold Dev.endWith
  extract_lets sd e
  have stamped : sd.2.Mounted v := h.of_rig (Dev.rig_kept.stamp ..)
  have recorded : e.Mounted v := by
    refine stamped.of_rig ?_
    simp only [e]
    split
    · unfold Dev.failRecord
      split
      · rfl
      · split
        · rfl
        · exact Dev.rig_kept.note ..
    · exact Dev.rig_kept.note ..
  exact recorded.cutCommand ..

end Dev.Mounted

/-! ### The writes of a volume that goes -/

theorem Write.vh_of_core {u w : Write} (h : u.core = w.core) : u.vh = w.vh := (congrArg Write.vh h : u.core.vh = w.core.vh)

theorem Dev.dropWaits_cores (d : Dev) (p : BufUnit → List Nat → Bool) : (d.dropWaits p).cores = d.cores :=
  Dev.each_keeps Dev.cores _ _ _ fun e _ => e.giveBack_cores _

theorem Dev.dropBlocks_cores (d : Dev) (p : Block → Bool) : (d.dropBlocks p).cores = d.cores := by
  have freed : ∀ (e : Dev) (b : Block) (u : BufUnit), (e.freeBlock b u).cores = e.cores := fun e b u =>
    Dev.each_keeps Dev.cores _ _ _ fun e k => e.letGo_cores ..
  unfold Dev.dropBlocks
  extract_lets bs d1
  have same : d1.cores = d.cores := Dev.each_keeps Dev.cores _ _ _ fun e b => by
    rw [Dev.each_keeps Dev.cores _ _ _ Dev.giveBack_cores, Dev.freeFrame, Dev.each_keeps Dev.cores _ _ _ Dev.giveBack_cores, freed, freed, freed]
  exact (Dev.dropWaits_cores ..).trans same

theorem Dev.unmount_cores (d : Dev) : d.unmount.cores = d.cores := by
  unfold Dev.unmount
  extract_lets free d1 d2 blank
  have freed : ∀ (l : List (Option Nat)) (e : Dev), (l.foldl free e).cores = e.cores := fun l e => by
    induction l generalizing e with
    | nil => rfl
    | cons b l ih =>
      refine (ih _).trans ?_
      cases b with
      | none => rfl
      | some k => exact e.giveBack_cores k
  have emptied : d2.cores = d.cores := (freed _ d1).trans (freed _ d)
  clear_value d2
  exact (Dev.cores_of_idx rfl).trans emptied

/-- A write that is cancelled brings none into the index. -/
theorem Dev.cancelWrite_cores (d : Dev) (w : Write) : (d.cancelWrite w).cores ⊆ d.cores := by
  unfold Dev.cancelWrite
  extract_lets d1 d2 d3
  have before : d1.cores = d.cores := (Dev.dropBlocks_cores ..).trans (Dev.cores_kept.stamp ..)
  have settled : d2.cores ⊆ d1.cores := List.map_subset _ (List.filter_subset_self _)
  have freed : d3.cores = d2.cores := Dev.each_keeps Dev.cores _ _ _ fun e kb => by
    split
    · exact Dev.release_cores ..
    · exact Dev.giveBack_cores ..
  have unpinned : (if w.pinned then d3.unpin w.slot else d3).cores = d3.cores := by
    split
    · exact Dev.cores_of_idx (Dev.unpin_idx ..)
    · rfl
  have reaped : ∀ e : Dev, e.reap.cores ⊆ e.cores := fun e => by
    rw [← e.reaping_cores]
    exact List.map_subset _ (List.filter_subset_self _)
  intro u hu
  have := reaped _ hu
  rw [Dev.reviewHolds_cores, unpinned, freed] at this
  exact before ▸ settled this

/-- Of a volume whose writes are forgotten none is left (R214). -/
theorem Dev.forgetWrites_forgets (d : Dev) (vh : W32) : ∀ w ∈ (d.forgetWrites vh).cores, w.vh ≠ vh := by
  have from' : ∀ (l : List Write) (e : Dev), (e.each l fun e w => e.cancelWrite w).cores ⊆ e.cores := fun l e => by
    unfold Dev.each
    induction l generalizing e with
    | nil => exact List.Subset.refl _
    | cons w l ih => exact fun u hu => e.cancelWrite_cores w (ih (e.cancelWrite w) hu)
  intro u hu same
  obtain ⟨w, hw, rfl⟩ := List.mem_map.mp hu
  obtain ⟨x, hx, core⟩ := List.mem_map.mp (from' _ d hu)
  have listed : x ∈ d.idx.writes.filter fun w => w.vh == vh := List.mem_filter.mpr ⟨hx, by
    rw [Write.vh_of_core core]
    exact beq_iff_eq.mpr same⟩
  exact (Dev.Thinned.cancelled _ d).2 x listed w hw (Write.same_of_core core).1.symm

/-- A loaded volume that is closed leaves none of its writes. -/
theorem Dev.closeVolume_forgets {d : Dev} {v : Volume} (h : d.vol.loaded = some v) : ∀ w ∈ d.closeVolume.cores, w.vh ≠ v.handle := by
  unfold Dev.closeVolume
  rw [h, Dev.unmount_cores]
  exact d.forgetWrites_forgets v.handle

/-! ### CARTRIDGE_LOSS -/

theorem Dev.epochAdvance_idx (d : Dev) (after : Nat) : (d.epochAdvance after).idx = d.idx :=
  d.epochAdvance_keeps Dev.idx Dev.stamp_idx Dev.notice_idx Dev.onEr_idx Dev.send_idx after

/-- The end of CARTRIDGE_LOSS: the state is EMPTY and there is no cartridge. -/
def Dev.emptied (d : Dev) : Dev := (d.volStamp.2).onVol fun v => { v with st := .empty, cart := none, formatting := false }

theorem Dev.emptied_cores (d : Dev) : d.emptied.cores = d.cores := Dev.cores_of_idx (d.stamp_idx 3 0)

theorem Dev.emptied_loaded (d : Dev) : d.emptied.vol.loaded = d.vol.loaded := by rw [Dev.emptied, Dev.onVol_vol, Dev.volStamp, Dev.stamp_vol]

/-- What becomes of the volume of a cartridge that is lost. -/
def Dev.volumeLost (d : Dev) (v : Volume) : Dev :=
  let e : Dev := d.raise { cls := .c3, unit := ⟨0x10, 0xFFFF⟩, cat := 8 }
  let f : Dev := e.each (e.cmdsOfVolume v.handle) fun d m => d.endWith m St.noCartridge
  let sd := (f.loss 4 0 d.er.seq (f.undurable.filter fun w : Write => w.vh == v.handle)).volStamp
  sd.2.closeVolume.epochAdvance sd.1.after

/-- The volume is gone, with no write left of it. -/
theorem Dev.volumeLost_closes {d : Dev} {v : Volume} (h : d.Mounted v) :
    (d.volumeLost v).vol.loaded = none ∧ ∀ w ∈ (d.volumeLost v).cores, w.vh ≠ v.handle := by
  unfold Dev.volumeLost
  extract_lets e f sd
  have ended : f.Mounted v := (h.raise _).each _ _ fun x m hx => hx.endWith m _
  have recorded : sd.2.Mounted v := (ended.of_rig (Dev.Mounted.loss_rig ..)).of_rig (Dev.rig_kept.stamp ..)
  refine ⟨by rw [Dev.epochAdvance_vol, Dev.closeVolume_vol], ?_⟩
  rw [Dev.cores_of_idx (Dev.epochAdvance_idx ..)]
  exact Dev.closeVolume_forgets recorded.loaded

theorem cartridgeLoss_acts {s : State} (hw : s.dev.working = true) (there : s.dev.vol.st ≠ .empty) (absent : (s.dev.tc.din.get 0).active = false) :
    ∃ e : Dev, exec .cartridgeLoss s = .next ⟨e.emptied, s.pending⟩ ∧
      ∀ v, s.dev.vol.loaded = some v → s.dev.opening = [] → e = s.dev.volumeLost v := by
  refine ⟨_, acts_of_whenDev (Eq.refl (execCartridgeLoss s)) ?_ rfl, fun v hv none => ?_⟩
  · simp [hw, there, absent]
  · simp only [none, Dev.each, List.foldl_nil, hv]
    rfl

end Sys2Proof.Machine

open Sys2Proof Sys2Proof.Machine

/-- Settles O43: the four instructions, each by what it makes of the volume side; of a volume that is lost no write is left, since no command that ends
unmounts it before its writes are forgotten. -/
theorem tapeGivesFormesBack : Obligations.TapeGivesFormesBack := by
  intro s hw hm
  refine ⟨?decode, ?recovery, ?present, ?loss⟩
  case decode =>
    intro sheaf pos slot marks reads head holds
    refine ⟨fun small fails => ?_, fun o seen filler colophon => ⟨fun k d1 turn own new granted => ?_, fun turn new => ?_⟩⟩
    · exact formeDecode_fails hw reads head holds small fails
    · exact formeDecode_held hw reads head holds hm seen filler colophon turn own new granted
    · exact formeDecode_scanned hw reads head holds seen filler turn new
  case recovery =>
    intro base turn fs lost
    refine ⟨fun f k d1 ok others rebuilt granted => ?_, fun unbuilt => ⟨fun twice run => ?_, fun after none => ?_⟩⟩
    · exact l3RecoveryDone_rebuilds hw turn lost hm ok others rebuilt granted
    · exact l3RecoveryDone_rereads hw turn lost unbuilt hm twice run
    · exact l3RecoveryDone_unrecovered hw turn lost unbuilt hm after none
  case present =>
    intro empty presence door
    refine ⟨_, acts_of_whenDev (Eq.refl (execCartridgePresent s)) (by simp [hw, empty, presence, door]) rfl, ?_⟩
    simp only [Dev.onVol_vol, Dev.volStamp, Dev.stamp_vol]
    exact ⟨trivial, rfl, fun k hk => congrArg (fun x : Option Cart => some (x.getD _)) hk, trivial⟩
  case loss =>
    intro there absent
    obtain ⟨e, acts, lost⟩ := cartridgeLoss_acts hw there absent
    refine ⟨_, acts, rfl, rfl, rfl, fun v hv none => ?_⟩
    obtain ⟨loaded, forgotten⟩ := Dev.volumeLost_closes ⟨hv, Dev.opensAt_none none, hm⟩
    rw [← lost v hv none] at loaded forgotten
    exact ⟨e.emptied_loaded.trans loaded, fun w hw => forgotten w.core (e.emptied_cores ▸ List.mem_map_of_mem hw)⟩
end
